-- ==== Sys2Proof/Word.lean ====
section
/-! DEFINITION. The word types of the model: bytes, byte strings, words and ten-bit link symbols.
Widths are those the spec gives each register or field. -/

namespace Sys2Proof

abbrev Byte := BitVec 8
/-- A string of bytes, byte 0 first (R9: lowest offset first). -/
abbrev Bytes := List Byte
abbrev W16 := BitVec 16
abbrev W32 := BitVec 32
abbrev W64 := BitVec 64
/-- A ten-bit link symbol (R101). -/
abbrev Sym := BitVec 10
/-- A PAM4 level, 0 to 3 (R85, R102). -/
abbrev Level := BitVec 2
/-- A ten-bit code group of the 8b/10b code; bit 9 is code bit a, which leaves first, and bit 0 code bit j (R66). -/
abbrev CodeGroup := BitVec 10

end Sys2Proof
end

