-- ==== Sys2Proof/Types.lean ====
section
/-! DEFINITION. The plain data that commands carry: who sends a command, what arrives on a lane, what a
monitor reads. Each type names the rule of spec/ that lays its fields out. -/

namespace Sys2Proof

/-- PCI Express ports A and B (R322). -/
inductive HostPort where
  | a | b
  deriving DecidableEq, Repr, Inhabited

/-- Where a Jalivo command waits: command ring `r` (0 to 3) of a host port (R329), or the head of the in-band queue (R342). -/
inductive CmdSrc where
  | ring (hp : HostPort) (r : Nat)
  | inband
  deriving DecidableEq, Repr, Inhabited

/-- The retried streams of a link: the D-blocks and the control flits (04, Sequence, acknowledge and retry). -/
inductive Stream where
  | d | c
  deriving DecidableEq, Repr, Inhabited

/-- The core rails whose fall forces chip reset (R432). -/
inductive CoreRail where
  | vddCore | vddSram | vddHbm | vddqHbm
  deriving DecidableEq, Repr, Inhabited

/-- A primer set as it arrives on one lane: its 32 code groups, the comma's place first, before polarity correction and
decoding (R66, R67). -/
abbrev PrimerSet := List CodeGroup

/-- What a receive lane took in during a self-test window (R53, R56, R84): the PRBS31 generator state to which the receiver
had synchronised before the window (none: it was not in synchronisation throughout), the number of bits received, the
positions of those that differ from the generator's, and the levels' means and standard deviations. -/
structure LaneCheck where
  start : Option (BitVec 31)
  bits  : Nat
  flips : List Nat
  mu    : List Int
  sigma : List Nat
  deriving DecidableEq, Repr, Inhabited

/-- One lane's FoM window (R53): mean and standard deviation of the four levels, in one common unit. -/
structure FomStats where
  lane  : Nat
  mu    : List Int
  sigma : List Nat
  deriving DecidableEq, Repr, Inhabited

/-- A block of 65,536 symbols on one receive lane (R49), and where the adaptation of the equalisers aims (R47): the
peaking code, the six feed-forward taps and the feedback tap in 1/64 of the cursor, the three slicer thresholds. -/
structure BlockStats where
  levels : List Nat
  changes : Nat
  ctleAim : Nat
  ffeAim  : List Int
  dfeAim  : Int
  slicers : List Int
  deriving DecidableEq, Repr, Inhabited

/-- What a sweep measures of one ring (R48): the heater code of its one resonance (none: none was met), and the drop-monitor
photocurrent at each code from `heater_lo` on, in thousandths of the resonance depth; a drop ring has no such readings. -/
structure RingSweep where
  resonance : Option Nat
  light     : List Nat := []
  deriving DecidableEq, Repr, Inhabited

/-- The readings of a modulator ring's drop monitor over one stretch of time (R48): its length in ns, and the photocurrents in
thousandths of the resonance depth. -/
structure MonitorRun where
  span     : Nat
  readings : List Nat
  deriving DecidableEq, Repr, Inhabited

/-- The result of one engine's calibration (R48, R84, R314, R454): 64 modulator rings, 64 drop rings, the peaking code that
each of 64 receive lanes adapts from, eight `rx_path` delays in 0.1 ns, and the fixed TICK_IN delay in 0.1 ns. -/
structure EngineCal where
  tx     : List RingSweep
  rx     : List RingSweep
  ctle   : List Nat
  rxPath : List Nat
  tickIn : Nat
  deriving DecidableEq, Repr, Inhabited

/-- A sketch signing key pair of the configuration image (R294, R422): public halves. -/
structure KeyPair where
  index : Nat
  ed    : Bytes
  ml    : Bytes
  deriving DecidableEq, Repr, Inhabited

/-- One policy entry (R352): field identifier, index, value. -/
structure PolicyEntry where
  id    : W16
  index : W16
  value : W32
  deriving DecidableEq, Repr, Inhabited

/-- What a configuration image holds beside its header (R422). -/
structure ConfigContents where
  sketchKeys : List KeyPair
  policy     : List PolicyEntry
  subVendor  : W16
  subSystem  : W16
  rmKey      : Bytes
  rmAddress  : Bytes      -- IPv6 address of the rack manager and its UDP port (R384)
  rmPort     : W16
  netAddress : Bytes      -- the device's own IPv6 address, and the UDP port it listens on
  netPort    : W16
  budget     : Nat        -- W (R392)
  govFloor   : Nat        -- 1/64 (R393)
  ballastMax : Nat        -- W (R393)
  flowPulses : Nat        -- pulses per litre (R359)
  txSwing    : Nat        -- transmitter drive swing (02)
  pumpDuty   : Nat        -- first actuator outputs without a snapshot, 0.1% (R373)
  fanDuty    : Nat
  deriving DecidableEq, Repr, Inhabited

/-- What the device reads from host memory for one ring entry (R330, R331). -/
structure RingFetch where
  entry : Bytes           -- 64 bytes
  cmd   : Bytes           -- `cmd_len` bytes at `cmd_addr`
  error : Bool            -- a PCI Express error on either fetch
  deriving DecidableEq, Repr, Inhabited

/-- A write of the host to a register without a row of its own (R10, R325), or to the function's configuration space. -/
inductive RegWrite where
  | bar0 (offset : Nat) (value : W32)
  | bar0Wide (offset : Nat) (value : W64)
  | busMaster (on : Bool)
  | powerState (d3hot : Bool)
  | msixControl (enable : Bool) (maskAll : Bool)
  | config (offset : Nat) (value : W32)
  deriving DecidableEq, Repr, Inhabited

/-- How a PCI Express link has trained (R322, R458): the rate's code (6: 64 GT/s), the lanes it runs on, whether their order is
reversed, and the receive lanes whose polarity is inverted. -/
structure PcieLink where
  rate     : Nat := 6
  width    : Nat := 8
  reversed : Bool := false
  inverted : BitVec 8 := 0
  deriving DecidableEq, Repr, Inhabited

/-- How a function answers a read of its configuration space (R434): not at all, with Configuration Request Retry Status, or
with a word. -/
inductive ConfigAnswer where
  | none | retry
  | value (v : W32)
  deriving DecidableEq, Repr, Inhabited

/-- What drives an input pin (R455). -/
inductive PinLevel where
  | low | high | open
  deriving DecidableEq, Repr, Inhabited

/-- The strap pins, bit 0 first (R433). -/
structure StrapPins where
  slotId  : List PinLevel
  pos     : List PinLevel
  role    : List PinLevel
  bootSrc : List PinLevel
  deriving DecidableEq, Repr, Inhabited

/-- A scan of the data register that a test instruction selects (R459): the levels on the boundary cells as it captures, and
the bits shifted in on TDI. -/
structure JtagScan where
  levels : List Bool
  tdi    : List Bool
  deriving DecidableEq, Repr, Inhabited

/-- The parts of the flash (R457). -/
inductive FlashPart where
  | firmwareA | firmwareB | configA | configB | snapshots | retirement | floors | helper1 | helper2 | certificate | bootControl
  deriving DecidableEq, Repr, Inhabited

/-- A frame as it arrives on MGMT_RX (R384, R458): whether the pair is swapped, and the bytes as its bits read. -/
structure MgmtFrame where
  inverted : Bool
  bytes    : Bytes
  deriving DecidableEq, Repr, Inhabited

/-- Levels a TICK_IN pulse carries by its width (R312). -/
inductive Pulse where
  | zero | one | mark
  deriving DecidableEq, Repr, Inhabited

/-- How reading a stored word came out (R406, R407). -/
inductive Ecc where
  | clean | corrected | uncorrectable
  deriving DecidableEq, Repr, Inhabited

/-- What is wrong with a word as it is read (R406): the symbols in error, by position 0 to 34 and difference; whether the
error arose on the way rather than in the memory; whether the word is marked (R412). -/
structure WordError where
  errors : List (Nat × Byte) := []
  path   : Bool := false
  marked : Bool := false
  deriving DecidableEq, Repr, Inhabited

/-- What the Canvas found while it worked on a part (R407): nothing, an error in an accumulator or in a staging piece read, a
palette's parity error. -/
inductive CanvasEcc where
  | clean
  | accumulator (word : WordError)
  | piece (word : WordError)
  | parity (palette : Nat)
  deriving DecidableEq, Repr, Inhabited

/-- What reading the next cell of a packet shows; for a header cell also what its lookup record shows, which is read where the
cell does not decode (R198). -/
structure CellRead where
  cell   : WordError := {}
  record : WordError := {}
  deriving DecidableEq, Repr, Inhabited

/-- Where the patrol scrubber reads (R406, R407). -/
inductive ScrubSite where
  | bufferCell (packet : Nat) (cell : Nat)
  | canvasAcc (group opSeq chunk : Nat)
  | canvasPiece (group opSeq chunk pos ftag : Nat)
  | staging (tile : Nat)
  | retry (port : Nat) (stream : Stream) (seq : W16)
  | table (tbl : Nat) (index : Nat)
  | hbm (stack row word : Nat)
  | easel (stack row word : Nat) (copyBad : Bool)
  deriving DecidableEq, Repr, Inhabited

/-- How a tile read ended: words in error by the byte of the tile where they stand, or a PCI Express error (R280, R284,
R407). -/
inductive ReadResult where
  | ok
  | words (errors : List (Nat × WordError))
  | hostError
  deriving DecidableEq, Repr, Inhabited

/-- The resource of a targeted self-test (R410, R417). -/
inductive TestRes where
  | lane (port lane : Nat)
  | sramRow (bank row : Nat)
  | hbmRow (stack row : Nat)
  | palette (n : Nat)
  deriving DecidableEq, Repr, Inhabited

/-- Instructions of the test access port (R459). -/
inductive JtagInstr where
  | bypass | idcode | samplePreload | extest | clamp | highz | extestPulse | extestTrain
  deriving DecidableEq, Repr, Inhabited

/-- A slot of the Canvas is named by its group, op sequence and chunk (R217). -/
structure SlotKey where
  group : Nat
  opSeq : Nat
  chunk : Nat
  deriving DecidableEq, Repr, Inhabited

/-- A flow of the last-hop hold (R181). -/
structure Flow where
  src  : W16
  dst  : W16
  ftag : W16
  deriving DecidableEq, Repr, Inhabited

/-- One cooling alarm (R364). -/
inductive Alarm where
  | pump (n : Nat) | flow | coolant | fan (n : Nat)
  deriving DecidableEq, Repr, Inhabited

/-- What a flow input shows: the frequency of its pulses in mHz, and whether the reading lies inside its physical
range (R359, R364, R375). -/
structure Reading where
  value     : Nat
  plausible : Bool
  deriving DecidableEq, Repr, Inhabited

/-- The pulses that a tach input has shown: how long it was watched, and the width of each pulse, in ns (R359, R456). -/
structure PulseTrain where
  span   : Nat
  widths : List Nat
  deriving DecidableEq, Repr, Inhabited

/-- What a tach input shows, and whether the reading lies inside its physical range (R364, R375). -/
structure TachReading where
  pulses    : PulseTrain
  plausible : Bool
  deriving DecidableEq, Repr, Inhabited

/-- What a temperature sensor of I3C bus 2 reads, in 0.1 °C, and whether it passes its range and agreement checks (R359,
R362, R375). -/
structure TempReading where
  value     : Int
  plausible : Bool
  deriving DecidableEq, Repr, Inhabited

/-- At which of its bounds a loop stands (R1, R337). -/
structure Pin where
  lo : Bool := false
  hi : Bool := false
  deriving DecidableEq, Repr, Inhabited

/-- What the sections of a state image hold (R368): the actuators' duties, the loops' state, the alarms that stand with the
time since their condition was last seen in ns, the I3C addresses by bus, the settings of the laser sources and conversion
modules, tray policy and the last rack policy. The header and the tray policy section carry TWIN_CONFIG. -/
structure TrayContents where
  pumpDuty   : Nat
  fanDuty    : Nat
  pumpDrive  : List Nat
  pumpPinned : Pin
  fanPinned  : Pin
  flowLow    : Nat
  alarms     : List (Nat × Nat)
  addresses  : List (Nat × List (BitVec 7))
  lasers     : List Nat
  modules    : List Nat
  policy     : List PolicyEntry
  copyMode   : BitVec 8
  cycleTicks : W32
  rackPolicy : Bytes
  deriving DecidableEq, Repr, Inhabited

end Sys2Proof
end

