-- ==== Sys2Proof/Syntax.lean ====
section
/-! DEFINITION. The commands of the block: one constructor per row of spec/opcode_table.json, in the table's order.
The table gives its rows no operands; a constructor's operands are what the rule it names takes from outside
(assumption log 1). -/

namespace Sys2Proof

inductive Instr where
  /-- POWER_ON (R440): VDD_AUX is applied after its removal; THERM_TRIP_N is released and the device enters chip reset. -/
  | powerOn
  /-- POWER_LOSS (R440): The device loses power; line, outputs, buffered packets and all state not kept in flash are lost. -/
  | powerLoss
  /-- RESET_N_ASSERT (R432): RESET_N falls for at least 1 µs and the device enters chip reset; a shorter pulse is ignored. -/
  | resetNAssert (lowNs : Nat)
  /-- CORE_RAIL_FALL (R432): VDD_CORE, VDD_SRAM, VDD_HBM or VDDQ_HBM falls below 90% of nominal and the device enters chip reset within 5 µs. -/
  | coreRailFall (rail : CoreRail)
  /-- REFCLK_LOSS (R452): REFCLK stops or leaves ±200 ppm for 1 µs and the device enters chip reset within 10 µs. -/
  | refclkLoss
  /-- REFCLK_LOCK (R432): The reference clock locks again, allowing the device to leave a chip reset held for a missing REFCLK. -/
  | refclkLock
  /-- CHIP_RESET_RELEASE (R434): Chip reset ends and the start-up stages begin at t0. -/
  | chipResetRelease
  /-- STRAP_SAMPLE (R433): 10 µs after leaving chip reset the device samples SLOT_ID, POS, ROLE and BOOT_SRC into YG_STRAPS. -/
  | strapSample (pins : StrapPins)
  /-- ROOT_SECRET_COMPLETE (R426): The fuzzy extractor completes: the root secret and keys are derived and YG_CHIP_TAG becomes valid, or both helper copies fail and the device stays fatal with ports dark. -/
  | rootSecretComplete (pattern : Bytes) (flashReads : Bool)
  /-- PCIE_STAGE_COMPLETE (R434): Both PCI Express ports answer configuration requests and BAR0 identity, status and boot registers become readable. -/
  | pcieStageComplete (linkA linkB : PcieLink)
  /-- HBM_TRAINING_COMPLETE (R434): All four HBM stacks are trained and the flight-recorder ring resumes after its newest valid record. -/
  | hbmTrainingComplete
  /-- BOOT_FETCH_START (R435): A write of 1 to BOOT_CTRL[0] on the boot port starts the fetch of the firmware image from host memory, or refuses a bad BOOT_LEN. -/
  | bootFetchStart (hp : HostPort)
  /-- FIRMWARE_VERIFIED (R424): The boot ROM finishes judging the firmware image, accepts it or tries the other bank, and sets BOOT_STATUS. -/
  | firmwareVerified (fetched : Bytes)
  /-- BOOT_ATTEMPT_TIMEOUT (R430): Newly activated firmware fails to reach easel_ready within 5 s; after three consecutive boots the ROM boots the other bank and raises FW_UPDATE step 3. -/
  | bootAttemptTimeout
  /-- CONFIG_VERIFIED (R424): The firmware finishes judging the configuration image from flash and accepts it, or runs with config_version 0 and no sketch keys. -/
  | configVerified
  /-- EASEL_READY (R436): The retirement list is applied, a boot record is written, easel_ready is set and ownership moves to Claiming or Passive. -/
  | easelReady (palettePass : BitVec 32)
  /-- ENGINE_CALIBRATION_COMPLETE (R48): An engine finishes its heater sweeps, places each ring at its lock point, measures rx_path and its ports enter Listen. -/
  | engineCalibrationComplete (engine : Nat) (cal : EngineCal)
  /-- PERST_ASSERT (R453): A port's PERST_N is asserted, resetting that port's function only; the port does not train while it is held. -/
  | perstAssert (hp : HostPort)
  /-- FUNCTION_LEVEL_RESET (R323): A Function Level Reset, Hot Reset or link down resets one port's ring, event, interrupt and MSI-X state only. -/
  | functionLevelReset (hp : HostPort)
  /-- BUS_MASTER_ENABLE_SET (R323): Bus Master Enable is set on a port and waiting ring fetches and completions proceed. -/
  | busMasterEnableSet (hp : HostPort)
  /-- THERM_TRIP (R397): A sensor reaches 115 °C; the comparator asserts THERM_TRIP_N within 10 µs, the device enters P3 and stops its modulators. -/
  | thermTrip (sensor : Nat) (tj : Int)
  /-- EASEL_WATCHDOG_EXPIRE (R409): The Easel watchdog expires; the firmware restarts with fatal set, or the Easel stops after a second restart within 60 s. -/
  | easelWatchdogExpire (copyBad : Bool)
  /-- EASEL_MEMORY_UNCORRECTABLE (R409): An uncorrectable error in Easel memory starts an Easel firmware restart. -/
  | easelMemoryUncorrectable (stack row word : Nat) (error : WordError) (copyBad : Bool)
  /-- EASEL_RESTART_COMPLETE (R409): The firmware restart completes; fatal is cleared, easel_ready set and EASEL_RESTART raised. -/
  | easelRestartComplete
  /-- IDENTIFY (R346): Returns the 64-byte identity record. -/
  | identify (src : CmdSrc)
  /-- GET_STATUS (R346): Returns the 64-byte status record. -/
  | getStatus (src : CmdSrc)
  /-- SKETCH_LOAD_BEGIN (R299): Names image_len and sketch_id and empties the load area. -/
  | sketchLoadBegin (src : CmdSrc)
  /-- SKETCH_LOAD_DATA (R299): Writes image bytes at an offset of the load area. -/
  | sketchLoadData (src : CmdSrc)
  /-- SKETCH_COMMIT (R300): Starts the ordered judgement of the loaded image for activation at a start tick or now. -/
  | sketchCommit (src : CmdSrc)
  /-- COMMIT_CHECKS_COMPLETE (R300): The commit checks finish; the commit is refused with its result and shortfall records, or armed, or activated at once with now. -/
  | commitChecksComplete
  /-- SKETCH_ACTIVATE (R304): At the start tick an armed commit replaces the carried sections, applies its side effects and answers the commit. -/
  | sketchActivate
  /-- PLAN_SWITCH (R309): Judges and records a switch to a named plan, or to none, at a start tick. -/
  | planSwitch (src : CmdSrc)
  /-- PLAN_SWITCH_TAKE_EFFECT (R309): At the switch's start tick the named plan starts at entry 0, or all plans stop, and PLAN_SWITCHED is raised. -/
  | planSwitchTakeEffect
  /-- PORT_ENABLE (R96): Admits each named port that is in Running with verdict pass, adds grants and returns the mask of ports not admitted. -/
  | portEnable (src : CmdSrc)
  /-- PORT_DISABLE (R95): Puts each named port in Disabled within 1 µs and flushes its egress queues. -/
  | portDisable (src : CmdSrc)
  /-- PORT_WASH (R349): Starts draining each named port: masks it, withholds ingress credits and keeps sending its queues. -/
  | portWash (src : CmdSrc)
  /-- WASH_PORT_DRAINED (R349): A washed port's queues are empty and all sent items acknowledged, so it enters Disabled; the command completes when all named ports are Disabled. -/
  | washPortDrained (port : Nat)
  /-- WASH_TIMEOUT (R349): wash_timeout expires with a port undrained; it is disabled, flushed and counted, and the command completes with TIMEOUT. -/
  | washTimeout (src : CmdSrc)
  /-- PORT_RETRAIN (R94): Starts a cold retrain: stops new blocks and waits for acknowledgement, or starts an attempt at once from Disabled, Absent or Miswired. -/
  | portRetrain (src : CmdSrc)
  /-- PORT_RETRAIN_QUIESCE_END (R94): All sent blocks are acknowledged or 10 µs pass; the rest is discarded, seq_held cleared and the port enters Listen. -/
  | portRetrainQuiesceEnd (port : Nat)
  /-- PORT_INFO (R346): Returns a port's status record and its eight lane records. -/
  | portInfo (src : CmdSrc)
  /-- GROUP_DEFINE (R209): Writes a group header, its member list and its descriptors after checking them. -/
  | groupDefine (src : CmdSrc)
  /-- GROUP_DELETE (R210): Deletes a group entry, refused with BUSY while any of its slots is not Free. -/
  | groupDelete (src : CmdSrc)
  /-- PORTSET_DEFINE (R350): Writes a 96-bit port set, refused while a stream item in force names it. -/
  | portsetDefine (src : CmdSrc)
  /-- ROUTE_WRITE (R166): Writes a run of route entries after checking them. -/
  | routeWrite (src : CmdSrc)
  /-- WRITE_SEGMENT (R275): STREAM_DEFINE action 1 writes a segment entry; a local segment enters Filling. -/
  | writeSegment (src : CmdSrc)
  /-- WRITE_STREAM (R275): STREAM_DEFINE action 2 writes a stream entry with cursor 0. -/
  | writeStream (src : CmdSrc)
  /-- SEAL_SEGMENT (R272): STREAM_DEFINE action 3 starts the CRC read of a local segment. -/
  | sealSegment (src : CmdSrc)
  /-- SEAL_CHECK_COMPLETE (R272): The seal's CRC read completes; the segment becomes Ready with OK, or stays Filling with BAD_PARAM. -/
  | sealCheckComplete (segment : Nat) (reads : List (Nat × WordError))
  /-- REOPEN_SEGMENT (R272): STREAM_DEFINE action 4 returns a Ready local segment to Filling. -/
  | reopenSegment (src : CmdSrc)
  /-- REWIND_STREAM (R275): STREAM_DEFINE action 5 sets a stream's cursor from tick c + 16, or at once when no tick runs. -/
  | rewindStream (src : CmdSrc)
  /-- WRITE_LIST (R351): STREAM_DEFINE action 6 writes segment-list entries. -/
  | writeList (src : CmdSrc)
  /-- SYNC_ARM (R240): Writes and arms a synchronisation object, which may fire at once. -/
  | syncArm (src : CmdSrc)
  /-- POLICY_SET (R352): Checks all policy entries together and applies them, or changes nothing and names the first failing entry. -/
  | policySet (src : CmdSrc)
  /-- POWER_MODE_SET (R353): Sets the commanded mode and reports the mode in force. -/
  | powerModeSet (src : CmdSrc)
  /-- SLOPE_LIMIT_SET (R394): Sets the slope limit in force. -/
  | slopeLimitSet (src : CmdSrc)
  /-- FLAGS_READ_CLEAR (R264): Returns the 32 palette flag records and clears the named flags. -/
  | flagsReadClear (src : CmdSrc)
  /-- COUNTERS_READ (R354): Returns a range of a counter block or log. -/
  | countersRead (src : CmdSrc)
  /-- TWIN_CONFIG (R381): Sets copy_mode and cycle_ticks from the next control cycle. -/
  | twinConfig (src : CmdSrc)
  /-- CONTROL_HANDOVER (R378): Sends one more epoch to a synchronised standby and waits for its acknowledgement before releasing. -/
  | controlHandover (src : CmdSrc)
  /-- HANDOVER_ACK_TIMEOUT (R378): No STATE_ACK arrives within 2 ms; the handover completes with TIMEOUT and control is kept. -/
  | handoverAckTimeout
  /-- FW_UPDATE_BEGIN (R429): Names image_len and empties the upload area. -/
  | fwUpdateBegin (src : CmdSrc)
  /-- FW_UPDATE_DATA (R429): Writes image bytes into the upload area. -/
  | fwUpdateData (src : CmdSrc)
  /-- FW_UPDATE_COMMIT (R429): Judges the uploaded image and starts writing it to the inactive flash bank. -/
  | fwUpdateCommit (src : CmdSrc)
  /-- FW_UPDATE_WRITE_COMPLETE (R429): The flash write finishes and the update command completes, with the activate flag recorded. -/
  | fwUpdateWriteComplete
  /-- ATTEST (R428): Returns a signed attestation report over the nonce. -/
  | attest (src : CmdSrc)
  /-- SELFTEST_RUN (R417): Queues the test of one named lane, row or palette. -/
  | selftestRun (src : CmdSrc)
  /-- CHIP_RESET_CHIP (R441): CHIP_RESET kind 1 completes and schedules a chip reset 1 ms later. -/
  | chipResetChip (src : CmdSrc)
  /-- CHIP_RESET_EASEL (R441): CHIP_RESET kind 2 completes and schedules an Easel restart 1 ms later. -/
  | chipResetEasel (src : CmdSrc)
  /-- CHIP_RESET_DELAY_END (R441): 1 ms after the command's completion the commanded chip reset or Easel restart begins. -/
  | chipResetDelayEnd
  /-- DOORBELL_WRITE (R331): A write to cr_tail announces new command ring entries, or halts the ring for an out-of-range value. -/
  | doorbellWrite (hp : HostPort) (r : Nat) (value : W32)
  /-- RING_ENTRY_FETCH (R331): The device fetches the next ring entry and its command once the previous completion is posted. -/
  | ringEntryFetch (hp : HostPort) (r : Nat) (fetch : RingFetch)
  /-- COMPLETION_POST (R333): Results and the completion entry are written once the completion ring has room, and cq_tail advances. -/
  | completionPost (hp : HostPort) (r : Nat) (error : Bool)
  /-- CQ_HEAD_WRITE (R333): The host advances cq_head, freeing completion entries for waiting commands. -/
  | cqHeadWrite (hp : HostPort) (r : Nat) (value : W32)
  /-- RING_ENABLE_WRITE (R329): A write to a command ring's enable bit enables it, or sets ring_error when its size or base is invalid. -/
  | ringEnableWrite (hp : HostPort) (r : Nat) (value : W32)
  /-- RING_RESET (R329): A write of 1 to a ring's reset bit clears its indices and halted and discards the completion of an executing command. -/
  | ringReset (hp : HostPort) (r : Nat)
  /-- EVENT_RING_ENABLE_WRITE (R334): A write to er_ctrl enable enables the event ring, or sets ring_error when its size or base is invalid. -/
  | eventRingEnableWrite (hp : HostPort) (value : W32)
  /-- EVENT_RING_RESET (R334): A write of 1 to er_ctrl reset clears the event ring's indices. -/
  | eventRingReset (hp : HostPort)
  /-- ER_HEAD_WRITE (R336): The host advances er_head, freeing event entries. -/
  | erHeadWrite (hp : HostPort) (value : W32)
  /-- INT_CAUSE_CLEAR (R328): A W1C write clears interrupt cause bits. -/
  | intCauseClear (hp : HostPort) (value : W32) (raised : BitVec 10)
  /-- INT_MASK_WRITE (R328): A mask write takes effect; clearing a mask bit whose cause is set sends its message at once. -/
  | intMaskWrite (hp : HostPort) (value : W32)
  /-- INTERRUPT_COALESCE_EXPIRE (R328): co_time passes since the first held completion or event and the held MSI-X message is sent. -/
  | interruptCoalesceExpire (hp : HostPort)
  /-- BAR0_BAD_ACCESS (R324): A BAR0 access that is neither aligned 32-bit nor aligned 64-bit completes with no effect and counts in ring_errors. -/
  | bar0BadAccess (hp : HostPort) (offset : Nat) (bytes : Nat) (write : Bool)
  /-- REGISTER_WRITE (R10): A write to a register without behaviour of its own sets its RW fields. -/
  | registerWrite (hp : HostPort) (write : RegWrite)
  /-- LASER_MONITOR_SAMPLE (R44): Every 10 µs the monitor samples both wavelengths of each laser input and judges low, loss and over-power. -/
  | laserMonitorSample (input : Nat) (lambdaA lambdaB : Int)
  /-- ATTENUATOR_RELEASE (R45): Both wavelengths stay at or below +19.0 dBm for 1 ms and the attenuator returns to 0 dB. -/
  | attenuatorRelease (input : Nat)
  /-- MODULATOR_LOCK_UPDATE (R47): Every 1 µs each modulator ring heater moves by at most 8 codes within its bounds. -/
  | modulatorLockUpdate (port lane : Nat) (aim : Int)
  /-- DROP_LOCK_UPDATE (R47): Every 1 µs each drop ring heater dithers toward the peak of received light, on rich blocks only. -/
  | dropLockUpdate (port lane : Nat) (aim : Int)
  /-- RING_LOCK_LOSS (R48): The modulator monitor stays outside ±0.15 of mod_bias for 4 µs; the port leaves full rate and starts a warm retrain. -/
  | ringLockLoss (port lane : Nat) (run : MonitorRun)
  /-- TRANSITION_BLOCK_END (R49): A block of 65,536 symbols ends and is judged rich or not; equalisers and slicers update on rich blocks. -/
  | transitionBlockEnd (port lane : Nat) (block : BlockStats)
  /-- LOSS_OF_SIGNAL_ASSERT (R51): Received power falls below −20.0 dBm; loss of signal asserts and, on a lane in use at full rate, the port retrains with cause SIGNAL. -/
  | lossOfSignalAssert (port lane : Nat)
  /-- LOSS_OF_SIGNAL_DEASSERT (R51): Power stays above −17.0 dBm for 10 µs and loss of signal deasserts. -/
  | lossOfSignalDeassert (port lane : Nat)
  /-- LOSS_OF_LOCK_ASSERT (R51): No valid transitions for 1 µs or clock beyond ±200 ppm asserts loss of lock, ending full rate on a lane in use. -/
  | lossOfLockAssert (port lane : Nat)
  /-- LOSS_OF_LOCK_DEASSERT (R51): Phase lock holds for 10 µs and loss of lock deasserts; on a dark Absent port this starts a probe at once. -/
  | lossOfLockDeassert (port lane : Nat)
  /-- FOM_WINDOW_END (R54): A window of 2^20 symbols ends; lane and port FoM are computed and compared with the thresholds. -/
  | fomWindowEnd (port : Nat) (stats : List FomStats)
  /-- PAIR_CROSSED (R74): Transmit light is seen with both receive lanes dark for 10 µs; the lane event is raised, or the port enters Miswired with cause CROSSED. -/
  | pairCrossed (port : Nat) (pairs : BitVec 4)
  /-- MISWIRED_PROBE_START (R74): probe_period after entering crossed Miswired, or after the previous probe, a 10 ms IDENT probe starts. -/
  | miswiredProbeStart (port : Nat)
  /-- PROBE_START (R89): The Absent wait expires and a 10 ms probe sending IDENT on all lanes starts as an attempt. -/
  | probeStart (port : Nat)
  /-- PROBE_EXPIRE (R98): A probe ends without alignment; the transmitter goes dark and the wait doubles up to probe_period. -/
  | probeExpire (port : Nat)
  /-- ATTEMPT_EXPIRE (R87): An attempt runs 10 ms without success, counts a failure and restarts, or enters Absent after the third. -/
  | attemptExpire (port : Nat)
  /-- IDENT_SET_RECEIVED (R73): An IDENT primer set arrives whole and drives alignment, polarity, lane map, wiring, verdict and ready. -/
  | identSetReceived (port lane : Nat) (set : PrimerSet)
  /-- TIME_SET_RECEIVED (R78): A TIME set gives one round-trip sample; link_delay is the mean of 64 samples. -/
  | timeSetReceived (port lane : Nat) (set : PrimerSet) (arrival : Nat)
  /-- STEP_SET_RECEIVED (R83): The follower answers each STEP set with a STEP of the same count. -/
  | stepSetReceived (port lane : Nat) (set : PrimerSet)
  /-- RATE_STEP (R83): At the end of the set in which it sent count 0 an end switches its transmitter to full rate and enters Step. -/
  | rateStep (port : Nat)
  /-- ACQUISITION_END (R84): 100 µs of acquisition end and the self-test window begins. -/
  | acquisitionEnd (port : Nat)
  /-- SELFTEST_WINDOW_END (R84): The self-test window ends and report frames begin. -/
  | selftestWindowEnd (port : Nat)
  /-- REPORT_FRAME_RECEIVED (R85): A report frame arrives; lanes are judged under R56 on the preceding blocks and final may be set. -/
  | reportFrameReceived (port lane : Nat) (frame : List Level) (check : List LaneCheck)
  /-- REPORT_PHASE_END (R86): Final frames were sent and received and 0.64 µs have passed; the usable set and width are chosen and the slot stream starts. -/
  | reportPhaseEnd (port : Nat)
  /-- REPORT_TIMEOUT (R86): No final frame arrives within 5 µs; the attempt fails with NO_REPORT. -/
  | reportTimeout (port : Nat)
  /-- SLOT_STREAM_FRAMED (R86): The far slot stream is framed on every lane of the set and the port enters Running. -/
  | slotStreamFramed (port : Nat) (skews : List Int)
  /-- RESUME_TIMEOUT (R86): No framed slot stream within 2 µs of the report phase end; the attempt fails with NO_RESUME. -/
  | resumeTimeout (port : Nat)
  /-- ANNOUNCE_RECEIVED (R92): An ANNOUNCE frame with a valid CRC makes a running port enter Retest as responder. -/
  | announceReceived (port lane : Nat) (frame : List Level)
  /-- RETEST_SELFTEST_START (R92): The ANNOUNCE countdown ends and the retest self-test window begins. -/
  | retestSelftestStart (port : Nat)
  /-- SLOT_BOUNDARY (R116): At each slot boundary the transmitter chooses and sends a C-run or D-block. -/
  | slotBoundary (port : Nat) (reads : List (Nat × CellRead)) (replay : WordError)
  /-- SLOT_RECEIVED (R103): A received slot has its type decided from its type symbols. -/
  | slotReceived (port : Nat) (lanes : List (List Level)) (arrival : Nat)
  /-- ALIGNMENT_MARKER_RECEIVED (R105): A lane's alignment marker is checked; two consecutive marker errors start a warm retrain. -/
  | alignmentMarkerReceived (port lane : Nat) (levels : List Level) (offset : Int)
  /-- ACK_TIMEOUT (R120): The oldest item waits ack_timeout; replay from una, and a third timeout starts a warm retrain. -/
  | ackTimeout (port : Nat) (stream : Stream)
  /-- RETRY_REQUEST_REPEAT (R119): An outstanding retry request is repeated every 1 µs. -/
  | retryRequestRepeat (port : Nat) (stream : Stream)
  /-- CREDIT_RELEASE (R189): A lossless cell's credit is released once stored, looked up, backlog low, below threshold and free cells exist. -/
  | creditRelease (packet : Nat)
  /-- GRACE_EXPIRE (R131): The grace period expires; the port's queues are flushed, multicast bits cleared and any retrain made cold. -/
  | graceExpire (port : Nat)
  /-- LOOKUP (R172): A backlogged packet is looked up and placed in the queue of its chosen egress port and channel. -/
  | lookup (port : Nat) (cell copy : WordError)
  /-- ESCAPE_TIMER_EXPIRE (R176): A VC 1 or VC 2 packet waits escape_timer and is moved to the escape channel of esc_port. -/
  | escapeTimerExpire (packet : Nat)
  /-- QUEUE_DEPTH_SAMPLE (R173): Every 1 µs the lossless queue depth of each port is sampled for the route weight loop. -/
  | queueDepthSample
  /-- ROUTE_WEIGHT_UPDATE (R173): Every 10 µs each eligible Up or Down port's weight moves by one within bounds. -/
  | routeWeightUpdate
  /-- HOLD_TIMEOUT (R183): A held last PUT is released with ord_fault and its missing bytes become owed. -/
  | holdTimeout (flow : Flow)
  /-- HOLD_OWED_END (R184): The owed period ends and the holding entry is freed. -/
  | holdOwedEnd (flow : Flow)
  /-- HOLD_ENTRY_IDLE (R184): An entry without a packet sees no counted PUT for 4 × hold_timeout and is freed. -/
  | holdEntryIdle (flow : Flow)
  /-- STALL_VOID_EXPIRE (R199): A departing packet's next cell misses stall_void and the packet is ended VOID. -/
  | stallVoidExpire (port vc : Nat)
  /-- ORIGINATED_PACKET_WRITE (R191): A window function writes a packet into the buffer once free cells and thresholds allow. -/
  | originatedPacketWrite (index : Nat)
  /-- TERMINATED_DISCARD (R147): A terminated packet that is poisoned, fails its trailer, is NOP, reserved or a stray answer is discarded and counted. -/
  | terminatedDiscard (packet : Nat)
  /-- SEGMENT_PUT (R271): A PUT to window 0x02 writes bytes into a Filling local segment or is refused. -/
  | segmentPut (packet : Nat)
  /-- SEGMENT_PUT_VISIBLE (R271): The segment PUT's bytes become readable and its PUT_ACK is sent. -/
  | segmentPutVisible (packet : Nat)
  /-- STREAM_SUBSCRIBE (R276): A subscribe is judged and a landing window bound before the PUT_ACK. -/
  | streamSubscribe (packet : Nat)
  /-- STREAM_CANCEL (R277): A subscribe with the cancel bit removes the subscription and is answered OK. -/
  | streamCancel (packet : Nat)
  /-- SYNC_ARRIVE (R240): An arrival adds to an object's counter and may fire it. -/
  | syncArrive (packet : Nat)
  /-- TELEMETRY_GET (R356): A GET to window 0x05 returns telemetry words. -/
  | telemetryGet (packet : Nat)
  /-- CMD (R341): An in-band CMD to window 0x04 is queued and judged as a command, answered from the reply cache, or refused BUSY. -/
  | cmd (packet : Nat)
  /-- REDUCE_CONTRIB (R217): A reduction contribution is judged, opens or reaches its slot and is folded, parked or discarded. -/
  | reduceContrib (packet : Nat) (ecc : CanvasEcc)
  /-- COMBINE_CONTRIB (R217): A weighted-combine contribution is judged and folded through the multiplier path. -/
  | combineContrib (packet : Nat) (ecc : CanvasEcc)
  /-- REDUCE_RESULT_RECEIVED (R217): A result from the parent is relayed, or a child's failure status makes its slot fail. -/
  | reduceResultReceived (packet : Nat)
  /-- DEFERRED_PART_ACCEPT (R222): A part deferred for parking room or power mode is accepted. -/
  | deferredPartAccept (packet : Nat) (ecc : CanvasEcc)
  /-- SCHED_SLOT_OPEN_RESUME (R234): A block frees and a waiting scheduled opening opens its slot. -/
  | schedSlotOpenResume (packet : Nat) (ecc : CanvasEcc)
  /-- OPENING_RATE_RESUME (R237): An opening part deferred by the 64 M/s admission rate is accepted. -/
  | openingRateResume (packet : Nat) (ecc : CanvasEcc)
  /-- OP_TIMEOUT (R225): The operation timer expires and the slot ends with its final status. -/
  | opTimeout (key : SlotKey)
  /-- UP_TIMEOUT (R232): The up timer expires; MEMBER_LOST goes to every endpoint member and the slot is Free. -/
  | upTimeout (key : SlotKey)
  /-- DONE_CACHE_EXPIRE (R228): A done cache entry expires after one op_timeout. -/
  | doneCacheExpire (key : SlotKey)
  /-- REFUSAL_CACHE_EXPIRE (R235): A refusal cache entry expires after one op_timeout. -/
  | refusalCacheExpire (key : SlotKey)
  /-- TICK_START (R311): A tick starts: the entry runs, prefetches begin, markers are sent and overruns are judged. -/
  | tickStart
  /-- TILE_READ_START (R282): Reads of a tick's tiles begin at tick n − lead, or when staging has room. -/
  | tileReadStart (tile : Nat)
  /-- TILE_READ_COMPLETE (R280): A tile read from HBM or host memory finishes and the tile is staged. -/
  | tileReadComplete (tile : Nat) (hostBytes : Bytes) (result : ReadResult)
  /-- TICK_IN_EDGE (R311): A TICK_IN rising edge starts a tick, or is ignored and counted if outside ±5%. -/
  | tickInEdge (high : Nat)
  /-- TICK_IN_MISSING (R311): An expected TICK_IN edge is missing and the source enters holdover. -/
  | tickInMissing
  /-- TICK_PORT_LOST (R315): No usable marker for four ticks; the follower searches its list or enters holdover. -/
  | tickPortLost
  /-- COOLING_LOOP_UPDATE (R362): Every 10 ms the active device moves pump and fan duties toward their targets. -/
  | coolingLoopUpdate (outlet inlet : TempReading) (air : List TempReading)
  /-- PUMP_ALARM (R364): A pump tach stays below pump_tach_min for 50 ms; the other pump goes to 99%. -/
  | pumpAlarm (n : Nat) (tach : PulseTrain)
  /-- FLOW_SAMPLE (R364): Every 1 ms the flow inputs are sampled for the flow alarm. -/
  | flowSample (flow0 flow1 : Reading)
  /-- COOLANT_HOT (R364): Outlet above cool_target + 10 °C for 1 s puts pumps and fans at 99%. -/
  | coolantHot (outlet : Int)
  /-- FAN_FAULT (R364): A fan tach stays below fan_tach_min for 1 s. -/
  | fanFault (n : Nat) (tach : PulseTrain)
  /-- COOLING_ALARM_END (R364): An alarm's condition is absent for 10 s; it ends and duties return to loop control. -/
  | coolingAlarmEnd (alarm : Alarm) (tach : PulseTrain)
  /-- TWIN_LANE_TRAINED (R365): A twin link lane aligns on its lane set; the link comes up or TWIN_LANES is raised. -/
  | twinLaneTrained (lane : Nat) (groups : List CodeGroup) (skew : Int)
  /-- TWIN_LINK_DOWN (R365): A twin lane loses alignment and the link goes down and trains again. -/
  | twinLinkDown (lane : Nat)
  /-- HEARTBEAT_SEND (R367): Every 100 µs the device sends a HEARTBEAT frame. -/
  | heartbeatSend (pump0 pump1 : TachReading) (flow0 flow1 : Reading)
  /-- HEARTBEAT_RECEIVED (R367): A valid twin HEARTBEAT is taken; heartbeat may be regained or a collision resolved. -/
  | heartbeatReceived (frame : List (List CodeGroup))
  /-- TWIN_FRAME_CRC_FAIL (R366): A twin frame failing its CRC is discarded and counted. -/
  | twinFrameCrcFail (frame : List (List CodeGroup))
  /-- HEARTBEAT_LOST (R367): No valid HEARTBEAT for 500 µs raises TWIN_LOST; a standby becomes Isolated. -/
  | heartbeatLost
  /-- STATE_DATA_RECEIVED (R370): A STATE_DATA frame fills the standby's receiving buffer, or discards it for a later epoch. -/
  | stateDataReceived (frame : List (List CodeGroup))
  /-- STATE_END_RECEIVED (R370): The standby commits a complete valid epoch and sends STATE_ACK, or discards it. -/
  | stateEndReceived (frame : List (List CodeGroup))
  /-- STATE_ACK_RECEIVED (R370): The active device records the standby's committed epoch. -/
  | stateAckReceived (frame : List (List CodeGroup))
  /-- STATE_REQUEST_RECEIVED (R371): The active device schedules an epoch for the standby. -/
  | stateRequestReceived (frame : List (List CodeGroup))
  /-- RELEASE_RECEIVED (R366): A RELEASE frame reports the twin's release and its cause. -/
  | releaseReceived (frame : List (List CodeGroup))
  /-- CONTROL_CYCLE_END (R369): In warm mode the active device takes and sends the state image each control cycle. -/
  | controlCycleEnd
  /-- SNAPSHOT_INTERVAL (R371): At snapshot_interval a cold epoch is sent and the newest image written to flash. -/
  | snapshotInterval
  /-- CLAIM (R373): A Claiming device whose rank wait has passed with the line high drives CTRL_OWN_N. -/
  | claim
  /-- CLAIM_LISTEN_END (R373): After 1 ms of listening the new owner starts its outputs from its snapshot or configuration. -/
  | claimListenEnd
  /-- CLAIMING_LINE_LOW (R380): A Claiming device reads the line low for 10 µs, sends STATE_REQUEST and enters Standby. -/
  | claimingLineLow
  /-- LOCKSTEP_MISMATCH (R375): The control cores disagree and control is released within 1 µs. -/
  | lockstepMismatch
  /-- CONTROL_WATCHDOG_EXPIRE (R375): The control watchdog goes unserviced for 2 ms and control is released. -/
  | controlWatchdogExpire
  /-- CONTROL_MEMORY_FAULT (R375): An uncorrectable control memory error or bad state CRC releases control. -/
  | controlMemoryFault
  /-- PLAUSIBILITY_CHECK (R375): Every 1 ms tach and flow inputs are checked; ten failures release control or raise SENSOR_FAULT. -/
  | plausibilityCheck (pump0 pump1 : TachReading) (flow0 flow1 : Reading)
  /-- TAKEOVER (R377): A Standby or Isolated device reads the line high for 10 µs and takes control from its best state. -/
  | takeover
  /-- OWN_LINE_FAULT (R379): A device driving the line reads it high for 10 µs and releases for good. -/
  | ownLineFault
  /-- CORE_RESTART_COMPLETE (R380): A released device's control cores restart with passing checks and it enters Claiming. -/
  | coreRestartComplete
  /-- I3C_BUS_TAKE (R361): After 100 µs idle the active device takes an I3C bus and checks each target. -/
  | i3cBusTake (bus : Nat) (answered : List (BitVec 7))
  /-- RM_HEARTBEAT (R384): An RM_HEARTBEAT is authenticated and accepted, restoring contact, or rejected. -/
  | rmHeartbeat (frame : MgmtFrame)
  /-- RM_POLICY (R385): An RM_POLICY is judged whole and sets budget, slope, ceiling and policy entries. -/
  | rmPolicy (frame : MgmtFrame)
  /-- DEV_HEARTBEAT (R385): Every 100 ms and at mode or ownership changes the device sends DEV_HEARTBEAT. -/
  | devHeartbeat
  /-- DEV_TELEMETRY (R385): Every 1 s the device sends DEV_TELEMETRY. -/
  | devTelemetry
  /-- RM_LOST (R386): No rack manager message is accepted for 3 s; rm_silent is set and the last policy held. -/
  | rmLost
  /-- PWR_ALERT_ASSERT (R390): PWR_ALERT_N asserts and P3 is requested within 20 µs. -/
  | pwrAlertAssert
  /-- PWR_ALERT_RELEASE (R390): PWR_ALERT_N is released and the 1 ms hold begins. -/
  | pwrAlertRelease
  /-- ALERT_HOLD_END (R391): 1 ms after release the alert request lifts. -/
  | alertHoldEnd
  /-- POWER_GOVERNOR_UPDATE (R393): Every 10 µs θ is lowered until package power fits the cap, but not below gov_floor. -/
  | powerGovernorUpdate (power : Nat) (draw : List Nat)
  /-- SLOPE_GOVERNOR_UPDATE (R394): Every 10 µs θ and ballast set the reference within the slope, and the budget moves at the slope. -/
  | slopeGovernorUpdate (draw : List Nat)
  /-- THERMAL_SAMPLE (R396): Every 100 µs junction sensors are sampled and the thermal request stepped. -/
  | thermalSample (sensors : List Int)
  /-- RAIL_CURRENT_SAMPLE (R398): Every 10 µs rail currents are measured; two over 110% request P3. -/
  | railCurrentSample (deciamps : List Nat)
  /-- OVERCURRENT_LIFT (R398): All rails stay below 90% for 10 ms and the over-current request lifts. -/
  | overcurrentLift
  /-- PATROL_SCRUB (R406): The patrol scrubber reads memory words, correcting or reporting ECC errors. -/
  | patrolScrub (site : ScrubSite) (word : WordError)
  /-- TABLE_RESTORE (R408): An uncorrectable table entry is rewritten from its copy, or TABLE_LOST is raised. -/
  | tableRestore (tbl index : Nat) (copyBad : Bool)
  /-- SELFTEST_START (R415): A queued test starts within the concurrency limits, or is skipped for want of spares. -/
  | selftestStart (res : TestRes)
  /-- LANE_TEST_COMPLETE (R411): A lane test in spare slots ends with a verdict, or sends the port to Retest. -/
  | laneTestComplete (port lane : Nat)
  /-- ROW_COPY_COMPLETE (R412): A row's copy to a spare completes and its address switches to the spare. -/
  | rowCopyComplete (res : TestRes)
  /-- ROW_TEST_COMPLETE (R412): The March test ends; the row is restored or the spare keeps its address. -/
  | rowTestComplete (res : TestRes) (failing : Nat) (duration : W32)
  /-- PALETTE_TEST_COMPLETE (R413): The golden-vector test ends; the palette returns to service or is retired. -/
  | paletteTestComplete (palette : Nat) (crc : W32) (failing : Nat) (duration : W32)
  /-- JTAG_INSTRUCTION_UPDATE (R460): A loaded test instruction takes the pins while RESET_N is low, or acts as BYPASS. -/
  | jtagInstructionUpdate (instr : JtagInstr) (scan : Option JtagScan)
  /-- JTAG_TEST_LOGIC_RESET (R460): The test logic is reset and the pins return to the device's logic. -/
  | jtagTestLogicReset
  /-- REPLY_CACHE_EXPIRE (R343): An in-band reply cache entry reaches its 1 s life and is removed, so a matching CMD is run again. -/
  | replyCacheExpire (src ttag : W16) (crc : W32)
  /-- PERST_RELEASE (R453): A port's PERST_N is deasserted and that PCI Express port leaves reset and may train again. -/
  | perstRelease (hp : HostPort) (link : PcieLink)
  /-- IMAGE_ACTIVATED (R382): After a takeover the new active device finishes activating its state image and drives the PWM outputs at the image's duties, resuming its loops from the image. -/
  | imageActivated
  deriving DecidableEq, Repr, Inhabited

end Sys2Proof
end

