-- ==== Sys2Proof/Config.lean ====
section
/-! DEFINITION. What the spec leaves to the one device or to standards it only names, as constants without a body: no
proof can see a value of one (assumption logs 5 and 6). -/

namespace Sys2Proof.Config

/-- A fresh free value: the counter `State.free` numbers the draws. -/
opaque freeNat : Nat → Nat

/-- The next value of a queue's 16-bit generator (R192), by queue and draw: the generator is not given. -/
opaque wredDraw : Nat → Nat → BitVec 16

/-- The state that the PRBS31 generator of a lane starts from, by port and lane: a nonzero state of its own, not given
(R84). -/
opaque prbsSeed : Nat → Nat → BitVec 31

/-- SHA-384 (FIPS 180-4, named by R293): byte 0 is bits 7 to 0. -/
opaque sha384 : Bytes → BitVec 384

/-- HMAC-SHA-256 (R384): key, message; byte 0 is bits 7 to 0. -/
opaque hmacSha256 : Bytes → Bytes → BitVec 256

/-- HMAC-SHA-384 (R425): key, message. -/
opaque hmacSha384 : Bytes → Bytes → BitVec 384

/-- Pure Ed25519 verification (R293): public key, message, signature. -/
opaque ed25519Verify : Bytes → Bytes → Bytes → Bool

/-- Pure ML-DSA-65 verification (R293): public key, message, signature. -/
opaque mldsaVerify : Bytes → Bytes → Bytes → Bool

/-- Pure signing with the key pair of a seed (R293): seed, message. -/
opaque ed25519Sign : Bytes → Bytes → BitVec 512
opaque mldsaSign : Bytes → Bytes → BitVec 26472

/-- The public key of a seed (R426): RFC 8032 and the key generation of FIPS 204. -/
opaque edPublic : Bytes → BitVec 256
opaque mlPublic : Bytes → BitVec 15616

/-- The one secret that this device's SRAM array holds, its helper data, and whether the fuzzy extractor reconstructs the
secret from a start-up pattern and a helper copy (R426): neither the array nor the extractor is given. -/
opaque deviceSecret : BitVec 256
opaque helperData : Bytes
opaque reconstructs : Bytes → Bytes → Bool

/-- What Galheril writes in the device certificate at manufacture (R427): serial number, date, key pair and its seeds. -/
opaque serial : W64
opaque madeAt : W64
opaque mfgKey : W32
opaque mfgEdSeed : Bytes
opaque mfgMlSeed : Bytes

/-- AES-256-GCM (R425): the key stream of a key and nonce, by length, and the tag of key, nonce and ciphertext. -/
opaque gcmStream : Bytes → BitVec 96 → Nat → Bytes
opaque gcmTag : Bytes → BitVec 96 → Bytes → BitVec 128

/-- Where a configuration image has its secret section, and how long it is (R425): its layout is not given. -/
opaque secretSection : Bytes → Nat × Nat

/-- What a configuration image says (R422): its layout is not given. -/
opaque configContents : Bytes → ConfigContents

/-- The public halves of the two release key pairs in the boot ROM (R422). -/
opaque releaseEd : Nat → BitVec 256
opaque releaseMl : Nat → BitVec 15616

/-- The owner certificate of a configuration image verifies under a release key (R422, R424): its layout is not given. -/
opaque ownerCertOk : Bytes → Bool

/-- The four configuration key pairs that the certificate of an image names: image, key index. -/
opaque certEd : Bytes → Nat → BitVec 256
opaque certMl : Bytes → Nat → BitVec 15616

/-- SHA-384 of the boot ROM (R428). -/
opaque romDigest : BitVec 384

/-- The CRC-32 that the boot ROM holds for the golden vectors (R413). -/
opaque goldenCrc : W32

/-- The state image's formats, which R368 leaves to the firmware: the format that this device writes, whether it can read
another, and what the sections of an image in another format say. -/
opaque imageFormat : W16
opaque formatReadable : W16 → Bool
opaque imageContents : Bytes → TrayContents

/-- Pulses per litre of the flow meters without a configuration image to say so (R359). -/
opaque flowPulses : Nat

end Sys2Proof.Config
end

