-- ==== Sys2Proof/Machine/Bytes.lean ====
section
/-! DEFINITION. Little-endian fields of byte strings (R9). -/

namespace Sys2Proof.Machine

def leVal : Bytes → Nat
  | [] => 0
  | b :: bs => b.toNat + 256 * leVal bs

def leBytes : Nat → Nat → Bytes
  | 0, _ => []
  | n + 1, x => BitVec.ofNat 8 x :: leBytes n (x / 256)

/-- The `n` bytes at offset `off`, as a number. -/
def leAt (b : Bytes) (off n : Nat) : Nat := leVal ((b.drop off).take n)

def zeros (n : Nat) : Bytes := List.replicate n 0

/-- The first `n` bytes, made up to `n` with zeros. -/
def padTo (n : Nat) (b : Bytes) : Bytes := b.take n ++ zeros (n - b.length)

end Sys2Proof.Machine
end

