-- ==== Sys2Proof/Machine/Keys.lean ====
section
/-! DEFINITION. The device's keys: the root secret, what HKDF-SHA-384 derives from it, the identity digest, the floor
record's tag and the device certificate (R425 to R427). -/

namespace Sys2Proof.Machine

def digestBytes (b : Bytes) : Bytes := leBytes 48 (Config.sha384 b).toNat

def hmac384 (key m : Bytes) : Bytes := leBytes 48 (Config.hmacSha384 key m).toNat

/-- The bytes of an ASCII label. -/
def ascii (x : String) : Bytes := x.toList.map (fun c => BitVec.ofNat 8 c.toNat)

/-- The 32 bytes that HKDF-SHA-384 (RFC 5869) derives under a label, without a salt: the extract step, and the first block of
the expand step (R426; assumption log 149). -/
def hkdf (secret : BitVec 256) (label : String) : Bytes :=
  (hmac384 (hmac384 (zeros 48) (leBytes 32 secret.toNat)) (ascii label ++ [1])).take 32

/-- The seeds of the identity key pairs, and the sealing key (R426). -/
def edSeed (secret : BitVec 256) : Bytes := hkdf secret "YG-ID-ED"
def mlSeed (secret : BitVec 256) : Bytes := hkdf secret "YG-ID-MLDSA"
def sealingKey (secret : BitVec 256) : Bytes := hkdf secret "YG-SEAL"

/-- The identity public keys. -/
def identityEd (secret : BitVec 256) : Bytes := leBytes 32 (Config.edPublic (edSeed secret)).toNat
def identityMl (secret : BitVec 256) : Bytes := leBytes 1952 (Config.mlPublic (mlSeed secret)).toNat

/-- The device identity digest: SHA-384 of both public keys (R426). -/
def identityDigest (secret : BitVec 256) : Bytes := digestBytes (identityEd secret ++ identityMl secret)

/-- The fuzzy extractor: the array's start-up pattern and one helper copy give the device's secret back, or nothing (R426). -/
def reconstruct (pattern helper : Bytes) : Option (BitVec 256) :=
  if Config.reconstructs pattern helper then some Config.deviceSecret else none

/-- The floor record's tag: HMAC-SHA-384 under the sealing key over both floors (R425; assumption log 150). -/
def floorTagOf (secret : BitVec 256) (fw cfg : W32) : Bytes :=
  hmac384 (sealingKey secret) (leBytes 4 fw.toNat ++ leBytes 4 cfg.toNat)

/-- The bytes of the certificate that Galheril signs. -/
def certifiedBytes (secret : BitVec 256) : Bytes :=
  leBytes 4 0x43444759 ++ leBytes 4 5504 ++ identityDigest secret ++ leBytes 8 Config.serial.toNat ++ identityEd secret ++
    identityMl secret ++ leBytes 8 Config.madeAt.toNat ++ zeros 56

/-- The device certificate as it is written at manufacture (R427). -/
def deviceCertificate (secret : BitVec 256) : Bytes :=
  let d := digestBytes (certifiedBytes secret)
  certifiedBytes secret ++ leBytes 4 Config.mfgKey.toNat ++ leBytes 64 (Config.ed25519Sign Config.mfgEdSeed d).toNat ++
    leBytes 3309 (Config.mldsaSign Config.mfgMlSeed d).toNat ++ zeros 15

end Sys2Proof.Machine
end

