-- ==== Sys2Proof/Machine/State.lean ====
section
/-! DEFINITION. The state of the device as plain data: everything the spec gives it, grouped by chapter, each field with
its value after chip reset as its default. A field's docstring or comment names the rule that names it. `State.reset` is
the device at t0 of R434, the release of chip reset that follows a power-on. -/

namespace Sys2Proof.Machine

/-- A sparse table by index: indices strictly rising (`Table.wf`). -/
abbrev Table (α : Type) := List (Nat × α)

/-- Addressed bytes: addresses strictly rising and no listed byte 0x00, which is what an unlisted address reads as
(assumption log 4). -/
abbrev Memory := List Host.Cell

/-! ### Packets, flits and link state (04, 05, 06) -/

/-- The packet header, field by field (R137). `rsv0` and `rsv4` are the reserved bits W0[7] and W4[31]. -/
structure Header where
  gen       : BitVec 2 := 0
  vc        : BitVec 3 := 0
  colour    : BitVec 2 := 0
  rsv0      : Bool := false
  opcode    : BitVec 8 := 0
  length    : W16 := 0
  dst       : W16 := 0
  src       : W16 := 0
  ttag      : W16 := 0
  ftag      : W16 := 0
  offset    : BitVec 48 := 0
  window    : BitVec 8 := 0
  ord       : Bool := false
  last      : Bool := false
  adpt      : Bool := false
  cmk       : Bool := false
  pois      : Bool := false
  ackReq    : Bool := false
  ordFault  : Bool := false
  rsv4      : Bool := false
  opA       : W32 := 0
  opB       : W32 := 0
  hops      : BitVec 8 := 0
  routeHint : BitVec 8 := 0
  hcheck    : W16 := 0
  deriving DecidableEq, Repr, Inhabited

/-- A packet as a window function builds it: header and payload (R135). Padding and trailer follow from them. -/
structure Packet where
  hdr     : Header := {}
  payload : Bytes := []
  deriving DecidableEq, Repr, Inhabited

/-- A data flit (R110); `fin` is its two-bit end field, `content` its 252 bytes. -/
structure Flit where
  kind    : BitVec 4 := 0
  vc      : BitVec 3 := 0
  sop     : Bool := false
  eop     : Bool := false
  fin     : BitVec 2 := 0
  nbytes  : BitVec 8 := 0
  content : Bytes := []
  deriving DecidableEq, Repr, Inhabited

/-- A control flit (R113) but for its acknowledge, which is the sender's current one whenever it is sent (R114). -/
structure CFlit where
  kind    : BitVec 4 := 0
  sub     : BitVec 8 := 0
  nbytes  : BitVec 6 := 0
  seqd    : Bool := false
  content : Bytes := []
  cseq    : W16 := 0
  deriving DecidableEq, Repr, Inhabited

/-- One direction pair of a running link (04, R101 to R128). -/
structure Link where
  -- transmitter, D-stream and C-stream (R120)
  unaB : W16 := 0
  nxtB : W16 := 0
  unaC : W16 := 0
  nxtC : W16 := 0
  retryB : List (W16 × List Flit) := []      -- retry buffer, D-block entries, at most 180 (R121)
  retryC : List (W16 × CFlit) := []          -- retry buffer, control flit entries, at most 451 (R121)
  replayB : Option W16 := none               -- next block to replay
  replayC : Option W16 := none
  progressB : Nat := 0                       -- time of the last acknowledge progress, ns
  progressC : Nat := 0
  timeoutsB : Nat := 0                       -- timeouts without progress
  timeoutsC : Nat := 0
  resumeB : Bool := false                    -- R122: no new item before a valid acknowledge
  resumeC : Bool := false
  resumeRun : Bool := false                  -- R122: the first slot after a warm return is a C-run
  waitingC : List CFlit := []                -- control flits waiting for their first sending
  waitingTick : List CFlit := []             -- TICK flits waiting (unsequenced, R114)
  -- receiver (R118, R119)
  expB : W16 := 0
  expC : W16 := 0
  ackDueB : Bool := false
  ackDueC : Bool := false
  ackTurnC : Bool := false                   -- with both due, the C-stream's acknowledge is the next return item (R119)
  nakB : Bool := false                       -- a retry request is due
  nakC : Bool := false
  wantB : Bool := false                      -- a retry request is outstanding until that number is accepted
  wantC : Bool := false
  nakAtB : Nat := 0                          -- when the request last became due, ns
  nakAtC : Nat := 0
  -- credits (R124, R125), one per VC 0 to 7
  credCum  : List W16 := List.replicate 8 0
  limit    : List W16 := List.replicate 8 0
  used     : List W16 := List.replicate 8 0
  received : List W16 := List.replicate 8 0  -- cells received on v (R186)
  sentCred : List W16 := List.replicate 8 0  -- counts last sent, for the rotation of R119
  credTurn : Nat := 0
  -- carriage (R116, R117, R127, R128)
  pcReq : Bool := true                       -- our receiver asks for protected control (R109)
  pcOn  : Bool := false                      -- we carry control flits in D-blocks
  farPcOn : Bool := false
  sinceCrun : Nat := 0
  lastCrun : Nat := 0                        -- ns
  drrTurn : Nat := 0                         -- deficit round robin: turn and deficits of VCs 1, 2, 3, 5, 6, 7
  deficit : List Nat := List.replicate 6 0
  -- coding (R104 to R106)
  txScr : BitVec 31 := BitVec.allOnes 31
  rxScr : BitVec 31 := BitVec.allOnes 31
  txSlots : Nat := 0                         -- slots since the last alignment marker sent
  txMarkers : Nat := 0                       -- marker count
  rxMarkers : List Nat := List.replicate 8 1 -- count of each lane's next marker; the resume marker is number 0
  txSymbol : Nat := 0                        -- stream symbol number of the next slot sent, of the next slot received (R101)
  rxSymbol : Nat := 0
  errored : List Nat := []                   -- times of errored slots within 100 µs (R133)
  deriving DecidableEq, Repr, Inhabited

/-- States of a port (R64), in the order of their codes (R100). -/
inductive PState where
  | disabled | absent | listen | primer | step | running | retest | miswired
  deriving DecidableEq, Repr, Inhabited

/-- Phases of *Step* and *Retest* (R84, R92). -/
inductive Phase where
  | none | announce | acquisition | selftest | report | resume
  deriving DecidableEq, Repr, Inhabited

inductive Verdict where
  | pending | pass | fail
  deriving DecidableEq, Repr, Inhabited

/-- One lane: its status record (R63), its loops (R47), its detectors (R51) and its primer state (R69, R70). -/
structure Lane where
  fom : BitVec 8 := 0
  los : Bool := true
  lol : Bool := true
  rich : Bool := false
  pins : List Pin := List.replicate 5 {}     -- the bounds at which loops 1 to 5 stand (R337)
  inUse : Bool := false
  rxPass : Bool := false
  polarityInv : Bool := false
  retired : Bool := false
  rxHeater : BitVec 12 := 0
  txHeater : BitVec 12 := 0
  ctle : BitVec 5 := 0
  ffe : List Int := [0, 0, 0, 0, 0, 0]       -- 1/64 of the cursor (R61)
  dfe : Int := 0
  slicers : List Int := [0, 0, 0]
  calCtle : BitVec 5 := 0                    -- values at calibration, where acquisition starts (R84)
  txShort : Bool := false                    -- modulator ring on the short-wavelength flank (R48)
  txFound : Bool := false                    -- resonance found at calibration
  rxFound : Bool := false
  aligned : Bool := false
  goodSets : Nat := 0
  crcSeen : Bool := false
  badSets : Nat := 0
  ident : Option Bytes := none               -- content of the lane's last IDENT set, offsets 3 to 27
  crossed : Bool := false                    -- its pair was reported crossed (R74)
  markerBad : Bool := false                  -- the last alignment marker was an error (R105)
  testErrors : Nat := 0                      -- bit errors of the last self-test (R56, R417)
  judged : Bool := false                     -- judged in this step or retest (R84)
  losses : W32 := 0                          -- assertions of a detector outside the lane set (R52); the spec names no counter
  berEst : Rat := 0                          -- estimated bit error ratio of the last window (R53)
  txRd : Bool := false                       -- running disparity of the primer sets sent; true is positive (R66)
  deriving DecidableEq, Repr, Inhabited

/-- One port: status record (R100), bring-up (03), grace (R129), switching (R167, R173) and link (04). -/
structure Port where
  state : PState := .disabled
  admitted : Bool := false
  verdict : Verdict := .pending
  seqHeld : Bool := false
  laneSet : BitVec 8 := 0
  rxPass : BitVec 8 := 0
  farRxPass : BitVec 8 := 0
  cause : W16 := 0
  gen : BitVec 2 := 0
  laneReversed : Bool := false
  features : BitVec 3 := 0
  failCount : BitVec 8 := 0
  farEndpoint : W16 := 0xFFFF
  farPort : BitVec 8 := 0
  farKind : BitVec 8 := 0
  farChipTag : W32 := 0
  linkDelay : W16 := 0xFFFF
  probeWait : W16 := 0
  lanes : List Lane := List.replicate 8 {}
  -- calibration (R48, R314)
  calibrated : Bool := false
  rxPath : Nat := 0                          -- 0.1 ns
  -- attempts and absence (R87, R89)
  attempt : Option Nat := none               -- deadline of the attempt or probe, ns
  probing : Bool := false
  wait : Option Nat := none                  -- end of the wait in Absent or crossed Miswired, ns
  attempts : W32 := 0                        -- failed attempts (R90)
  -- what the far end sent (R71)
  farValid : Bool := false                   -- some IDENT passed here: `seen`
  farSeen : Bool := false
  farReady : Bool := false
  farSeqHeld : Bool := false
  farGenMax : BitVec 8 := 0
  farFeatures : W16 := 0
  farMinWidth : BitVec 8 := 2
  farRxLanes : BitVec 8 := 0
  mapValid : Bool := false
  ready : Bool := false
  -- delay measurement (R78)
  setErrors : W32 := 0                       -- primer sets ignored (R68); the spec names no counter
  samples : Nat := 0
  delaySum : Int := 0                        -- sum of round trips, primer bit periods
  lastTx : BitVec 48 := 0                    -- tx_time of the latest TIME set received
  lastTxAt : Nat := 0                        -- its arrival, primer bit periods
  timeSeq : BitVec 8 := 0                    -- number of the next TIME set sent
  timeTurn : Bool := false                   -- the measurement lane's next set is TIME
  -- rate step (R83 to R86)
  stepCount : Option Nat := none             -- last STEP count sent
  phase : Phase := .none
  phaseAt : Nat := 0                         -- start of the phase, ns
  warm : Bool := false
  underTest : BitVec 8 := 0                  -- lanes under test
  nearMask : BitVec 8 := 0                   -- lanes judged passing in this step
  finalSent : Bool := false
  finalSeen : Bool := false
  effWidth : Nat := 2                        -- effective minimum width (R75)
  testStart : Nat := 0                       -- when the retest's self-test begins, ns
  initiator : Bool := false
  -- retrain (R91 to R94)
  recTag : W32 := 0                          -- far end recorded when the port last left Running
  linkTag : W32 := 0                         -- tag that the far end sent last, in IDENT, a frame or a refresh
  recPort : BitVec 8 := 0
  quiesce : Option Nat := none               -- end of the quiesce before PORT_RETRAIN, ns
  washing : Bool := false                    -- R349
  -- grace (R129 to R131)
  grace : Option Nat := none                 -- deadline of the running grace period, ns
  replayDone : Bool := false                 -- R167: replay after the last warm retrain completed
  leftRunning : Nat := 0                     -- times the port has left Running (R225)
  -- figure of merit (R54)
  lowWindows : Nat := 0                      -- consecutive windows below fom_retrain
  fomDips : W32 := 0                         -- counted under R54
  busyWindow : Bool := false                 -- more than idle flits and conditioning C-runs came in this window
  grants : List Nat := List.replicate 8 0    -- grants in force since the last cold entry (R126)
  retryDiscards : W64 := 0                   -- retry-buffer items discarded at a cold reset (R91)
  partDiscards : W64 := 0                    -- packets partly received at a cold reset (R5, R123)
  reservedFlits : W64 := 0                   -- control flits of a reserved kind or subtype (R114); the spec names no counter
  -- switching (R167 to R173)
  rot : Nat := 0
  rw : Nat := 8
  depthSum : Nat := 0
  depthSamples : Nat := 0
  backlog : List Nat := []                   -- packets whose lookup waits, oldest first (R169)
  current : Table Nat := []                  -- by VC: the packet in progress from this port
  dropping : Table Bool := []                -- by VC: later flits are discarded; true counts them in void_tail (R123)
  fetching : Table Nat := []                 -- by VC: the packet whose flits leave this port (R111)
  link : Link := {}
  ctr : List W64 := List.replicate 30 0      -- R134
  deriving DecidableEq, Repr, Inhabited

/-- One laser input (R43 to R45). Powers are in 0.1 dBm, attenuation in 0.1 dB. -/
structure LaserInput where
  powerA : Int := 160
  powerB : Int := 160
  atten : Nat := 0                           -- 0, 60 or 300
  lowRunA : Nat := 0                         -- consecutive samples below +13.0 dBm at the splitter
  lowRunB : Nat := 0
  lowA : Bool := false
  lowB : Bool := false
  lossA : Bool := false
  lossB : Bool := false
  overRunA : Nat := 0
  overRunB : Nat := 0
  overA : Bool := false
  overB : Bool := false
  imbalance : Bool := false
  calmSince : Option Nat := none             -- both at or below +19.0 dBm since, ns
  deriving DecidableEq, Repr, Inhabited

/-- Where a stored packet stands. -/
inductive Stage where
  | backlog      -- its lookup waits
  | queued       -- in egress queues
  | held         -- flag-held (R183)
  | terminated   -- handed to its window function (R164)
  | parked       -- a part parked in the packet buffer (R221)
  deriving DecidableEq, Repr, Inhabited

/-- One copy of a packet in an egress queue (R195, R196). -/
structure Copy where
  port : Nat
  vc : Nat
  dst : W16
  offset : BitVec 48
  sent : Nat := 0                            -- cells that have left
  cut : Bool := false                        -- this copy alone ends VOID (R197, R198)
  endAt : Nat := 0                           -- where it then ends: the cells that still leave before the VOID flit (R197)
  deriving DecidableEq, Repr, Inhabited

/-- A packet stored in the buffer (R162, R163). `data` is every byte received after the header. -/
structure Stored where
  ingress : Option Nat := none               -- none: originated here
  vcIn : Nat := 0
  hdr : Header := {}
  data : Bytes := []
  cells : Nat := 0                           -- cells received
  released : Nat := 0                        -- cells whose credit has been released
  complete : Bool := false                   -- its last flit has arrived
  void : Bool := false                       -- its last flit ends VOID
  cut : Bool := false                        -- ended by this device: a VOID flit without content follows its cells (R197)
  multicast : Bool := false                  -- its cells stay until its residue mask is empty (R196)
  stage : Stage := .backlog
  copies : List Copy := []
  queuedAt : Nat := 0                        -- when its head entered its queue, ns
  lastCell : Nat := 0                        -- when its last cell arrived, ns
  planIn : Option (Nat × Nat) := none        -- plan and entry in force in that tick (R320)
  tickIn : Option W32 := none                -- tick in which its head entered the buffer (R318); none: no tick ran
  arrivals : List Nat := []                  -- arrival numbers of its cells (R189), in order
  deferred : Bool := false                   -- its part waits for acceptance (R222, R234, R237)
  why : Nat := 0                             -- why it is deferred: 1 parking or mode, 2 no block, 3 admission rate
  waited : List Nat := []                    -- the Canvas counters that count its deferral already (R243)
  putAccepted : Bool := false                -- a segment PUT whose bytes are not yet readable (R271)
  withheld : Nat := 0                        -- cells counted in threshold_withholds
  backlogged : Bool := false                 -- counted in lookup_deferrals
  seen : List Nat := []                      -- of a VC 5 packet: the lengths of the VC 5 queues as its header cell arrived (R190)
  seenFree : Int := 0                        -- and the free cells of the buffer then
  voided : Bool := false                     -- counted in cut_voided
  early : Bool := false                      -- it arrived on a port not yet admitted (R31)
  deriving DecidableEq, Repr, Inhabited

/-- A packet that a window function wants to write into the buffer (R191): unicast with its own header, or multicast to
copies with their own destination and offset. `viaPort` names the port an answer leaves by without lookup (R23). -/
structure Originate where
  pkt : Packet := {}
  copies : List Copy := []                   -- empty: route by dst
  multicast : Bool := false
  viaPort : Option Nat := none
  slot : Option SlotKey := none              -- a result packet of this slot (R218)
  deriving DecidableEq, Repr, Inhabited

/-- An entry of the holding table (R182). -/
structure Hold where
  flow : Flow
  count : W32 := 0
  owed : W32 := 0
  held : Option Nat := none
  timer : Option Nat := none                 -- of the held packet, ns
  owedSince : Option Nat := none             -- start of the owed period, ns (R183, R184)
  idleSince : Nat := 0                       -- last counted PUT, ns
  limit : Nat := 50                          -- the timeout it started with, µs (R202)
  deriving DecidableEq, Repr, Inhabited

/-- The switch core (06). -/
structure Switch where
  routes : Table (BitVec 128) := []          -- R165
  portSets : Table (BitVec 96) := []         -- R195
  packets : Table Stored := []
  nextId : Nat := 0                          -- the model's own packet number
  nextCell : Nat := 0                        -- the model's own number of the next cell that arrives from a port
  turn : List Nat := List.replicate 12 0     -- each lookup group's next port in rotation (R168)
  queues : Table (List Nat) := []            -- 8 × port + VC: packet numbers, first out first (R163)
  average : Table Int := []                  -- 8 × port + VC: WRED average in 2^-16 cells (R192)
  holds : List Hold := []                    -- at most 16,384 (R182)
  originate : List Originate := []           -- waiting to be written (R191)
  preAdmit : W64 := 0                        -- packets dropped under R23 and R31; the spec names no counter
  noRouteAt : Table Nat := []                -- by destination: time of the last NO_ROUTE event, ns (R174)
  ctr : List W64 := List.replicate 24 0      -- R203
  pkt : List W64 := List.replicate 11 0      -- R161
  deriving DecidableEq, Repr, Inhabited

/-! ### The Canvas (07, 08) -/

structure Group where
  header : W64
  members : List W64
  deriving DecidableEq, Repr, Inhabited

/-- Where a parked part lies (R221). -/
inductive Place where
  | staging (block : Nat)                    -- a piece of a staging block
  | buffer (packet : Nat)
  deriving DecidableEq, Repr, Inhabited

/-- A part of one contributor (R216): its position, stripes, and decoded codes (values and weights as raw codes). -/
structure Part where
  pos : Nat
  first : Nat
  stripes : Nat
  fmt : Nat                                  -- format of its values
  values : List Nat
  weights : List Nat := []
  child : Bool := false
  tag : BitVec 4 := 0                        -- a child partial's flags (R227)
  place : Place := .staging 0
  deriving DecidableEq, Repr, Inhabited

/-- States of a slot (R218); *Free* is absence. -/
inductive SState where
  | open_ | failed | up | out
  deriving DecidableEq, Repr, Inhabited

structure Slot where
  key : SlotKey
  block : Nat := 0                           -- its block, 0 to 16,383 (R204)
  group : Group                              -- its group's entry at the opening, under which it ends
  desc : Option Bytes := none                -- the descriptor that its recorded digest names (R218)
  scheduled : Bool := false                  -- block from the scheduled pool
  state : SState := .open_
  digest : Option W32 := none
  frontier : List Nat := []
  acc : List Nat := []                       -- accumulator codes in acc_fmt
  parked : List Part := []
  flags : BitVec 4 := 0                      -- overflow, underflow, inexact, invalid
  arrived : List Nat := []                   -- contributor positions that have arrived
  offenders : BitVec 144 := 0
  internal : Bool := false
  mismatch : Bool := false
  memberLost : Bool := false
  opDeadline : Nat := 0                      -- on the Canvas clock, ns (R219)
  upDeadline : Nat := 0
  counted : Bool := false                    -- its end has been counted (R243)
  relayed : List Nat := []                   -- stripes relayed in Up
  leftAt : List Nat := []                    -- leftRunning of each contributor's port at opening (R225)
  item : Option (W32 × Nat × Nat × Nat) := none  -- reduce item: tick, plan, entry, span (R308, R318)
  deriving DecidableEq, Repr, Inhabited

/-- A synchronisation object (R239). -/
structure SyncObj where
  counter : W32 := 0
  threshold : W32 := 0
  state : BitVec 2 := 0
  auto : Bool := false
  targetKind : BitVec 2 := 0
  target : BitVec 14 := 0
  fwdObj : W16 := 0
  notifyOffset : BitVec 48 := 0
  deriving DecidableEq, Repr, Inhabited

/-- The 32 palette flag records of R264. -/
structure Palette where
  flags : BitVec 4 := 0                      -- of, uf, nx, nv
  inService : Bool := true
  deriving DecidableEq, Repr, Inhabited

structure Canvas where
  constBlocks : Nat := 0                     -- pools (R205)
  schedBlocks : Nat := 0
  staging : Table (Bool × Nat) := []         -- staging blocks by number: from the scheduled pool; pieces held (R204)
  constAt : List Nat := []                   -- numbers of the blocks that hold constants, constant block 0 first
  constants : Memory := []                   -- 65,536 × constant block + byte
  groups : Table Group := []                 -- R207, R208
  descs : Table Bytes := []                  -- R211, 64 bytes each
  slots : List Slot := []
  clock : Nat := 0                           -- ns in P0 or P1: the clock that R219 stops in P2 and P3
  doneCache : List (SlotKey × Nat) := []     -- oldest first, expiry on the Canvas clock (R228)
  refusals : List (SlotKey × Nat) := []      -- oldest first (R235)
  discards : Nat := 0                        -- discards that R243 gives no counter (R5)
  lastOpen : Option Nat := none              -- ps time of the last opening (R237)
  parkedCells : Nat := 0                     -- cells parked in the packet buffer (R222)
  mismatchLog : List Bytes := []             -- newest first, at most 64 (R242)
  sync : Table SyncObj := []                 -- R239
  palettes : List Palette := List.replicate 32 {}
  ctr : List W64 := List.replicate 21 0      -- R243
  deriving DecidableEq, Repr, Inhabited

/-! ### The stream store (09) -/

structure Subscription where
  stream : W16
  src : W16
  base : BitVec 48
  size : W32                                 -- units of 64 KiB
  deriving DecidableEq, Repr, Inhabited

inductive TileState where
  | waiting | reading | staged
  deriving DecidableEq, Repr, Inhabited

/-- A tile on its way through staging (R280, R282). -/
structure Tile where
  stream : Nat
  number : Nat                               -- tile number within the stream
  tick : W32                                 -- tick of its item
  entry : Nat
  plan : Nat
  portSet : Nat
  segment : Nat
  address : Nat                              -- store address, or host bus address
  bytes : Nat
  host : Option HostPort := none
  state : TileState := .waiting
  data : Bytes := []
  poisoned : Bool := false
  late : Bool := false
  exempt : Bool := false                     -- its tick began in P2 or P3: no overrun is judged (R318)
  served : List W16 := []                    -- subscribers whose copy has been written into the buffer
  deriving DecidableEq, Repr, Inhabited

structure Streams where
  segments : Table (BitVec 128) := []        -- R268
  streams : Table (BitVec 192) := []         -- R273
  segList : Table (BitVec 18) := []
  subs : List Subscription := []             -- at most 262,144 (R276)
  store : Memory := []                       -- store address (R267)
  tiles : Table Tile := []                   -- by the model's own tile number, oldest first
  nextTile : Nat := 0
  sealing : Table (CmdSrc) := []             -- segments whose seal runs (R272)
  rewinds : List (Nat × W32 × W32) := []     -- stream, effective tick, tile (R275)
  unreadyAt : Table Nat := []                -- by segment: last STREAM_UNREADY, ns (R284)
  ctr : List W64 := List.replicate 17 0      -- R291
  deriving DecidableEq, Repr, Inhabited

/-! ### Sketch, plans and tick (10) -/

structure PortRole where
  role : BitVec 2 := 0                       -- 0 Unused, 1 Edge, 2 Up, 3 Down (R297)
  expPort : BitVec 8 := 0xFF
  expEndpoint : W16 := 0xFFFF
  deriving DecidableEq, Repr, Inhabited

structure TickSettings where
  period : Nat := 4000                       -- ns (R310)
  mode : BitVec 8 := 0                       -- 0 follower, 1 internal source, 2 source on TICK_IN
  ports : List Nat := []
  source : W16 := 0
  startNumber : W32 := 0
  gateMax : Nat := 0
  deriving DecidableEq, Repr, Inhabited

structure Plans where
  primary : Nat := 0
  entries : List (List W64) := []            -- by plan: tick entries (R306)
  items : List W64 := []
  deriving DecidableEq, Repr, Inhabited

/-- A load area (R299, R429): what BEGIN named, the bytes written, and which byte ranges have been written. -/
structure LoadArea where
  begun : Bool := false
  imageLen : Nat := 0
  sketchId : W64 := 0
  mem : Memory := []
  covered : List (Nat × Nat) := []           -- ranges [from, to), rising, disjoint, not touching
  deriving DecidableEq, Repr, Inhabited

/-- A commit in progress (R300, R303). -/
structure Commit where
  src : CmdSrc
  start : W32
  now : Bool
  armed : Bool := false
  deriving DecidableEq, Repr, Inhabited

structure Sketch where
  load : LoadArea := {}
  commit : Option Commit := none
  lastStatus : W16 := 0                      -- last commit's status and result (R356)
  lastResult : Bytes := List.replicate 88 0
  inForce : Bool := false
  sketchId : W64 := 0
  digest : Bytes := List.replicate 48 0
  endpoint : W16 := 0xFFFF
  plane : BitVec 4 := 0
  epValid : Bool := false
  roles : List PortRole := List.replicate 96 { role := 1 }
  tickSet : Option TickSettings := none
  plans : Option Plans := none
  running : Option (Nat × W32) := none       -- plan and its start tick (R308)
  planOld : Bool := false                    -- the running plan started 2^30 ticks ago or more (R35, R308)
  pending : Option (Nat × W32) := none       -- pending switch: plan or 0xFF, start tick (R309)
  ctr : List W64 := List.replicate 14 0      -- R321
  overruns : List Bytes := []                -- newest first, at most 256 (R320)
  overrunPending : List Bytes := []          -- records since the last TICK_OVERRUN, oldest first
  overrunAt : Option Nat := none             -- ns of the last TICK_OVERRUN
  deriving DecidableEq, Repr, Inhabited

/-- The tick (R311 to R316). Starts are exact rationals in ns on the device's clock. -/
structure Tick where
  running : Bool := false
  number : W32 := 0
  start : Rat := 0                           -- start of the current tick
  next : Rat := 0                            -- planned start of the next one
  rate : Rat := 0                            -- tracked correction per tick (R314)
  lengthen : Table Rat := []                 -- by tick number: lengthening of that tick
  locked : Bool := false
  good : Nat := 0                            -- consecutive markers within 25 ns
  holdover : Bool := false
  port : Option Nat := none                  -- current tick port
  depth : Nat := 0                           -- hops from the source, sent in markers (R313)
  silent : Nat := 0                          -- ticks since the last usable marker
  badEdges : Nat := 0                        -- TICK_IN edges ignored in a row (R311)
  inputDelay : Nat := 0                      -- TICK_IN input delay, 0.1 ns (R454)
  framePos : Option Nat := none              -- position in the TICK_IN frame (R312)
  frameBits : W32 := 0
  frameLast : Option W32 := none             -- number carried by the last whole frame
  openings : Table Nat := []                 -- by group: slots counted in this tick (R308)
  paused : Bool := false                     -- the current tick began in P2 or P3 (R318)
  gated : List W32 := []                     -- announced ticks whose markers had `gated` set (R313, R316)
  lateStream : Table Nat := []               -- by tick: tiles judged late (R318)
  lateReduce : Table Nat := []               -- by tick: slots judged late
  lateEgress : Table Nat := []               -- by tick: VC 0 packets late under the egress kind
  deriving DecidableEq, Repr, Inhabited

/-! ### Host interface (11) -/

structure Reply where
  status : W16
  tag : W16
  opcode : W16
  result : Bytes := []
  deriving DecidableEq, Repr, Inhabited

/-- A command that a ring executes: its bytes and the fields of its entry (R330). -/
structure RingCmd where
  bytes : Bytes
  index : BitVec 12
  resAddr : W64
  resCap : Nat
  cookie : W64
  reply : Option Reply := none               -- finished: its completion waits (R333)
  discard : Bool := false                    -- a reset came while it executed (R329)
  deriving DecidableEq, Repr, Inhabited

/-- Command ring r and its completion ring (R329). -/
structure Ring where
  crBaseLo : W32 := 0
  crBaseHi : W32 := 0
  crSize : BitVec 4 := 0
  crTail : BitVec 12 := 0
  crHead : BitVec 12 := 0
  enable : Bool := false
  halted : Bool := false
  cqBaseLo : W32 := 0
  cqBaseHi : W32 := 0
  cqSize : BitVec 4 := 0
  cqHead : BitVec 12 := 0
  cqTail : BitVec 12 := 0
  phase : Bool := true
  cmd : Option RingCmd := none               -- `busy` while one executes or waits
  deriving DecidableEq, Repr, Inhabited

/-- The registers of a function's configuration space that only the host reads and writes (R322; assumption log 122). -/
structure PcieRegs where
  command : W16 := 0                         -- parity error response, SERR# enable and interrupt disable
  intLine : Byte := 0
  devCtl : W16 := 0x2810
  devCtl2 : W16 := 0
  linkCtl : W16 := 0
  linkCtl2 : W16 := 6
  aerUncorr : W32 := 0                       -- Advanced Error Reporting: status, mask and severity, correctable status and mask
  aerUncorrMask : W32 := 0x00400000
  aerUncorrSev : W32 := 0x00462030
  aerCorr : W32 := 0
  aerCorrMask : W32 := 0x0000E000
  aerCtl : W32 := 0
  aerLog : List W32 := List.replicate 4 0
  deriving DecidableEq, Repr, Inhabited

/-- The registers of one port's function (R325 to R334). -/
structure HostFn where
  linkUp : Bool := false
  link : PcieLink := {}                      -- how it trained (R322, R458)
  perst : Bool := true                       -- PERST_N asserted; low while nothing drives it (R455)
  bme : Bool := false                        -- Bus Master Enable
  mse : Bool := false                        -- Memory Space Enable
  barSet : Bool := false                     -- the host has assigned BAR0 (R434)
  bar0 : W64 := 0
  pcie : PcieRegs := {}
  d3hot : Bool := false                      -- power state: D3hot, else D0 (R322)
  scratch : W32 := 0
  intCause : BitVec 10 := 0
  intMask : BitVec 10 := BitVec.allOnes 10
  coCount : BitVec 8 := 0
  coTime : W16 := 0
  vec : List (BitVec 6) := (List.range 10).map (BitVec.ofNat 6)
  posted : Nat := 0                          -- completions and events since the last message
  firstHeld : Option Nat := none             -- time of the first of them, ns
  heldCauses : BitVec 10 := 0                -- causes whose message is held
  msixEnable : Bool := false
  msixMaskAll : Bool := false
  msixTable : Table W32 := []                -- 256 words, four a vector
  msixPba : W64 := 0
  rings : List Ring := List.replicate 4 {}
  erBaseLo : W32 := 0
  erBaseHi : W32 := 0
  erSize : BitVec 4 := 0
  erHead : BitVec 12 := 0
  erTail : BitVec 12 := 0
  erEnable : Bool := false
  erPhase : Bool := true
  classMask : BitVec 8 := 0xFF
  deriving DecidableEq, Repr, Inhabited

/-- An in-band command in the queue (R342): the request's header and the command's bytes. -/
structure InbandCmd where
  hdr : Header
  viaPort : Option Nat := none               -- before Identity, the port the request came by (R23)
  bytes : Bytes
  deriving DecidableEq, Repr, Inhabited

/-- An entry of the in-band reply cache (R343). -/
structure CachedReply where
  src : W16
  ttag : W16
  crc : W32
  status : W16
  payload : Bytes
  expiry : Nat
  deriving DecidableEq, Repr, Inhabited

/-- A wash in progress (R349). -/
structure Wash where
  src : CmdSrc
  ports : BitVec 96
  undrained : BitVec 96 := 0
  flushed : Nat := 0
  deadline : Nat
  deriving DecidableEq, Repr, Inhabited

/-- The policy fields (R352), each with its default. Lists are indexed as the field's index says. -/
structure Policy where
  fomGood : Nat := 160
  fomWarn : Nat := 120
  fomRetrain : Nat := 80
  heaterLo : List Nat := List.replicate 12 0
  heaterHi : List Nat := List.replicate 12 4095
  modBias : List Nat := List.replicate 12 32
  ctleLo : List Nat := List.replicate 12 0
  ctleHi : List Nat := List.replicate 12 30
  ffeLimit : List Nat := List.replicate 12 32
  dfeLimit : List Nat := List.replicate 12 16
  minWidth : List Nat := List.replicate 96 2
  probePeriod : List Nat := List.replicate 96 1000        -- ms
  grace : List Nat := List.replicate 96 1000              -- µs
  crunGap : List Nat := List.replicate 96 4
  ackTimeout : Nat := 4                                   -- µs
  vcWeight : List Nat := [0, 4, 4, 4, 0, 1, 2, 2]
  grant : List Nat := (List.replicate 96 [1280, 1280, 1280, 1280, 256, 256, 128, 128]).flatten
  escapeTimer : Nat := 2000                               -- ns
  holdTimeout : Nat := 50                                 -- µs
  stallVoid : Nat := 8                                    -- µs
  alphaK : List Int := [2, 1, 1, 1, 3, -1, 2, 2]
  wredMin : List Nat := [48, 32, 16]
  wredMax : List Nat := [64, 56, 48]
  wredPmax : List Nat := [16, 64, 128]
  wredW : Nat := 2
  rwLo : Nat := 4
  rwHi : Nat := 12
  parkCells : Nat := 65536
  inbandClasses : Nat := 0x7F
  pumpLo : Nat := 300                                     -- 0.1%
  pumpHi : Nat := 990
  fanLo : Nat := 200
  fanHi : Nat := 990
  coolTarget : Nat := 450                                 -- 0.1 °C
  airTarget : Nat := 400
  flowMin : Nat := 80                                     -- 0.1 L/min
  pumpTachMin : List Nat := [1200, 1200]
  fanTachMin : List Nat := List.replicate 8 500
  laserSet : List Nat := List.replicate 64 170            -- 0.1 dBm
  snapshotInterval : Nat := 300                           -- s
  railLimit : List Nat := List.replicate 32 120           -- %, 8 × POS + rail (R399)
  deriving DecidableEq, Repr, Inhabited

structure HostState where
  fnA : HostFn := {}
  fnB : HostFn := {}
  inband : List InbandCmd := []
  replyCache : List CachedReply := []        -- oldest first, at most 64
  washes : List Wash := []
  ctr : List W64 := List.replicate 8 0       -- R354
  deriving DecidableEq, Repr, Inhabited

/-! ### Start-up, boot and trust (14, 15, 16) -/

/-- A firmware or configuration image in a flash bank. -/
abbrev Image := Bytes

structure RetiredEntry where
  res : TestRes
  deriving DecidableEq, Repr, Inhabited

/-- How the secret section of a configuration bank is encrypted: its place, the nonce and the tag (R425). A length of 0: the
bank has none. -/
structure Seal where
  at_ : Nat := 0
  len : Nat := 0
  nonce : BitVec 96 := 0
  tag : BitVec 128 := 0
  deriving DecidableEq, Repr, Inhabited

/-- The flash (R457): what the device keeps through every reset and loss of power. -/
structure Flash where
  fwA : Image := []
  fwB : Image := []
  cfgA : Image := []
  cfgB : Image := []
  activeFw : Bool := false                   -- false A, true B
  activeCfg : Bool := false
  pendingFw : Bool := false                  -- the next chip reset boots the other bank (R429)
  pendingCfg : Bool := false
  raiseFw : Option W32 := none               -- raise_floor waits with this sec_version
  raiseCfg : Option W32 := none
  newFw : Bool := false                      -- the active bank was newly activated and has not reached easel_ready
  newCfg : Bool := false
  writtenFw : Bool := false                  -- the inactive bank holds an update that has not been activated (R428)
  writtenCfg : Bool := false
  attempts : Nat := 0                        -- consecutive boots without easel_ready (R430)
  fwFloor : W32 := 0                         -- R425
  cfgFloor : W32 := 0
  floorOk : Bool := true
  snapshots : List Bytes := []               -- state images, newest first, at most eight (R371)
  retired : List RetiredEntry := []          -- at most 4,096 (R416)
  certificate : Bytes := deviceCertificate Config.deviceSecret   -- R427
  floorTag : Bytes := floorTagOf Config.deviceSecret 0 0   -- the floor record's tag (R425)
  helper1 : Bytes := Config.helperData       -- the two copies of the helper data (R426)
  helper2 : Bytes := Config.helperData
  sealA : Seal := {}                         -- of the configuration banks' secret sections (R425)
  sealB : Seal := {}
  deriving DecidableEq, Repr, Inhabited

structure Boot where
  powered : Bool := true
  inReset : Bool := false
  resetLow : Bool := false                   -- RESET_N low
  railsLow : List CoreRail := []
  refclkLocked : Bool := true
  thermTrip : Bool := false                  -- THERM_TRIP_N asserted (R443)
  jtag : JtagInstr := .idcode
  jtagHolds : Bool := false                  -- pins under test control (R460)
  boundary : List Bool := List.replicate 100 false -- what the boundary-scan register drives (R459)
  boots : W32 := 1                           -- boots since power-up (R418)
  claimed : Bool := false                    -- has claimed the tray since power-up (R361)
  bootAt : Nat := 0                          -- when the firmware under trial began to boot, ns (R430)
  resetEnd : Nat := 0                        -- end of chip reset on the device's clock, ns
  strapsValid : Bool := false
  rootDone : Bool := false
  pcieUp : Bool := false
  hbmTrained : Bool := false
  fwAccepted : Bool := false
  cfgDone : Bool := false
  slotId : BitVec 4 := 0                     -- straps (R433)
  pos : BitVec 2 := 0
  role : BitVec 2 := 2
  bootSrc : BitVec 2 := 0
  secret : Option (BitVec 256) := none       -- key store (R426)
  identity : Bytes := List.replicate 48 0    -- device identity digest
  chipTag : W32 := 0
  bootAddrLo : W32 := 0                      -- boot registers (R327)
  bootAddrHi : W32 := 0
  bootLen : W32 := 0
  bootStatus : BitVec 2 := 0
  triedOther : Bool := false                 -- the ROM has turned to the other bank
  easelReady : Bool := false
  reached : Bool := false                    -- easel_ready has been set since reset
  fatal : Bool := false
  easelStopped : Bool := false               -- stopped until a chip reset (R409)
  restarting : Bool := false
  restartCause : BitVec 8 := 0               -- 1 memory, 2 watchdog (R419)
  lastRestart : Option Nat := none           -- last uncommanded restart, ns
  restarted : Bool := false                  -- restarted since reset (R428)
  fwVersion : W32 := 0
  fwDigest : Bytes := List.replicate 48 0
  fwSec : W32 := 0
  bootBank : BitVec 8 := 0
  configVersion : W32 := 0
  configDigest : Bytes := List.replicate 48 0
  configSec : W32 := 0
  config : Option ConfigContents := none
  pendingReset : Option (Bool × Nat) := none -- commanded reset (true: chip reset) and when it begins, ns (R441)
  upload : LoadArea := {}                    -- firmware upload area (R429)
  writing : Option (CmdSrc × Bool × Bool × Bool) := none  -- update being written: source, configuration image, activate, raise_floor
  deriving DecidableEq, Repr, Inhabited

inductive TestStage where
  | queued | running | copied
  deriving DecidableEq, Repr, Inhabited

structure Test where
  res : TestRes
  stage : TestStage := .queued
  commanded : Bool := false                  -- started by SELFTEST_RUN (R417)
  src : Option CmdSrc := none                -- the command that waits for the result; lost in an Easel restart
  bits : Nat := 0                            -- of a lane: received bits of idle flits, and those not zero (R411)
  flips : Nat := 0
  left : Nat := 0                            -- the port's `leftRunning` when a lane's test began
  began : Nat := 0                           -- ns
  deriving DecidableEq, Repr, Inhabited

/-- A flight record (R418). -/
structure FlightRec where
  seq : W64
  time : W64
  tick : W32
  boot : W32
  rtype : W16
  code : W16
  resource : W32
  address : W64
  detail : Bytes                             -- 20 bytes
  deriving DecidableEq, Repr, Inhabited

/-- Errors, self-test and retirement (14). -/
structure Health where
  tests : List Test := []                    -- at most 64 (R415)
  transients : List (TestRes × Nat) := []    -- transient verdicts and their times, ns (R414)
  retiredNow : List TestRes := []            -- retired since chip reset: lanes, rows and palettes
  listed : List TestRes := []                -- those of them that start-up took from the list in flash (R416)
  remapped : List TestRes := []              -- rows whose address a spare holds
  badSites : List ScrubSite := []            -- buffer cells and retry entries that read uncorrectable until written (R412)
  badWords : List Nat := []                  -- 32-byte words of the store that read uncorrectable until written (R412)
  badTables : List (Nat × Nat) := []         -- table (section type) and index found uncorrectable (R408)
  lostTables : List (Nat × Nat) := []        -- those of them whose copy is uncorrectable too
  memEventAt : Table Nat := []               -- by memory: last MEM_ERROR for corrected errors, ns (R419)
  memSince : Table Nat := []                 -- by memory: errors since the last event
  records : Table FlightRec := []            -- flight recorder, by record number mod ring size
  heldRecords : List FlightRec := []         -- records that wait for HBM training, oldest first
  recSeq : W64 := 0                          -- number of the newest record
  ctr : List W64 := List.replicate 16 0      -- R420
  deriving DecidableEq, Repr, Inhabited

/-! ### Tray control (12) -/

/-- States of ownership (R380), in the order of their codes, from 1. -/
inductive OwnState where
  | booting | claiming | active | standby | isolated | released | passive
  deriving DecidableEq, Repr, Inhabited

structure Twin where
  up : Bool := false
  lanes : Table Nat := []                    -- received lane numbers of the aligned lanes (R365)
  inverted : BitVec 4 := 0                   -- lanes received with inverted polarity
  skews : Table Int := []                    -- skew of each aligned lane, in code groups
  txRd : List Bool := List.replicate 4 false -- running disparity of each lane sent (true: positive)
  heard : Bool := false                      -- heartbeats arrive
  lastHeard : Nat := 0                       -- ns
  run : Nat := 0                             -- consecutive valid heartbeats while lost
  ownState : BitVec 8 := 1
  rank : BitVec 8 := 0
  diag : BitVec 8 := 0
  sync : Bool := false
  chipTag : W32 := 0
  epoch : W32 := 0
  pumpTach : W32 := 0
  flow : W32 := 0
  release : Option W16 := none               -- cause of the twin's last RELEASE (R366)
  lastBetter : Option Nat := none            -- last heartbeat from a better-ranked Claiming or Active twin, ns (R373)
  fseq : W16 := 0
  deriving DecidableEq, Repr, Inhabited

structure Tray where
  own : OwnState := .booting
  readyAt : Nat := 0                         -- easel_ready, ns (R373)
  drives : Bool := false                     -- drives CTRL_OWN_N
  lineLow : Bool := false                    -- CTRL_OWN_N as read
  outputs : Bool := false                    -- drives the tray outputs
  claimUntil : Option Nat := none            -- end of the 1 ms listening (R373)
  lineFault : Bool := false                  -- OWN_LINE_FAULT until chip reset (R379)
  coresDown : Bool := false                  -- control cores restarting (R376)
  failedCheck : Nat := 0                     -- the check of R375 that failed, until it passes again; 0: none
  sensorBad : List Nat := []                 -- I3C sensors that fail now (R375)
  noTakeUntil : Nat := 0                     -- after CONTROL_HANDOVER (R377)
  handover : Option (CmdSrc × W32 × Nat) := none  -- epoch awaited and deadline (R378)
  twin : Twin := {}
  -- cooling (R362, R364), duties in 0.1%
  pumpDuty : Nat := 0
  fanDuty : Nat := 0
  pumpDrive : List Nat := [0, 0]             -- duty of each pump: the loop's, or an alarm's and the way back from it
  pumpAlarm : BitVec 2 := 0
  flowAlarm : Bool := false
  coolantHot : Bool := false
  fanFault : BitVec 8 := 0
  flowLow : Nat := 0                         -- consecutive low samples
  flowNow : Nat := 0                         -- lower plausible reading
  coolOut : Int := 0
  pumpPinned : Pin := {}                     -- the bounds at which the loops stand
  fanPinned : Pin := {}
  alarmSeen : Table Nat := []                -- by alarm number: when its condition was last seen, ns
  -- I3C (R361) and tray modules
  addresses : Table (List (BitVec 7)) := []  -- by bus: dynamic addresses
  busesHeld : BitVec 4 := 0                  -- buses that this device controls
  assigns : Bool := false                    -- this claim assigns the dynamic addresses
  leds : Bool := false                       -- LED_N driven
  lamps : BitVec 4 := 0                      -- power, fault, controller and locate as driven (R359)
  lasers : List Nat := List.replicate 64 170 -- set points written to the laser sources
  modules : List Nat := List.replicate 32 120 -- rail limits written to the conversion modules (R399)
  -- state copy (R368 to R371)
  copyMode : BitVec 8 := 0
  cycleTicks : W32 := 250
  nextCopyMode : Option (BitVec 8) := none   -- TWIN_CONFIG, from the next control cycle (R381)
  nextCycle : Option W32 := none
  epoch : W32 := 0                           -- last epoch sent
  acked : Option W32 := none                 -- last epoch acknowledged
  unacked : Nat := 0                         -- cycles without STATE_ACK (R370)
  ackSeen : Bool := false                    -- a STATE_ACK has come in this cycle
  awaits : Bool := false                     -- an epoch sent waits for its STATE_ACK
  unsyncRaised : Bool := false
  sendDue : Bool := false                    -- an epoch is due within one control cycle (R371)
  committed : Option Bytes := none           -- last committed image
  committedEpoch : W32 := 0
  committedAt : Nat := 0                     -- ns
  freshCommit : Bool := false                -- committed since entering Standby (R383)
  cycleAt : Nat := 0                         -- start of the control cycle, ns
  snapAt : Nat := 0                          -- last snapshot, ns
  snapshot : Option Bytes := none            -- the flash snapshot loaded at boot (R371)
  policyAt : Nat := 0                        -- last change of tray policy, ns (R370)
  recvEpoch : Option W32 := none             -- receiving buffer
  recv : Memory := []
  recvCovered : List (Nat × Nat) := []
  newest : Option Bytes := none              -- newest image sent
  activated : Bool := false                  -- outputs set from an image since becoming active
  restore : Option Bytes := none             -- image being activated after a takeover (R382)
  plausBad : Nat := 0                        -- failing plausibility checks in a row (R375)
  -- rack manager (R384 to R386)
  rmSeq : Option W32 := none
  rmAt : Nat := 0                            -- last accepted message, ns
  rmSilent : Bool := false
  devSeq : W32 := 0
  policySeq : W32 := 0                       -- last RM_POLICY judged
  policyStatus : W16 := 0
  rackPolicy : Bytes := []                   -- the last rack policy
  ctr : List W64 := List.replicate 12 0      -- R389, from takeovers on
  deriving DecidableEq, Repr, Inhabited

/-! ### Power (13) -/

structure Power where
  commanded : Nat := 0                       -- R390
  ceiling : Nat := 0
  budgetTarget : Nat := 980                  -- W
  budget : Rat := 980                        -- in force, W (R392)
  alert : Bool := false                      -- PWR_ALERT_N asserted
  alertHold : Option Nat := none             -- end of the 1 ms hold, ns
  thermal : Nat := 0                         -- thermal request: 0, 1 or 2
  coolSince : Option Nat := none             -- tj_max below the return level since, ns
  overcurrent : Bool := false
  ocRails : List Nat := []                   -- rails whose RAIL_OVERCURRENT stands, oldest first
  railAmps : List Nat := List.replicate 6 0  -- currents last sampled, 0.1 A
  railHigh : List Nat := List.replicate 6 0  -- consecutive samples over 110%
  calmSince : Option Nat := none             -- all rails below 90% since, ns
  tripped : Bool := false                    -- THERM_TRIP holds P3 (R397)
  mode : Nat := 0                            -- mode in force
  tjMax : Int := 250                         -- 0.1 °C
  overMaxAt : Option Nat := none             -- last TJ_OVER_MAX, ns
  power : Nat := 0                           -- package power, mW
  theta : Nat := 64                          -- 1/64
  govTheta : Nat := 64                       -- what the power governor allows, 1/64 (R393)
  ballast : Rat := 0                         -- W
  ref : Rat := 0                             -- the slope governor's reference, W (R394)
  slope : Nat := 200                         -- W/ms
  protect : Bool := false                    -- a protective step lowered power in this interval
  protectCause : Nat := 0
  govPinned : Bool := false
  slopePinned : Pin := {}
  exceededAt : Option Nat := none            -- last SLOPE_EXCEEDED, ns
  history : List Rat := []                   -- references of the last 1 ms, newest first, W
  refSet : Bool := false                     -- the reference has been set to the measured power (R394, R436)
  ballastAcc : Rat := 0                      -- ballast energy not yet counted, mJ
  overMaxRun : Nat := 0                      -- samples above 105.0 °C not yet counted as a millisecond (R396)
  ctr : List W64 := List.replicate 12 0      -- R405
  deriving DecidableEq, Repr, Inhabited

/-! ### What the device sends out, and the whole state -/

/-- What leaves the device for the world outside it. -/
inductive Output where
  | slot (port : Nat) (lanes : List (Nat × List Level))    -- a slot: the levels on each physical lane of the set (R101, R102)
  | marker (port : Nat) (lane : Nat) (levels : List Level) -- an alignment marker (R104)
  | primer (port : Nat) (lane : Nat) (set : List CodeGroup) -- a primer set (R66, R67)
  | prbs (port : Nat) (lane : Nat) (start : BitVec 31) (inverted : Bool) -- PRBS31 from this generator state on (R84)
  | frame (port : Nat) (lane : Nat) (levels : List Level)  -- a report or ANNOUNCE frame (R85)
  | hostWrite (hp : HostPort) (addr : W64) (bytes : Bytes) -- a write to host memory (R333, R335)
  | msix (hp : HostPort) (vector : BitVec 6)               -- an interrupt message (R328)
  | twin (lanes : List (List CodeGroup))                   -- a twin link frame, lane by lane (R366)
  | twinIdle (lanes : List (List CodeGroup))               -- what every lane sends between frames (R366)
  | twinLaneSet (lane : Nat) (groups : List CodeGroup)     -- a lane set of the twin link (R365)
  | rack (source : Bytes × W16) (address : Bytes) (port : W16) (bytes : Bytes) -- a message to the rack manager (R384, R385)
  | laserSource (source : Nat) (power : Nat)               -- a laser set point over I3C (R46, R388)
  | railModule (index : Nat) (percent : Nat)               -- a current limit over I3C (R399)
  | tickOut (number : W32) (high : Rat)                    -- a TICK_OUT pulse and how long it is high, ns (R312)
  | tdo (bits : List Bool)                                 -- bits shifted out of the test access port (R459)
  deriving DecidableEq, Repr, Inhabited

/-- The whole device. `pending`, `now`, `free` and `out` are the model's own: the waiting commands, the clock in ns, the
counter that free values are drawn by, and what has been sent, newest first. -/
structure State where
  pending : List Instr := []
  now : Nat := 0
  free : Nat := 0
  out : List Output := []
  boot : Boot := {}
  flash : Flash := {}
  host : HostState := {}
  policy : Policy := {}
  lasers : List LaserInput := List.replicate 48 {}
  ports : List Port := List.replicate 96 {}
  switch : Switch := {}
  canvas : Canvas := {}
  streams : Streams := {}
  sketch : Sketch := {}
  tick : Tick := {}
  tray : Tray := {}
  power : Power := {}
  health : Health := {}
  deriving DecidableEq, Repr, Inhabited

/-- Right after chip reset is released (R434), every field at its default. -/
def State.reset : State := {}

/-- Faults. The device has no exception entry and no rule that stops it: nothing raises one. -/
inductive Fault where
  /-- Raised by nothing: kept so that the type has a name to show. Safe. -/
  | never
  deriving DecidableEq, Repr, Inhabited

/-- Refusals, all safe: the model stops where the device goes on. -/
inductive Refusal where
  /-- Raised by exec's arm of a command that has no meaning yet. Safe. -/
  | notModelled (mnemonic : String)
  /-- Raised by a command whose operand names a port, lane, ring, input or other unit that R38, R43 or R325 does not
  give the device: no such command exists. Safe. -/
  | noSuchUnit
  deriving DecidableEq, Repr, Inhabited

end Sys2Proof.Machine
end

