-- ==== Sys2Proof/WellFormed.lean ====
section
/-! DEFINITION. Well-formed commands: every unit that an operand names is one the device has: 96 ports of eight lanes
(R38), 12 engines, 48 laser inputs (R43), four command rings a port (R329), eight virtual channels (R27), 32 palettes,
two pumps and eight fans (R359), four twin lanes (R365), four I3C buses (R359), 256 rows in each of 2,048 SRAM banks (R417)
and 67,108,864 rows in each of four HBM stacks, 65,011,712 of them of the stream store and the next 1,048,576 of Easel memory
(R266). A command that is not well formed is refused by its meaning. -/

namespace Sys2Proof

def portOk (p : Nat) : Bool := decide (p < 96)
def laneOk (l : Nat) : Bool := decide (l < 8)

def CmdSrc.ok : CmdSrc → Bool
  | .ring _ r => decide (r < 4)
  | .inband => true

def TestRes.ok : TestRes → Bool
  | .lane p l => portOk p && laneOk l
  | .sramRow b r => decide (b < 2048) && decide (r < 256)
  | .hbmRow k r => decide (k < 4) && decide (r < 67108864)
  | .palette n => decide (n < 32)

def Alarm.ok : Alarm → Bool
  | .pump n => decide (n < 2)
  | .fan n => decide (n < 8)
  | .flow => true
  | .coolant => true

def ScrubSite.ok : ScrubSite → Bool
  | .retry p _ _ => portOk p
  | .hbm k r w => decide (k < 4) && (decide (r < 65011712) || decide (66060288 ≤ r ∧ r < 67108864)) && decide (w < 32)
  | .bufferCell _ _ => true
  | .canvasAcc _ _ _ => true
  | .canvasPiece _ _ _ _ _ => true
  | .staging _ => true
  | .table _ _ => true
  | .easel k r w _ => decide (k < 4) && decide (r < 1048576) && decide (w < 32)

/-- The fixed delay of TICK_IN lies within 2.0 to 5.0 ns (R454). -/
def EngineCal.tickInOk (c : EngineCal) : Bool := decide (20 ≤ c.tickIn ∧ c.tickIn ≤ 50)

/-- Every unit that the command names exists. -/
def Instr.wf : Instr → Bool
  | .powerOn => true
  | .powerLoss => true
  | .resetNAssert _ => true
  | .coreRailFall _ => true
  | .refclkLoss => true
  | .refclkLock => true
  | .chipResetRelease => true
  | .strapSample _ => true
  | .rootSecretComplete _ _ => true
  | .pcieStageComplete _ _ => true
  | .hbmTrainingComplete => true
  | .bootFetchStart _ => true
  | .firmwareVerified _ => true
  | .bootAttemptTimeout => true
  | .configVerified => true
  | .easelReady _ => true
  | .engineCalibrationComplete engine cal => decide (engine < 12) && cal.tickInOk
  | .perstAssert _ => true
  | .functionLevelReset _ => true
  | .busMasterEnableSet _ => true
  | .thermTrip _ _ => true
  | .easelWatchdogExpire _ => true
  | .easelMemoryUncorrectable stack row word _ _ => decide (stack < 4 ∧ row < 1048576 ∧ word < 32)
  | .easelRestartComplete => true
  | .identify src => src.ok
  | .getStatus src => src.ok
  | .sketchLoadBegin src => src.ok
  | .sketchLoadData src => src.ok
  | .sketchCommit src => src.ok
  | .commitChecksComplete => true
  | .sketchActivate => true
  | .planSwitch src => src.ok
  | .planSwitchTakeEffect => true
  | .portEnable src => src.ok
  | .portDisable src => src.ok
  | .portWash src => src.ok
  | .washPortDrained port => portOk port
  | .washTimeout src => src.ok
  | .portRetrain src => src.ok
  | .portRetrainQuiesceEnd port => portOk port
  | .portInfo src => src.ok
  | .groupDefine src => src.ok
  | .groupDelete src => src.ok
  | .portsetDefine src => src.ok
  | .routeWrite src => src.ok
  | .writeSegment src => src.ok
  | .writeStream src => src.ok
  | .sealSegment src => src.ok
  | .sealCheckComplete _ _ => true
  | .reopenSegment src => src.ok
  | .rewindStream src => src.ok
  | .writeList src => src.ok
  | .syncArm src => src.ok
  | .policySet src => src.ok
  | .powerModeSet src => src.ok
  | .slopeLimitSet src => src.ok
  | .flagsReadClear src => src.ok
  | .countersRead src => src.ok
  | .twinConfig src => src.ok
  | .controlHandover src => src.ok
  | .handoverAckTimeout => true
  | .fwUpdateBegin src => src.ok
  | .fwUpdateData src => src.ok
  | .fwUpdateCommit src => src.ok
  | .fwUpdateWriteComplete => true
  | .attest src => src.ok
  | .selftestRun src => src.ok
  | .chipResetChip src => src.ok
  | .chipResetEasel src => src.ok
  | .chipResetDelayEnd => true
  | .doorbellWrite _ r _ => decide (r < 4)
  | .ringEntryFetch _ r _ => decide (r < 4)
  | .completionPost _ r _ => decide (r < 4)
  | .cqHeadWrite _ r _ => decide (r < 4)
  | .ringEnableWrite _ r _ => decide (r < 4)
  | .ringReset _ r => decide (r < 4)
  | .eventRingEnableWrite _ _ => true
  | .eventRingReset _ => true
  | .erHeadWrite _ _ => true
  | .intCauseClear _ _ _ => true
  | .intMaskWrite _ _ => true
  | .interruptCoalesceExpire _ => true
  | .bar0BadAccess _ _ _ _ => true
  | .registerWrite _ _ => true
  | .laserMonitorSample input _ _ => decide (input < 48)
  | .attenuatorRelease input => decide (input < 48)
  | .modulatorLockUpdate port lane _ => portOk port && laneOk lane
  | .dropLockUpdate port lane _ => portOk port && laneOk lane
  | .ringLockLoss port lane _ => portOk port && laneOk lane
  | .transitionBlockEnd port lane _ => portOk port && laneOk lane
  | .lossOfSignalAssert port lane => portOk port && laneOk lane
  | .lossOfSignalDeassert port lane => portOk port && laneOk lane
  | .lossOfLockAssert port lane => portOk port && laneOk lane
  | .lossOfLockDeassert port lane => portOk port && laneOk lane
  | .fomWindowEnd port _ => portOk port
  | .pairCrossed port _ => portOk port
  | .miswiredProbeStart port => portOk port
  | .probeStart port => portOk port
  | .probeExpire port => portOk port
  | .attemptExpire port => portOk port
  | .identSetReceived port lane _ => portOk port && laneOk lane
  | .timeSetReceived port lane _ _ => portOk port && laneOk lane
  | .stepSetReceived port lane _ => portOk port && laneOk lane
  | .rateStep port => portOk port
  | .acquisitionEnd port => portOk port
  | .selftestWindowEnd port => portOk port
  | .reportFrameReceived port lane _ _ => portOk port && laneOk lane
  | .reportPhaseEnd port => portOk port
  | .reportTimeout port => portOk port
  | .slotStreamFramed port _ => portOk port
  | .resumeTimeout port => portOk port
  | .announceReceived port lane _ => portOk port && laneOk lane
  | .retestSelftestStart port => portOk port
  | .slotBoundary port _ _ => portOk port
  | .slotReceived port _ _ => portOk port
  | .alignmentMarkerReceived port lane _ _ => portOk port && laneOk lane
  | .ackTimeout port _ => portOk port
  | .retryRequestRepeat port _ => portOk port
  | .creditRelease _ => true
  | .graceExpire port => portOk port
  | .lookup port _ _ => portOk port
  | .escapeTimerExpire _ => true
  | .queueDepthSample => true
  | .routeWeightUpdate => true
  | .holdTimeout _ => true
  | .holdOwedEnd _ => true
  | .holdEntryIdle _ => true
  | .stallVoidExpire port vc => portOk port && decide (vc < 8)
  | .originatedPacketWrite _ => true
  | .terminatedDiscard _ => true
  | .segmentPut _ => true
  | .segmentPutVisible _ => true
  | .streamSubscribe _ => true
  | .streamCancel _ => true
  | .syncArrive _ => true
  | .telemetryGet _ => true
  | .cmd _ => true
  | .reduceContrib _ _ => true
  | .combineContrib _ _ => true
  | .reduceResultReceived _ => true
  | .deferredPartAccept _ _ => true
  | .schedSlotOpenResume _ _ => true
  | .openingRateResume _ _ => true
  | .opTimeout _ => true
  | .upTimeout _ => true
  | .doneCacheExpire _ => true
  | .refusalCacheExpire _ => true
  | .tickStart => true
  | .tileReadStart _ => true
  | .tileReadComplete _ _ _ => true
  | .tickInEdge _ => true
  | .tickInMissing => true
  | .tickPortLost => true
  | .coolingLoopUpdate _ _ _ => true
  | .pumpAlarm n _ => decide (n < 2)
  | .flowSample _ _ => true
  | .coolantHot _ => true
  | .fanFault n _ => decide (n < 8)
  | .coolingAlarmEnd alarm _ => alarm.ok
  | .twinLaneTrained lane _ _ => decide (lane < 4)
  | .twinLinkDown lane => decide (lane < 4)
  | .heartbeatSend _ _ _ _ => true
  | .heartbeatReceived _ => true
  | .twinFrameCrcFail _ => true
  | .heartbeatLost => true
  | .stateDataReceived _ => true
  | .stateEndReceived _ => true
  | .stateAckReceived _ => true
  | .stateRequestReceived _ => true
  | .releaseReceived _ => true
  | .controlCycleEnd => true
  | .snapshotInterval => true
  | .claim => true
  | .claimListenEnd => true
  | .claimingLineLow => true
  | .lockstepMismatch => true
  | .controlWatchdogExpire => true
  | .controlMemoryFault => true
  | .plausibilityCheck _ _ _ _ => true
  | .takeover => true
  | .ownLineFault => true
  | .coreRestartComplete => true
  | .i3cBusTake bus _ => decide (bus < 4)
  | .rmHeartbeat _ => true
  | .rmPolicy _ => true
  | .devHeartbeat => true
  | .devTelemetry => true
  | .rmLost => true
  | .pwrAlertAssert => true
  | .pwrAlertRelease => true
  | .alertHoldEnd => true
  | .powerGovernorUpdate _ _ => true
  | .slopeGovernorUpdate _ => true
  | .thermalSample _ => true
  | .railCurrentSample _ => true
  | .overcurrentLift => true
  | .patrolScrub site _ => site.ok
  | .tableRestore _ _ _ => true
  | .selftestStart res => res.ok
  | .laneTestComplete port lane => portOk port && laneOk lane
  | .rowCopyComplete res => res.ok
  | .rowTestComplete res _ _ => res.ok
  | .paletteTestComplete palette _ _ _ => decide (palette < 32)
  | .jtagInstructionUpdate _ _ => true
  | .jtagTestLogicReset => true
  | .replyCacheExpire _ _ _ => true
  | .perstRelease _ _ => true
  | .imageActivated => true
end Sys2Proof
end

