-- ==== Sys2Proof/Machine/Ops.lean ====
section
/-! DEFINITION. Named operations over the state: tables, byte memories, little-endian fields, parts of the state by their
unit, counters, interrupts, event rings and the flight recorder. Every meaning is written with these. -/

namespace Sys2Proof.Machine

/-- The outcome of a command. -/
abbrev Res := Host.Outcome State Fault Refusal

/-- A command whose operands name units the device has acts as `f`; one that does not is no command of this device. -/
def onUnit (ok : Bool) (f : State → State) (s : State) : Res :=
  if ok then .next (f s) else .refused .noSuchUnit

/-- `f` where `b` holds, nothing otherwise. -/
def when (b : Bool) (f : State → State) (s : State) : State := if b then f s else s

/-! ### Tables and memories -/

def tget {α : Type} : Table α → Nat → Option α
  | [], _ => none
  | (k, v) :: t, i => if k = i then some v else tget t i

def tset {α : Type} : Table α → Nat → α → Table α
  | [], i, v => [(i, v)]
  | (k, w) :: t, i, v =>
    if i < k then (i, v) :: (k, w) :: t else if i = k then (k, v) :: t else (k, w) :: tset t i v

def tdel {α : Type} (t : Table α) (i : Nat) : Table α := t.filter (fun e => e.1 != i)

def tgetD {α : Type} (t : Table α) (i : Nat) (d : α) : α := (tget t i).getD d

/-- Change an entry that exists. -/
def tmod {α : Type} (t : Table α) (i : Nat) (f : α → α) : Table α :=
  t.map (fun e => if e.1 = i then (e.1, f e.2) else e)

/-- Indices strictly rising. -/
def Table.wf {α : Type} : Table α → Bool
  | [] => true
  | [_] => true
  | (a, _) :: (b, y) :: t => decide (a < b) && Table.wf ((b, y) :: t)

/-- The byte at an address: 0x00 where none is listed (assumption log 4). -/
def mread (m : Memory) (a : Nat) : Byte := (tget m a).getD 0

/-- Write a byte, keeping the canonical form: a byte of 0x00 is not listed. -/
def mput (m : Memory) (a : Nat) (b : Byte) : Memory := if b = 0 then tdel m a else tset m a b

def mwrite : Memory → Nat → Bytes → Memory
  | m, _, [] => m
  | m, a, b :: bs => mwrite (mput m a b) (a + 1) bs

def mreadN (m : Memory) (a n : Nat) : Bytes := (List.range n).map (fun i => mread m (a + i))

/-- The canonical form: addresses strictly rising and no listed byte 0x00. -/
def Memory.wf (m : Memory) : Bool := Table.wf m && m.all (fun c => c.2 != 0)

/-- Add the range [lo, hi) to rising, disjoint ranges. -/
def addRange (lo hi : Nat) (l : List (Nat × Nat)) : List (Nat × Nat) :=
  let touch := l.filter (fun r => r.1 ≤ hi && lo ≤ r.2)
  let a := touch.foldl (fun m r => min m r.1) lo
  let b := touch.foldl (fun m r => max m r.2) hi
  l.filter (fun r => r.2 < a) ++ [(a, b)] ++ l.filter (fun r => b < r.1)

/-! ### Little-endian fields (R9) -/

/-- `n` bits of `x` from bit `lo`. -/
def bitsOf (x lo n : Nat) : Nat := x / 2 ^ lo % 2 ^ n

def bitOf (x i : Nat) : Bool := x / 2 ^ i % 2 = 1

def allZero (b : Bytes) : Bool := b.all (fun x => x == 0)

def boolNat (b : Bool) : Nat := if b then 1 else 0

/-- A signed field of `n` bits as an integer. -/
def signedOf (n x : Nat) : Int := if x < 2 ^ (n - 1) then x else (x : Int) - 2 ^ n

/-- An integer as a field of `n` bits. -/
def wrapInt (n : Nat) (x : Int) : Nat := (x % (2 ^ n : Int)).toNat

def clampInt (lo hi x : Int) : Int := max lo (min hi x)

def w32 (n : Nat) : W32 := BitVec.ofNat 32 n
def w16 (n : Nat) : W16 := BitVec.ofNat 16 n
def w64 (n : Nat) : W64 := BitVec.ofNat 64 n

/-- Members of a mask, in increasing order. -/
def maskList (n m : Nat) : List Nat := (List.range n).filter (fun i => bitOf m i)

def maskOf (l : List Nat) : Nat := l.foldl (fun m i => m ||| 2 ^ i) 0

def popCount (n m : Nat) : Nat := (maskList n m).length

def nth {α : Type} [Inhabited α] (l : List α) (i : Nat) : α := l.getD i default

/-! ### Parts of the state -/

def portOf (s : State) (p : Nat) : Port := s.ports.getD p {}

def updPort (p : Nat) (f : Port → Port) (s : State) : State := { s with ports := s.ports.modify p f }

def laneOf (s : State) (p l : Nat) : Lane := (portOf s p).lanes.getD l {}

def updLane (p l : Nat) (f : Lane → Lane) (s : State) : State :=
  updPort p (fun q => { q with lanes := q.lanes.modify l f }) s

def updLink (p : Nat) (f : Link → Link) (s : State) : State := updPort p (fun q => { q with link := f q.link }) s

def fnOf (s : State) : HostPort → HostFn
  | .a => s.host.fnA
  | .b => s.host.fnB

def updFn (hp : HostPort) (f : HostFn → HostFn) (s : State) : State :=
  match hp with
  | .a => { s with host := { s.host with fnA := f s.host.fnA } }
  | .b => { s with host := { s.host with fnB := f s.host.fnB } }

def ringOf (s : State) (hp : HostPort) (r : Nat) : Ring := (fnOf s hp).rings.getD r {}

def updRing (hp : HostPort) (r : Nat) (f : Ring → Ring) (s : State) : State :=
  updFn hp (fun x => { x with rings := x.rings.modify r f }) s

def updBoot (f : Boot → Boot) (s : State) : State := { s with boot := f s.boot }
def updFlash (f : Flash → Flash) (s : State) : State := { s with flash := f s.flash }
def updHost (f : HostState → HostState) (s : State) : State := { s with host := f s.host }
def updSwitch (f : Switch → Switch) (s : State) : State := { s with switch := f s.switch }
def updCanvas (f : Canvas → Canvas) (s : State) : State := { s with canvas := f s.canvas }
def updStreams (f : Streams → Streams) (s : State) : State := { s with streams := f s.streams }
def updSketch (f : Sketch → Sketch) (s : State) : State := { s with sketch := f s.sketch }
def updTick (f : Tick → Tick) (s : State) : State := { s with tick := f s.tick }
def updTray (f : Tray → Tray) (s : State) : State := { s with tray := f s.tray }
def updTwin (f : Twin → Twin) (s : State) : State := updTray (fun t => { t with twin := f t.twin }) s
def updPower (f : Power → Power) (s : State) : State := { s with power := f s.power }
def updHealth (f : Health → Health) (s : State) : State := { s with health := f s.health }

/-- Send something out of the device. -/
def emit (o : Output) (s : State) : State := { s with out := o :: s.out }

/-- Draw a fresh free value and go on with it. -/
def withFree (f : Nat → State → State) (s : State) : State := f (Config.freeNat s.free) { s with free := s.free + 1 }

/-- A fold of state changes over a list, in order. -/
def forEach {α : Type} (l : List α) (f : α → State → State) (s : State) : State := l.foldl (fun t a => f a t) s

/-! ### Counters (64 bits, wrapping) -/

def bump (i n : Nat) (l : List W64) : List W64 := l.modify i (fun x => x + BitVec.ofNat 64 n)

/-- Link counters of port `p` (R134), numbered by offset ÷ 8, as are the blocks below. -/
def linkCount (p i n : Nat) (s : State) : State := updPort p (fun q => { q with ctr := bump i n q.ctr }) s
/-- Packet counters (R161). -/
def pktCount (i n : Nat) (s : State) : State := updSwitch (fun w => { w with pkt := bump i n w.pkt }) s
/-- Switch counters (R203). -/
def swCount (i n : Nat) (s : State) : State := updSwitch (fun w => { w with ctr := bump i n w.ctr }) s
/-- Canvas counters (R243). -/
def canvasCount (i n : Nat) (s : State) : State := updCanvas (fun c => { c with ctr := bump i n c.ctr }) s
/-- Stream counters (R291). -/
def streamCount (i n : Nat) (s : State) : State := updStreams (fun c => { c with ctr := bump i n c.ctr }) s
/-- Sketch and tick counters (R321). -/
def sketchCount (i n : Nat) (s : State) : State := updSketch (fun c => { c with ctr := bump i n c.ctr }) s
/-- Host counters (R354). -/
def hostCount (i n : Nat) (s : State) : State := updHost (fun c => { c with ctr := bump i n c.ctr }) s
/-- Tray counters (R389). -/
def trayCount (i n : Nat) (s : State) : State := updTray (fun c => { c with ctr := bump i n c.ctr }) s
/-- Power counters (R405). -/
def powerCount (i n : Nat) (s : State) : State := updPower (fun c => { c with ctr := bump i n c.ctr }) s
/-- Health counters (R420). -/
def healthCount (i n : Nat) (s : State) : State := updHealth (fun c => { c with ctr := bump i n c.ctr }) s

/-! ### Interrupts (R328) -/

/-- The function may send requests of its own: Bus Master Enable is set and it is in D0 (R322, R323; assumption log 122). -/
def masters (f : HostFn) : Bool := f.bme && !f.d3hot

/-- A vector's entry is masked: by the function or by bit 0 of its vector control word. -/
def vectorMasked (f : HostFn) (v : Nat) : Bool := f.msixMaskAll || bitOf (tgetD f.msixTable (4 * v + 3) 1).toNat 0

/-- An MSI-X message on vector `v`: sent, or pending while masked or without bus mastering; none without MSI-X (R322). -/
def sendVector (hp : HostPort) (v : BitVec 6) (s : State) : State :=
  let f := fnOf s hp
  if !f.msixEnable then s
  else if vectorMasked f v.toNat || !masters f || !f.linkUp then
    updFn hp (fun x => { x with msixPba := x.msixPba ||| (1 : W64) <<< v.toNat }) s
  else emit (.msix hp v) (updFn hp (fun x => { x with msixPba := x.msixPba &&& ~~~((1 : W64) <<< v.toNat) }) s)

def sendCause (hp : HostPort) (i : Nat) (s : State) : State := sendVector hp ((fnOf s hp).vec.getD i 0) s

/-- The held messages may go: every one is due with `co_count` 0, enough were posted, or `co_time` has passed. -/
def coalesceDue (f : HostFn) (now : Nat) : Bool :=
  f.coCount == 0 || decide (f.coCount.toNat ≤ f.posted) ||
  (f.coTime != 0 && (match f.firstHeld with
    | none => false
    | some t => decide (t + 1000 * f.coTime.toNat ≤ now)))

def releaseHeld (hp : HostPort) (s : State) : State :=
  let f := fnOf s hp
  if f.heldCauses = 0 || !coalesceDue f s.now then s
  else forEach (maskList 5 f.heldCauses.toNat) (sendCause hp)
    (updFn hp (fun x => { x with heldCauses := 0, posted := 0, firstHeld := none }) s)

/-- Set cause bit `i`: on a change from 0 to 1 while unmasked a message is sent, or held for causes 0 to 4. -/
def setCause (hp : HostPort) (i : Nat) (s : State) : State :=
  let f := fnOf s hp
  if f.intCause.getLsbD i then s
  else
    let s := updFn hp (fun x => { x with intCause := x.intCause ||| (1 : BitVec 10) <<< i }) s
    if f.intMask.getLsbD i then s
    else if i ≤ 4 then releaseHeld hp (updFn hp (fun x => { x with heldCauses := x.heldCauses ||| (1 : BitVec 10) <<< i }) s)
    else sendCause hp i s

/-- A completion or an event has been posted: it counts toward `co_count` and starts `co_time`. -/
def notePosted (hp : HostPort) (s : State) : State :=
  updFn hp (fun x => { x with posted := x.posted + 1, firstHeld := some (x.firstHeld.getD s.now) }) s

def setCauseBoth (i : Nat) (s : State) : State := setCause .b i (setCause .a i s)

/-! ### Flight recorder (R418) and events (R334 to R337) -/

/-- Time since the end of chip reset, ns. -/
def sinceReset (s : State) : Nat := s.now - s.boot.resetEnd

/-- Records in the flight-recorder ring (R418). -/
def recorderSize : Nat := 58720256

def putRecord (r : FlightRec) (s : State) : State :=
  updHealth (fun h => { h with
    recSeq := h.recSeq + 1
    records := tset h.records ((h.recSeq + 1).toNat % recorderSize) { r with seq := h.recSeq + 1 } }) s

/-- Append a record; before HBM training it waits (assumption log 12). -/
def record (rtype code resource address : Nat) (detail : Bytes) (s : State) : State :=
  let r : FlightRec := {
    seq := 0, time := w64 (sinceReset s), tick := s.tick.number, boot := s.boot.boots, rtype := w16 rtype
    code := w16 code, resource := w32 resource, address := w64 address, detail := padTo 20 detail }
  if s.boot.hbmTrained then putRecord r s
  else updHealth (fun h => { h with heldRecords := h.heldRecords ++ [r] }) s

/-- The class of an event code (R337, R387, R404, R419). -/
def eventClass (code : Nat) : Nat :=
  if code < 0x10 then 0 else if code < 0x18 then 1 else if code < 0x20 then 2 else if code < 0x28 then 3
  else if code < 0x100 then 4 else if code < 0x120 then 5 else if code < 0x140 then 6 else 7

/-- An event record but for its `phase` (R335). -/
def eventRecord (s : State) (code source : Nat) (data : Bytes) (ended : Bool) : Bytes :=
  leBytes 2 code ++ leBytes 2 source ++ leBytes 4 s.tick.number.toNat ++ leBytes 8 (sinceReset s) ++ padTo 14 data ++
    [BitVec.ofNat 8 (boolNat ended)]

def ringAddr (lo hi : W32) (size idx : Nat) : W64 := w64 (lo.toNat + 2 ^ 32 * hi.toNat + size * idx)

/-- Write an event to the event ring of one port, or drop and count it when the ring has no empty entry (R336) or Bus
Master Enable is clear (R323). -/
def eventTo (code : Nat) (ev : Bytes) (hp : HostPort) (s : State) : State :=
  let f := fnOf s hp
  if !(f.erEnable && f.classMask.getLsbD (eventClass code)) then s
  else
    let size := 2 ^ f.erSize.toNat
    if !masters f || (f.erTail.toNat + 1) % size = f.erHead.toNat then setCause hp 5 (hostCount 6 1 s)
    else
      let t := (f.erTail.toNat + 1) % size
      let s := emit (.hostWrite hp (ringAddr f.erBaseLo f.erBaseHi 32 f.erTail.toNat)
        (ev ++ [BitVec.ofNat 8 (boolNat f.erPhase)])) s
      let s := updFn hp (fun x => { x with erTail := BitVec.ofNat 12 t, erPhase := if t = 0 then !x.erPhase else x.erPhase }) s
      releaseHeld hp (setCause hp 4 (notePosted hp s))

/-- Raise an event: to both ports' event rings and the flight recorder. -/
def raiseWith (code source : Nat) (data : Bytes) (ended : Bool) (s : State) : State :=
  let ev := eventRecord s code source data ended
  record 1 code source 0 data (eventTo code ev .b (eventTo code ev .a s))

def raise (code source : Nat) (data : Bytes) (s : State) : State := raiseWith code source data false s

/-- `LOOP_PINNED` (R1): loop number, its source and the bound it has reached. -/
def raisePinned (loop source : Nat) (upper : Bool) (s : State) : State :=
  raise 0x0018 source [BitVec.ofNat 8 loop, BitVec.ofNat 8 (boolNat upper)] s

/-- A loop stands at a bound. -/
def pinHeld (p : Pin) : Bool := p.lo || p.hi

/-- A loop whose marks were `old` stands at the bounds of `new`: each bound that it newly reaches raises LOOP_PINNED (R1). -/
def raiseReached (loop source : Nat) (old new : Pin) (s : State) : State :=
  when (new.hi && !old.hi) (raisePinned loop source true) (when (new.lo && !old.lo) (raisePinned loop source false) s)

/-! ### Identity of the device -/

/-- Some sketch with Identity is in force (R23). -/
def hasIdentity (s : State) : Bool := s.sketch.epValid

/-- `tick` comparison of R35: `t` is later than `u`. -/
def laterTick (t u : W32) : Bool := decide (1 ≤ (t - u).toNat ∧ (t - u).toNat ≤ 0x7FFFFFFF)

/-- The Canvas and the stream store work (R3: idle in P2, paused in P3). -/
def engineRuns (s : State) : Bool := decide (s.power.mode ≤ 1)

def roleOf (s : State) (p : Nat) : PortRole := s.sketch.roles.getD p {}

/-- A table entry is uncorrectable and not yet rewritten: it acts as an entry with `valid` 0 (R408). Tables have the section
types of R295; the synchronisation objects have 0. -/
def badEntry (s : State) (tbl i : Nat) : Bool := s.health.badTables.any (fun e => e.1 = tbl && e.2 = i)

/-- A table as checks see it (R408): without its uncorrectable entries. -/
def live {α : Type} (s : State) (tbl : Nat) (t : Table α) : Table α := t.filter (fun e => !badEntry s tbl e.1)

/-- A write of an entry makes it good again. -/
def entryWritten (tbl i : Nat) (s : State) : State :=
  updHealth (fun h => { h with badTables := h.badTables.filter (fun e => !(e.1 = tbl && e.2 = i))
                               lostTables := h.lostTables.filter (fun e => !(e.1 = tbl && e.2 = i)) }) s

/-- The tick period in force, ns: 4 µs without Tick settings (R310). -/
def periodOf (s : State) : Nat := (s.sketch.tickSet.map (·.period)).getD 4000

/-- One nanosecond passes: what `step` does on an empty queue (assumption log 2). The Canvas clock of R219 stands still in
P2 and P3. -/
def passTime (s : State) : State :=
  { s with now := s.now + 1, canvas := { s.canvas with clock := s.canvas.clock + boolNat (engineRuns s) } }

end Sys2Proof.Machine
end

