-- ==== Sys2Proof/Machine/Codec.lean ====
section
/-! DEFINITION. The codes of the line: checks of R68, R110, R112 and R138, bits and ten-bit symbols (R107), the scrambler
(R106), RS(544,514) over GF(2^10) (R108), type symbols and alignment markers (R103, R104). -/

namespace Sys2Proof.Machine

/-! ### Cyclic checks -/

/-- One bit of CRC-8, polynomial 0x07, most significant bit first. -/
def crc8Bit (c : BitVec 8) : BitVec 8 := if c.msb then (c <<< 1) ^^^ 0x07 else c <<< 1

def iter {α : Type} : Nat → (α → α) → α → α
  | 0, _, x => x
  | n + 1, f, x => iter n f (f x)

/-- CRC-8 of R110: initial value 0. -/
def crc8 (b : Bytes) : BitVec 8 := b.foldl (fun c x => iter 8 crc8Bit (c ^^^ x)) 0

def crc16Bit (c : BitVec 16) : BitVec 16 := if c.msb then (c <<< 1) ^^^ 0x1021 else c <<< 1

/-- CRC-16 of R138 and R112: polynomial 0x1021, initial value 0xFFFF, not reflected, no final XOR. -/
def crc16 (b : Bytes) : BitVec 16 := b.foldl (fun c x => iter 8 crc16Bit (c ^^^ ((x.setWidth 16 : BitVec 16) <<< (8 : Nat)))) 0xFFFF

/-- One bit of the reflected CRC-32; 0xEDB8_8320 is 0x04C1_1DB7 reversed. -/
def crc32Bit (c : W32) : W32 := if c.getLsbD 0 then (c >>> 1) ^^^ 0xEDB88320 else c >>> 1

def crc32Step (c : W32) (x : Byte) : W32 := iter 8 crc32Bit (c ^^^ (x.setWidth 32 : W32))

/-- CRC-32 of R68. -/
def crc32 (b : Bytes) : W32 := ~~~ (b.foldl crc32Step 0xFFFFFFFF)

/-! ### Bits and symbols -/

/-- The `n` low bits, bit 0 first. -/
def toBits (n x : Nat) : List Bool := (List.range n).map (fun i => bitOf x i)

def ofBits : List Bool → Nat
  | [] => 0
  | b :: bs => boolNat b + 2 * ofBits bs

/-- Pieces of `k` elements; `fuel` bounds their number. -/
def chunks {α : Type} (k : Nat) : Nat → List α → List (List α)
  | 0, _ => []
  | _, [] => []
  | fuel + 1, l => l.take k :: chunks k fuel (l.drop k)

/-- Bytes packed into `n` ten-bit symbols: bit `j` of byte `b` is bit 8b + j of the string (R107). -/
def packSymbols (n : Nat) (b : Bytes) : List Sym :=
  (chunks 10 n (b.flatMap (fun x => toBits 8 x.toNat))).map (fun l => BitVec.ofNat 10 (ofBits l))

def unpackBytes (n : Nat) (l : List Sym) : Bytes :=
  (chunks 8 n (l.flatMap (fun x => toBits 10 x.toNat))).map (fun l => BitVec.ofNat 8 (ofBits l))

/-! ### The scrambler (R106): x^31 + x^28 + 1, output the feedback bit (assumption log 13) -/

def scrStep (r : BitVec 31) : BitVec 31 × Bool :=
  let o := r.getLsbD 30 != r.getLsbD 27
  ((r <<< 1) ||| BitVec.ofNat 31 (boolNat o), o)

/-- Ten successive outputs as a mask, bit 0 first. -/
def scrSymbol (r : BitVec 31) : BitVec 31 × Sym :=
  (List.range 10).foldl (fun a i => ((scrStep a.1).1, a.2 ||| (BitVec.ofNat 10 (boolNat (scrStep a.1).2) <<< i))) (r, 0)

def scramble : BitVec 31 → List Sym → BitVec 31 × List Sym
  | r, [] => (r, [])
  | r, x :: xs =>
    let t := scramble (scrSymbol r).1 xs
    (t.1, (x ^^^ (scrSymbol r).2) :: t.2)

/-! ### GF(2^10) with x^10 + x^3 + 1 (R108) -/

def gfTimes2 (a : BitVec 10) : BitVec 10 := if a.msb then (a <<< 1) ^^^ 9 else a <<< 1

def gfMulAux : Nat → BitVec 10 → BitVec 10 → BitVec 10
  | 0, _, _ => 0
  | n + 1, a, b => (if b.getLsbD 0 then a else 0) ^^^ gfMulAux n (gfTimes2 a) (b >>> 1)

def gfMul (a b : BitVec 10) : BitVec 10 := gfMulAux 10 a b

/-- α^n. -/
def gfExp (n : Nat) : BitVec 10 := iter n gfTimes2 1

def gfSquare (a : BitVec 10) : BitVec 10 := gfMul a a

/-- a^1022, the inverse of a nonzero a: 1022 is 2 + 4 + … + 512. -/
def gfInv (a : BitVec 10) : BitVec 10 :=
  ((List.range 9).foldl (fun p _ => (gfSquare p.1, gfMul p.2 (gfSquare p.1))) (a, 1)).2

/-- Polynomials as coefficient lists, lowest degree first. -/
abbrev GPoly := List (BitVec 10)

def gpAdd : GPoly → GPoly → GPoly
  | [], b => b
  | a, [] => a
  | x :: a, y :: b => (x ^^^ y) :: gpAdd a b

def gpScale (c : BitVec 10) (p : GPoly) : GPoly := p.map (gfMul c)

def gpShift (n : Nat) (p : GPoly) : GPoly := List.replicate n 0 ++ p

def gpMul : GPoly → GPoly → GPoly
  | [], _ => []
  | x :: a, b => gpAdd (gpScale x b) (0 :: gpMul a b)

def gpEval (p : GPoly) (x : BitVec 10) : BitVec 10 := p.foldr (fun c a => c ^^^ gfMul a x) 0

/-- The generator polynomial: the product of (x − α^i) for i = 0 to 29 (R108). -/
def rsGenerator : GPoly := (List.range 30).foldl (fun g i => gpMul [gfExp i, 1] g) [1]

/-- The 30 parity symbols of a message, highest degree first: the remainder of message × x^30. -/
def rsParity (msg : List Sym) : List Sym :=
  let g := (rsGenerator.take 30).reverse
  msg.foldl (fun r m =>
    let fb := m ^^^ r.headD 0
    List.zipWith (· ^^^ ·) (r.drop 1 ++ [0]) (gpScale fb g)) (List.replicate 30 0)

/-- A codeword: message position 0 is the coefficient of highest degree. -/
def rsEncode (msg : List Sym) : List Sym := msg ++ rsParity msg

/-- The 30 syndromes of a received word. -/
def rsSyndromes (w : List Sym) : List Sym :=
  (List.range 30).map (fun i => let x := gfExp i; w.foldl (fun a c => gfMul a x ^^^ c) 0)

/-- Berlekamp and Massey: connection polynomial, previous one, length, shift, previous discrepancy. -/
structure BM where
  c : GPoly
  b : GPoly
  l : Nat
  m : Nat
  d : BitVec 10

def bmStep (syn : List Sym) (n : Nat) (s : BM) : BM :=
  let d := (List.range (s.l + 1)).foldl (fun a i => a ^^^ gfMul (s.c.getD i 0) (syn.getD (n - i) 0)) 0
  if d = 0 then { s with m := s.m + 1 }
  else
    let c := gpAdd s.c (gpShift s.m (gpScale (gfMul d (gfInv s.d)) s.b))
    if 2 * s.l ≤ n then { c := c, b := s.c, l := n + 1 - s.l, m := 1, d := d }
    else { s with c := c, m := s.m + 1 }

def bmRun (syn : List Sym) : BM := (List.range 30).foldl (fun s n => bmStep syn n s) { c := [1], b := [1], l := 0, m := 1, d := 1 }

/-- Formal derivative. -/
def gpDeriv (p : GPoly) : GPoly := (p.zipIdx.drop 1).map (fun e => if e.2 % 2 = 1 then e.1 else 0)

/-- Decode a word of 544 symbols: the codeword at a distance of at most 15, with the corrected positions. -/
def rsDecode (w : List Sym) : Option (List Sym × List Nat) :=
  let syn := rsSyndromes w
  if syn.all (· == 0) then some (w, [])
  else
    let s := bmRun syn
    let omega := (gpMul syn s.c).take 30
    let deriv := gpDeriv s.c
    let roots := (List.range w.length).filter (fun p =>
      gpEval s.c (gfInv (gfExp (w.length - 1 - p))) = 0)
    if s.l > 15 || roots.length != s.l then none
    else
      let fixed := roots.foldl (fun v p =>
        let x := gfExp (w.length - 1 - p)
        let e := gfMul x (gfMul (gpEval omega (gfInv x)) (gfInv (gpEval deriv (gfInv x))))
        v.modify p (· ^^^ e)) w
      if (rsSyndromes fixed).all (· == 0) then some (fixed, roots) else none

/-! ### Slots -/

def typeD : List Sym := [0x1B4, 0x2C7]
def typeC : List Sym := [0x24B, 0x138]

/-- Bits of the two type symbols that differ from the D-block code (R103). -/
def typeDistance (l : List Sym) : Nat :=
  popCount 20 (((nth l 0 ^^^ 0x1B4).toNat) + 1024 * (nth l 1 ^^^ 0x2C7).toNat)

/-- Every second element, from the first. -/
def evens {α : Type} : List α → List α
  | [] => []
  | [x] => [x]
  | x :: _ :: t => x :: evens t

def interleave {α : Type} : List α → List α → List α
  | x :: a, y :: b => x :: y :: interleave a b
  | a, [] => a
  | [], b => b

/-- The symbols of a D-block of 1,285 bytes (R106 to R108). -/
def encodeD (scr : BitVec 31) (b : Bytes) : BitVec 31 × List Sym :=
  let t := scramble scr (packSymbols 1028 b)
  let pa := rsParity (evens t.2)
  let pb := rsParity (evens (t.2.drop 1))
  (t.1, typeD ++ t.2 ++ interleave pa pb)

/-- Decode a D-block: its bytes, none where a codeword fails, and the slot positions corrected in each codeword that
decodes; the scrambler moves on in every case. -/
def decodeD (scr : BitVec 31) (l : List Sym) : BitVec 31 × Option Bytes × List Nat :=
  let body := l.drop 2
  let da := rsDecode (evens body)
  let db := rsDecode (evens (body.drop 1))
  let at_ (off : Nat) (d : Option (List Sym × List Nat)) : List Nat :=
    ((d.map (·.2)).getD []).map (fun p => off + 2 * p)
  let fixed := at_ 2 da ++ at_ 3 db
  match da, db with
  | some (a, _), some (b, _) =>
    let t := scramble scr ((interleave a b).take 1028)
    (t.1, some (unpackBytes 1285 t.2), fixed)
  | _, _ => ((scramble scr (List.replicate 1028 0)).1, none, fixed)

/-- The symbols of a C-run of 1,360 bytes (R106, R112). -/
def encodeC (scr : BitVec 31) (b : Bytes) : BitVec 31 × List Sym :=
  let t := scramble scr (packSymbols 1088 b)
  (t.1, typeC ++ t.2)

def decodeC (scr : BitVec 31) (l : List Sym) : BitVec 31 × Bytes :=
  let t := scramble scr (l.drop 2)
  (t.1, unpackBytes 1360 t.2)

/-- Width code of R104. -/
def widthCode (w : Nat) : Nat := if w = 8 then 0 else if w = 4 then 1 else 2

/-- The alignment marker of logical lane `lane` at marker count `n` (R104). -/
def markerSymbols (lane w n : Nat) : List Sym :=
  let a := BitVec.ofNat 10 (lane % 8 + 8 * widthCode w)
  let c := BitVec.ofNat 10 n
  [0x2F1, 0x0CE, 0x3A5, 0x11B, a, ~~~a, c, ~~~c]

end Sys2Proof.Machine
end

