-- ==== Sys2Proof/Machine/LineCode.lean ====
section
/-! DEFINITION. How symbols, frames and bytes travel on a lane: the Gray mapping to PAM4 levels (R85, R102), the striping
of a slot across the lanes of the set (R101), polarity (R70), PRBS31 (R84) and the 8b/10b code (R66, R365). -/

namespace Sys2Proof.Machine

/-! ### PAM4 levels (R85, R102) -/

/-- The Gray mapping 00, 01, 11, 10 to levels 0 to 3. -/
def grayLevel (b : BitVec 2) : Level := if b = 0 then 0 else if b = 1 then 1 else if b = 3 then 2 else 3

/-- The bit pair that a level stands for. -/
def levelBits (l : Level) : BitVec 2 := if l = 0 then 0 else if l = 1 then 1 else if l = 2 then 3 else 2

/-- The `n` bit pairs of a number as levels, the most significant pair first. -/
def pairLevels : Nat → Nat → List Level
  | 0, _ => []
  | n + 1, x => grayLevel (BitVec.ofNat 2 (x / 4 ^ n)) :: pairLevels n (x % 4 ^ n)

/-- The number that levels spell, the most significant pair first. -/
def pairValue (l : List Level) : Nat := l.foldl (fun x a => 4 * x + (levelBits a).toNat) 0

/-- The five PAM4 symbols of a ten-bit symbol: bits [9:8] first, bits [1:0] last (R102). -/
def symLevels (x : Sym) : List Level := pairLevels 5 x.toNat

def symbolsToLevels (l : List Sym) : List Level := l.flatMap symLevels

/-- The ten-bit symbols that levels carry; `n` bounds their number. -/
def levelsToSymbols (n : Nat) (l : List Level) : List Sym := (chunks 5 n l).map (fun c => BitVec.ofNat 10 (pairValue c))

/-- Bytes at two bits a symbol, each byte most significant pair first (R85). -/
def bytesToLevels (b : Bytes) : List Level := b.flatMap (fun x => pairLevels 4 x.toNat)

def levelsToBytes (n : Nat) (l : List Level) : Bytes := (chunks 4 n l).map (fun c => BitVec.ofNat 8 (pairValue c))

/-! ### Polarity (R48, R70) -/

/-- Level k of an inverted signal is level 3 − k. -/
def invertLevels (inv : Bool) (l : List Level) : List Level := if inv then l.map (fun a => ~~~a) else l

/-- The code groups of an inverted signal are the complements. -/
def invertGroups (inv : Bool) (l : List CodeGroup) : List CodeGroup := if inv then l.map (fun g => ~~~g) else l

/-! ### Striping (R101) -/

/-- The symbols of a slot that travel on logical lane `j` of `w`; the slot begins at stream symbol `start`. -/
def laneSymbols (w start j : Nat) (l : List Sym) : List Sym :=
  (l.zipIdx.filter (fun e => (start + e.2) % w = j)).map (·.1)

/-- The slot that `w` logical lanes carry together: its symbol `k` is the next one of lane (start + k) mod w. -/
def mergeLanes (w start : Nat) (lanes : List (List Sym)) : List Sym :=
  (List.range 1090).map (fun k => nth (nth lanes ((start + k) % w)) (k / w))

/-! ### PRBS31 (R84): x^31 + x^28 + 1 -/

/-- The state a lane's generator starts from: never zero. -/
def prbsStart (p l : Nat) : BitVec 31 := if Config.prbsSeed p l = 0 then 1 else Config.prbsSeed p l

/-- `n` bits of the pattern from a generator state. -/
def prbsBits : Nat → BitVec 31 → List Bool
  | 0, _ => []
  | n + 1, r => (scrStep r).2 :: prbsBits n (scrStep r).1

/-- The bits that a self-test received: the pattern's, with those at `flips` inverted. -/
def receivedBits (c : LaneCheck) (r : BitVec 31) : List Bool :=
  (prbsBits c.bits r).zipIdx.map (fun e => e.1 != c.flips.contains e.2)

/-- Received bits that differ from the generator's. -/
def bitErrors (c : LaneCheck) : Nat := (c.flips.eraseDups.filter (fun i => decide (i < c.bits))).length

/-! ### The 8b/10b code of IEEE 802.3 Clause 36 (R66; assumption log 101) -/

/-- The 5b/6b code at negative running disparity, abcdei. -/
def sixTable : List (BitVec 6) :=
  [0b100111, 0b011101, 0b101101, 0b110001, 0b110101, 0b101001, 0b011001, 0b111000,
   0b111001, 0b100101, 0b010101, 0b110100, 0b001101, 0b101100, 0b011100, 0b010111,
   0b011011, 0b100011, 0b010011, 0b110010, 0b001011, 0b101010, 0b011010, 0b111010,
   0b110011, 0b100110, 0b010110, 0b110110, 0b001110, 0b101110, 0b011110, 0b101011]

/-- The 3b/4b code at negative running disparity, fghj: D.x.0 to D.x.6, D.x.P7 and D.x.A7. -/
def fourTable : List (BitVec 4) := [0b1011, 0b1001, 0b0101, 0b1100, 0b1101, 0b1010, 0b0110, 0b1110, 0b0111]

/-- Ones of a block less its zeros, as more (some true), fewer (some false) or as many (none). -/
def blockDisparity (n : Nat) (x : Nat) : Option Bool :=
  let ones := popCount n x
  if 2 * ones = n then none else some (decide (2 * ones > n))

/-- The form of a block at a running disparity: a block that is not balanced, and 111000 and 1100, are complemented at
positive running disparity. -/
def sixAt (rd : Bool) (x : BitVec 6) : BitVec 6 :=
  if rd && ((blockDisparity 6 x.toNat).isSome || x = 0b111000) then ~~~x else x
def fourAt (rd : Bool) (x : BitVec 4) : BitVec 4 :=
  if rd && ((blockDisparity 4 x.toNat).isSome || x = 0b1100) then ~~~x else x

/-- Running disparity after a block. -/
def sixAfter (rd : Bool) (x : BitVec 6) : Bool :=
  if x = 0b000111 then true else if x = 0b111000 then false else (blockDisparity 6 x.toNat).getD rd
def fourAfter (rd : Bool) (x : BitVec 4) : Bool :=
  if x = 0b0011 then true else if x = 0b1100 then false else (blockDisparity 4 x.toNat).getD rd

/-- D.x.7 takes its alternate form after these 6-bit blocks, so that no run of five equal bits arises. -/
def alternate7 (rd : Bool) (x : Nat) : Bool :=
  if rd then x = 11 || x = 13 || x = 14 else x = 17 || x = 18 || x = 20

/-- Running disparity after a code group. -/
def disparityAfter (rd : Bool) (g : CodeGroup) : Bool := fourAfter (sixAfter rd (g.extractLsb' 4 6)) (g.extractLsb' 0 4)

/-- The code group of a data byte at a running disparity. -/
def encodeData (rd : Bool) (b : Byte) : CodeGroup :=
  let x := b.toNat % 32
  let y := b.toNat / 32
  let six := sixAt rd (nth sixTable x)
  let rd4 := sixAfter rd six
  six ++ fourAt rd4 (nth fourTable (if y = 7 && alternate7 rd4 x then 8 else y))

/-- The control code groups in use: K28.5 (R66), K27.7 and K29.7 (R365). -/
inductive Control where
  | k28_5 | k27_7 | k29_7
  deriving DecidableEq, Repr, Inhabited

/-- A control code group at negative running disparity; at positive it is the complement. -/
def Control.group : Control → CodeGroup
  | .k28_5 => 0b0011111010
  | .k27_7 => 0b1101101000
  | .k29_7 => 0b1011101000

def encodeControl (rd : Bool) (k : Control) : CodeGroup := if rd then ~~~k.group else k.group

/-- What a code group stands for. -/
inductive Decoded where
  | data (b : Byte)
  | control (k : Control)
  deriving DecidableEq, Repr, Inhabited

/-- Decode a code group at a running disparity; none is a symbol error. -/
def decodeGroup (rd : Bool) (g : CodeGroup) : Option Decoded :=
  let six := g.extractLsb' 4 6
  match [Control.k28_5, .k27_7, .k29_7].find? (fun k => encodeControl rd k = g) with
  | some k => some (.control k)
  | none =>
    match (List.range 32).find? (fun x => sixAt rd (nth sixTable x) = six) with
    | none => none
    | some x =>
      ((List.range 8).find? (fun y => encodeData rd (BitVec.ofNat 8 (32 * y + x)) = g)).map (fun y =>
        .data (BitVec.ofNat 8 (32 * y + x)))

/-- Encode a run of data bytes: the groups and the running disparity after them. -/
def encodeRun : Bool → Bytes → List CodeGroup × Bool
  | rd, [] => ([], rd)
  | rd, b :: bs =>
    let g := encodeData rd b
    let t := encodeRun (disparityAfter rd g) bs
    (g :: t.1, t.2)

/-- Decode a run of code groups. -/
def decodeRun : Bool → List CodeGroup → List (Option Decoded)
  | _, [] => []
  | rd, g :: gs => decodeGroup rd g :: decodeRun (disparityAfter rd g) gs

end Sys2Proof.Machine
end

