-- ==== Sys2Proof/Machine/Operands.lean ====
section
/-! DEFINITION. The byte forms of operands: packet headers and packets (R135 to R146), data flits, control flits and slot
headers (R107 to R114), commands and replies (R338, R340), and the judgement of a terminated packet (R147). -/

namespace Sys2Proof.Machine

/-! ### Opcodes (R144) and status codes (R340) -/

def opPut : BitVec 8 := 0x01
def opGet : BitVec 8 := 0x02
def opGetResp : BitVec 8 := 0x03
def opPutAck : BitVec 8 := 0x04
def opFadd : BitVec 8 := 0x08
def opCas : BitVec 8 := 0x09
def opAtomicResp : BitVec 8 := 0x0A
def opReduceContrib : BitVec 8 := 0x10
def opReduceResult : BitVec 8 := 0x11
def opCombineContrib : BitVec 8 := 0x12
def opStreamData : BitVec 8 := 0x18
def opSubscribe : BitVec 8 := 0x19
def opSyncArrive : BitVec 8 := 0x20
def opSyncNotify : BitVec 8 := 0x21
def opCmd : BitVec 8 := 0x30
def opCmdStatus : BitVec 8 := 0x31
def opNop : BitVec 8 := 0x3F

def stOk : W16 := 0x0000
def stBusy : W16 := 0x0001
def stBadOpcode : W16 := 0x0002
def stBadLength : W16 := 0x0003
def stBadParam : W16 := 0x0004
def stNotOwner : W16 := 0x0005
def stNotReady : W16 := 0x0006
def stStoreOvercommit : W16 := 0x0007
def stCanvasOvercommit : W16 := 0x0008
def stSigFail : W16 := 0x0009
def stVersionMismatch : W16 := 0x000A
def stTimeout : W16 := 0x000B
def stMismatch : W16 := 0x000C
def stMemberLost : W16 := 0x000D
def stResourceRetired : W16 := 0x000E
def stInternalFault : W16 := 0x000F

/-! ### Packet headers and packets (R135 to R143) -/

def headerWord (h : Header) : Nat → Nat
  | 0 => h.gen.toNat + 4 * h.vc.toNat + 32 * h.colour.toNat + 128 * boolNat h.rsv0 + 256 * h.opcode.toNat +
      65536 * h.length.toNat
  | 1 => h.dst.toNat + 65536 * h.src.toNat
  | 2 => h.ttag.toNat + 65536 * h.ftag.toNat
  | 3 => h.offset.toNat % 2 ^ 32
  | 4 => h.offset.toNat / 2 ^ 32 + 2 ^ 16 * h.window.toNat + 2 ^ 24 * boolNat h.ord + 2 ^ 25 * boolNat h.last +
      2 ^ 26 * boolNat h.adpt + 2 ^ 27 * boolNat h.cmk + 2 ^ 28 * boolNat h.pois + 2 ^ 29 * boolNat h.ackReq +
      2 ^ 30 * boolNat h.ordFault + 2 ^ 31 * boolNat h.rsv4
  | 5 => h.opA.toNat
  | 6 => h.opB.toNat
  | _ => h.hops.toNat + 256 * h.routeHint.toNat + 65536 * h.hcheck.toNat

/-- The 32 bytes of a header, W0 at offset 0. -/
def headerBytes (h : Header) : Bytes := (List.range 8).flatMap (fun i => leBytes 4 (headerWord h i))

def parseHeader (b : Bytes) : Header :=
  let w := fun i => leAt b (4 * i) 4
  { gen := BitVec.ofNat 2 (w 0), vc := BitVec.ofNat 3 (w 0 / 4), colour := BitVec.ofNat 2 (w 0 / 32)
    rsv0 := bitOf (w 0) 7, opcode := BitVec.ofNat 8 (w 0 / 256), length := w16 (w 0 / 65536)
    dst := w16 (w 1), src := w16 (w 1 / 65536), ttag := w16 (w 2), ftag := w16 (w 2 / 65536)
    offset := BitVec.ofNat 48 (w 3 + 2 ^ 32 * (w 4 % 65536)), window := BitVec.ofNat 8 (w 4 / 65536)
    ord := bitOf (w 4) 24, last := bitOf (w 4) 25, adpt := bitOf (w 4) 26, cmk := bitOf (w 4) 27
    pois := bitOf (w 4) 28, ackReq := bitOf (w 4) 29, ordFault := bitOf (w 4) 30, rsv4 := bitOf (w 4) 31
    opA := w32 (w 5), opB := w32 (w 6), hops := BitVec.ofNat 8 (w 7), routeHint := BitVec.ofNat 8 (w 7 / 256)
    hcheck := w16 (w 7 / 65536) }

/-- The header check over bytes 0 to 29 (R138). -/
def headerCheck (h : Header) : W16 := crc16 ((headerBytes h).take 30)

def sealHeader (h : Header) : Header := { h with hcheck := headerCheck h }

def roundUp (k n : Nat) : Nat := (n + (k - 1)) / k * k

/-- Payload bytes that a packet carries (R136). -/
def carried (h : Header) : Nat := if h.opcode = opGet then 0 else h.length.toNat

/-- Bytes after the header that R136 gives a packet. -/
def tailLength (h : Header) : Nat := if carried h = 0 then 0 else 4 + roundUp 16 (carried h)

/-- Payload, pad and trailer. -/
def tailBytes (payload : Bytes) : Bytes :=
  if payload.isEmpty then []
  else
    let body := payload ++ zeros (roundUp 16 payload.length - payload.length)
    body ++ leBytes 4 (crc32 body).toNat

/-- The trailer over `data`, the bytes after the header, passes (R141); packets without one pass. -/
def trailerOk (h : Header) (data : Bytes) : Bool :=
  carried h = 0 || data.length != tailLength h ||
    leAt data (data.length - 4) 4 == (crc32 (data.take (data.length - 4))).toNat

def payloadOf (h : Header) (data : Bytes) : Bytes := data.take (carried h)

/-- Flits of a packet of `n` bytes after its header (R111); a VC 4 packet fills one control flit. -/
def flitCount (vc n : Nat) : Nat := if vc = 4 then 1 else (32 + n + 251) / 252

/-- W5 of an answer (R146). -/
def answerWord (status : W16) (cme : Bool) : W32 := w32 (status.toNat + 65536 * boolNat cme)

/-! ### Flits (R110, R111, R113, R114) -/

def flitHead (f : Flit) : Nat :=
  f.kind.toNat + 16 * f.vc.toNat + 128 * boolNat f.sop + 256 * boolNat f.eop + 512 * f.fin.toNat + 2048 * f.nbytes.toNat

def flitBytes (f : Flit) : Bytes :=
  let h := leBytes 3 (flitHead f)
  h ++ [crc8 h] ++ padTo 252 f.content

/-- A flit from its 256 bytes; none when its `hcrc` fails. -/
def parseFlit (b : Bytes) : Option Flit :=
  let w := leAt b 0 3
  if crc8 (b.take 3) != b.getD 3 0 then none
  else some { kind := BitVec.ofNat 4 w, vc := BitVec.ofNat 3 (w / 16), sop := bitOf w 7, eop := bitOf w 8
              fin := BitVec.ofNat 2 (w / 512), nbytes := BitVec.ofNat 8 (w / 2048), content := (b.drop 4).take 252 }

def fillerFlit : CFlit := {}

/-- A control flit's 64 bytes, carrying the control acknowledge `cack`. -/
def cflitBytes (cack : W16) (c : CFlit) : Bytes :=
  let h := c.kind.toNat + 16 * c.sub.toNat + 4096 * c.nbytes.toNat + 2 ^ 18 * boolNat c.seqd
  let b := leBytes 4 h ++ padTo 52 c.content ++ leBytes 2 c.cseq.toNat ++ leBytes 2 cack.toNat
  b ++ leBytes 4 (crc32 b).toNat

/-- A control flit and its acknowledge from 64 bytes; none when its CRC fails. -/
def parseCflit (b : Bytes) : Option (CFlit × W16) :=
  if (crc32 (b.take 60)).toNat != leAt b 60 4 then none
  else
    let w := leAt b 0 4
    some ({ kind := BitVec.ofNat 4 w, sub := BitVec.ofNat 8 (w / 16), nbytes := BitVec.ofNat 6 (w / 4096)
            seqd := bitOf w 18, content := (b.drop 4).take 52, cseq := w16 (leAt b 56 2) }, w16 (leAt b 58 2))

/-- The control flit of a VC 4 packet (R113). -/
def packetCflit (h : Header) (data : Bytes) : CFlit :=
  { kind := 1, nbytes := BitVec.ofNat 6 (32 + data.length), seqd := true, content := headerBytes h ++ data }

/-- A control carrier flit of up to three control flits (R111). -/
def carrierFlit (cack : W16) (l : List CFlit) : Flit :=
  { kind := 2, content := (l ++ List.replicate (3 - l.length) fillerFlit).flatMap (cflitBytes cack) }

/-- Fields of a D-block header (R109). -/
structure DHeader where
  bseq : W16 := 0
  retValue : W16 := 0
  retKind : BitVec 4 := 0xF
  pcReq : Bool := true
  pcOn : Bool := false
  replay : Bool := false
  deriving DecidableEq, Repr, Inhabited

def dHeaderBytes (h : DHeader) : Bytes :=
  leBytes 5 (h.bseq.toNat + 2 ^ 16 * h.retValue.toNat + 2 ^ 32 * h.retKind.toNat + 2 ^ 36 * boolNat h.pcReq +
    2 ^ 37 * boolNat h.pcOn + 2 ^ 38 * boolNat h.replay)

def parseDHeader (b : Bytes) : DHeader :=
  let w := leAt b 0 5
  { bseq := w16 w, retValue := w16 (w / 2 ^ 16), retKind := BitVec.ofNat 4 (w / 2 ^ 32), pcReq := bitOf w 36
    pcOn := bitOf w 37, replay := bitOf w 38 }

/-- Fields of a C-run header (R112). -/
structure CHeader where
  back : W16 := 0
  cack : W16 := 0
  nakB : Bool := false
  nakC : Bool := false
  pcReq : Bool := true
  pcOn : Bool := false
  deriving DecidableEq, Repr, Inhabited

/-- One copy of the header, its CRC-16 over bits [47:0] taken as bytes 0 to 5 (assumption log 14). -/
def cHeaderBytes (h : CHeader) : Bytes :=
  let b := leBytes 6 (h.back.toNat + 2 ^ 16 * h.cack.toNat + 2 ^ 32 * boolNat h.nakB + 2 ^ 33 * boolNat h.nakC +
    2 ^ 34 * boolNat h.pcReq + 2 ^ 35 * boolNat h.pcOn)
  b ++ leBytes 2 (crc16 b).toNat

def parseCHeaderCopy (b : Bytes) : Option CHeader :=
  if (crc16 (b.take 6)).toNat != leAt b 6 2 then none
  else
    let w := leAt b 0 6
    some { back := w16 w, cack := w16 (w / 2 ^ 16), nakB := bitOf w 32, nakC := bitOf w 33, pcReq := bitOf w 34
           pcOn := bitOf w 35 }

/-- The header of a C-run from its two copies: the first that passes, none when both fail or both pass and differ. -/
def parseCHeader (b : Bytes) : Option CHeader :=
  match parseCHeaderCopy (b.take 8), parseCHeaderCopy ((b.drop 8).take 8) with
  | some x, some y => if x = y then some x else none
  | some x, none => some x
  | none, some y => some y
  | none, none => none

/-! ### Commands (R338) -/

def cmdOpcode (b : Bytes) : Nat := leAt b 0 2
def cmdTag (b : Bytes) : W16 := w16 (leAt b 2 2)
def cmdParamLen (b : Bytes) : Nat := leAt b 4 2
def cmdNoIrq (b : Bytes) : Bool := bitOf (leAt b 6 2) 0
def cmdTarget (b : Bytes) : W16 := w16 (leAt b 8 2)
def cmdParams (b : Bytes) : Bytes := b.drop 32

/-- The reply bytes of a CMD_STATUS (R338). -/
def replyBytes (src : W16) (r : Reply) : Bytes :=
  leBytes 2 r.status.toNat ++ leBytes 2 r.tag.toNat ++ leBytes 2 r.result.length ++ leBytes 2 r.opcode.toNat ++
    leBytes 2 src.toNat ++ zeros 6 ++ r.result

/-! ### Judging a terminated packet (R147) -/

/-- The virtual channels that R27 and R28 allow an opcode, the escape channels of its class among them. A GET to a window
that R27 does not name may come on any channel that R27 has for a GET (assumption log 147). -/
def vcAllowed (h : Header) : Bool :=
  let vc := h.vc.toNat
  if h.opcode = opPut || h.opcode = opFadd || h.opcode = opCas || h.opcode = opSubscribe then vc = 1 || vc = 6
  else if h.opcode = opGet then
    (if h.window = 0x05 then decide (vc = 5) else if h.window = 0x00 then vc = 1 || vc = 6 else vc = 1 || vc = 5 || vc = 6)
  else if h.opcode = opGetResp then vc = 2 || vc = 5 || vc = 7
  else if h.opcode = opPutAck || h.opcode = opAtomicResp then vc = 2 || vc = 7
  else if h.opcode = opReduceContrib || h.opcode = opCombineContrib || h.opcode = opReduceResult then
    (if h.length = 0 then decide (vc = 4) else vc = 0 || vc = 3)
  else if h.opcode = opStreamData then vc = 0
  else if h.opcode = opSyncArrive || h.opcode = opSyncNotify then vc = 4
  else if h.opcode = opCmd || h.opcode = opCmdStatus then vc = 5
  else vc ≤ 5

def opcodeKnown (o : BitVec 8) : Bool :=
  [opPut, opGet, opGetResp, opPutAck, opFadd, opCas, opAtomicResp, opReduceContrib, opReduceResult, opCombineContrib,
    opStreamData, opSubscribe, opSyncArrive, opSyncNotify, opCmd, opCmdStatus, opNop].contains o

/-- `length` lies in the opcode's range (R144). -/
def lengthAllowed (h : Header) : Bool :=
  let n := h.length.toNat
  if h.opcode = opFadd || h.opcode = opCas then n = 0 || n = 16
  else if h.opcode = opSubscribe || h.opcode = opSyncArrive then n = 0
  else if h.opcode = opCmd then decide (32 ≤ n ∧ n ≤ 4096)
  else n ≤ 4096

/-- Opcodes that a window of the device accepts (R24). -/
def windowAccepts (h : Header) : Bool :=
  if h.window = 0x01 then h.opcode = opReduceContrib || h.opcode = opCombineContrib || h.opcode = opReduceResult
  else if h.window = 0x02 then h.opcode = opPut || h.opcode = opSubscribe
  else if h.window = 0x03 then h.opcode = opSyncArrive
  else if h.window = 0x04 then h.opcode = opCmd
  else h.opcode = opGet

/-- A finding of R147: the packet counter and the status of the answer, or step 8. -/
inductive Finding where
  | discard (counter : Nat)
  | answer (counter : Nat) (status : W16)
  | act
  deriving DecidableEq, Repr, Inhabited

/-- R147, steps in order. `poisoned` is R158's judgement. -/
def judge (h : Header) (data : Bytes) (poisoned : Bool) : Finding :=
  if poisoned then .discard 3
  else if !trailerOk h data then .discard 2
  else if h.opcode = opNop then .discard 9
  else if !opcodeKnown h.opcode then .discard 4
  else if h.opcode = opGetResp || h.opcode = opPutAck || h.opcode = opAtomicResp || h.opcode = opStreamData ||
      h.opcode = opSyncNotify || h.opcode = opCmdStatus || (h.opcode = opReduceResult && h.window != 0x01) then .discard 5
  else if h.gen = 3 || h.colour = 3 || !vcAllowed h then .answer 6 stBadParam
  else if !lengthAllowed h || data.length != tailLength h then .answer 6 stBadLength
  else if h.window = 0x00 || decide (h.window.toNat > 5) then .answer 7 stBadParam
  else if !windowAccepts h then .answer 8 stBadOpcode
  else .act

/-- The opcode that answers a request (R144); none: no answer. A refused atomic is answered with ATOMIC_RESP by this device
too (assumption log 144). -/
def answerOpcode (h : Header) : Option (BitVec 8) :=
  if h.opcode = opPut || h.opcode = opSubscribe then some opPutAck
  else if h.opcode = opGet then some opGetResp
  else if h.opcode = opFadd || h.opcode = opCas then some opAtomicResp
  else if h.opcode = opReduceContrib || h.opcode = opCombineContrib then some opReduceResult
  else if h.opcode = opCmd then some opCmdStatus
  else none

/-- The channel of an answer without payload (R27): a GET_RESP travels by the window of its GET. For a GET of windows 0x01 to
0x04 or of a reserved window R27 gives no channel: its refusal follows the GET's own (assumption log 114). -/
def answerVc (h : Header) (o : BitVec 8) : BitVec 3 :=
  if o = opReduceResult then 4
  else if o = opCmdStatus then 5
  else if o = opGetResp && (h.window = 0x05 || (h.window != 0x00 && h.vc = 5)) then 5
  else 2

/-- The answer to a request (R145, R146), without payload. `me` is the answerer's identifier. -/
def answerHeader (h : Header) (o : BitVec 8) (me : W16) (status : W16) : Header :=
  { gen := 2, vc := answerVc h o, colour := if h.colour = 3 then 2 else h.colour, opcode := o, dst := h.src, src := me
    ttag := h.ttag, ftag := h.ftag, offset := h.offset, adpt := h.adpt, opA := answerWord status h.cmk
    opB := if o = opReduceResult then h.opB else 0 }

end Sys2Proof.Machine
end

