-- ==== Sys2Proof/Machine/Queues.lean ====
section
/-! DEFINITION. The shared buffer and the egress queues (06): free cells and thresholds, credits of freed cells, queues,
WRED, the last-hop hold, and what discards or ends a packet. -/

namespace Sys2Proof.Machine

/-! ### The buffer (R162, R186, R188) -/

/-- Cells of the buffer (R186). -/
def bufferCells : Int := 1572864

def packetOf (s : State) (id : Nat) : Option Stored := tget s.switch.packets id

def updPacket (id : Nat) (f : Stored → Stored) (s : State) : State :=
  updSwitch (fun w => { w with packets := tmod w.packets id f }) s

/-- Cells of a packet still in the buffer: a unicast packet's cells are freed as they leave, a multicast packet's when its
residue mask is empty. -/
def cellsHeld (st : Stored) : Nat :=
  if st.multicast then st.cells else st.cells - (st.copies.foldl (fun n c => n + c.sent) 0)

/-- Occupancy *U*. -/
def occupancy (s : State) : Nat := s.switch.packets.foldl (fun n e => n + cellsHeld e.2) 0

/-- The lossless channels. -/
def losslessVcs : List Nat := [0, 1, 2, 3, 4, 6, 7]

/-- Granted and unused credits of one port on the lossless channels. -/
def grantedUnused (q : Port) : Nat :=
  losslessVcs.foldl (fun n v => n + (nth q.link.credCum v - nth q.link.received v).toNat) 0

/-- Free cells *F* = *B* − *U* − *G* (R186). -/
def freeCells (s : State) : Int :=
  bufferCells - occupancy s - (s.ports.foldl (fun n q => n + grantedUnused q) 0 : Nat)

/-- Cells that one packet adds to queue (p, v). -/
def queueShare (p v : Nat) (st : Stored) : Nat :=
  match st.copies.find? (fun c => c.port = p && c.vc = v) with
  | none => 0
  | some c => if st.multicast then st.cells else st.cells - c.sent

/-- Length *q* of an egress queue (R188): held packets included. -/
def queueLen (s : State) (p v : Nat) : Nat := s.switch.packets.foldl (fun n e => n + queueShare p v e.2) 0

/-- floor(2^k × x). -/
def scaleFloor (k x : Int) : Int := if k ≥ 0 then x * 2 ^ k.toNat else x / 2 ^ (-k).toNat

/-- Threshold *T* of a channel's queues with `f` free cells (R188). -/
def thresholdAt (s : State) (v : Nat) (f : Int) : Int := scaleFloor (nth s.policy.alphaK v) f

/-- Threshold *T* of a channel's queues with the current *F* (R188). -/
def threshold (s : State) (v : Nat) : Int := thresholdAt s v (freeCells s)

def belowThreshold (s : State) (p v : Nat) : Bool := decide ((queueLen s p v : Int) < threshold s v)

/-! ### Queues (R163) -/

def queueKey (p v : Nat) : Nat := 8 * p + v

def queueOf (s : State) (p v : Nat) : List Nat := tgetD s.switch.queues (queueKey p v) []

def setQueue (p v : Nat) (l : List Nat) (s : State) : State :=
  updSwitch (fun w => { w with queues := if l.isEmpty then tdel w.queues (queueKey p v) else tset w.queues (queueKey p v) l }) s

def pushQueue (p v id : Nat) (s : State) : State := setQueue p v (queueOf s p v ++ [id]) s

def dropFromQueue (p v id : Nat) (s : State) : State := setQueue p v ((queueOf s p v).filter (· != id)) s

/-! ### Credits of received cells (R125, R189) -/

/-- Add `n` released credits on channel `v` of port `p`; a port under wash releases none (R349). -/
def releaseCredit (p v n : Nat) (s : State) : State :=
  if (portOf s p).washing then s
  else updLink p (fun k => { k with credCum := k.credCum.modify v (fun c => c + BitVec.ofNat 16 n) }) s

/-- Release every credit that a packet still withholds. -/
def releaseAll (id : Nat) (s : State) : State :=
  match packetOf s id with
  | none => s
  | some st =>
    match st.ingress with
    | none => s
    | some p => updPacket id (fun x => { x with released := x.cells }) (releaseCredit p st.vcIn (st.cells - st.released) s)

/-- Later flits of the packet in progress on channel `v` of port `p` are discarded through `eop`; `tail` counts them in
`void_tail`. -/
def discardRest (p v : Nat) (tail : Bool) (s : State) : State :=
  updPort p (fun q => { q with current := tdel q.current v, dropping := tset q.dropping v tail }) s

/-- Take a packet out of the buffer: out of every queue, its credits released, its later flits discarded. -/
def dropPacket (id : Nat) (tail : Bool) (s : State) : State :=
  match packetOf s id with
  | none => s
  | some st =>
    let s := releaseAll id s
    let s := forEach st.copies (fun c => dropFromQueue c.port c.vc id) s
    let s := forEach st.copies (fun c s => updPort c.port (fun q =>
      { q with fetching := q.fetching.filter (fun e => e.2 != id) }) s) s
    let s := updSwitch (fun w => { w with packets := tdel w.packets id }) s
    match st.ingress with
    | none => s
    | some p =>
      let s := updPort p (fun q => { q with backlog := q.backlog.filter (· != id) }) s
      if st.complete then s else discardRest p st.vcIn tail s

/-- The cells of a packet that have left by the copy that is farthest. -/
def cellsSent (st : Stored) : Nat := st.copies.foldl (fun n c => max n c.sent) 0

/-- End a packet at cell `n` (R197, R199): its cells before it still leave, a VOID flit follows them, and the others are freed
and their credits released. Its later flits are discarded; `tail` counts them in `void_tail`, which R134 names for R123 alone
(assumption log 175). -/
def cutPacketAt (id n : Nat) (tail : Bool) (s : State) : State :=
  match packetOf s id with
  | none => s
  | some st =>
    let kept := min st.cells (max n (cellsSent st))
    let owed := min (st.cells - st.released) (kept - cellsSent st)
    let s := match st.ingress with
      | none => s
      | some p => releaseCredit p st.vcIn (st.cells - st.released - owed) s
    let s := updPacket id (fun x => { x with cut := true, complete := true, cells := kept, released := kept - owed }) s
    match st.ingress with
    | none => s
    | some p => if st.complete then s else discardRest p st.vcIn tail s

/-- End a packet at the cells it has sent. -/
def cutPacket (id : Nat) (tail : Bool) (s : State) : State :=
  match packetOf s id with
  | none => s
  | some st => cutPacketAt id (cellsSent st) tail s

/-- End a packet in progress from its port VOID, its received cells kept (R123). -/
def endVoid (id : Nat) (s : State) : State := updPacket id (fun x => { x with cut := true, void := true, complete := true }) s

/-- Remove one copy of a packet, and the packet with its last copy. -/
def dropCopy (id p v : Nat) (s : State) : State :=
  match packetOf s id with
  | none => s
  | some st =>
    let rest := st.copies.filter (fun c => !(c.port = p && c.vc = v))
    if rest.isEmpty then dropPacket id false s
    else
      let s := dropFromQueue p v id s
      let s := updPort p (fun q => { q with fetching := q.fetching.filter (fun e => e.2 != id) }) s
      updPacket id (fun x => { x with copies := rest }) s

/-! ### Routes (R165, R172) -/

def routeOf (s : State) (dst : W16) : Nat :=
  if badEntry s 2 dst.toNat then 0 else (tgetD s.switch.routes dst.toNat 0).toNat

def routeValid (e : Nat) : Bool := bitOf e 7
def escPort (e : Nat) : Nat := bitsOf e 0 7
def routeCands (e : Nat) : List Nat := (List.range (bitsOf e 8 4)).map (fun c => bitsOf e (8 * c + 16) 7)

def isEdge (s : State) (p : Nat) : Bool := decide ((roleOf s p).role = 1)

/-- A port may be an adaptive candidate (R167, R349): it runs, is admitted, has replayed, is not being washed, and some
lane of its set has light. -/
def eligible (s : State) (p : Nat) : Bool :=
  let q := portOf s p
  decide (q.state = .running) && q.admitted && q.replayDone && !q.washing &&
    (maskList 8 q.laneSet.toNat).any (fun l => !(q.lanes.getD l {}).los)

/-- The egress channel: escape traffic leaves an edge port on VC 1 or VC 2 (R29, R177). -/
def edgeVc (s : State) (p v : Nat) : Nat := if isEdge s p && v ≥ 6 then v - 5 else v

/-! ### WRED (R192 to R194) -/

/-- The profile's decision for a header cell that arrives at queue (p, v): the new average and whether to act. The arriving
packet's own cells do not count in q (assumption log 148). -/
def wredDecide (s : State) (p v : Nat) (colour : BitVec 2) : Int × Bool :=
  let i := min colour.toNat 2
  let q : Int := queueLen s p v
  let t := threshold s v
  let a0 := tgetD s.switch.average (queueKey p v) 0
  let w : Int := 2 ^ s.policy.wredW
  let a := (a0 * w + (q * 65536 - a0)) / w
  let lo := ((nth s.policy.wredMin i : Nat) : Int) * t * 65536
  let hi := ((nth s.policy.wredMax i : Nat) : Int) * t * 65536
  let a64 := a * 64
  let u : Int := (Config.wredDraw (queueKey p v) s.free).toNat
  let act := if a64 < lo then false else if a64 ≥ hi then true
    else decide (u * 256 * (hi - lo) < 65536 * ((nth s.policy.wredPmax i : Nat) : Int) * (a64 - lo))
  (a, act)

/-- Update the queue's average and use one draw of its generator. -/
def wredUpdate (p v : Nat) (a : Int) (s : State) : State :=
  { updSwitch (fun w => { w with average := if a = 0 then tdel w.average (queueKey p v) else tset w.average (queueKey p v) a }) s
    with free := s.free + 1 }

/-! ### Discards -/

/-- Discard a packet and count it in a switch counter. -/
def discardCounted (id ctr : Nat) (s : State) : State := swCount ctr 1 (dropPacket id false s)

/-- No valid route (R174): at most one event per destination per 1 ms. -/
def noRoute (dst : W16) (ingress : Option Nat) (s : State) : State :=
  let s := swCount 0 1 s
  let due := match tget s.switch.noRouteAt dst.toNat with
    | none => true
    | some t => decide (t + 1000000 ≤ s.now)
  if due then
    raise 0x0020 (ingress.getD 0xFFFF) (leBytes 2 dst.toNat)
      (updSwitch (fun w => { w with noRouteAt := tset w.noRouteAt dst.toNat s.now }) s)
  else s

/-! ### The last-hop hold (R181 to R185) -/

def flowOf (h : Header) : Flow := { src := h.src, dst := h.dst, ftag := h.ftag }

def holdOf (s : State) (f : Flow) : Option Hold := s.switch.holds.find? (fun h => h.flow = f)

def updHold (f : Flow) (g : Hold → Hold) (s : State) : State :=
  updSwitch (fun w => { w with holds := w.holds.map (fun h => if h.flow = f then g h else h) }) s

def freeHold (f : Flow) (s : State) : State :=
  updSwitch (fun w => { w with holds := w.holds.filter (fun h => !(h.flow = f)) }) s

def holdFull (s : State) : Bool := decide (s.switch.holds.length ≥ 16384)

def newHold (f : Flow) (s : State) : State :=
  updSwitch (fun w => { w with holds := w.holds ++ [{ flow := f, idleSince := s.now }] }) s

/-- A held packet joins the tail of its queue (R183). -/
def unholdPacket (id : Nat) (fault : Bool) (s : State) : State :=
  match packetOf s id with
  | none => s
  | some st =>
    let now := s.now
    let s := updPacket id (fun x => { x with
      stage := .queued
      queuedAt := now
      hdr := if fault then { x.hdr with ordFault := true } else x.hdr }) s
    forEach st.copies (fun c => pushQueue c.port c.vc id) s

def msgLen (h : Header) : W32 := h.opA
def putLength (h : Header) : W32 := h.length.setWidth 32

/-- `release_if_due` of R183. -/
def releaseIfDue (f : Flow) (s : State) : State :=
  match holdOf s f with
  | none => s
  | some h =>
    match h.held with
    | none => s
    | some id =>
      match packetOf s id with
      | none => s
      | some st =>
        let sum := h.count + putLength st.hdr
        if sum = msgLen st.hdr then freeHold f (swCount 12 1 (unholdPacket id false s))
        else if (msgLen st.hdr).toNat < sum.toNat then freeHold f (swCount 15 1 (unholdPacket id true s))
        else s

/-- A PUT with `last` 0 has left an edge port GOOD and unpoisoned (R182, R183). -/
def countPut (h : Header) (s : State) : State :=
  let f := flowOf h
  let have0 := (holdOf s f).isSome
  if !have0 && holdFull s then swCount 16 1 s
  else
    let s := if have0 then s else newHold f s
    let s := updHold f (fun x =>
      let a := min x.owed.toNat h.length.toNat
      { x with owed := x.owed - w32 a, count := x.count + putLength h - w32 a, idleSince := s.now }) s
    releaseIfDue f s

/-- A PUT with `last` 1 has arrived at its last hop and would join the queues of its copies (R183). -/
def arriveLast (id : Nat) (s : State) : State :=
  match packetOf s id with
  | none => s
  | some st =>
    let f := flowOf st.hdr
    let s := match holdOf s f with
      | some h => (match h.held with
        | some q0 => freeHold f (swCount 15 1 (unholdPacket q0 true s))
        | none => s)
      | none => s
    let known := (holdOf s f).isSome
    if !known && putLength st.hdr = msgLen st.hdr then unholdPacket id false s
    else if !known && holdFull s then swCount 14 1 (unholdPacket id true s)
    else
      let s := if known then s else newHold f s
      let s := updPacket id (fun x => { x with stage := .held }) s
      let due := s.now + 1000 * s.policy.holdTimeout
      let lim := s.policy.holdTimeout
      let s := updHold f (fun x => { x with held := some id, timer := some due, owedSince := none, limit := lim }) s
      releaseIfDue f s

/-! ### Placing a packet in its queue -/

/-- Cells that the packet will fill, from its header. -/
def packetCells (h : Header) : Nat := flitCount h.vc.toNat (tailLength h)

/-- A PUT that the last-hop hold judges: `last` set, on VC 1 or VC 6, to an edge port (R181). -/
def holdApplies (s : State) (st : Stored) (p : Nat) : Bool :=
  decide (st.hdr.opcode = opPut) && st.hdr.last && isEdge s p && (st.vcIn = 1 || st.vcIn = 6)

/-- Some packet with `ord` set waits in the escape queue (R178). -/
def escapeHasOrd (s : State) (p v : Nat) : Bool :=
  (queueOf s p v).any (fun id => match packetOf s id with | some st => st.hdr.ord | none => false)

/-- The channel that an arriving packet joins at port `p`: ordered packets follow their family's escape queue (R178); one that
arrives on VC 6 or 7 is there already and is not counted as joining (assumption log 160). -/
def joinVc (s : State) (p : Nat) (h : Header) (v : Nat) : Nat :=
  if h.ord && (v = 1 || v = 2) && !isEdge s p && escapeHasOrd s p (v + 5) then v + 5 else v

/-- The queue and the buffer admit a VC 5 packet, as they stood when its header cell arrived (R190): the queue itself is
known only since the lookup, so the packet holds what every VC 5 queue had then. A packet of this device's own has no
arrival and is judged as it is written. -/
def admitsBestEffort (s : State) (p v : Nat) (st : Stored) : Bool :=
  let q := if st.ingress.isSome then nth st.seen p else queueLen s p v
  let f := if st.ingress.isSome then st.seenFree else freeCells s + cellsHeld st
  decide ((q : Int) < thresholdAt s v f) && decide (f ≥ packetCells st.hdr)

/-- While a port's lookup backlog exceeds 32 packets the credits of every lossless cell received on it wait (R169): each
packet that has one is counted once in `lookup_deferrals` (R203). -/
def noteDeferred (p : Nat) (s : State) : State :=
  if decide ((portOf s p).backlog.length ≤ 32) then s
  else forEach s.switch.packets (fun e s =>
    let st := e.2
    if st.ingress = some p && st.vcIn != 5 && decide (st.released < st.cells) && !st.backlogged then
      swCount 4 1 (updPacket e.1 (fun x => { x with backlogged := true }) s)
    else s) s

/-- The credits of a packet's cells wait because its queue has reached its threshold: each such cell is counted once
(R189). -/
def noteWithheld (id : Nat) (s : State) : State :=
  match packetOf s id with
  | none => s
  | some st =>
    match st.ingress with
    | none => s
    | some p =>
      let from_ := max st.released st.withheld
      let blocked := (st.stage = .queued || st.stage = .held) && !st.copies.all (fun c => belowThreshold s c.port c.vc)
      if blocked && !(portOf s p).washing && decide ((portOf s p).backlog.length ≤ 32) && decide (from_ < st.cells) then
        swCount 6 (st.cells - from_) (updPacket id (fun x => { x with withheld := st.cells }) s)
      else s

/-- The port's backlog has come down to 32 packets: what now keeps the credits of its cells is their queue, where that has
reached its threshold. -/
def deferralOver (p : Nat) (s : State) : State :=
  if (portOf s p).backlog.length = 32 then
    forEach s.switch.packets (fun e s => if e.2.ingress = some p then noteWithheld e.1 s else s) s
  else s

/-- Put a looked-up packet in queue (p, v): WRED, VC 5 admission, the hold, the tail of the queue (R190 to R193). The queue's
average moves here, at the lookup, with q and T of this moment (assumption log 148). -/
def placeInQueue (id p v0 : Nat) (s : State) : State :=
  match packetOf s id with
  | none => s
  | some st =>
    let v := joinVc s p st.hdr v0
    let s := when (v != v0) (swCount 3 1) s
    let d := wredDecide s p v st.hdr.colour
    let full := v = 5 && !admitsBestEffort s p v st
    let s := wredUpdate p v d.1 s
    if full then discardCounted id 7 s
    else if v = 5 && d.2 then discardCounted id 8 s
    else
      let s := when d.2 (fun s => updPacket id (fun x => { x with hdr := { x.hdr with cmk := true } })
        (swCount (9 + min st.hdr.colour.toNat 2) 1 s)) s
      let s := updPacket id (fun x => { x with copies := [{ port := p, vc := v, dst := x.hdr.dst, offset := x.hdr.offset }] }) s
      noteWithheld id (if holdApplies s st p then arriveLast id s else unholdPacket id false s)

/-- The chosen port stands outside admission and grace, or holds or drops by R130 and R175; otherwise the packet joins
its queue. -/
def sendToPort (id p v : Nat) (s : State) : State :=
  let q := portOf s p
  let ev := edgeVc s p v
  if !q.admitted && q.grace.isNone then
    if (ev = 4 || ev = 5) && decide (q.state = .running) then placeInQueue id p ev s
    else linkCount p 18 1 (dropPacket id false s)
  else if q.grace.isSome && ev = 5 then linkCount p 19 1 (dropPacket id false s)
  else placeInQueue id p ev s

/-! ### Flushing a port's queues (R95, R131) -/

/-- Packets held at the last hop for port `p`. -/
def heldFor (s : State) (p : Nat) : List (Flow × Nat) :=
  s.switch.holds.filterMap (fun h => match h.held with
    | none => none
    | some id => match packetOf s id with
      | none => none
      | some st => if st.copies.any (fun c => c.port = p) then some (h.flow, id) else none)

/-- Flush every egress queue of a port: unicast packets are counted by `uni`, multicast copies by `multi`. Answers also
how many packets and copies it flushed. -/
def flushPort (p : Nat) (uni multi : Nat → State → State) (s : State) : State × Nat :=
  let held := heldFor s p
  let ids := (List.range 8).flatMap (fun v => (queueOf s p v).map (fun id => (v, id)))
  let isMulti := fun (id : Nat) => match packetOf s id with | some st => st.multicast | none => false
  let nm := (ids.filter (fun e => isMulti e.2)).length
  let nu := ids.length - nm + held.length
  let s := forEach ids (fun e => if isMulti e.2 then dropCopy e.2 p e.1 else dropPacket e.2 false) s
  let s := forEach held (fun e s => freeHold e.1 (dropPacket e.2 false s)) s
  (multi nm (uni nu s), nm + nu)

/-! ### Packets that a window function sends (R191, R195, R196) -/

/-- Hand a packet to origination: it is written when ORIGINATED_PACKET_WRITE finds room. -/
def originate (o : Originate) (s : State) : State := updSwitch (fun w => { w with originate := w.originate ++ [o] }) s

def ownId (s : State) : W16 := s.sketch.endpoint

/-- The port and the identifier by which a request is answered (R20, R23). -/
def answerVia (s : State) (st : Stored) : Option Nat := if hasIdentity s then none else st.ingress

/-- The `src` of an answer: before Identity the request's `dst`, a reserved one too: R23 states the copy, and R20's ban on a
reserved `src` is left behind it (assumption log 116). -/
def answerSrc (s : State) (h : Header) : W16 := if hasIdentity s then ownId s else h.dst

/-- Answer a request with a status and no payload. -/
def answerStatus (st : Stored) (status : W16) (s : State) : State :=
  match answerOpcode st.hdr with
  | none => s
  | some o => originate { pkt := { hdr := answerHeader st.hdr o (answerSrc s st.hdr) status }, viaPort := answerVia s st } s

/-- R158: the packet is poisoned. -/
def poisoned (st : Stored) : Bool := st.hdr.pois || st.void || st.cut

/-- A terminated packet with all its flits, for its window function. -/
def terminatedOf (s : State) (id : Nat) : Option Stored :=
  match packetOf s id with
  | none => none
  | some st => if st.stage = .terminated && st.complete then some st else none

/-- The packet's finding under R147. -/
def findingOf (st : Stored) : Finding := judge st.hdr st.data (poisoned st)

/-- The actions of steps 1 to 7 of R147. -/
def applyFinding (id : Nat) (st : Stored) (s : State) : State :=
  match findingOf st with
  | .discard c => pktCount c 1 (dropPacket id false s)
  | .answer c status => answerStatus st status (pktCount c 1 (dropPacket id false s))
  | .act => s

/-- Judge a terminated packet by R147 and, at step 8, let its window's function act on it. A packet that is not there, or
not the function's own, changes nothing. -/
def atWindow (id : Nat) (mine : Header → Bool) (f : Stored → State → State) (s : State) : State :=
  match terminatedOf s id with
  | none => s
  | some st => if findingOf st = .act then (if mine st.hdr then f st s else s) else applyFinding id st s

end Sys2Proof.Machine
end

