-- ==== Sys2Proof/Machine/Replies.lean ====
section
/-! DEFINITION. Commands that execute and how they are answered: the command of a source, its completion on a ring or its
CMD_STATUS, the in-band reply cache (R332, R333, R338, R341 to R343). -/

namespace Sys2Proof.Machine

/-- The bytes of the command that a source executes: a ring's command without a reply yet, or the head of the in-band
queue (R332, R342). -/
def commandOf (s : State) : CmdSrc → Option Bytes
  | .ring hp r => match (ringOf s hp r).cmd with
    | some c => if c.reply.isNone then some c.bytes else none
    | none => none
  | .inband => match s.host.inband with
    | c :: _ => some c.bytes
    | [] => none

/-- The device's identifier in a reply: 0xFFFF without a sketch (R338). -/
def replySrc (s : State) : W16 := if hasIdentity s then ownId s else 0xFFFF

/-- Keep an answer in the reply cache: 64 entries of 1 s, the oldest replaced when full (R343). -/
def cacheReply (e : CachedReply) (l : List CachedReply) : List CachedReply :=
  (if l.length ≥ 64 then l.drop (l.length - 63) else l) ++ [e]

/-- The CMD_STATUS packet for a request: a payload only with OK (R146, R341). -/
def cmdStatus (s : State) (h : Header) (status : W16) (payload : Bytes) : Packet :=
  let a := answerHeader h opCmdStatus (if hasIdentity s then ownId s else h.dst) status
  let p := if status = stOk then payload else []
  { hdr := { a with length := w16 p.length }, payload := p }

/-! ### The catalogue (R345) -/

/-- Class of a command opcode; none: not in the catalogue. -/
def cmdClass (op : Nat) : Option Nat :=
  if [0x01, 0x02, 0x24, 0x80, 0x90].contains op then some 0
  else if [0x10, 0x11, 0x12, 0x13].contains op then some 1
  else if [0x30, 0x31, 0x32, 0x40, 0x50, 0x60].contains op then some 2
  else if [0x20, 0x21, 0x22, 0x23].contains op then some 3
  else if [0x70, 0x71, 0x72].contains op then some 4
  else if [0xA0, 0xA1].contains op then some 5
  else if [0xB0, 0xB1, 0xB2, 0xB3, 0xC0].contains op then some 6
  else if op = 0xF0 then some 7
  else none

/-- Steps 1 to 3 of R339, and the length of an in-band command before them (R341). -/
def earlyRefusal (s : State) (src : CmdSrc) (b : Bytes) : Option W16 :=
  if src = .inband && b.length != 32 + cmdParamLen b then some stBadLength
  else match cmdClass (cmdOpcode b) with
  | none => some stBadOpcode
  | some c =>
    if src = .inband && !bitOf s.policy.inbandClasses c then some stBadOpcode
    else if cmdTarget b != 0xFFFF && !(hasIdentity s && cmdTarget b = ownId s) then some stBadParam
    else none

/-- The command's bytes are as its header says (step 4 of R339). -/
def bytesFit (b : Bytes) : Bool := decide (b.length = 32 + cmdParamLen b)

/-- Action of a STREAM_DEFINE (R351), kind of a CHIP_RESET (R355). -/
def subCode (b : Bytes) : Nat := leAt b 32 1

/-- The answer to a command that has no row of its own: an unknown opcode, a reserved action or reset kind. -/
def rowless (s : State) (src : CmdSrc) (b : Bytes) : Option W16 :=
  let op := cmdOpcode b
  if op = 0x50 && !(decide (1 ≤ subCode b ∧ subCode b ≤ 6)) then
    some ((earlyRefusal s src b).getD (if decide (cmdParamLen b ≥ 8) && bytesFit b then stBadParam else stBadLength))
  else if op = 0xF0 && !(subCode b = 1 || subCode b = 2) then
    some ((earlyRefusal s src b).getD (if cmdParamLen b = 8 && bytesFit b then stBadParam else stBadLength))
  else if (cmdClass op).isNone then some ((earlyRefusal s src b).getD stBadOpcode)
  else none

/-- Answer the in-band command at the head of the queue. A command accepted before the device had its identity leaves by the
port that brought it, whatever has come into force since (assumption log 142). -/
def answerHead (r : Reply) (s : State) : State :=
  match s.host.inband with
  | [] => s
  | c :: rest =>
    let payload := replyBytes (replySrc s) r
    let e : CachedReply := { src := c.hdr.src, ttag := c.hdr.ttag, crc := crc32 c.bytes, status := r.status,
                             payload := payload, expiry := s.now + 1000000000 }
    let s := originate { pkt := cmdStatus s c.hdr r.status payload, viaPort := c.viaPort } s
    let s := updHost (fun h => { h with inband := rest, replyCache := cacheReply e h.replyCache }) s
    hostCount 1 1 (when (r.status != stOk) (hostCount 2 1) s)

/-- Answer rowless commands as they reach the head of the in-band queue. -/
def settleInband : Nat → State → State
  | 0, s => s
  | n + 1, s =>
    match s.host.inband with
    | [] => s
    | c :: _ => match rowless s .inband c.bytes with
      | none => s
      | some st => settleInband n (answerHead { status := st, tag := cmdTag c.bytes, opcode := w16 (cmdOpcode c.bytes) } s)

def finishInband (r : Reply) (s : State) : State := settleInband 16 (answerHead r s)

/-- A ring's command has finished: its completion waits for COMPLETION_POST, or is discarded after a reset (R323, R329). -/
def finishRing (hp : HostPort) (n : Nat) (r : Reply) (s : State) : State :=
  match (ringOf s hp n).cmd with
  | none => s
  | some c =>
    let s := updRing hp n (fun x => { x with cmd := if c.discard then none else some { c with reply := some r } }) s
    hostCount 0 1 (when (r.status != stOk) (hostCount 2 1) s)

/-- Finish the command of a source with a status and results. -/
def finish (src : CmdSrc) (status : W16) (result : Bytes) (s : State) : State :=
  match commandOf s src with
  | none => s
  | some b =>
    let r : Reply := { status := status, tag := cmdTag b, opcode := w16 (cmdOpcode b), result := result }
    match src with
    | .ring hp n => finishRing hp n r s
    | .inband => finishInband r s

/-! ### Washes (R349) -/

/-- The wash that names port `p`, if one does. -/
def washOf (s : State) (p : Nat) : Option Wash := s.host.washes.find? (fun w => bitOf w.ports.toNat p)

/-- Note a port that left its wash undrained, with the packets flushed. -/
def noteUndrained (p flushed : Nat) (s : State) : State :=
  updHost (fun h => { h with washes := h.washes.map (fun w =>
    if bitOf w.ports.toNat p then
      { w with undrained := w.undrained ||| (1 : BitVec 96) <<< p, flushed := w.flushed + flushed } else w) }) s

/-- The result of a wash: the mask of undrained ports and the count of packets flushed. -/
def washResult (w : Wash) : Bytes := leBytes 12 w.undrained.toNat ++ leBytes 4 w.flushed

/-- Every port that a wash names is *Disabled*. -/
def washDone (s : State) (w : Wash) : Bool :=
  (maskList 96 w.ports.toNat).all (fun p => (portOf s p).state = .disabled)

/-- Complete every wash whose ports are all *Disabled*: OK when all were drained, TIMEOUT otherwise. -/
def finishWashes (s : State) : State :=
  forEach (s.host.washes.filter (washDone s)) (fun w s =>
    finish w.src (if w.undrained = 0 then stOk else stTimeout) (washResult w)
      (updHost (fun h => { h with washes := h.washes.filter (fun x => !(x.src = w.src)) }) s)) s

end Sys2Proof.Machine
end

