-- ==== Sys2Proof/Machine/Ports.lean ====
section
/-! DEFINITION. The port state machine (03): states and causes, attempts and absence, full rate and its loss, warm and
cold, grace, admission, and the lane-set table of R58. -/

namespace Sys2Proof.Machine

/-! ### Codes (R99, R100) -/

def stateCode : PState → Nat
  | .disabled => 0
  | .absent => 1
  | .listen => 2
  | .primer => 3
  | .step => 4
  | .running => 5
  | .retest => 6
  | .miswired => 7

def caAttemptTimeout : W16 := 0x0001
def caPartnerLost : W16 := 0x0002
def caLanesExhausted : W16 := 0x0003
def caNoReport : W16 := 0x0004
def caCrossed : W16 := 0x0005
def caLaneOrder : W16 := 0x0006
def caSplitCable : W16 := 0x0007
def caLoopback : W16 := 0x0008
def caWrongPeer : W16 := 0x0009
def caBadOffer : W16 := 0x000A
def caDisabled : W16 := 0x000B
def caUnused : W16 := 0x000C
def caHostRetrain : W16 := 0x000D
def caGraceExpired : W16 := 0x000E
def caSignal : W16 := 0x000F
def caFom : W16 := 0x0010
def caRingLock : W16 := 0x0011
def caSelftest : W16 := 0x0012
def caFarAnnounce : W16 := 0x0013
def caNoResume : W16 := 0x0014

/-- Move a port to a state with a cause: one PORT_STATE event at each change of state (R90). -/
def setPortState (p : Nat) (st : PState) (cause : W16) (s : State) : State :=
  let old := (portOf s p).state
  let s := updPort p (fun q => { q with state := st, cause := cause }) s
  if old = st then s
  else raise 0x0001 p ([BitVec.ofNat 8 (stateCode old), BitVec.ofNat 8 (stateCode st)] ++ leBytes 2 cause.toNat) s

/-- Full rate: where the lane monitors of R49 and R51 judge the slot stream and its patterns. -/
def atFullRate (q : Port) : Bool := q.state = .step || q.state = .running || q.state = .retest

def inSet (mask : BitVec 8) (l : Nat) : Bool := bitOf mask.toNat l

def widthOf (mask : BitVec 8) : Nat := popCount 8 mask.toNat

/-! ### Lane sets (R58, R75) -/

def laneSets : List (BitVec 8) :=
  [0xFF, 0x0F, 0xF0, 0x55, 0xAA, 0x03, 0x0C, 0x30, 0xC0, 0x11, 0x44, 0x22, 0x88]

/-- The first lane set whose lanes are all usable, of at least the effective minimum width and of widths in common. -/
def chooseSet (usable : BitVec 8) (minWidth : Nat) (w4 w2 : Bool) : Option (BitVec 8) :=
  laneSets.find? (fun m =>
    m &&& usable = m && decide (minWidth ≤ widthOf m) && (widthOf m != 4 || w4) && (widthOf m != 2 || w2))

/-! ### What a port sends (R64 to R67, R71, R72, R77, R78, R84, R85) -/

/-- The transmitter is not dark (R65), and no thermal trip has stopped the modulators (R397). -/
def transmits (s : State) (p : Nat) : Bool :=
  let q := portOf s p
  q.calibrated && !s.boot.thermTrip && (match q.state with
    | .disabled => false
    | .absent => q.probing
    | .miswired => q.cause != caCrossed || q.probing
    | _ => true)

/-- The port sends primer sets (R64). -/
def sendsPrimer (s : State) (p : Nat) : Bool := transmits s p && !atFullRate (portOf s p)

/-- A primer set's 32 bytes: K28.5, D21.5, type, content, CRC over offsets 2 to 27. -/
def primerBytes (typ : Byte) (content : Bytes) : Bytes :=
  let body := typ :: padTo 25 content
  [0xBC, 0xB5] ++ body ++ leBytes 4 (crc32 body).toNat

/-- A primer set leaves on one lane: code groups at the lane's running disparity, complemented by a ring on the
short-wavelength flank (R48, R66). -/
def sendSet (p l : Nat) (typ : Byte) (content : Bytes) (s : State) : State :=
  let a := laneOf s p l
  let k := encodeControl a.txRd .k28_5
  let r := encodeRun (disparityAfter a.txRd k) ((primerBytes typ content).drop 1)
  when (transmits s p) (fun s =>
    emit (.primer p l (invertGroups a.txShort (k :: r.1))) (updLane p l (fun x => { x with txRd := r.2 }) s)) s

def alignedMask (q : Port) : Nat := maskOf ((List.range 8).filter (fun l => (q.lanes.getD l {}).aligned))

/-- `seq_held` of R71: the sequence state is held for this far end, unless the far end that shows itself is another than the
one recorded; before it shows itself the flag tells of the one recorded (assumption log 182). -/
def heldForFar (q : Port) : Bool :=
  q.seqHeld && (!q.farValid || (q.linkTag == q.recTag && q.farPort == q.recPort))

/-- The content of an IDENT set of port `p` on transmit lane `l` (offsets 3 to 27). -/
def identContent (s : State) (p l : Nat) : Bytes :=
  let q := portOf s p
  [0x01, 0x02] ++ leBytes 2 0x0007 ++ leBytes 2 (replySrc s).toNat ++ [BitVec.ofNat 8 p, BitVec.ofNat 8 l] ++
    leBytes 4 s.boot.chipTag.toNat ++ [BitVec.ofNat 8 (nth s.policy.minWidth p)] ++
    [BitVec.ofNat 8 (boolNat q.farValid + 2 * boolNat q.ready + 4 * boolNat (heldForFar q) + 8 * boolNat s.sketch.inForce)] ++
    [BitVec.ofNat 8 (alignedMask q)] ++ leBytes 2 q.cause.toNat ++ zeros 8

/-- The device's clock in primer bit periods of 37.647 ps (R77). -/
def bitPeriods (ns : Nat) : Nat := ns * 1000000 / 37647

/-- The content of a TIME set that leaves now (R77). -/
def timeContent (s : State) (p l : Nat) : Bytes :=
  let q := portOf s p
  let t := bitPeriods s.now
  leBytes 6 t ++ leBytes 6 q.lastTx.toNat ++ leBytes 4 (if q.lastTx = 0 then 0 else t - q.lastTxAt) ++
    [BitVec.ofNat 8 l, q.timeSeq] ++ zeros 7

/-- The measurement lane: the lowest that the far end shows aligned (R78). -/
def measureLane (q : Port) : Option Nat := (maskList 8 q.farRxLanes.toNat).head?

/-- The next primer set of a lane: in *Primer* the measurement lane alternates TIME and IDENT, every other set is IDENT
(R78). -/
def sendPrimer (p l : Nat) (s : State) : State :=
  let q := portOf s p
  if q.state = .primer && measureLane q = some l then
    (if q.timeTurn then
      updPort p (fun q => { q with timeTurn := false, timeSeq := q.timeSeq + 1 }) (sendSet p l 0x02 (timeContent s p l) s)
    else updPort p (fun q => { q with timeTurn := true }) (sendSet p l 0x01 (identContent s p l) s))
  else sendSet p l 0x01 (identContent s p l) s

/-- Primer sets on all eight lanes; a transmitter that starts does so with negative running disparity (R66). -/
def sendPrimers (p : Nat) (starts : Bool) (s : State) : State :=
  forEach (List.range 8) (sendPrimer p) (when starts (updPort p (fun q => { q with
    lanes := q.lanes.map (fun l => { l with txRd := false }) })) s)

/-- A frame of R85 leaves on the lanes of a mask. -/
def sendFrame (p : Nat) (lanes : BitVec 8) (b : Bytes) (s : State) : State :=
  forEach (maskList 8 lanes.toNat) (fun l s =>
    when (transmits s p) (emit (.frame p l (invertLevels (laneOf s p l).txShort (bytesToLevels b)))) s) s

/-- PRBS31 leaves on one lane, from a generator state of the lane's own (R84). -/
def sendPrbs (p l : Nat) (s : State) : State :=
  when (transmits s p) (emit (.prbs p l (prbsStart p l) (laneOf s p l).txShort)) s

/-! ### Leaving phases -/

/-- A port without a phase of training or attempt in progress. -/
def clearPhase (q : Port) : Port :=
  { q with phase := .none, probing := false, ready := false, stepCount := none, samples := 0, delaySum := 0
           finalSent := false, finalSeen := false, wait := none, attempt := none, quiesce := none }

/-- Lanes lose alignment, as when a port changes its symbol rate. -/
def unalign (l : Lane) : Lane := { l with aligned := false, goodSets := 0, crcSeen := false, badSets := 0, ident := none }

/-- Lanes that leave full rate: the last FoM and the rich judgement read 0 (R63). -/
def offFullRate (l : Lane) : Lane := { l with fom := 0, rich := false }

def noneAligned (q : Port) : Bool := q.lanes.all (fun l => !l.aligned)

/-- With no lane aligned, no IDENT of the far end stands: `seen`, the lane map, and what its own IDENT said of readiness, are
given up (R71, R73). -/
def forgetFar (q : Port) : Port :=
  if noneAligned q then { q with farValid := false, farSeen := false, farReady := false, mapValid := false } else q

/-- Start an attempt in *Listen* (R87): primer sets leave on all eight lanes. -/
def toListen (p : Nat) (cause : W16) (s : State) : State :=
  let due := s.now + 10000000
  let starts := !sendsPrimer s p
  let s := updPort p (fun q => forgetFar { clearPhase q with attempt := some due, lanes := q.lanes.map offFullRate }) s
  sendPrimers p starts (setPortState p .listen cause s)

/-- A failed attempt (R87, R90): at once again after the first two failures, then *Absent* with a growing wait. -/
def failAttempt (p : Nat) (cause : W16) (s : State) : State :=
  let q := portOf s p
  let n := min 255 (q.failCount.toNat + 1)
  let s := updPort p (fun q => { q with failCount := BitVec.ofNat 8 n, attempts := q.attempts + 1 }) s
  if n < 3 then toListen p cause s
  else
    let limit := nth s.policy.probePeriod p
    let w := if n = 3 || q.probeWait = 0 then min 20 limit else min (2 * q.probeWait.toNat) limit
    let due := s.now + 1000000 * w
    let s := updPort p (fun q =>
      forgetFar { clearPhase q with wait := some due, probeWait := w16 w, lanes := q.lanes.map offFullRate }) s
    setPortState p .absent cause s

/-! ### Cold (R91, R122, R123) -/

/-- The slot stream being sent goes on across a cold reset: its position, its scrambler and its marker count. -/
def streamOf (k : Link) : Link :=
  { txScr := k.txScr, txSlots := k.txSlots, txMarkers := k.txMarkers, txSymbol := k.txSymbol, sinceCrun := k.sinceCrun
    lastCrun := k.lastCrun, resumeRun := k.resumeRun }

/-- The port's link is reset cold: packets in progress from it end VOID and are counted (R5, R123), its cells owe no more credits to the old link,
the retry buffer is discarded and counted, sequence state is given up and admission withdrawn (R96). -/
def goCold (p : Nat) (s : State) : State :=
  let q := portOf s p
  let s := forEach q.current (fun e s => endVoid e.2 s) s
  let s := updSwitch (fun w => { w with packets := w.packets.map (fun e =>
    if e.2.ingress = some p then (e.1, { e.2 with released := e.2.cells }) else e) }) s
  updPort p (fun q => { q with
    link := streamOf q.link
    current := []
    dropping := []
    seqHeld := false
    admitted := false
    recTag := 0
    recPort := 0
    warm := false
    partDiscards := q.partDiscards + BitVec.ofNat 64 q.current.length
    retryDiscards := q.retryDiscards + BitVec.ofNat 64 (q.link.retryB.length + q.link.retryC.length) }) s

/-! ### Grace (R129 to R131) -/

/-- A retrain that was warm is cold from now on (R60, R91, R93): one that is testing starts again through the primer, where
the next rate step tests all eight lanes, and one in the primer goes on (assumption log 108). -/
def warmLost (p : Nat) (cause : W16) (s : State) : State :=
  let q := portOf s p
  let s := goCold p s
  match q.state with
  | .retest => toListen p cause s
  | .step => if q.warm then failAttempt p cause s else s
  | .listen | .primer => if q.seqHeld then setPortState p q.state cause s else s
  | _ => s

/-- The grace period expires: the queues are flushed and counted, and a retrain in progress becomes cold with cause
`GRACE_EXPIRED`. -/
def expireGrace (p : Nat) (s : State) : State :=
  let s := updPort p (fun q => { q with grace := none }) s
  let s := (flushPort p (linkCount p 16) (linkCount p 17) s).1
  if (portOf s p).state = .running then s else warmLost p caGraceExpired s

/-- The grace period starts when a port leaves *Running*, with the value then in force; with `grace` 0 it expires at
once. -/
def startGrace (p : Nat) (s : State) : State :=
  let due := s.now + 1000 * nth s.policy.grace p
  updPort p (fun q => { q with grace := some due }) s

def endGrace (p : Nat) (s : State) : State := updPort p (fun q => { q with grace := none }) s

/-! ### Disabled (R95) -/

/-- Put a port in *Disabled*: dark, its queues flushed into `disable_flushed` and `mcast_down`. Answers how many packets
and copies it flushed. -/
def disablePort (p : Nat) (s : State) : State × Nat :=
  let f := flushPort p (linkCount p 29) (swCount 19) s
  let left := (portOf s p).state = .running
  let s := goCold p f.1
  let s := updPort p (fun q => { clearPhase q with
    grace := none, washing := false, lanes := (q.lanes.map offFullRate).map unalign
    farValid := false, farSeen := false, farReady := false
    leftRunning := if left then q.leftRunning + 1 else q.leftRunning }) s
  (setPortState p .disabled caDisabled s, f.2)

/-- A washed port leaves *Running* undrained: it is disabled at that moment (R349). -/
def abandonWash (p : Nat) (s : State) : State :=
  let d := disablePort p s
  finishWashes (noteUndrained p d.2 d.1)

/-! ### Leaving *Running* -/

/-- What every way out of *Running* but PORT_DISABLE does: counted, no candidate, the far end recorded, grace started. A
quiesce before PORT_RETRAIN ends with it: a trigger of R92 that comes first prevails (assumption log 107). -/
def leaveRunning (p : Nat) (s : State) : State :=
  let s := updPort p (fun q => { q with leftRunning := q.leftRunning + 1, replayDone := false, quiesce := none
                                        recTag := q.linkTag, recPort := q.farPort }) s
  startGrace p s

/-- With `grace` 0 the period just started expires at once, after the port has left *Running*. -/
def settleGrace (p : Nat) (s : State) : State :=
  if nth s.policy.grace p = 0 && (portOf s p).grace.isSome then expireGrace p s else s

/-- The 32 bytes of a report frame (type 1) or an ANNOUNCE frame (type 2) (R85). -/
def announceFrame (s : State) (p count : Nat) (typ : Nat) (mask : BitVec 8) (final : Bool) : Bytes :=
  let q := portOf s p
  let b : Bytes := [BitVec.ofNat 8 typ, mask, BitVec.ofNat 8 q.effWidth,
    BitVec.ofNat 8 (boolNat final + 2 * boolNat (heldForFar q))] ++ leBytes 2 count ++ leBytes 4 s.boot.chipTag.toNat ++ zeros 10
  leBytes 8 0x3C5A96F00F69A5C3 ++ b ++ leBytes 4 (crc32 b).toNat

/-- ANNOUNCE frames on the lanes in use, their `count` falling to 0 (R92; assumption log 22). -/
def sendAnnounce (p count : Nat) (s : State) : State :=
  forEach (List.range (count + 1)) (fun i s =>
    sendFrame p (portOf s p).laneSet (announceFrame s p (count - i) 2 0 false) s) s

/-- The effective minimum width at this retrain (R62, R75). -/
def ownWidth (s : State) (p : Nat) : Nat := max (nth s.policy.minWidth p) (portOf s p).farMinWidth.toNat

/-- A running port enters *Retest* (R92): only the lanes in use are tested; ANNOUNCE is sent; the self-test starts at
`start`. -/
def enterRetest (p : Nat) (cause : W16) (initiator : Bool) (start : Nat) (s : State) : State :=
  if (portOf s p).state != .running then s
  else if (portOf s p).washing then abandonWash p s
  else
    let s := leaveRunning p s
    let w := ownWidth s p
    let s := updPort p (fun q => { clearPhase q with
      phase := .announce, testStart := start, initiator := initiator, warm := true, underTest := q.laneSet, nearMask := 0
      lowWindows := 0, busyWindow := false, effWidth := w
      lanes := q.lanes.map (fun l => { l with judged := false }) }) s
    let s := setPortState p .retest cause s
    settleGrace p (sendAnnounce p ((start - s.now) / 10) s)

/-- A trigger of R92 at this end: the countdown of 3 µs begins. -/
def retest (p : Nat) (cause : W16) (s : State) : State := enterRetest p cause true (s.now + 3000) s

/-- Enter *Miswired*, leaving whatever state cold (R82, R96). -/
def toMiswired (p : Nat) (cause : W16) (s : State) : State :=
  let s0 := s
  if (portOf s p).washing then abandonWash p s
  else
    let s := if (portOf s p).state = .running then leaveRunning p s else s
    let s := goCold p s
    let due := s.now + 1000000 * nth s.policy.probePeriod p
    let starts := !sendsPrimer s p
    let s := updPort p (fun q => forgetFar { clearPhase q with
      wait := if cause = caCrossed then some due else none
      verdict := if cause = caWrongPeer then .fail else q.verdict
      lanes := q.lanes.map offFullRate }) s
    let s := sendPrimers p starts (setPortState p .miswired cause s)
    if (portOf s0 p).state = .running then settleGrace p s else s

/-- A port whose role is *Unused* leaves its state cold and is *Absent* with cause `UNUSED` (R89, R97). -/
def toUnused (p : Nat) (s : State) : State :=
  let s0 := s
  if (portOf s p).washing then abandonWash p s
  else
    let s := if (portOf s p).state = .running then leaveRunning p s else s
    let s := goCold p s
    let s := updPort p (fun q => forgetFar { clearPhase q with lanes := q.lanes.map offFullRate }) s
    let s := setPortState p .absent caUnused s
    if (portOf s0 p).state = .running then settleGrace p s else s

/-! ### Warm or cold (R91) -/

/-- A retrain is warm while grace runs, both ends hold sequence state, and the far end is the recorded one. -/
def warmOk (q : Port) : Bool :=
  q.grace.isSome && q.seqHeld && q.farSeqHeld && q.linkTag == q.recTag && q.farPort == q.recPort

/-! ### The wiring verdict (R80) -/

/-- The verdict of a port against the sketch in force. -/
def verdictOf (s : State) (p : Nat) : Verdict :=
  let q := portOf s p
  let r := roleOf s p
  if !hasIdentity s || q.farEndpoint = 0xFFFF then .pending
  else
    let kindOk := q.farKind = if r.role = 1 then 0x00 else 0x01
    let portOk := r.expPort = 0xFF || r.expPort = q.farPort
    if kindOk && portOk && r.expEndpoint = q.farEndpoint then .pass else .fail

/-- Judge the verdict anew; a failure enters *Miswired* from any state that trains or runs, and gives a port that is there with
a valid map its cause (R80, R82). -/
def judgeVerdict (p : Nat) (s : State) : State :=
  let v := verdictOf s p
  let s := updPort p (fun q => { q with verdict := v }) s
  let st := (portOf s p).state
  if v = .fail && (st = .primer || st = .step || st = .running || st = .retest) then toMiswired p caWrongPeer s
  else if v = .fail && st = .miswired && (portOf s p).mapValid && (portOf s p).cause != caCrossed then
    setPortState p .miswired caWrongPeer s
  else s

/-! ### Entry to *Running* (R86, R96, R125 to R127) -/

/-- Credits at a cold entry: the grants of VC 4 and VC 5 (R125). -/
def coldCredits (s : State) (p : Nat) : List W16 :=
  (List.range 8).map (fun v => if v = 4 || v = 5 then w16 (nth s.policy.grant (8 * p + v)) else 0)

/-- The far slot stream is framed on every lane of the set: the port runs. -/
def enterRunning (p : Nat) (s : State) : State :=
  let warm := warmOk (portOf s p)
  let s := if warm then s else goCold p s
  let cc := coldCredits s p
  let gr := (List.range 8).map (fun v => nth s.policy.grant (8 * p + v))
  let now := s.now
  let s := updPort p (fun q => { clearPhase q with
    failCount := 0
    probeWait := 0
    seqHeld := true
    recTag := q.linkTag
    recPort := q.farPort
    lowWindows := 0
    busyWindow := false
    replayDone := !warm
    grants := if warm then q.grants else gr
    lanes := q.lanes.zipIdx.map (fun e => { e.1 with markerBad := false })
    link := if warm then { q.link with
        pcReq := true, resumeB := true, resumeC := true, resumeRun := true, replayB := none, replayC := none,
        progressB := now, progressC := now, timeoutsB := 0, timeoutsC := 0,
        rxSymbol := 0, rxMarkers := List.replicate 8 1, rxScr := BitVec.allOnes 31 }
      else { streamOf q.link with credCum := cc, progressB := now, progressC := now } }) s
  let s := setPortState p .running (portOf s p).cause s
  if (portOf s p).admitted then endGrace p s else s

/-- A fault forces a running port through a cold retrain (R407). -/
def coldRetrain (p : Nat) (cause : W16) (s : State) : State :=
  if (portOf s p).state != .running then s
  else if (portOf s p).washing then abandonWash p s
  else settleGrace p (toListen p cause (goCold p (leaveRunning p s)))

/-- The slot stream starts anew (R86, R104): a resume C-run comes first, and again at entry to *Running* (R122). -/
def startStream (p : Nat) (s : State) : State :=
  let now := s.now
  updLink p (fun k => { k with
    txScr := BitVec.allOnes 31, txSlots := 0, txMarkers := 0, txSymbol := 0, sinceCrun := 0, lastCrun := now
    resumeRun := true }) s

/-! ### Failures of *Step* and *Retest* (R86, R93) -/

/-- A failure of R86: a failed attempt in *Step*, a return to *Listen* from *Retest*. -/
def failPhase (p : Nat) (cause : W16) (s : State) : State :=
  match (portOf s p).state with
  | .step => failAttempt p cause s
  | .retest => toListen p cause s
  | _ => s

end Sys2Proof.Machine
end

