-- ==== Sys2Proof/Machine/Optics.lean ====
section
/-! DEFINITION. Laser inputs, ring locks, equalisers, detectors and the figure of merit (02). -/

namespace Sys2Proof.Machine

/-! ### Laser inputs (R43 to R46) -/

def laserOf (s : State) (i : Nat) : LaserInput := s.lasers.getD i {}

def updLaser (i : Nat) (f : LaserInput → LaserInput) (s : State) : State := { s with lasers := s.lasers.modify i f }

/-- Raise a laser event when its condition begins or ends. -/
def laserEdge (code input : Nat) (data : Bytes) (was isNow : Bool) (s : State) : State :=
  if was = isNow then s else raiseWith code input data (!isNow) s

/-- The data of `LASER_LOW`, `LASER_LOSS` and `LASER_OVERPOWER`: wavelength, power in 0.1 dBm. -/
def laserData (wave : Nat) (power : Int) : Bytes := [BitVec.ofNat 8 wave] ++ leBytes 2 (wrapInt 16 power)

/-- The input's next judgement from one sample, powers at the input in 0.1 dBm (R43 to R45). A closed attenuator stands at
30.0 dB, the least that R45 allows (assumption log 102). -/
def judgeLaser (l : LaserInput) (now : Nat) (a b : Int) : LaserInput :=
  let sa := a - l.atten
  let sb := b - l.atten
  let lra := if sa < 130 then l.lowRunA + 1 else 0
  let lrb := if sb < 130 then l.lowRunB + 1 else 0
  let ora := if a > 200 then l.overRunA + 1 else 0
  let orb := if b > 200 then l.overRunB + 1 else 0
  { powerA := a, powerB := b
    atten := if a > 260 || b > 260 then 300 else if ora ≥ 2 || orb ≥ 2 then max l.atten 60 else l.atten
    lowRunA := lra, lowRunB := lrb, lowA := decide (lra ≥ 2), lowB := decide (lrb ≥ 2)
    lossA := decide (sa < 50), lossB := decide (sb < 50)
    overRunA := ora, overRunB := orb, overA := decide (ora ≥ 2), overB := decide (orb ≥ 2)
    imbalance := decide (a - b > 30 ∨ b - a > 30)
    calmSince := if a ≤ 190 && b ≤ 190 then some (l.calmSince.getD now) else none }

/-- A sample of one input: each condition's event goes to the host, with the power that its condition judges (assumption log
158); chapter 12 gives no message for the tray controller (log 103). -/
def laserSample (input : Nat) (a b : Int) (s : State) : State :=
  let l := laserOf s input
  let n := judgeLaser l s.now a b
  let s := updLaser input (fun _ => n) s
  let s := laserEdge 0x0010 input (laserData 0 (a - l.atten)) l.lowA n.lowA s
  let s := laserEdge 0x0010 input (laserData 1 (b - l.atten)) l.lowB n.lowB s
  let s := laserEdge 0x0011 input (laserData 0 (a - l.atten)) l.lossA n.lossA s
  let s := laserEdge 0x0011 input (laserData 1 (b - l.atten)) l.lossB n.lossB s
  let s := laserEdge 0x0012 input (laserData 0 a) l.overA n.overA s
  let s := laserEdge 0x0012 input (laserData 1 b) l.overB n.overB s
  laserEdge 0x0013 input (leBytes 2 (a - b).natAbs) l.imbalance n.imbalance s

/-- LASER_MONITOR_SAMPLE (R44): both wavelengths at the input, in 0.1 dBm. -/
def execLaserMonitorSample (input : Nat) (lambdaA lambdaB : Int) (s : State) : Res :=
  onUnit (decide (input < 48)) (laserSample input lambdaA lambdaB) s

/-- The attenuator may return to 0 dB: both wavelengths at or below +19.0 dBm for 1 ms (R45). -/
def attenuatorDue (l : LaserInput) (now : Nat) : Bool :=
  match l.calmSince with
  | none => false
  | some t => decide (t + 1000000 ≤ now)

def releaseAttenuator (input : Nat) (s : State) : State :=
  if attenuatorDue (laserOf s input) s.now then updLaser input (fun l => { l with atten := 0 }) s else s

/-- ATTENUATOR_RELEASE (R45). -/
def execAttenuatorRelease (input : Nat) (s : State) : Res :=
  onUnit (decide (input < 48)) (releaseAttenuator input) s

/-! ### Loops (R1, R47, R62) -/

def engineOf (p : Nat) : Nat := p / 8

/-- Where a loop goes at one update: to its aim within the bounds; from outside new bounds to the nearer bound (R62). -/
def loopGoal (lo hi cur aim : Int) : Int := if cur < lo then lo else if hi < cur then hi else clampInt lo hi aim

/-- One update of a loop: toward its goal by at most `step` (R47). -/
def loopMove (lo hi step cur aim : Int) : Int := cur + clampInt (-step) step (loopGoal lo hi cur aim - cur)

/-- Mark the bounds at which loop `n` of a lane stands after its update, raising LOOP_PINNED for each that it reaches (R1).
The feed-forward equaliser stands at a bound while a tap of it does (assumption log 138). -/
def notePin (p l n : Nat) (atLo atHi : Bool) (s : State) : State :=
  let new : Pin := { lo := atLo, hi := atHi }
  let old := (laneOf s p l).pins.getD (n - 1) {}
  raiseReached n (256 * l + p) old new (updLane p l (fun x => { x with pins := x.pins.set (n - 1) new }) s)

/-- Loops 1 to 5 stand still once the thermal trip, which outranks them, has stopped the modulators (R397, R400). -/
def loopsRun (s : State) : Bool := !s.boot.thermTrip

/-- The laser input that feeds a port: each input of an engine serves two (02, the feed rule before R43). -/
def laserInputOf (p : Nat) : Nat := 4 * engineOf p + p % 8 / 2

/-- The protection attenuator of the port's laser input has closed: it overrides the modulator loops, which stand still
without light (R400, assumption log 136). -/
def laserClosed (s : State) (p : Nat) : Bool := decide ((laserOf s (laserInputOf p)).atten ≥ 300)

def modulatorMove (p l : Nat) (aim : Int) (s : State) : State :=
  if !transmits s p || laserClosed s p then s
  else
    let lo : Int := (nth s.policy.heaterLo (engineOf p) : Nat)
    let hi : Int := (nth s.policy.heaterHi (engineOf p) : Nat)
    let x := loopMove lo hi 8 (laneOf s p l).txHeater.toNat aim
    notePin p l 1 (x = lo) (x = hi) (updLane p l (fun a => { a with txHeater := BitVec.ofInt 12 x }) s)

/-- MODULATOR_LOCK_UPDATE (R47): the loop's aim is the heater code where the photocurrent would stand at `mod_bias`. -/
def execModulatorLockUpdate (port lane : Nat) (aim : Int) (s : State) : Res :=
  onUnit (portOk port && laneOk lane) (modulatorMove port lane aim) s

def dropMove (p l : Nat) (aim : Int) (s : State) : State :=
  if !(loopsRun s && atFullRate (portOf s p) && (laneOf s p l).rich) then s
  else
    let lo : Int := (nth s.policy.heaterLo (engineOf p) : Nat)
    let hi : Int := (nth s.policy.heaterHi (engineOf p) : Nat)
    let x := loopMove lo hi 8 (laneOf s p l).rxHeater.toNat aim
    notePin p l 2 (x = lo) (x = hi) (updLane p l (fun a => { a with rxHeater := BitVec.ofInt 12 x }) s)

/-- DROP_LOCK_UPDATE (R47, R49): only after a block judged rich. -/
def execDropLockUpdate (port lane : Nat) (aim : Int) (s : State) : Res :=
  onUnit (portOk port && laneOk lane) (dropMove port lane aim) s

/-- The monitor has stayed outside the lock window of ±0.15 around `mod_bias`, in 1/64, for 4 µs (R48). -/
def outsideWindow (bias : Nat) (run : MonitorRun) : Bool :=
  decide (4000 ≤ run.span) && !run.readings.isEmpty &&
    run.readings.all (fun r => decide (64 * r + 9600 < 1000 * bias ∨ 1000 * bias + 9600 < 64 * r))

/-- A ring of any lane of the port has lost its lock, in the lane set or not. -/
def lockLoss (p : Nat) (run : MonitorRun) (s : State) : State :=
  when (outsideWindow (nth s.policy.modBias (engineOf p)) run) (retest p caRingLock) s

/-- RING_LOCK_LOSS (R48): the port leaves full rate and starts a warm retrain. -/
def execRingLockLoss (port lane : Nat) (run : MonitorRun) (s : State) : Res :=
  onUnit (portOk port && laneOk lane) (lockLoss port run) s

/-! ### Transition density (R49) -/

/-- A block of 65,536 symbols is rich. -/
def blockRich (b : BlockStats) : Bool :=
  b.levels.length = 4 && b.levels.all (fun n => decide (15 * 65536 ≤ 100 * n ∧ 100 * n ≤ 35 * 65536)) &&
    decide (60 * 65536 ≤ 100 * b.changes)

/-- The equalisers and slicers move to where the adaptation aims, within their bounds (R47). -/
def adapt (p l : Nat) (b : BlockStats) (s : State) : State :=
  let e := engineOf p
  let clo : Int := (nth s.policy.ctleLo e : Nat)
  let chi : Int := (nth s.policy.ctleHi e : Nat)
  let fl : Int := (nth s.policy.ffeLimit e : Nat)
  let dl : Int := (nth s.policy.dfeLimit e : Nat)
  let x := laneOf s p l
  let c := loopGoal clo chi x.ctle.toNat b.ctleAim
  let f := (List.range 6).map (fun i => loopGoal (-fl) fl (nth x.ffe i) (nth b.ffeAim i))
  let d := loopGoal (-dl) dl x.dfe b.dfeAim
  let s := updLane p l (fun x => { x with ctle := BitVec.ofInt 5 c, ffe := f, dfe := d, slicers := b.slicers }) s
  let s := notePin p l 3 (c = clo) (c = chi) s
  let s := notePin p l 4 (f.any (fun t => t = -fl)) (f.any (fun t => t = fl)) s
  notePin p l 5 (d = -dl) (d = dl) s

def blockEnd (p l : Nat) (b : BlockStats) (s : State) : State :=
  let q := portOf s p
  let x := laneOf s p l
  if !atFullRate q || x.los || x.lol then s
  else
    let s := updLane p l (fun x => { x with rich := blockRich b }) s
    if blockRich b && loopsRun s then adapt p l b s else s

/-- TRANSITION_BLOCK_END (R49). -/
def execTransitionBlockEnd (port lane : Nat) (block : BlockStats) (s : State) : Res :=
  onUnit (portOk port && laneOk lane) (blockEnd port lane block) s

/-! ### Loss of signal and loss of lock (R51, R52, R69, R98) -/

/-- What a port in training does when a lane has lost alignment: with none left, the far end's IDENT stands no longer
(R71) and the partner is lost (R98). -/
def alignmentLost (p : Nat) (s : State) : State :=
  let s := updPort p forgetFar s
  let q := portOf s p
  if !noneAligned q then s
  else match q.state with
    | .primer => failAttempt p caPartnerLost s
    | .miswired => if q.cause = caCrossed then s else toListen p caPartnerLost s
    | _ => s

/-- For a lane outside the set of a port in *Running* or *Retest*, an assertion is counted, and `LANE_SIGNAL` tells of it
and of its end (R52). -/
def laneSignal (p l detector : Nat) (ended : Bool) (s : State) : State :=
  let q := portOf s p
  if (q.state = .running || q.state = .retest) && !inSet q.laneSet l then
    raiseWith 0x0008 (256 * l + p) [BitVec.ofNat 8 detector] ended
      (when (!ended) (updLane p l (fun x => { x with losses := x.losses + 1 })) s)
  else s

/-- A detector of a lane asserts: alignment is lost; a lane in use ends full rate with cause `SIGNAL`. -/
def detectorAsserts (p l detector : Nat) (s : State) : State :=
  let was := (portOf s p).lanes.any (·.aligned)
  let s := updLane p l (fun x => { unalign x with rich := false }) s
  let s := laneSignal p l detector false s
  let q := portOf s p
  match q.state with
  | .running => if inSet q.laneSet l then retest p caSignal s else s
  | .step => if q.lanes.all (·.los) then failAttempt p caSignal s else s
  | _ => if was then alignmentLost p s else s

def losAssert (p l : Nat) (s : State) : State :=
  if (laneOf s p l).los then s else detectorAsserts p l 0 (updLane p l (fun x => { x with los := true }) s)

/-- LOSS_OF_SIGNAL_ASSERT (R51). -/
def execLossOfSignalAssert (port lane : Nat) (s : State) : Res :=
  onUnit (portOk port && laneOk lane) (losAssert port lane) s

def lolAssert (p l : Nat) (s : State) : State :=
  if (laneOf s p l).lol then s else detectorAsserts p l 1 (updLane p l (fun x => { x with lol := true }) s)

/-- LOSS_OF_LOCK_ASSERT (R51). -/
def execLossOfLockAssert (port lane : Nat) (s : State) : Res :=
  onUnit (portOk port && laneOk lane) (lolAssert port lane) s

def losDeassert (p l : Nat) (s : State) : State :=
  if !(laneOf s p l).los then s
  else
    let s := laneSignal p l 0 true (updLane p l (fun x => { x with los := false, crossed := false }) s)
    let q := portOf s p
    if q.state = .miswired && q.cause = caCrossed then toListen p q.cause s else s

/-- LOSS_OF_SIGNAL_DEASSERT (R51, R74). -/
def execLossOfSignalDeassert (port lane : Nat) (s : State) : Res :=
  onUnit (portOk port && laneOk lane) (losDeassert port lane) s

/-- A probe of 10 ms starts: IDENT on all eight lanes (R74, R89). -/
def startProbe (p : Nat) (s : State) : State :=
  let due := s.now + 10000000
  sendPrimers p true (updPort p (fun q => { q with probing := true, attempt := some due, wait := none }) s)

def lolDeassert (p l : Nat) (s : State) : State :=
  if !(laneOf s p l).lol then s
  else
    let s := laneSignal p l 1 true (updLane p l (fun x => { x with lol := false }) s)
    let q := portOf s p
    if q.state = .absent && q.cause != caUnused && !q.probing then startProbe p s else s

/-- LOSS_OF_LOCK_DEASSERT (R51, R89): modulated light at a dark *Absent* port starts a probe at once. -/
def execLossOfLockDeassert (port lane : Nat) (s : State) : Res :=
  onUnit (portOk port && laneOk lane) (lolDeassert port lane) s

/-! ### Figure of merit (R53 to R55) -/

/-- A lane's q over the three eyes as a fraction: `none` is infinity; a zero numerator is a shut eye. -/
def eyeQ (mu : List Int) (sigma : List Nat) (j : Nat) : Option (Nat × Nat) :=
  let d := mu.getD (j + 1) 0 - mu.getD j 0
  let v := sigma.getD j 0 + sigma.getD (j + 1) 0
  if d ≤ 0 then some (0, 1) else if v = 0 then none else some (d.toNat, v)

def minQ : Option (Nat × Nat) → Option (Nat × Nat) → Option (Nat × Nat)
  | none, y => y
  | x, none => x
  | some (a, b), some (c, d) => if a * d ≤ c * b then some (a, b) else some (c, d)

/-- `fom ≥ n` for q = a / b: 40 × (20 log10 q − 9.25) + 0.5 ≥ n, raised to integers. -/
def fomAtLeast (a b n : Nat) : Bool := decide (10 ^ (739 + 2 * n) * b ^ 1600 ≤ a ^ 1600)

/-- The largest n up to 255 that the FoM reaches. -/
def fomSearch (a b : Nat) : Nat := ((List.range 255).filter (fun n => fomAtLeast a b (n + 1))).length

/-- The FoM of a lane from the means and standard deviations of its four levels (R53). -/
def laneFom (mu : List Int) (sigma : List Nat) : Nat :=
  match minQ (eyeQ mu sigma 0) (minQ (eyeQ mu sigma 1) (eyeQ mu sigma 2)) with
  | none => 255
  | some (a, b) => if a = 0 then 0 else fomSearch a b

/-- The power series of erf(q ÷ √2) ÷ (q × √(2 ÷ π)) for q = a ÷ b, scaled by 2¹⁹²: `n` is the term, `t` its size without the
divisor 2n + 1. -/
def erfSeries (a b : Nat) : Nat → Nat → Nat → Int
  | 0, _, _ => 0
  | fuel + 1, n, t =>
    (if n % 2 = 0 then (1 : Int) else -1) * ((t / (2 * n + 1) : Nat) : Int)
      + erfSeries a b fuel (n + 1) (t * (a * a) / (b * b * (2 * (n + 1))))

/-- √(2 ÷ π) × 2¹⁹², rounded down. -/
def erfScale : Nat := 5008402561253905729789098622498677126536126712276965002673

/-- erfc(q ÷ √2) for q = a ÷ b, rounded to a multiple of 2⁻⁶⁴: 0 from q = 10 on, where it lies below 2⁻⁷⁵ (assumption
log 139). -/
def erfcOf (a b : Nat) : Rat :=
  if 10 * b ≤ a then 0
  else
    let erf := erfSeries a b 256 0 (2 ^ 192) * ((a * erfScale : Nat) : Int) / ((b * 2 ^ 192 : Nat) : Int)
    (((2 ^ 192 - erf + 2 ^ 127) / 2 ^ 128 : Int) : Rat) / 2 ^ 64

/-- The estimated bit error ratio of a lane (R53): half of erfc(q ÷ √2) for each eye, divided by four; `erfcOf` gives erfc
to 2⁻⁶⁴ (assumption log 139). -/
def berOf (mu : List Int) (sigma : List Nat) : Rat :=
  ((List.range 3).map (fun j => match eyeQ mu sigma j with
    | none => (0 : Rat)
    | some (a, b) => if a = 0 then 1 else erfcOf a b)).foldl (fun x e => x + e / 8) 0

/-- The lowest lane FoM among the lanes in use (R54). -/
def portFom (q : Port) : Nat :=
  (maskList 8 q.laneSet.toNat).foldl (fun m l => min m (q.lanes.getD l {}).fom.toNat) 255

/-- The comparisons of R54, in the table's order. -/
def judgeFom (p : Nat) (idle : Bool) (s : State) : State :=
  let q := portOf s p
  let f := portFom q
  let pc := q.link.pcReq
  let low := decide (f < s.policy.fomRetrain)
  let s := if f < s.policy.fomWarn && !idle && !pc then
    raise 0x0002 p [BitVec.ofNat 8 f] (updLink p (fun k => { k with pcReq := true }) s) else s
  let s := if f ≥ s.policy.fomGood && pc then
    raise 0x0003 p [BitVec.ofNat 8 f] (updLink p (fun k => { k with pcReq := false }) s) else s
  let second := low && decide (q.lowWindows ≥ 1)
  let s := updPort p (fun q => { q with
    lowWindows := if low then q.lowWindows + 1 else 0
    fomDips := if low && !second then q.fomDips + 1 else q.fomDips }) s
  if (f < s.policy.fomWarn && idle) || second then retest p caFom s else s

/-- Each lane in use without a loss takes the FoM and the estimate of its window (R53, R55). -/
def storeFoms (p : Nat) (stats : List FomStats) (s : State) : State :=
  forEach stats (fun x s =>
    let l := laneOf s p x.lane
    if inSet (portOf s p).laneSet x.lane && !l.los && !l.lol then
      updLane p x.lane (fun a => { a with
        fom := BitVec.ofNat 8 (laneFom x.mu x.sigma), berEst := berOf x.mu x.sigma }) s
    else s) s

/-- Some lane in use has lost signal or lock (R55). -/
def laneLost (s : State) (p : Nat) : Bool :=
  (maskList 8 (portOf s p).laneSet.toNat).any (fun l => (laneOf s p l).los || (laneOf s p l).lol)

/-- A window ends; it was idle when nothing but idle flits and conditioning C-runs came in during it. -/
def fomWindow (p : Nat) (stats : List FomStats) (s : State) : State :=
  let idle := !(portOf s p).busyWindow
  if (portOf s p).state != .running then s
  else
    let s := storeFoms p stats (updPort p (fun q => { q with busyWindow := false }) s)
    if laneLost s p then s else judgeFom p idle s

/-- FOM_WINDOW_END (R54). -/
def execFomWindowEnd (port : Nat) (stats : List FomStats) (s : State) : Res :=
  onUnit (portOk port) (fomWindow port stats) s

end Sys2Proof.Machine
end

