-- ==== Sys2Proof/Machine/BringUp.lean ====
section
/-! DEFINITION. Primer, rate step, self-test, report, resume, retest and grace (03, R129, R131), and the end of engine
calibration (R48, R434). -/

namespace Sys2Proof.Machine

/-! ### Alignment (R66 to R70) -/

/-- A primer set as the lane's decoder gives it, after polarity correction: whether K28.5 stood in the comma's place, the 31
bytes after it, and whether a code group was a symbol error. The comma's form tells the running disparity before it. -/
structure DecodedSet where
  comma  : Bool
  bytes  : Bytes
  symErr : Bool
  deriving DecidableEq, Repr, Inhabited

/-- Decode the 32 code groups of a set (R66): a control group after the comma, and a group outside the code, is a symbol
error. -/
def decodeSet (inv : Bool) (x : PrimerSet) : DecodedSet :=
  let g := invertGroups inv x
  let first := g.headD 0
  let rd := first = encodeControl true .k28_5
  let rest := decodeRun (disparityAfter rd first) (g.drop 1)
  { comma := rd || first = encodeControl false .k28_5
    bytes := rest.map (fun d => match d with
      | some (.data b) => b
      | _ => 0)
    symErr := x.length != 32 || rest.any (fun d => match d with
      | some (.data _) => false
      | _ => true) }

/-- A lane's judgement of one set: the comma, the `pol` symbol and the CRC. -/
def alignStep (l : Lane) (x : DecodedSet) : Lane :=
  let pol := x.bytes.getD 0 0
  let good := x.comma && (pol = 0xB5 || pol = 0x4A)
  let crcOk := !x.symErr && leAt x.bytes 27 4 == (crc32 ((x.bytes.drop 1).take 26)).toNat
  let gs := if good then l.goodSets + 1 else 0
  let bs := if good && crcOk then 0 else l.badSets + 1
  let seen := good && (l.crcSeen || crcOk)
  { l with goodSets := gs, badSets := bs, crcSeen := seen
           aligned := if l.aligned then decide (bs < 4) else decide (gs ≥ 4) && seen
           polarityInv := if x.comma && pol = 0x4A && gs ≥ 4 then !l.polarityInv else l.polarityInv }

/-- The set passed its CRC and held no symbol error (R68). -/
def setPasses (x : DecodedSet) : Bool :=
  x.comma && !x.symErr && leAt x.bytes 27 4 == (crc32 ((x.bytes.drop 1).take 26)).toNat

def setType (x : DecodedSet) : Byte := x.bytes.getD 1 0
def setContent (x : DecodedSet) : Bytes := (x.bytes.drop 2).take 25

/-- The receivers listen at primer rate. -/
def hearsPrimer (q : Port) : Bool :=
  q.calibrated && (q.state = .absent || q.state = .listen || q.state = .primer || q.state = .miswired)

/-- Enter *Primer*: samples and readiness start anew. A port that comes from *Miswired* starts an attempt of 10 ms
(assumption log 106). -/
def toPrimer (p : Nat) (s : State) : State :=
  let q := portOf s p
  let due := s.now + 10000000
  let s := updPort p (fun q => { clearPhase q with
    attempt := some (q.attempt.getD due), lastTx := 0, lastTxAt := 0, timeTurn := false }) s
  setPortState p .primer q.cause s

/-- An aligned lane takes a port from *Listen*, or from a probe in *Absent*, to *Primer* (R98). -/
def laneAligned (p : Nat) (s : State) : State :=
  let q := portOf s p
  if q.state = .listen || (q.state = .absent && q.probing) then toPrimer p s else s

/-- The sets that follow one received on lane `l`: the lane's own, and with it, on the lowest aligned lane, the measurement
lane's where that receives nothing itself (R78; assumption log 22). -/
def sendNext (p l : Nat) (s : State) : State :=
  let q := portOf s p
  let s := sendPrimer p l s
  match measureLane q with
  | some m => when (!(q.lanes.getD m {}).aligned && (maskList 8 (alignedMask q)).head? = some l) (sendPrimer p m) s
  | none => s

/-- A primer set arrives on a lane: alignment is judged; a set that fails, or of a reserved type, is ignored and counted;
`f` acts on the content of one of type `typ`. The port's own next set leaves on the lane after it (assumption log 22). -/
def primerSet (p l : Nat) (x : PrimerSet) (typ : Byte) (f : Bytes → State → State) (s : State) : State :=
  let a := laneOf s p l
  let d := decodeSet a.polarityInv x
  if !hearsPrimer (portOf s p) || a.los || a.lol then s
  else
    let n := alignStep a d
    let bad := !setPasses d || !(setType d = 1 || setType d = 2 || setType d = 3)
    let s := updLane p l (fun _ => if a.aligned && !n.aligned then unalign n else n) s
    let s := when bad (updPort p (fun q => { q with setErrors := q.setErrors + 1 })) s
    let s := when n.aligned (laneAligned p) (when (a.aligned && !n.aligned) (alignmentLost p) s)
    if bad then s
    else
      let s := when (setType d = typ) (f (setContent d)) s
      when (typ != 3 && sendsPrimer s p) (sendNext p l) s

/-! ### IDENT (R71 to R75, R80) -/

/-- Aligned lanes with the content of their last IDENT. -/
def identsOf (q : Port) : List (Nat × Bytes) :=
  (q.lanes.zipIdx.filterMap (fun e => if e.1.aligned then e.1.ident.map (fun c => (e.2, c)) else none))

/-- The receive side of a lane with the transmit side of another (R39, R73). -/
def joinSides (rx tx : Lane) : Lane :=
  { rx with txHeater := tx.txHeater, txShort := tx.txShort, txFound := tx.txFound, txRd := tx.txRd, inUse := tx.inUse, retired := tx.retired
            markerBad := tx.markerBad, pins := rx.pins.set 0 (tx.pins.getD 0 {}) }

/-- The turned-over map of R41: lane i carries far lane i xor 6. -/
def turnLane (i : Nat) : Nat := i ^^^ 6

/-- Renumber the receive lanes by the turned-over map (R73). -/
def turnLanes (q : Port) : Port :=
  { q with laneReversed := !q.laneReversed
           lanes := (List.range 8).map (fun i => joinSides (q.lanes.getD (turnLane i) {}) (q.lanes.getD i {})) }

/-- The far lane that an IDENT names. -/
def identLane (c : Bytes) : Nat := leAt c 7 1
/-- `kind`, `endpoint`, `port` and `chip_tag`, which must not differ between lanes. -/
def identOrigin (c : Bytes) : Nat × Nat × Nat × Nat := (leAt c 0 1, leAt c 4 2, leAt c 6 1, leAt c 8 4)

def mapStraight (l : List (Nat × Bytes)) : Bool := l.all (fun e => identLane e.2 = e.1)
def mapTurned (l : List (Nat × Bytes)) : Bool := l.all (fun e => identLane e.2 = turnLane e.1)

/-- The wiring fault of the aligned lanes, in the order of R73's table. -/
def wiringFault (s : State) (p : Nat) (l : List (Nat × Bytes)) : Option W16 :=
  if !(mapStraight l || mapTurned l) then some caLaneOrder
  else if !(l.all (fun e => identOrigin e.2 = identOrigin ((l.headD (0, [])).2))) then some caSplitCable
  else if l.any (fun e => leAt e.2 8 4 = s.boot.chipTag.toNat && leAt e.2 6 1 = p) then some caLoopback
  else none

/-- Take the far end's fields from an IDENT's content (R71, R100). The latest IDENT stands for the far end: one without `seen`
withdraws what R83 asks, until `ready` is set (assumption log 169). -/
def takeFar (c : Bytes) (q : Port) : Port :=
  let f := leAt c 13 1
  { q with farKind := BitVec.ofNat 8 (leAt c 0 1), farGenMax := BitVec.ofNat 8 (leAt c 1 1), farFeatures := w16 (leAt c 2 2)
           farEndpoint := w16 (leAt c 4 2), farPort := BitVec.ofNat 8 (leAt c 6 1), farChipTag := w32 (leAt c 8 4), linkTag := w32 (leAt c 8 4)
           farMinWidth := BitVec.ofNat 8 (leAt c 12 1), farSeen := bitOf f 0, farReady := bitOf f 1
           farSeqHeld := bitOf f 2, farRxLanes := BitVec.ofNat 8 (leAt c 14 1), farValid := true }

/-- An IDENT with `gen_max` 3 or a reserved `kind` (R75). The field holds a byte: a value above 3, which R71 does not list, is
reserved like 3 (assumption log 109). -/
def badOffer (c : Bytes) : Bool := leAt c 1 1 > 2 || leAt c 0 1 > 1

/-- The terms of the link from the two IDENT sets (R75). -/
def agreeTerms (s : State) (p : Nat) (q : Port) : Port :=
  { q with gen := BitVec.ofNat 2 (min 2 q.farGenMax.toNat), features := BitVec.ofNat 3 q.farFeatures.toNat
           effWidth := ownWidth s p, mapValid := true }

/-- `ready` of R83. -/
def tryReady (p : Nat) (s : State) : State :=
  updPort p (fun q => { q with ready := q.ready ||
    (q.state = .primer && q.farSeen && decide (q.samples ≥ 64) && q.mapValid && q.verdict != .fail) }) s

/-- What an IDENT shows is wrong: *Miswired* with that cause; a port that is there already takes the cause (R73, R80, R82). -/
def miswire (p : Nat) (cause : W16) (s : State) : State :=
  if (portOf s p).state = .primer then toMiswired p cause s else setPortState p .miswired cause s

/-- Judge the verdict and the wiring in *Primer* or *Miswired* (R73, R80, R82). The verdict is set at every IDENT; of its
failure and a wiring fault the fault gives the cause (assumption log 155). In *Primer* a bad offer fails the attempt before
either is judged, and in *Miswired*, where no attempt runs, it keeps no port from *Primer* (assumption log 170). -/
def judgeIdent (p : Nat) (c : Bytes) (s : State) : State :=
  let ids := identsOf (portOf s p)
  let primer := (portOf s p).state = .primer
  let v := verdictOf s p
  let s := updPort p (fun q => { q with verdict := v }) s
  if badOffer c && primer then failAttempt p caBadOffer s
  else match wiringFault s p ids with
    | some cause => miswire p cause (updPort p (fun q => { q with mapValid := false }) s)
    | none =>
      let s := if mapStraight ids then s else updPort p turnLanes s
      if v = .fail then miswire p caWrongPeer (updPort p (agreeTerms s p) s)
      else
        let s := updPort p (agreeTerms s p) s
        tryReady p (if primer then s else toPrimer p s)

/-- An IDENT that passed its CRC, on lane `l`: the far end is `seen` (R71). On an aligned lane it is taken and the verdict judged
in every state (R80), the wiring too in *Primer* and *Miswired*. -/
def takeIdent (p l : Nat) (c : Bytes) (s : State) : State :=
  let s := updLane p l (fun a => { a with ident := some c }) s
  if !(laneOf s p l).aligned then updPort p (fun q => { q with farValid := true }) s
  else
    let s := updPort p (takeFar c) s
    let q := portOf s p
    let v := verdictOf s p
    if q.state = .primer || (q.state = .miswired && q.cause != caCrossed) then judgeIdent p c s
    else updPort p (fun q => { q with verdict := v }) s

/-- IDENT_SET_RECEIVED (R73). -/
def execIdentSetReceived (port lane : Nat) (set : PrimerSet) (s : State) : Res :=
  onUnit (portOk port && laneOk lane) (primerSet port lane set 1 (takeIdent port lane)) s

/-! ### TIME (R77 to R79) -/

/-- The mean of 64 round trips, halved, in 0.1 ns, rounded to nearest: 37.647 ps a bit period. -/
def delayOf (sum : Int) : Nat := ((sum * 37647 + 6400000) / 12800000).toNat

def takeTime (p : Nat) (c : Bytes) (arrival : Nat) (s : State) : State :=
  let q := portOf s p
  if q.state != .primer then s
  else
    let echo := leAt c 6 6
    let s := updPort p (fun q => { q with lastTx := BitVec.ofNat 48 (leAt c 0 6), lastTxAt := arrival }) s
    if echo = 0 || q.samples ≥ 64 then s
    else
      let rtt := ((arrival : Int) - echo - leAt c 12 4).bmod (2 ^ 48)
      let sum := q.delaySum + rtt
      let s := updPort p (fun q => { q with samples := q.samples + 1, delaySum := sum }) s
      if q.samples + 1 < 64 then s
      else
        let d := delayOf sum
        let s := updPort p (fun q => { q with linkDelay := w16 (min 65534 d) }) s
        let s := if d > 3000 then raise 0x0009 p (leBytes 2 (min 65534 d)) s else s
        tryReady p s

/-- TIME_SET_RECEIVED (R78): `arrival` in primer bit periods on the device's own clock. -/
def execTimeSetReceived (port lane : Nat) (set : PrimerSet) (arrival : Nat) (s : State) : Res :=
  onUnit (portOk port && laneOk lane) (primerSet port lane set 2 (fun c => takeTime port c arrival)) s

/-! ### The rate step (R83) -/

/-- This end leads the rate step. -/
def isLeader (s : State) (p : Nat) : Bool :=
  let q := portOf s p
  decide (q.farKind.toNat < 1) || (q.farKind = 1 && (decide (s.boot.chipTag.toNat > q.farChipTag.toNat) ||
    (s.boot.chipTag = q.farChipTag && decide (p > q.farPort.toNat))))

/-- Send STEP of one count on every transmit lane. -/
def sendStep (p count : Nat) (s : State) : State :=
  let g := (portOf s p).gen.toNat
  forEach (List.range 8) (fun l => sendSet p l 0x03 [BitVec.ofNat 8 count, BitVec.ofNat 8 g, BitVec.ofNat 8 l]) s

def takeStep (p : Nat) (c : Bytes) (s : State) : State :=
  if (portOf s p).state != .primer || isLeader s p then s
  else
    let n := leAt c 0 1
    updPort p (fun q => { q with stepCount := some n }) (sendStep p n s)

/-- STEP_SET_RECEIVED (R83): the follower answers with the same `count`. -/
def execStepSetReceived (port lane : Nat) (set : PrimerSet) (s : State) : Res :=
  onUnit (portOk port && laneOk lane) (primerSet port lane set 3 (takeStep port)) s

/-- An equaliser code within the bounds in force (R1). -/
def inBounds (s : State) (p : Nat) (code : BitVec 5) : BitVec 5 :=
  BitVec.ofNat 5 (min (max code.toNat (nth s.policy.ctleLo (engineOf p))) (nth s.policy.ctleHi (engineOf p)))

/-- Enter *Step* after `count` 0: a warm step tests the lanes in use, a cold one all eight (R84, R91); PRBS31 leaves on the
lanes under test. The equalisers start from their calibration values; their marks at a bound wait for their first update
(assumption log 138). Whether the retrain is warm is settled here, by what the far end sent last (assumption log 172). -/
def enterStep (p : Nat) (s : State) : State :=
  let warm := warmOk (portOf s p)
  let s := if warm then s else goCold p s
  let now := s.now
  let w := ownWidth s p
  let s := updPort p (fun q => { q with
    phase := .acquisition, phaseAt := now, warm := warm, underTest := if warm then q.laneSet else 0xFF, nearMask := 0
    effWidth := w
    finalSent := false, finalSeen := false, ready := false, stepCount := none
    lanes := q.lanes.map (fun l => { unalign l with
      judged := false, ctle := inBounds s p l.calCtle, ffe := List.replicate 6 0, dfe := 0
      pins := (l.pins.take 2) ++ List.replicate 3 {} }) }) s
  let s := setPortState p .step (portOf s p).cause s
  forEach (maskList 8 (portOf s p).underTest.toNat) (sendPrbs p) s

/-- The switch to full rate is due: the leader is ready and has received `ready`, and sends 63 down to 0; the follower
has answered `count` 0. -/
def doRateStep (p : Nat) (s : State) : State :=
  let q := portOf s p
  if q.state != .primer then s
  else if isLeader s p then
    (if q.ready && q.farReady then enterStep p (forEach (List.range 64) (fun i => sendStep p (63 - i)) s) else s)
  else if q.stepCount = some 0 then enterStep p s else s

/-- RATE_STEP (R83). -/
def execRateStep (port : Nat) (s : State) : Res := onUnit (portOk port) (doRateStep port) s

/-! ### Phases (R84 to R86) -/

/-- A phase of R84 has lasted `n` ns. -/
def phaseLasted (s : State) (p : Nat) (ph : Phase) (n : Nat) : Bool :=
  (portOf s p).phase = ph && decide ((portOf s p).phaseAt + n ≤ s.now)

def setPhase (p : Nat) (ph : Phase) (s : State) : State :=
  let now := s.now
  updPort p (fun q => { q with phase := ph, phaseAt := now }) s

/-- ACQUISITION_END (R84): after 100 µs the self-test window begins. -/
def endAcquisition (p : Nat) (s : State) : State :=
  if phaseLasted s p .acquisition 100000 then setPhase p .selftest s else s

def execAcquisitionEnd (port : Nat) (s : State) : Res := onUnit (portOk port) (endAcquisition port) s

/-- A window of 2^20 symbols in ns, by generation code (R76). -/
def windowNs (gen : BitVec 2) : Nat := if gen = 0 then 18724 else if gen = 1 then 12483 else 9362

/-- Every lane under test is judged, or fails for want of signal or lock (R56). -/
def allJudged (q : Port) : Bool :=
  (maskList 8 q.underTest.toNat).all (fun l => let a := q.lanes.getD l {}; a.judged || a.los || a.lol)

/-- In the report phase, set `final` once every lane under test is judged (R86). -/
def tryFinal (p : Nat) (s : State) : State :=
  let q := portOf s p
  if q.phase = .report && !q.finalSent && allJudged q then
    let s := updPort p (fun q => { q with finalSent := true, rxPass := q.nearMask, lanes := q.lanes.zipIdx.map (fun e =>
      if inSet q.underTest e.2 && !e.1.judged then { e.1 with rxPass := false } else e.1) }) s
    sendFrame p q.underTest (announceFrame s p 0 1 q.nearMask true) s
  else s

def endSelftest (p : Nat) (s : State) : State :=
  if phaseLasted s p .selftest (windowNs (portOf s p).gen) then
    let s := setPhase p .report s
    tryFinal p (sendFrame p (portOf s p).underTest (announceFrame s p 0 1 0 false) s)
  else s

/-- SELFTEST_WINDOW_END (R84): the report phase begins. -/
def execSelftestWindowEnd (port : Nat) (s : State) : Res := onUnit (portOk port) (endSelftest port) s

/-- A report or ANNOUNCE frame with its sync pattern and a valid CRC (R85). -/
def frameOk (f : Bytes) : Bool :=
  f.length = 32 && leAt f 0 8 = 0x3C5A96F00F69A5C3 && leAt f 28 4 == (crc32 ((f.drop 8).take 20)).toNat

/-- The frame that levels on a lane carry, after polarity correction (R70, R85). -/
def frameBytes (a : Lane) (f : List Level) : Bytes := levelsToBytes 32 (invertLevels a.polarityInv f)

/-- The receive direction of a lane passes its self-test (R56): over 2^21 bits from a generator state, which is never zero,
at most 20 errors, and a lane FoM of at least `fom_warn`. -/
def lanePasses (s : State) (a : Lane) (c : Option LaneCheck) : Bool :=
  match c with
  | none => false
  | some c => (c.start.getD 0) != 0 && decide (c.bits ≥ 2 ^ 21) && decide (bitErrors c ≤ 20) &&
      decide (laneFom c.mu c.sigma ≥ s.policy.fomWarn) && !a.los && !a.lol && !a.crossed &&
      a.txFound && a.rxFound

/-- Judge a lane on the blocks before its first report frame; a lane that passes a cold test is retired no longer (R60,
R84). A retired lane that passes a warm test keeps its bit clear in the mask, so that both ends choose the same set
(assumption log 140). -/
def judgeLane (p l : Nat) (c : Option LaneCheck) (s : State) : State :=
  let q := portOf s p
  let a := laneOf s p l
  if !inSet q.underTest l || a.judged then s
  else
    let ok := lanePasses s a c
    let s := updLane p l (fun x => { x with judged := true, rxPass := ok, testErrors := (c.map bitErrors).getD 0
                                            fom := BitVec.ofNat 8 ((c.map (fun c => laneFom c.mu c.sigma)).getD 0)
                                            retired := x.retired && !(ok && !q.warm) }) s
    updPort p (fun q => { q with nearMask := if ok && !(a.retired && q.warm) then q.nearMask ||| (1 : BitVec 8) <<< l else q.nearMask }) s

def takeReport (p l : Nat) (f : Bytes) (check : List LaneCheck) (s : State) : State :=
  let q := portOf s p
  if !(q.phase = .selftest || q.phase = .report) || !frameOk f || leAt f 8 1 != 1 then s
  else
    let s := judgeLane p l check.head? s
    let fl := leAt f 11 1
    let s := updPort p (fun q => { q with farSeqHeld := bitOf fl 1, linkTag := w32 (leAt f 14 4)
                                          effWidth := max q.effWidth (leAt f 10 1)
                                          farRxPass := if bitOf fl 0 then BitVec.ofNat 8 (leAt f 9 1) else q.farRxPass
                                          finalSeen := q.finalSeen || bitOf fl 0 }) s
    tryFinal p s

/-- REPORT_FRAME_RECEIVED (R86): `check` holds the lane's PRBS31 result before its first frame. -/
def execReportFrameReceived (port lane : Nat) (frame : List Level) (check : List LaneCheck) (s : State) : Res :=
  onUnit (portOk port && laneOk lane) (takeReport port lane (frameBytes (laneOf s port lane) frame) check) s

/-- Retired lanes of a port. -/
def retiredMask (q : Port) : Nat := maskOf ((List.range 8).filter (fun l => (q.lanes.getD l {}).retired))

/-- The usable set of R57. -/
def usableSet (q : Port) : BitVec 8 := q.nearMask &&& q.farRxPass &&& ~~~(BitVec.ofNat 8 (retiredMask q))

/-- A change of width raises PORT_NARROWED or PORT_WIDENED (R60). -/
def noteWidth (p : Nat) (old new : BitVec 8) (s : State) : State :=
  if old = 0 || widthOf old = widthOf new then s
  else raise (if widthOf new < widthOf old then 0x0004 else 0x0005) p [new] s

/-- The report phase ends (R86): the lane set is chosen, and a change of width is told at that moment (assumption log 105). A
warm test whose link has meanwhile lost its sequence state cannot return warm: it starts again as a cold retrain, which
tests all eight lanes (R60, R91; assumption log 108). -/
def endReport (p : Nat) (s : State) : State :=
  let q := portOf s p
  if !(phaseLasted s p .report 640 && q.finalSent && q.finalSeen) then s
  else if q.warm && !warmOk q then warmLost p caPartnerLost s
  else match chooseSet (usableSet q) q.effWidth (q.features.getLsbD 0) (q.features.getLsbD 1) with
    | none => failPhase p caLanesExhausted (raise 0x0006 p [q.nearMask, q.farRxPass] s)
    | some m =>
      let s := noteWidth p q.laneSet m (setPhase p .resume s)
      startStream p (updPort p (fun q => { q with
        laneSet := m, lanes := q.lanes.zipIdx.map (fun e =>
          { e.1 with inUse := inSet m e.2, fom := if inSet m e.2 then e.1.fom else 0 }) }) s)

/-- REPORT_PHASE_END (R86). -/
def execReportPhaseEnd (port : Nat) (s : State) : Res := onUnit (portOk port) (endReport port) s

/-- The report phase has lasted 5 µs: `NO_REPORT`, whichever of the two `final` frames is missing (R86; assumption log 171). -/
def reportTimesOut (p : Nat) (s : State) : State :=
  if phaseLasted s p .report 5000 && !((portOf s p).finalSent && (portOf s p).finalSeen) then failPhase p caNoReport s else s

/-- REPORT_TIMEOUT (R86). -/
def execReportTimeout (port : Nat) (s : State) : Res := onUnit (portOk port) (reportTimesOut port) s

/-- Every lane of the set lies within the skew that the receiver removes (R105). -/
def skewOk (q : Port) (skews : List Int) : Bool :=
  skews.length = widthOf q.laneSet && skews.all (fun k => decide (k.natAbs ≤ 48))

def streamFramed (p : Nat) (skews : List Int) (s : State) : State :=
  if (portOf s p).phase = .resume && skewOk (portOf s p) skews then enterRunning p s else s

/-- SLOT_STREAM_FRAMED (R86, R105): `skews` of the markers found on the lanes of the set, in symbols. -/
def execSlotStreamFramed (port : Nat) (skews : List Int) (s : State) : Res :=
  onUnit (portOk port) (streamFramed port skews) s

def resumeTimesOut (p : Nat) (s : State) : State := if phaseLasted s p .resume 2000 then failPhase p caNoResume s else s

/-- RESUME_TIMEOUT (R86). -/
def execResumeTimeout (port : Nat) (s : State) : Res := onUnit (portOk port) (resumeTimesOut port) s

/-! ### Retest (R92) -/

def takeAnnounce (p : Nat) (f : Bytes) (s : State) : State :=
  if frameOk f && leAt f 8 1 = 2 then enterRetest p caFarAnnounce false (s.now + 10 * leAt f 12 2) s else s

/-- ANNOUNCE_RECEIVED (R92): a running port becomes the responder. -/
def execAnnounceReceived (port lane : Nat) (frame : List Level) (s : State) : Res :=
  onUnit (portOk port && laneOk lane) (takeAnnounce port (frameBytes (laneOf s port lane) frame)) s

def startRetestSelftest (p : Nat) (s : State) : State :=
  if (portOf s p).phase = .announce && (portOf s p).testStart ≤ s.now then
    forEach (maskList 8 (portOf s p).underTest.toNat) (sendPrbs p) (setPhase p .selftest s)
  else s

/-- RETEST_SELFTEST_START (R92). -/
def execRetestSelftestStart (port : Nat) (s : State) : Res := onUnit (portOk port) (startRetestSelftest port) s

/-! ### Crossed pairs, probes and attempts (R74, R87, R89) -/

/-- The pairs of a mask whose receive lanes both show loss of signal. -/
def darkPairs (q : Port) (pairs : BitVec 4) : List Nat :=
  (maskList 4 pairs.toNat).filter (fun f => (q.lanes.getD (2 * f) {}).los && (q.lanes.getD (2 * f + 1) {}).los)

/-- Pairs are crossed that receive nothing while light enters by their transmit fibres. With all four, a port in *Listen* or
in *Absent*, unless its role is *Unused* (R89), enters *Miswired*; of some, each lane raises its event. -/
def takeCrossed (p : Nat) (pairs : BitVec 4) (s : State) : State :=
  let q := portOf s p
  if (darkPairs q pairs).length = 4 then
    (if q.state = .listen || (q.state = .absent && q.cause != caUnused) then toMiswired p caCrossed s else s)
  else forEach (darkPairs q pairs) (fun f s =>
    forEach [2 * f, 2 * f + 1] (fun l s =>
      raise 0x0007 (256 * l + p) [] (updLane p l (fun a => { a with crossed := true }) s)) s) s

/-- PAIR_CROSSED (R74): the pairs whose transmit monitor has read above −20.0 dBm, with their receive lanes dark, for 10 µs. -/
def execPairCrossed (port : Nat) (pairs : BitVec 4) (s : State) : Res := onUnit (portOk port) (takeCrossed port pairs) s

/-- The wait of a dark port is over. -/
def waitOver (s : State) (p : Nat) : Bool :=
  match (portOf s p).wait with
  | none => false
  | some t => decide (t ≤ s.now)

def attemptOver (s : State) (p : Nat) : Bool :=
  match (portOf s p).attempt with
  | none => false
  | some t => decide (t ≤ s.now)

def startMiswiredProbe (p : Nat) (s : State) : State :=
  let q := portOf s p
  if q.state = .miswired && q.cause = caCrossed && waitOver s p then startProbe p s else s

/-- MISWIRED_PROBE_START (R74). -/
def execMiswiredProbeStart (port : Nat) (s : State) : Res := onUnit (portOk port) (startMiswiredProbe port) s

def doProbeStart (p : Nat) (s : State) : State :=
  let q := portOf s p
  if q.state = .absent && q.cause != caUnused && waitOver s p then startProbe p s else s

/-- PROBE_START (R89). -/
def execProbeStart (port : Nat) (s : State) : Res := onUnit (portOk port) (doProbeStart port) s

def doProbeExpire (p : Nat) (s : State) : State :=
  let q := portOf s p
  if !(q.probing && attemptOver s p) then s
  else if q.state = .absent then failAttempt p caAttemptTimeout s
  else if q.state = .miswired then
    let due := s.now + 1000000 * nth s.policy.probePeriod p
    updPort p (fun q => { q with probing := false, attempt := none, wait := some due }) s
  else s

/-- PROBE_EXPIRE (R74, R87). -/
def execProbeExpire (port : Nat) (s : State) : Res := onUnit (portOk port) (doProbeExpire port) s

def doAttemptExpire (p : Nat) (s : State) : State :=
  let st := (portOf s p).state
  if (st = .listen || st = .primer || st = .step) && attemptOver s p then failAttempt p caAttemptTimeout s else s

/-- ATTEMPT_EXPIRE (R87). -/
def execAttemptExpire (port : Nat) (s : State) : Res := onUnit (portOk port) (doAttemptExpire port) s

/-! ### Grace and quiesce (R94, R131) -/

def graceOver (s : State) (p : Nat) : Bool :=
  match (portOf s p).grace with
  | none => false
  | some t => decide (t ≤ s.now)

def doGraceExpire (p : Nat) (s : State) : State := if graceOver s p then expireGrace p s else s

/-- GRACE_EXPIRE (R131). -/
def execGraceExpire (port : Nat) (s : State) : Res := onUnit (portOk port) (doGraceExpire port) s

/-- Every block and control flit sent on a port is acknowledged. -/
def allAcked (q : Port) : Bool := q.link.retryB.isEmpty && q.link.retryC.isEmpty

def endQuiesce (p : Nat) (s : State) : State :=
  let q := portOf s p
  let due := match q.quiesce with
    | none => false
    | some t => allAcked q || decide (t ≤ s.now)
  if q.state = .running && due then
    (if q.washing then abandonWash p s else settleGrace p (toListen p caHostRetrain (goCold p (leaveRunning p s))))
  else s

/-- PORT_RETRAIN_QUIESCE_END (R94). -/
def execPortRetrainQuiesceEnd (port : Nat) (s : State) : Res := onUnit (portOk port) (endQuiesce port) s

/-! ### Engine calibration (R48, R314, R434, R454) -/

/-- The resonance of a ring, where the sweep from `heater_lo` to `heater_hi` finds it: the lock point of a drop ring (R48). -/
def foundCode (lo hi : Nat) (x : RingSweep) : Option Nat := x.resonance.filter (fun c => decide (lo ≤ c ∧ c ≤ hi))

/-- The lowest code, `light` being read from code `i` on, at which the photocurrent stands at `bias` sixty-fourths of the
resonance depth, or first comes to the other side of that level (assumption log 104). -/
def reachesBias (bias : Nat) : Nat → List Nat → Option Nat
  | i, a :: b :: rest =>
    if 64 * a = 1000 * bias then some i
    else if (64 * a < 1000 * bias && 1000 * bias < 64 * b) || (1000 * bias < 64 * a && 64 * b < 1000 * bias) then some (i + 1)
    else reachesBias bias (i + 1) (b :: rest)
  | i, [a] => if 64 * a = 1000 * bias then some i else none
  | _, [] => none

/-- The lock point of a modulator ring whose resonance is found: the lowest code within the bounds that stands at `mod_bias`,
and whether it lies beyond the resonance, on the short-wavelength flank (R48). -/
def modulatorPoint (lo hi bias : Nat) (x : RingSweep) : Option (Nat × Bool) :=
  (foundCode lo hi x).bind (fun r =>
    (reachesBias bias lo (x.light.take (hi + 1 - lo))).map (fun c => (c, decide (r < c))))

/-- A lane after calibration: heaters at their lock points, no mark at a bound, the equaliser at its start. A ring that is
not found rests at `heater_lo` (assumption log 104). -/
def calibrateLane (lo hi bias ctleLo ctleHi : Nat) (tx rx : RingSweep) (peak : Nat) (l : Lane) : Lane :=
  let c := BitVec.ofNat 5 (min (max peak ctleLo) ctleHi)
  let t := modulatorPoint lo hi bias tx
  let r := foundCode lo hi rx
  { l with calCtle := c, ctle := c, pins := List.replicate 5 {}
           txHeater := BitVec.ofNat 12 ((t.map (·.1)).getD lo), rxHeater := BitVec.ofNat 12 (r.getD lo)
           txFound := t.isSome, rxFound := r.isSome, txShort := (t.map (·.2)).getD false }

/-- Calibration ends with the port in *Listen*, one that PORT_DISABLE has named since `easel_ready` too (assumption log
110). -/
def calibratePort (cal : EngineCal) (p : Nat) (s : State) : State :=
  let k := p % 8
  let lo := nth s.policy.heaterLo (engineOf p)
  let hi := nth s.policy.heaterHi (engineOf p)
  let s := updPort p (fun q => { q with
    calibrated := true, rxPath := cal.rxPath.getD k 0
    lanes := q.lanes.zipIdx.map (fun e =>
      calibrateLane lo hi (nth s.policy.modBias (engineOf p)) (nth s.policy.ctleLo (engineOf p)) (nth s.policy.ctleHi (engineOf p))
        (cal.tx.getD (8 * k + e.2) default) (cal.rx.getD (8 * k + e.2) default) (cal.ctle.getD (8 * k + e.2) 0) e.1) }) s
  if (roleOf s p).role = 0 then toUnused p s else toListen p 0 s

def calibrated (s : State) (e : Nat) : Bool := (List.range 8).all (fun k => (portOf s (8 * e + k)).calibrated)

def engineCalibrated (e : Nat) (cal : EngineCal) (s : State) : State :=
  if !s.boot.easelReady || calibrated s e then s
  else
    let s := forEach (List.range 8) (fun k => calibratePort cal (8 * e + k)) s
    updTick (fun t => { t with inputDelay := cal.tickIn }) s

/-- ENGINE_CALIBRATION_COMPLETE (R48): the engine's ports enter *Listen*. No device measures a TICK_IN delay outside R454's
range. -/
def execEngineCalibrationComplete (engine : Nat) (cal : EngineCal) (s : State) : Res :=
  onUnit (decide (engine < 12) && cal.tickInOk) (engineCalibrated engine cal) s

end Sys2Proof.Machine
end

