-- ==== Sys2Proof/Machine/Flags.lean ====
section
/-! DEFINITION. The four arithmetic flags (R263): overflow, underflow, inexact, invalid, in the order of R264 and R227; how a
result's W5 and a palette's record show them. -/

namespace Sys2Proof.Machine

abbrev AFlags := BitVec 4

def noFlags : AFlags := 0
def flagOF : AFlags := 1
def flagUF : AFlags := 2
def flagNX : AFlags := 4
def flagNV : AFlags := 8

/-- A value with the flags raised on the way to it. -/
abbrev Flagged (α : Type) := AFlags × α

def flagIf (b : Bool) (f : AFlags) : AFlags := if b then f else 0

/-- Two flagged values, their flags joined. -/
def andThen {α β : Type} (x : Flagged α) (f : α → Flagged β) : Flagged β := (x.1 ||| (f x.2).1, (f x.2).2)

/-- W5 of a REDUCE_RESULT (R146): status, congestion echo, flags in bits 17 to 20, retry hint in bits 21 to 31. -/
def resultWord (status : W16) (cme : Bool) (f : AFlags) (hint : Nat) : W32 :=
  w32 (status.toNat + 2 ^ 16 * boolNat cme + 2 ^ 17 * f.toNat + 2 ^ 21 * hint)

/-- A palette's record (R264). -/
def paletteByte (p : Palette) : Byte := BitVec.ofNat 8 (p.flags.toNat + 16 * boolNat p.inService)

/-- Raise flags on a palette: they stay until cleared. -/
def raiseFlags (n : Nat) (f : AFlags) (s : State) : State :=
  updCanvas (fun c => { c with palettes := c.palettes.modify n (fun p => { p with flags := p.flags ||| f }) }) s

/-- Clear the flags that a mask names (R10, R264). -/
def clearFlags (n : Nat) (mask : BitVec 4) (s : State) : State :=
  updCanvas (fun c => { c with palettes := c.palettes.modify n (fun p => { p with flags := p.flags &&& ~~~mask }) }) s

end Sys2Proof.Machine
end

