-- ==== Sys2Proof/Machine/Arith.lean ====
section
/-! DEFINITION. Number formats and reduction arithmetic (08): decoding, rounding, the multiplier path, folds and the
Varnish stage, on exact values. -/

namespace Sys2Proof.Machine

/-! ### Formats (R212, R244 to R246) -/

/-- A floating-point format of R244: field widths, bias, precision, least exponent, the largest finite value
`maxSig` × 2^`maxExp`, and its special codes. -/
structure Fmt where
  expo : Nat
  frac : Nat
  bias : Int
  eMin : Int
  hasInf : Bool
  flush : Bool
  maxSig : Nat
  maxExp : Int
  nan : Nat
  deriving DecidableEq, Repr, Inhabited

def fp64 : Fmt := ⟨11, 52, 1023, -1022, true, false, 2 ^ 53 - 1, 971, 0x7FF8000000000000⟩
def fp32 : Fmt := ⟨8, 23, 127, -126, true, false, 2 ^ 24 - 1, 104, 0x7FC00000⟩
def bf16 : Fmt := ⟨8, 7, 127, -126, true, true, 255, 120, 0x7FC0⟩
def fp16 : Fmt := ⟨5, 10, 15, -14, true, true, 2047, 5, 0x7E00⟩
def e4m3 : Fmt := ⟨4, 3, 7, -6, false, true, 14, 5, 0x7F⟩
def e5m2 : Fmt := ⟨5, 2, 15, -14, true, true, 7, 13, 0x7E⟩
def f19 : Fmt := ⟨8, 10, 127, -126, true, true, 2047, 117, 0x3FE00⟩

/-- Significand bits *p*. -/
def Fmt.prec (F : Fmt) : Nat := F.frac + 1
def Fmt.width (F : Fmt) : Nat := 1 + F.expo + F.frac

/-- The floating-point format of a code; FP64 for any other code. -/
def fmtOf (code : Nat) : Fmt :=
  if code = 2 then fp32 else if code = 3 then bf16 else if code = 4 then fp16 else if code = 5 then e4m3
  else if code = 6 then e5m2 else fp64

def isFloat (code : Nat) : Bool := decide (1 ≤ code ∧ code ≤ 6)
def isInteger (code : Nat) : Bool := decide (8 ≤ code ∧ code ≤ 11)
def fmtKnown (code : Nat) : Bool := isFloat code || isInteger code

/-- Bytes of a format (R212). -/
def fmtBytes (code : Nat) : Nat :=
  if code = 1 || code = 11 then 8 else if code = 2 || code = 10 then 4 else if code = 3 || code = 4 || code = 9 then 2 else 1

/-! ### Exact values -/

/-- An exact value: a NaN, an infinity, or ±`m` × 2^`e`. -/
inductive Val where
  | nan
  | inf (neg : Bool)
  | fin (neg : Bool) (m : Nat) (e : Int)
  deriving DecidableEq, Repr, Inhabited

def zero (neg : Bool) : Val := .fin neg 0 0

/-- m × 2^e < n × 2^f. -/
def magLt (m : Nat) (e : Int) (n : Nat) (f : Int) : Bool :=
  let k := min e f
  decide (m * 2 ^ (e - k).toNat < n * 2 ^ (f - k).toNat)

def magLe (m : Nat) (e : Int) (n : Nat) (f : Int) : Bool := !magLt n f m e

/-- The signed integer of a finite value at exponent `k` not above its own. -/
def signedAt (neg : Bool) (m : Nat) (e k : Int) : Int :=
  let x : Int := m * 2 ^ (e - k).toNat
  if neg then -x else x

def ofSigned (x : Int) (k : Int) : Val := .fin (decide (x < 0)) x.natAbs k

/-! ### Decoding (R249) -/

/-- Decode a code of a floating-point format. -/
def decodeFloat (F : Fmt) (code : Nat) : Flagged Val :=
  let neg := bitOf code (F.expo + F.frac)
  let x := bitsOf code F.frac F.expo
  let f := bitsOf code 0 F.frac
  let ones := 2 ^ F.expo - 1
  if !F.hasInf && x = ones && f = 2 ^ F.frac - 1 then (0, .nan)
  else if F.hasInf && x = ones then
    (if f = 0 then (0, .inf neg) else (flagIf (!bitOf f (F.frac - 1)) flagNV, .nan))
  else if x = 0 then
    (if f = 0 || F.flush then (0, zero neg) else (0, .fin neg f (F.eMin - F.frac)))
  else (0, .fin neg (2 ^ F.frac + f) ((x : Int) - F.bias - F.frac))

/-- Decode an integer code. -/
def decodeInt (fmt code : Nat) : Int := signedOf (8 * fmtBytes fmt) code

/-- Decode a code of any format to an exact value; an integer zero is +0. -/
def decodeAny (fmt code : Nat) : Flagged Val :=
  if isFloat fmt then decodeFloat (fmtOf fmt) code else (0, ofSigned (decodeInt fmt code) 0)

/-- The code of a value that the format holds exactly. -/
def encodeFloat (F : Fmt) : Val → Nat
  | .nan => F.nan
  | .inf neg => boolNat neg * 2 ^ (F.expo + F.frac) + (2 ^ F.expo - 1) * 2 ^ F.frac
  | .fin neg m e =>
    let sgn := boolNat neg * 2 ^ (F.expo + F.frac)
    if m = 0 then sgn
    else
      let big : Int := Nat.log2 m + e
      let g : Int := max big F.eMin - F.frac
      let n := m * 2 ^ (e - g).toNat / 2 ^ (g - e).toNat
      if big < F.eMin then sgn + n
      else sgn + (big + F.bias).toNat * 2 ^ F.frac + n % 2 ^ F.frac

/-! ### Rounding and conversion (R250 to R252) -/

/-- Contexts of R252. -/
inductive RCtx where
  | accumulator
  | varnish (sat : Bool)
  | entry
  deriving DecidableEq, Repr, Inhabited

inductive RDir where
  | near | inward | outward
  deriving DecidableEq, Repr, Inhabited

/-- Modes: 0 nearest even, 1 toward zero, 2 upward, 3 downward (R211). -/
def dirOf (mode : Nat) (neg : Bool) : RDir :=
  if mode = 0 then .near
  else if mode = 1 || (mode = 2 && neg) || (mode = 3 && !neg) then .inward
  else .outward

def maxVal (F : Fmt) (neg : Bool) : Val := .fin neg F.maxSig F.maxExp

/-- What an overflow yields (R252). -/
def overflowResult (F : Fmt) (d : RDir) (neg : Bool) (c : RCtx) : Val :=
  match d with
  | .inward => maxVal F neg
  | .outward => .inf neg
  | .near => match c with
    | .varnish true => maxVal F neg
    | _ => if F.hasInf then .inf neg else .nan

/-- m × 2^e in units of 2^g, rounded; and whether anything was lost. -/
def roundTo (m : Nat) (e g : Int) (d : RDir) : Nat × Bool :=
  if e ≥ g then (m * 2 ^ (e - g).toNat, false)
  else
    let u := 2 ^ (g - e).toNat
    let n := m / u
    let r := m % u
    let up := match d with
      | .near => decide (2 * r > u) || (2 * r = u && n % 2 = 1)
      | .inward => false
      | .outward => decide (r > 0)
    (if up then n + 1 else n, decide (r > 0))

/-- The magnitude m × 2^e overflows the format in the direction (R250): compared with *M* + ulp / 2, *M* + ulp and *M*. -/
def overflows (F : Fmt) (d : RDir) (m : Nat) (e : Int) : Bool :=
  match d with
  | .near => magLe (2 * F.maxSig + 1) (F.maxExp - 1) m e
  | .inward => magLe (F.maxSig + 1) F.maxExp m e
  | .outward => magLt F.maxSig F.maxExp m e

/-- Convert a finite nonzero magnitude. -/
def convertMag (F : Fmt) (mode : Nat) (c : RCtx) (neg : Bool) (m : Nat) (e : Int) : Flagged Val :=
  let d := dirOf mode neg
  let tiny := magLt m e 1 F.eMin
  if overflows F d m e then (flagOF ||| flagNX, overflowResult F d neg c)
  else if tiny && F.flush then (flagUF ||| flagNX, zero neg)
  else
    let big : Int := max (Nat.log2 m + e) F.eMin
    let g := big - F.frac
    let r := roundTo m e g d
    (flagIf r.2 flagNX ||| flagIf (r.2 && tiny) flagUF, .fin neg r.1 g)

/-- convert of R250. -/
def convert (F : Fmt) (mode : Nat) (c : RCtx) : Val → Flagged Val
  | .nan => (0, .nan)
  | .inf neg => if F.hasInf then (0, .inf neg) else convertMag F mode c neg (2 * F.maxSig) F.maxExp
  | .fin neg m e => if m = 0 then (0, zero neg) else convertMag F mode c neg m e

/-! ### Addition and multiplication (R254, R256) -/

/-- add of R256. -/
def addVal (F : Fmt) (mode : Nat) (c : RCtx) (a b : Val) : Flagged Val :=
  match a, b with
  | .nan, _ => (0, .nan)
  | _, .nan => (0, .nan)
  | .inf x, .inf y => if x = y then (0, .inf x) else (flagNV, .nan)
  | .inf x, .fin _ _ _ => (0, .inf x)
  | .fin _ _ _, .inf y => (0, .inf y)
  | .fin x m e, .fin y n f =>
    let k := min e f
    let sum := signedAt x m e k + signedAt y n f k
    if sum = 0 then
      (if m = 0 && n = 0 && x = y then (0, a) else (0, zero (mode = 3)))
    else convert F mode c (ofSigned sum k)

/-- The 11-bit significand and exponent of a finite nonzero F19 value. -/
def sig19 (m : Nat) (e : Int) : Nat × Int :=
  let l := Nat.log2 m
  (m * 2 ^ (10 - l) / 2 ^ (l - 10), l + e)

/-- mul of R254: the product truncated to 17 significant bits, then rounded into FP32. -/
def mulVal (mode : Nat) (v w : Val) : Flagged Val :=
  match v, w with
  | .nan, _ => (0, .nan)
  | _, .nan => (0, .nan)
  | .inf x, .inf y => (0, .inf (x != y))
  | .inf x, .fin y n _ => if n = 0 then (flagNV, .nan) else (0, .inf (x != y))
  | .fin x m _, .inf y => if m = 0 then (flagNV, .nan) else (0, .inf (x != y))
  | .fin x m e, .fin y n f =>
    if m = 0 || n = 0 then (0, zero (x != y))
    else
      let a := sig19 m e
      let b := sig19 n f
      let p := a.1 * b.1
      let t := Nat.log2 p + 1 - 17
      convert fp32 mode .accumulator (.fin (x != y) (p / 2 ^ t * 2 ^ t) (a.2 + b.2 - 20))

/-- Enter F19 (R253). -/
def toF19 (rne : Bool) (x : Flagged Val) : Flagged Val := andThen x (convert f19 (if rne then 0 else 1) .entry)

/-! ### Folds (R255 to R258) -/

/-- a is below b, with −0 below +0. -/
def valLt : Val → Val → Bool
  | .inf x, .inf y => x && !y
  | .inf x, .fin _ _ _ => x
  | .fin _ _ _, .inf y => !y
  | .fin x m e, .fin y n f =>
    if m = 0 && n = 0 then x && !y
    else
      let k := min e f
      decide (signedAt x m e k < signedAt y n f k)
  | _, _ => false

def minVal (a b : Val) : Val := if a = .nan || b = .nan then .nan else if valLt b a then b else a
def maxOfVal (a b : Val) : Val := if a = .nan || b = .nan then .nan else if valLt a b then b else a

/-- An integer sum in `w` bits (R258). -/
def addInt (w : Nat) (sat : Bool) (a b : Int) : Flagged Int :=
  let lo : Int := -(2 ^ (w - 1))
  let hi : Int := 2 ^ (w - 1) - 1
  let x := a + b
  if lo ≤ x ∧ x ≤ hi then (0, x)
  else (flagOF, if sat then clampInt lo hi x else signedOf w (wrapInt w x))

/-- Operations of R211. -/
def opSum : Nat := 0x01
def opMin : Nat := 0x02
def opMax : Nat := 0x03
def opAnd : Nat := 0x04
def opOr : Nat := 0x05
def opXor : Nat := 0x06
def opCombine : Nat := 0x10
def opGather : Nat := 0x20

/-- What a fold needs of a descriptor. -/
structure FoldSet where
  op : Nat
  accFmt : Nat
  mode : Nat
  sat : Bool

/-- Fold a value into an accumulator code of a floating-point format; `first`: position 0 loads. -/
def foldFloat (k : FoldSet) (first : Bool) (acc : Nat) (x : Val) : Flagged Nat :=
  let F := fmtOf k.accFmt
  let a := (decodeFloat F acc).2
  let r : Flagged Val :=
    if first then (0, x)
    else if k.op = opMin then (0, minVal a x)
    else if k.op = opMax then (0, maxOfVal a x)
    else addVal F k.mode .accumulator a x
  (r.1, encodeFloat F r.2)

/-- Fold an integer into an accumulator code of an integer format. -/
def foldInt (k : FoldSet) (first : Bool) (acc : Nat) (x : Int) : Flagged Nat :=
  let w := 8 * fmtBytes k.accFmt
  let a := signedOf w acc
  let xc := wrapInt w x
  if first then (0, xc)
  else if k.op = opAnd then (0, acc &&& xc)
  else if k.op = opOr then (0, acc ||| xc)
  else if k.op = opXor then (0, acc ^^^ xc)
  else if k.op = opMin then (0, wrapInt w (min a x))
  else if k.op = opMax then (0, wrapInt w (max a x))
  else
    let r := addInt w k.sat a x
    (r.1, wrapInt w r.2)

/-- Fold one element: a member's value of format `fmt`, with its weight for COMBINE, or a child's partial. -/
def foldElem (k : FoldSet) (rne : Bool) (wFmt : Nat) (first : Bool) (acc fmt code : Nat) (weight : Option Nat) : Flagged Nat :=
  if isInteger k.accFmt then foldInt k first acc (decodeInt fmt code)
  else
    let v := decodeAny fmt code
    let x := match weight with
      | none => v
      | some w => andThen (toF19 rne v) (fun a => andThen (toF19 rne (decodeAny wFmt w)) (mulVal k.mode a))
    andThen x (foldFloat k first acc)

/-! ### The Varnish stage (R259 to R262) -/

/-- An exact integer into an integer format (R262). -/
def intToInt (fmt : Nat) (sat : Bool) (x : Int) : Flagged Nat :=
  let w := 8 * fmtBytes fmt
  let lo : Int := -(2 ^ (w - 1))
  let hi : Int := 2 ^ (w - 1) - 1
  if lo ≤ x ∧ x ≤ hi then (0, wrapInt w x)
  else (flagOF, if sat then wrapInt w (clampInt lo hi x) else wrapInt w x)

/-- A floating-point value rounded to an integer (R261): the value and whether it was exact. -/
def toInteger (mode : Nat) (neg : Bool) (m : Nat) (e : Int) : Int × Bool :=
  let r := roundTo m e 0 (dirOf mode neg)
  (if neg then -(r.1 : Int) else r.1, r.2)

/-- A floating-point `y` into an integer format (R261). -/
def floatToInt (fmt mode : Nat) (y : Val) : Flagged Nat :=
  let w := 8 * fmtBytes fmt
  let lo : Int := -(2 ^ (w - 1))
  let hi : Int := 2 ^ (w - 1) - 1
  match y with
  | .nan => (flagNV, 0)
  | .inf neg => (flagNV, wrapInt w (if neg then lo else hi))
  | .fin neg m e =>
    let r := toInteger mode neg m e
    if lo ≤ r.1 ∧ r.1 ≤ hi then (flagIf r.2 flagNX, wrapInt w r.1)
    else (flagNV, wrapInt w (clampInt lo hi r.1))

/-- The exact product of the scale and the accumulator: NaN and invalid for infinity × 0. -/
def scaleVal (x a : Val) : Flagged Val :=
  match x, a with
  | .nan, _ => (0, .nan)
  | _, .nan => (0, .nan)
  | .inf s, .inf t => (0, .inf (s != t))
  | .inf s, .fin t n _ => if n = 0 then (flagNV, .nan) else (0, .inf (s != t))
  | .fin s m _, .inf t => if m = 0 then (flagNV, .nan) else (0, .inf (s != t))
  | .fin s m e, .fin t n f => (0, .fin (s != t) (m * n) (e + f))

def negVal : Val → Val
  | .nan => .nan
  | .inf n => .inf (!n)
  | .fin n m e => .fin (!n) m e

/-- The smallest value of the format that is at least `x` (R260). -/
def boundLow (F : Fmt) : Val → Val
  | .nan => .nan
  | .inf neg => if F.hasInf then .inf neg else maxVal F neg
  | .fin neg m e =>
    if m = 0 then zero neg
    else
      let tiny := magLt m e 1 F.eMin
      let g : Int := max (Nat.log2 m + e) F.eMin - F.frac
      if neg then
        (if magLe F.maxSig F.maxExp m e then maxVal F true
        else if tiny && F.flush then zero true
        else .fin true (roundTo m e g .inward).1 g)
      else
        (if magLt F.maxSig F.maxExp m e then (if F.hasInf then .inf false else maxVal F false)
        else if tiny && F.flush then .fin false 1 F.eMin
        else .fin false (roundTo m e g .outward).1 g)

/-- The largest value of the format that is at most `x`. -/
def boundHigh (F : Fmt) (x : Val) : Val := negVal (boundLow F (negVal x))

/-- The bounds in an integer format: ceiling or floor, moved into the range. -/
def boundInt (fmt : Nat) (upper : Bool) (x : Val) : Int :=
  let w := 8 * fmtBytes fmt
  let lo : Int := -(2 ^ (w - 1))
  let hi : Int := 2 ^ (w - 1) - 1
  match x with
  | .nan => 0
  | .inf neg => if neg then lo else hi
  | .fin neg m e => clampInt lo hi (toInteger (if upper then 3 else 2) neg m e).1

/-- IEEE 754 comparison: −0 equals +0, a NaN is unordered. -/
def ieeeLt (a b : Val) : Bool :=
  match a, b with
  | .fin _ 0 _, .fin _ 0 _ => false
  | _, _ => valLt a b

/-- What the Varnish stage needs of a descriptor. -/
structure VarnishSet where
  accFmt : Nat
  outFmt : Nat
  rtz : Bool
  sat : Bool
  scale : Nat
  biasMode : Nat
  clip : Option (Nat × Nat)

def clipFloat (F : Fmt) (clip : Option (Nat × Nat)) (code : Nat) : Nat :=
  match clip with
  | none => code
  | some (l, h) =>
    let o := (decodeFloat F code).2
    if o = .nan then code
    else
      let lo := boundLow F (decodeFloat fp32 l).2
      let hi := boundHigh F (decodeFloat fp32 h).2
      let x := if ieeeLt o lo then (lo, encodeFloat F lo) else (o, code)
      if ieeeLt hi x.1 then encodeFloat F hi else x.2

def clipInt (fmt : Nat) (clip : Option (Nat × Nat)) (code : Nat) : Nat :=
  match clip with
  | none => code
  | some (l, h) =>
    let lo := boundInt fmt false (decodeFloat fp32 l).2
    let hi := boundInt fmt true (decodeFloat fp32 h).2
    wrapInt (8 * fmtBytes fmt) (min hi (max lo (decodeInt fmt code)))

/-- The stage is *identity*: scale 1.0, no bias, no clip. -/
def isIdentity (v : VarnishSet) : Bool := v.scale = 0x3F800000 && v.biasMode = 0 && v.clip.isNone

/-- out(y) with the clip step. -/
def outVal (v : VarnishSet) (y : Val) : Flagged Nat :=
  let mode := boolNat v.rtz
  if isFloat v.outFmt then
    let F := fmtOf v.outFmt
    let r := convert F mode (.varnish v.sat) y
    (r.1, clipFloat F v.clip (encodeFloat F r.2))
  else
    let r := floatToInt v.outFmt mode y
    (r.1, clipInt v.outFmt v.clip r.2)

/-- varnish of R259: the output code of one accumulator; `bias` is the element's FP32 code. -/
def varnish (v : VarnishSet) (bias acc : Nat) : Flagged Nat :=
  let mode := boolNat v.rtz
  if isInteger v.accFmt && isIdentity v then
    (if isInteger v.outFmt then intToInt v.outFmt v.sat (decodeInt v.accFmt acc)
    else outVal v (ofSigned (decodeInt v.accFmt acc) 0))
  else
    let a : Flagged Val := if isInteger v.accFmt then convert fp64 0 .accumulator (ofSigned (decodeInt v.accFmt acc) 0)
      else decodeFloat (fmtOf v.accFmt) acc
    let W := if isInteger v.accFmt then fp64 else fmtOf v.accFmt
    let p := andThen a (scaleVal (decodeFloat fp32 v.scale).2)
    let y := if v.biasMode = 0 then andThen p (convert W mode (.varnish v.sat))
      else andThen p (fun x => andThen (decodeFloat fp32 bias) (addVal W mode (.varnish v.sat) x))
    andThen y (outVal v)

end Sys2Proof.Machine
end

