-- ==== Sys2Proof/Machine/TickCore.lean ====
section
/-! DEFINITION. The tick count and its phase, TICK markers received and sent (R313 to R315), plan entries (R308) and the
overrun log (R318 to R320). -/

namespace Sys2Proof.Machine

/-! ### Starts of ticks -/

/-- Signed distance from tick `u` to tick `t`, modulo 2^32 (R35). -/
def tickDiff (t u : W32) : Int := (t - u).toInt

/-- Length of tick `m`: the period, the tracked correction and its own lengthening. -/
def tickLength (s : State) (m : W32) : Rat := (periodOf s : Rat) + s.tick.rate + tgetD s.tick.lengthen m.toNat 0

/-- The planned local start of tick `m`. -/
def localStart (s : State) (m : W32) : Rat :=
  let d := tickDiff m s.tick.number
  if d ≥ 1 then (List.range (d.toNat - 1)).foldl (fun a j => a + tickLength s (s.tick.number + 1 + w32 j)) s.tick.next
  else s.tick.start + (d : Rat) * ((periodOf s : Rat) + s.tick.rate)

/-- Nearest integer, ties upward. -/
def roundRat (x : Rat) : Int := (x + 1 / 2).floor

def absRat (x : Rat) : Rat := if x < 0 then -x else x

/-- The tick whose start lies nearest a time; of two equally near the later (assumption log 121). -/
def nearestTick (s : State) (at_ : Rat) : W32 :=
  let near := roundRat ((at_ - s.tick.next) / ((periodOf s : Rat) + s.tick.rate))
  let from_ := s.tick.number + 1 + BitVec.ofInt 32 (near - 4)
  (List.range 9).foldl (fun a i =>
    let m := from_ + w32 i
    if absRat (at_ - localStart s m) ≤ absRat (at_ - localStart s a) then m else a) from_

def addLengthen (m : W32) (d : Rat) (t : Tick) : Tick :=
  if m = t.number then { t with next := t.next + d }
  else
    let v := tgetD t.lengthen m.toNat 0 + d
    { t with lengthen := if v = 0 then tdel t.lengthen m.toNat else tset t.lengthen m.toNat v }

/-! ### Markers received (R314, R315) -/

/-- A marker in use: its tick, the estimated start `S` of that tick, its depth. -/
structure Marker where
  tick : W32
  start : Rat
  depth : Nat

/-- The tick begins to run with its first usable marker. -/
def startTracking (k : Marker) (s : State) : State :=
  let per : Rat := (periodOf s : Rat)
  let ahead := ((k.start - (s.now : Rat)) / per).ceil
  let c := max 0 ahead
  let start := k.start - (c : Rat) * per
  updTick (fun t => { t with running := true, number := k.tick - BitVec.ofInt 32 c, start := start, next := start + per
                             rate := 0, lengthen := [], locked := false, good := 1 }) s

/-- A table by tick number, every number moved by `d`. -/
def moveTicks {α : Type} (d : W32) (t : Table α) : Table α := t.foldl (fun a e => tset a (w32 e.1 + d).toNat e.2) []

/-- Step to the marker: the tick whose start lies nearest takes the marker's number and start, and every other tick moves
with it. -/
def stepTick (k : Marker) (n0 : W32) (s : State) : State :=
  let shift := k.start - localStart s n0
  updTick (fun t => { t with number := t.number + (k.tick - n0), start := t.start + shift, next := t.next + shift
                             lengthen := moveTicks (k.tick - n0) t.lengthen, locked := false }) s

/-- Trim: the tick before the marker's is lengthened by e / 8 within ±10 ns, the rate moves by e / 256 from the marker's
tick on. -/
def trimTick (k : Marker) (e : Rat) (s : State) : State :=
  let d := max (-10) (min 10 (e / 8))
  let r := e / 256
  let ahead := (tickDiff k.tick s.tick.number).toNat
  updTick (fun t =>
    let t := if ahead ≥ 1 then addLengthen (k.tick - 1) d t else { t with next := t.next + d }
    let t := (List.range (ahead - 1)).foldl (fun t j => addLengthen (t.number + 1 + w32 j) (-r) t) t
    { t with rate := t.rate + r }) s

/-- Use a marker that arrived on tick port `p` (R314). -/
def useMarker (p : Nat) (k : Marker) (s : State) : State :=
  let s := sketchCount 3 1 s
  let s := updTick (fun t => { t with port := some p, silent := 0, holdover := false, depth := min 255 (k.depth + 1) }) s
  if !s.tick.running then
    raise 0x0028 p (leBytes 4 0) (sketchCount 5 1 (startTracking k s))
  else
    let e := k.start - localStart s k.tick
    let n0 := nearestTick s k.start
    let old := s.tick.number
    let big := !s.tick.locked || decide (absRat e > 1000)
    let s := if big then
        raise 0x0028 p (leBytes 4 (wrapInt 32 (roundRat (e * 10)))) (sketchCount 5 1 (stepTick k n0 s))
      else trimTick k e s
    let s := if n0 != k.tick then raise 0x0029 p (leBytes 4 old.toNat) (sketchCount 6 1 s) else s
    let g := if absRat e ≤ 25 then s.tick.good + 1 else 0
    updTick (fun t => { t with good := g, locked := t.locked || decide (g ≥ 16) }) s

/-- A TICK flit's content arrives on port `p`; `arrival` is the decoder's time in 0.1 ns (R314). A port without `tick` in
common brings no usable marker (R75; assumption log 120). -/
def tickMarker (p : Nat) (content : Bytes) (inBlock : Bool) (arrival : Nat) (s : State) : State :=
  match s.sketch.tickSet with
  | none => sketchCount 4 1 s
  | some ts =>
    let usable := ts.mode = 0 && (portOf s p).features.getLsbD 2 && leAt content 12 2 = ts.source.toNat &&
      (match s.tick.port with
        | some c => decide (c = p)
        | none => ts.ports.contains p)
    if !usable then sketchCount 4 1 s
    else
      let q := portOf s p
      let a : Rat := ((arrival : Rat) - (q.rxPath : Rat) - (if inBlock then 1400 else 0)) / 10
      let lead : Rat := (signedOf 32 (leAt content 4 4) : Rat) / 10
      let start := a - (q.linkDelay.toNat : Rat) / 10 + lead
      let m := w32 (leAt content 0 4)
      let s := when (bitOf (leAt content 15 1) 1) (updTick (fun t => { t with gated := t.gated ++ [m] })) s
      useMarker p { tick := m, start := start, depth := leAt content 14 1 } s

/-! ### Markers sent (R313) -/

/-- Ports that carry markers: in *Running* with `tick` in common. -/
def markerPorts (s : State) : List Nat :=
  (List.range 96).filter (fun p => (portOf s p).state = .running && (portOf s p).features.getLsbD 2)

/-- The TICK flit that announces tick `m`, leaving now. -/
def markerFlit (s : State) (m : W32) (gated : Bool) : CFlit :=
  let lead := roundRat ((localStart s m - (s.now : Rat)) * 10)
  let src := (s.sketch.tickSet.map (·.source)).getD 0
  { kind := 2, sub := 0x02, nbytes := 24
    content := leBytes 4 m.toNat ++ leBytes 4 (wrapInt 32 lead) ++ leBytes 4 (periodOf s) ++ leBytes 2 src.toNat ++
      [BitVec.ofNat 8 s.tick.depth, BitVec.ofNat 8 (boolNat s.tick.holdover + 2 * boolNat gated)] ++ zeros 8 }

/-- A waiting TICK flit with its `lead` as of its departure now. -/
def refreshMarker (s : State) (c : CFlit) : CFlit :=
  markerFlit s (w32 (leAt c.content 0 4)) (bitOf (leAt c.content 15 1) 1)

/-! ### Plan entries (R308) -/

/-- A TICK_IN source runs no plan before it has taken the tick number (R312). -/
def runsPlan (s : State) : Bool := s.tick.running && !(s.sketch.tickSet.any (fun t => t.mode = 2) && !s.tick.locked)

/-- Entry of tick `n` of plan `p` that starts at tick `st`: plan, entry index, entry word. -/
def planEntry (pl : Plans) (p : Nat) (st n : W32) : Option (Nat × Nat × W64) :=
  let es := pl.entries.getD p []
  if es.isEmpty then none
  else
    let i := (n - st).toNat % es.length
    some (p, i, es.getD i 0)

/-- Tick `n` lies before the running plan's start `st`: never once the plan has run for 2^30 ticks (R35, R308). -/
def beforePlan (s : State) (st n : W32) : Bool := !s.sketch.planOld && laterTick st n

/-- The entry of the running plan at tick `n`. -/
def entryAt (s : State) (n : W32) : Option (Nat × Nat × W64) :=
  match s.sketch.running, s.sketch.plans with
  | some (p, st), some pl => if !runsPlan s || beforePlan s st n then none else planEntry pl p st n
  | _, _ => none

/-- Plan and entry in force in the current tick. -/
def planNow (s : State) : Option (Nat × Nat) := (entryAt s s.tick.number).map (fun e => (e.1, e.2.1))

/-- Items of a plan's entry: its stream items and its reduce items (R306). -/
def streamItems (s : State) (e : W64) : List W64 :=
  match s.sketch.plans with
  | none => []
  | some pl => (pl.items.drop (bitsOf e.toNat 0 18)).take (bitsOf e.toNat 18 5)

def reduceItems (s : State) (e : W64) : List W64 :=
  match s.sketch.plans with
  | none => []
  | some pl => (pl.items.drop (bitsOf e.toNat 0 18 + bitsOf e.toNat 18 5)).take (bitsOf e.toNat 23 5)

/-! ### Overruns (R318 to R320) -/

def overrunBytes (tick : W32) (plan kind entry object late : Nat) : Bytes :=
  leBytes 4 tick.toNat ++ [BitVec.ofNat 8 plan, BitVec.ofNat 8 kind, 0, 0] ++ leBytes 4 entry ++ leBytes 4 object ++
    leBytes 4 late ++ zeros 4

/-- The same tick and kind. -/
def sameOverrun (tick : W32) (kind : Nat) (r : Bytes) : Bool := leAt r 0 4 = tick.toNat && leAt r 5 1 = kind

/-- Raise TICK_OVERRUN for the records since the last one, at most once per 1 ms. -/
def raiseOverruns (s : State) : State :=
  let due := match s.sketch.overrunAt with
    | none => true
    | some t => decide (t + 1000000 ≤ s.now)
  match s.sketch.overrunPending with
  | [] => s
  | r :: rest =>
    if !due then s
    else
      let data := r.take 6 ++ (r.drop 16).take 4 ++ leBytes 2 (rest.length + 1) ++ zeros 2
      let now := s.now
      raise 0x002B 0xFFFF data (updSketch (fun k => { k with overrunPending := [], overrunAt := some now }) s)

/-- Work judged late so far, by tick: of the stream kind (1), the reduce kind (2) or the egress kind (3). -/
def lateTable (t : Tick) (kind : Nat) : Table Nat :=
  if kind = 1 then t.lateStream else if kind = 2 then t.lateReduce else t.lateEgress

def setLate (kind : Nat) (x : Table Nat) (t : Tick) : Tick :=
  if kind = 1 then { t with lateStream := x } else if kind = 2 then { t with lateReduce := x } else { t with lateEgress := x }

/-- Change the first record of a tick and kind in a list. -/
def growFirst (tick : W32) (kind late : Nat) : List Bytes → List Bytes
  | [] => []
  | r :: l => if sameOverrun tick kind r then (r.take 16 ++ leBytes 4 late ++ zeros 4) :: l else r :: growFirst tick kind late l

/-- `more` work of one kind of a tick is late: the tick is counted and recorded once per kind, and its record grows with
later work while the log holds it. -/
def noteOverrun (tick : W32) (plan kind entry object more : Nat) (s : State) : State :=
  let old := tgetD (lateTable s.tick kind) tick.toNat 0
  let late := old + more
  let s := updTick (fun t => setLate kind (tset (lateTable t kind) tick.toNat late) t) s
  if old > 0 then
    updSketch (fun k => { k with overruns := growFirst tick kind late k.overruns
                                 overrunPending := growFirst tick kind late k.overrunPending }) s
  else
    let r := overrunBytes tick plan kind entry object late
    let s := sketchCount (8 + kind) 1 s
    raiseOverruns (updSketch (fun k => { k with overruns := (r :: k.overruns).take 256
                                                overrunPending := k.overrunPending ++ [r] }) s)

/-- A VC 0 packet whose head entered the buffer in tick `n`, under the plan and entry `w`, has left: late when the end of
tick n + 1 has passed (R318). -/
def judgeEgress (n : W32) (w : Option (Nat × Nat)) (s : State) : State :=
  if s.tick.running && laterTick s.tick.number (n + 1) then
    noteOverrun n ((w.map (·.1)).getD 0xFF) 3 ((w.map (·.2)).getD 0) 0xFFFFFFFF 1 (sketchCount 12 1 s)
  else s

end Sys2Proof.Machine
end

