-- ==== Sys2Proof/Machine/Errors.lean ====
section
/-! DEFINITION. Memory errors and the tests they queue (R406, R407, R410, R415, R418, R419). -/

namespace Sys2Proof.Machine

/-! ### RS(35,32) (R406; assumption log 134) -/

/-- GF(2^8) with x^8 + x^4 + x^3 + x^2 + 1. -/
def gf8Times2 (a : Byte) : Byte := if a.msb then (a <<< 1) ^^^ 0x1D else a <<< 1

def gf8Mul (a b : Byte) : Byte := ((List.range 8).foldl (fun (x : Byte × Byte) i =>
  ((if b.getLsbD i then x.1 ^^^ x.2 else x.1), gf8Times2 x.2)) (0, a)).1

/-- α^n, α a root of the field polynomial. -/
def gf8Pow (n : Nat) : Byte := iter n gf8Times2 1

/-- The three check symbols of 32 data bytes: the remainder by (x − 1)(x − α)(x − α²). -/
def checkSymbols (d : Bytes) : Bytes :=
  d.foldl (fun r b =>
    let f := b ^^^ r.getD 0 0
    [r.getD 1 0 ^^^ gf8Mul f 7, r.getD 2 0 ^^^ gf8Mul f 14, gf8Mul f 8]) [0, 0, 0]

/-- A word as it is stored: its data, then its check symbols. -/
def storedWord (d : Bytes) : Bytes := d ++ checkSymbols d

/-- The three syndromes of a word's errors; a stored word itself has none. -/
def syndromes (errors : List (Nat × Byte)) : Bytes :=
  (List.range 3).map (fun i => errors.foldl (fun x e => x ^^^ gf8Mul e.2 (gf8Pow (i * (34 - e.1)))) 0)

/-- The position of the one symbol whose error has these syndromes. -/
def errorPlace (s : Bytes) : Option Nat :=
  (List.range 35).find? (fun p => s.getD 0 0 != 0 && syndromes [(p, s.getD 0 0)] == s)

/-- The symbols that are wrong. -/
def wrongSymbols (e : WordError) : List (Nat × Byte) := e.errors.filter (fun x => decide (x.1 < 35) && x.2 != 0)

/-- What the code makes of a word: one symbol in error is corrected, two are detected; three or more are taken as detected,
and a marked word always is (R406, R412). -/
def eccOf (e : WordError) : Ecc :=
  let w := wrongSymbols e
  if e.marked || decide (w.length ≥ 3) then .uncorrectable
  else if (syndromes w).all (fun b => b == 0) then .clean
  else if (errorPlace (syndromes w)).isSome then .corrected else .uncorrectable

/-- The symbol position, 0xFF for none, and the syndromes, as a record has them (R418). -/
def eccDetail (e : WordError) : Bytes :=
  BitVec.ofNat 8 ((errorPlace (syndromes (wrongSymbols e))).getD 0xFF) :: syndromes (wrongSymbols e)

def testOn (s : State) (r : TestRes) : Bool := s.health.tests.any (fun t => t.res = r)

/-- Queue the targeted test of a resource (R415): nothing when one is queued or running, an event when the queue is
full. -/
def queueTest (r : TestRes) (s : State) : State :=
  if testOn s r then s
  else if s.health.tests.length ≥ 64 then raise 0x0144 0xFFFF [] (healthCount 9 1 s)
  else updHealth (fun h => { h with tests := h.tests ++ [{ res := r }] }) s

/-- The SRAM row of a stored word: the spec gives no placement, so the row is a free value. -/
def sramRowOf (x : Nat) : TestRes := .sramRow (x % 2048) (x / 2048 % 256)

/-- The HBM row of a store address (R267). -/
def hbmRowOf (a : Nat) : TestRes := .hbmRow (a / 4096 % 4) (a / 16384 * 4 + a % 4096 / 1024)

/-- Store address of a word of an HBM row (R267, R417). -/
def rowAddress (stack row word : Nat) : Nat := row / 4 * 16384 + stack * 4096 + row % 4 * 1024 + 32 * word

/-- A word of the store reads uncorrectable until it is written again (R412). -/
def markWord (w : Nat) (s : State) : State :=
  updHealth (fun h => { h with badWords := if h.badWords.contains w then h.badWords else h.badWords ++ [w] }) s

/-- Some word of a range of the store reads uncorrectable. -/
def wordsBad (s : State) (a n : Nat) : Bool := s.health.badWords.any (fun w => decide (32 * w < a + n ∧ a < 32 * w + 32))

/-- Bytes have been written: the words written whole read well again. -/
def rewriteWords (a n : Nat) (s : State) : State :=
  updHealth (fun h => { h with badWords := h.badWords.filter (fun w => !decide (a ≤ 32 * w ∧ 32 * w + 32 ≤ a + n)) }) s

/-- The error's counter (R420), by error kind of R418. -/
def errorCounter (kind : Nat) : Option Nat :=
  if kind = 1 then some 0 else if kind = 2 then some 1 else if kind = 3 then some 2 else if kind = 4 then some 3
  else if kind = 7 then some 4 else none

/-- `MEM_ERROR` (R419): at once for an uncorrectable error, at most once per second and memory for corrected ones. -/
def memEvent (mem kind : Nat) (s : State) : State :=
  let n := tgetD s.health.memSince mem 0 + 1
  let unc := kind % 2 = 0
  let due := unc || (match tget s.health.memEventAt mem with
    | none => true
    | some t => decide (t + 1000000000 ≤ s.now))
  if !due then updHealth (fun h => { h with memSince := tset h.memSince mem n }) s
  else
    let now := s.now
    raise 0x0140 mem ([BitVec.ofNat 8 kind] ++ leBytes 4 n) (updHealth (fun h => { h with
      memSince := tdel h.memSince mem
      memEventAt := if unc then h.memEventAt else tset h.memEventAt mem now }) s)

/-- An ECC error of a memory (R407): counted, recorded, reported, and the test of its row queued. `mem` is the memory's
number in R419, `kind` the error kind of R418. -/
def memError (mem kind : Nat) (row : TestRes) (resource address : Nat) (detail : Bytes) (s : State) : State :=
  let s := match errorCounter kind with
    | some i => healthCount i 1 s
    | none => s
  queueTest row (memEvent mem kind (record 2 kind resource address detail s))

/-- An error that arose on a data path: recorded as one, at the place of the word read, and reported; it has no counter and
no row to test (assumption log 153). -/
def pathError (mem : Nat) (unc : Bool) (resource address : Nat) (detail : Bytes) (s : State) : State :=
  memEvent mem (if unc then 6 else 5) (record 2 (if unc then 6 else 5) resource address detail s)

/-- The error arose in the memory, or the word is marked there. -/
def inMemory (e : WordError) : Bool := !e.path || e.marked

/-- A word of an SRAM memory has been read (R407): nothing for a clean one. The bank and row that hold it are a free value;
the record names both (R418). -/
def sramRead (mem : Nat) (e : WordError) (s : State) : State :=
  let unc := eccOf e = .uncorrectable
  if eccOf e = .clean then s
  else withFree (fun x =>
    if inMemory e then memError mem (if unc then 2 else 1) (sramRowOf x) (x % 2048) (x / 2048 % 256) (eccDetail e)
    else pathError mem unc (x % 2048) (x / 2048 % 256) (eccDetail e)) s

/-- A buffer cell or a retry entry reads uncorrectable until it is written again (R412). -/
def markSite (x : ScrubSite) (s : State) : State :=
  updHealth (fun h => { h with badSites := if h.badSites.contains x then h.badSites else h.badSites ++ [x] }) s

/-- What reading a cell of a packet shows: `e`, unless the word is marked (R412). -/
def cellWord (s : State) (id n : Nat) (e : WordError) : WordError :=
  if s.health.badSites.contains (.bufferCell id n) then { marked := true } else e

/-- Cell `n` of a packet is read from the buffer: a word found uncorrectable there reads so from then on (R412). -/
def readCell (id n : Nat) (e : WordError) (s : State) : State :=
  when (eccOf e = .uncorrectable && inMemory e) (markSite (.bufferCell id n)) (sramRead 0 e s)

/-- A packet's header is read: from its cell, and from the lookup record where the cell does not decode (R198). -/
def readHeader (id : Nat) (cell copy : WordError) (s : State) : State :=
  when (eccOf cell = .uncorrectable) (sramRead 0 copy) (readCell id 0 cell s)

/-- The header is uncorrectable in both copies (R198). -/
def headerLost (cell copy : WordError) : Bool := eccOf cell = .uncorrectable && eccOf copy = .uncorrectable

/-- A word of a row of an HBM stack has been read: an uncorrectable one is marked until it is written again (R412). `mem` is 5,
or 6 for Easel memory. -/
def hbmRead (mem stack row word : Nat) (e : WordError) (s : State) : State :=
  let unc := eccOf e = .uncorrectable
  if eccOf e = .clean then s
  else if !inMemory e then pathError mem unc stack row (eccDetail e) s
  else when unc (markWord (rowAddress stack row word / 32))
    (memError mem (if unc then 4 else 3) (.hbmRow stack row) stack row (eccDetail e) s)

/-- A word of the stream store has been read, by its store address (R267). -/
def storeRead (a : Nat) (e : WordError) (s : State) : State :=
  hbmRead 5 (a / 4096 % 4) (a / 16384 * 4 + a % 4096 / 1024) (a % 1024 / 32) e s

/-- Words read from `a` on, by offset: those in error, and the marked ones of the range. -/
def storeErrors (s : State) (a n : Nat) (l : List (Nat × WordError)) : List (Nat × WordError) :=
  l.filter (fun x => decide (x.1 < n)) ++
    (s.health.badWords.filter (fun w => decide (32 * w < a + n ∧ a < 32 * w + 32) && !l.any (fun x => (a + x.1) / 32 = w))).map
      (fun w => (32 * w - a, { marked := true }))

/-- Some word of a read is uncorrectable. -/
def anyBad (l : List (Nat × WordError)) : Bool := l.any (fun x => eccOf x.2 = .uncorrectable)

/-- A palette's parity error (R407, R410). -/
def parityError (n : Nat) (s : State) : State :=
  queueTest (.palette n) (record 2 7 n 0 [] (healthCount 4 1 s))

end Sys2Proof.Machine
end

