-- ==== Sys2Proof/Machine/Groups.lean ====
section
/-! DEFINITION. Groups, member lists and descriptors (R207 to R216): their fields, and what makes them valid. -/

namespace Sys2Proof.Machine

/-! ### Headers and members (R207, R208) -/

def gValid (h : W64) : Bool := bitOf h.toNat 0
def gSched (h : W64) : Bool := bitOf h.toNat 1
def gMembers (h : W64) : Nat := bitsOf h.toNat 2 8
def gTimeout (h : W64) : Nat := bitsOf h.toNat 10 17
def gRanks (h : W64) : Nat := bitsOf h.toNat 27 13
def gDescBase (h : W64) : Nat := bitsOf h.toNat 40 15
def gDescCount (h : W64) : Nat := bitsOf h.toNat 55 4

def mEndpoint (m : W64) : W16 := w16 m.toNat
def mPort (m : W64) : Nat := bitsOf m.toNat 16 7
def mKind (m : W64) : Nat := bitsOf m.toNat 24 2
def mRankLo (m : W64) : Nat := bitsOf m.toNat 32 13
def mRankHi (m : W64) : Nat := bitsOf m.toNat 48 13

/-- The operation timeout of a group, ns. -/
def timeoutNs (g : Group) : Nat := if gTimeout g.header = 0 then 200000 else 1000 * gTimeout g.header

/-- A valid group entry. -/
def groupOf (s : State) (g : Nat) : Option Group :=
  match tget s.canvas.groups g with
  | some x => if gValid x.header && !badEntry s 5 g then some x else none
  | none => none

def contributors (g : Group) : List W64 := g.members.filter (fun m => mKind m = 0 || mKind m = 1)
def endpointsOf (g : Group) : List W64 := g.members.filter (fun m => mKind m = 0)
def childrenOf (g : Group) : List W64 := g.members.filter (fun m => mKind m = 1)
def parentOf (g : Group) : Option W64 := g.members.find? (fun m => mKind m = 2)

/-- Position of a contributor by its endpoint. -/
def positionOf (g : Group) (src : W16) : Option Nat := (contributors g).findIdx? (fun m => mEndpoint m = src)
/-- Index in the member list. -/
def memberIndex (g : Group) (src : W16) : Option Nat := g.members.findIdx? (fun m => mEndpoint m = src)

/-! ### Descriptors (R211) -/

structure Desc where
  op : Nat
  inFmt : Nat
  wFmt : Nat
  accFmt : Nat
  outFmt : Nat
  delivery : Nat
  group : Nat
  elemCount : Nat
  chunkElems : Nat
  root : Nat
  rowLen : Nat
  mode : Nat
  biasMode : Nat
  scale : Nat
  bias : Nat
  biasBase : Nat
  clipLo : Nat
  clipHi : Nat
  partStripes : Nat
  digest : W32
  deriving DecidableEq, Repr, Inhabited

def parseDesc (b : Bytes) : Desc :=
  { op := leAt b 0 1, inFmt := leAt b 1 1, wFmt := leAt b 2 1, accFmt := leAt b 3 1, outFmt := leAt b 4 1
    delivery := leAt b 5 1, group := bitsOf (leAt b 6 2) 0 14, elemCount := leAt b 8 4, chunkElems := leAt b 12 2
    root := leAt b 14 2, rowLen := leAt b 16 4, mode := leAt b 20 1, biasMode := leAt b 21 1, scale := leAt b 24 4
    bias := leAt b 28 4, biasBase := leAt b 32 4, clipLo := leAt b 36 4, clipHi := leAt b 40 4
    partStripes := leAt b 44 1, digest := w32 (leAt b 60 4) }

def dSat (d : Desc) : Bool := bitOf d.mode 0
def dRne (d : Desc) : Bool := bitOf d.mode 1
def dRtz (d : Desc) : Bool := bitOf d.mode 2
def dRound (d : Desc) : Nat := bitsOf d.mode 3 2
def dClip (d : Desc) : Bool := bitOf d.mode 5

def descAt (s : State) (i : Nat) : Option Desc :=
  if badEntry s 4 i then none else (tget s.canvas.descs i).map parseDesc

/-- The descriptors of a group. -/
def descsOf (s : State) (g : Group) : List Desc :=
  (List.range (gDescCount g.header)).filterMap (fun i => descAt s (gDescBase g.header + i))

def descByDigest (s : State) (g : Group) (x : W32) : Option Desc := (descsOf s g).find? (fun d => d.digest = x)

/-- The 64 bytes of the descriptor of a group that a digest names. -/
def descBytes (s : State) (g : Group) (x : W32) : Option Bytes :=
  (List.range (gDescCount g.header)).findSome? (fun i =>
    let j := gDescBase g.header + i
    if badEntry s 4 j then none else (tget s.canvas.descs j).filter (fun b => (parseDesc b).digest = x))

/-! ### Chunks, stripes and packets (R216) -/

def chunkCount (d : Desc) : Nat := if d.chunkElems = 0 then 0 else (d.elemCount + d.chunkElems - 1) / d.chunkElems
/-- Elements of chunk `c`. -/
def chunkLen (d : Desc) (c : Nat) : Nat := min ((c + 1) * d.chunkElems) d.elemCount - c * d.chunkElems
def stripeCount (d : Desc) (c : Nat) : Nat := (chunkLen d c + 255) / 256
/-- Stripes that a packet of the device covers, by element size. -/
def fitStripes (fmt : Nat) : Nat := 16 / fmtBytes fmt
/-- Elements of stripes `first` to `first` + `n` − 1. -/
def elemsOf (d : Desc) (c first n : Nat) : Nat := min ((first + n) * 256) (chunkLen d c) - first * 256

/-- Rows that elements `a` to `b` of an operation touch. -/
def rowsOf (d : Desc) (a b : Nat) : Nat := if d.rowLen = 0 then 0 else b / d.rowLen - a / d.rowLen + 1

/-- The weight area of a packet (R216, R247). -/
def areaOf (d : Desc) (a b : Nat) : Nat := if d.op = opCombine then roundUp 16 (rowsOf d a b * fmtBytes d.wFmt) else 0

/-! ### Valid descriptors (R213, R214, R260) -/

def formatsOk (d : Desc) : Bool :=
  let ints := isInteger d.accFmt && decide (d.accFmt ≥ 10)
  if d.op = opSum || d.op = opMin || d.op = opMax then
    decide (d.wFmt = 0) && fmtKnown d.outFmt &&
      (if d.inFmt = 1 then decide (d.accFmt = 1)
      else if isFloat d.inFmt then decide (d.accFmt = 2)
      else if d.inFmt = 11 then decide (d.accFmt = 11)
      else isInteger d.inFmt && ints)
  else if d.op = opAnd || d.op = opOr || d.op = opXor then
    decide (d.wFmt = 0) && isInteger d.inFmt && isInteger d.outFmt && ints && decide (fmtBytes d.inFmt ≤ fmtBytes d.accFmt)
  else if d.op = opCombine then
    fmtKnown d.inFmt && fmtKnown d.wFmt && decide (d.accFmt = 2) && fmtKnown d.outFmt
  else if d.op = opGather then
    fmtKnown d.inFmt && decide (d.wFmt = 0 ∧ d.accFmt = d.inFmt ∧ d.outFmt = d.inFmt)
  else false

/-- AND, OR, XOR and GATHER are always identity. -/
def plainStage (d : Desc) : Bool := decide (d.scale = 0x3F800000 ∧ d.biasMode = 0) && !dClip d

/-- Fields the table marks zero, and reserved codes. -/
def fieldsOk (b : Bytes) (d : Desc) : Bool :=
  decide (d.delivery ≤ 2 ∧ d.biasMode ≤ 2 ∧ leAt b 6 2 < 16384 ∧ leAt b 22 2 = 0 ∧ bitsOf d.mode 6 2 = 0) &&
    allZero ((b.drop 45).take 15) && (d.biasMode = 1 || d.bias = 0) && (d.biasMode = 2 || d.biasBase = 0) &&
    (if d.op = opCombine then decide (1 ≤ d.rowLen ∧ d.rowLen ≤ 2 ^ 24) else d.rowLen = 0) &&
    decide (1 ≤ d.partStripes ∧ d.partStripes ≤ 16)

def isNan32 (c : Nat) : Bool := (decodeFloat fp32 c).2 = .nan

/-- R260's refusals. -/
def stageOk (d : Desc) : Bool :=
  !isNan32 d.scale && !(d.biasMode = 1 && isNan32 d.bias) &&
    !(dClip d && (isNan32 d.clipLo || isNan32 d.clipHi ||
      ieeeLt (decodeFloat fp32 d.clipHi).2 (decodeFloat fp32 d.clipLo).2))

/-- The worst-case member packet (R216). -/
def worstPacket (d : Desc) : Nat :=
  let e := d.partStripes * 256
  e * fmtBytes d.inFmt +
    (if d.op = opCombine then roundUp 16 (((e + d.rowLen - 1) / d.rowLen + 1) * fmtBytes d.wFmt) else 0)

/-- A descriptor's own fields are valid, with `constBlocks` blocks of the constant pool. -/
def descOk (constBlocks : Nat) (b : Bytes) : Bool :=
  let d := parseDesc b
  formatsOk d && fieldsOk b d && stageOk d &&
    (plainStage d || !(d.op = opAnd || d.op = opOr || d.op = opXor || d.op = opGather)) &&
    decide (d.chunkElems ≠ 0 ∧ d.chunkElems % 256 = 0) &&
    decide (4096 ≤ d.chunkElems * fmtBytes d.accFmt ∧ d.chunkElems * fmtBytes d.accFmt ≤ 65536) &&
    !(d.op = opGather && d.delivery != 0) && decide (worstPacket d ≤ 4096) &&
    !(d.biasMode = 2 && decide (d.biasBase + chunkCount d > constBlocks)) &&
    leAt b 60 4 == (crc32 (b.take 60)).toNat

/-- The checks against the group that a descriptor names (R214). -/
def descFitsGroup (d : Desc) (h : W64) : Bool := !(d.delivery = 1 && decide (d.root ≥ gRanks h))

def noRepeat {α : Type} [DecidableEq α] : List α → Bool
  | [] => true
  | x :: xs => !xs.contains x && noRepeat xs

/-- R209 but for the descriptors. A member of the reserved `kind` 3 is refused too (assumption log 179). -/
def groupOk (roles : List PortRole) (g : Group) : Bool :=
  let h := g.header
  let role := fun p => (roles.getD p {}).role.toNat
  decide (1 ≤ gMembers h ∧ gMembers h ≤ 144) && !(contributors g).isEmpty &&
    (gTimeout h = 0 || decide (10 ≤ gTimeout h ∧ gTimeout h ≤ 100000)) &&
    decide (1 ≤ gRanks h ∧ gRanks h ≤ 4608) &&
    decide (1 ≤ gDescCount h ∧ gDescCount h ≤ 8 ∧ gDescBase h + gDescCount h ≤ 32768) &&
    decide ((g.members.filter (fun m => mKind m = 2)).length ≤ 1) &&
    !((parentOf g).isSome && !(childrenOf g).isEmpty) &&
    g.members.all (fun m => decide (mPort m < 96 ∧ mKind m ≤ 2 ∧ mRankLo m ≤ mRankHi m ∧ mRankHi m < gRanks h) &&
      (if mKind m = 0 then decide (role (mPort m) = 1 ∧ mRankLo m = mRankHi m)
      else decide (role (mPort m) = 2 ∨ role (mPort m) = 3))) &&
    noRepeat (g.members.map mEndpoint)

/-- A descriptor record passes R213, R214 and R260; `lookGroup` gives the group headers as they would stand. -/
def descRecordOk (constBlocks : Nat) (lookGroup : Nat → Option W64) (b : Bytes) : Bool :=
  descOk constBlocks b &&
    (match lookGroup (parseDesc b).group with
    | some h => !gValid h || descFitsGroup (parseDesc b) h
    | none => true)

/-- The descriptors that a group covers are all valid and their digests differ; `look` gives the descriptor table as it
would stand (R209, R214). -/
def groupDescsOk (constBlocks : Nat) (look : Nat → Option Bytes) (lookGroup : Nat → Option W64) (h : W64) : Bool :=
  let l := (List.range (gDescCount h)).map (fun i => look (gDescBase h + i))
  l.all (fun b => match b with
    | none => false
    | some b => descRecordOk constBlocks lookGroup b) &&
  noRepeat (l.filterMap (fun b => b.map (fun b => (parseDesc b).digest)))

end Sys2Proof.Machine
end

