-- ==== Sys2Proof/Machine/Link.lean ====
section
/-! DEFINITION. The slot stream (04): the choice and filling of slots, retry, the reception of D-blocks, C-runs and control
flits, credits, alignment markers, and packets that arrive and leave flit by flit (R139, R163, R170, R182, R197). -/

namespace Sys2Proof.Machine

/-! ### Bad cells (R197) -/

/-- A copy that is under way and has cell `n` still before it ends there (R197). -/
def cutCopy (n : Nat) (c : Copy) : Copy :=
  if 0 < c.sent && c.sent ≤ n then { c with endAt := if c.cut then min c.endAt n else n, cut := true } else c

/-- Payload cell `n` of a packet is uncorrectable: before its header has left `pois` is set, afterwards the packet ends VOID
at that cell, unless it has left; of a multicast packet, copy by copy. A packet is counted once in `cut_voided` (R197). -/
def badPayload (id n : Nat) (s : State) : State :=
  match packetOf s id with
  | none => s
  | some st =>
    let waiting := st.copies.isEmpty || st.copies.any (fun c => c.sent = 0)
    let ends := decide (n < st.cells) && st.copies.any (fun c => decide (0 < c.sent ∧ c.sent ≤ n))
    let s := when waiting (fun s => swCount 20 (boolNat (!st.hdr.pois))
      (updPacket id (fun x => { x with hdr := { x.hdr with pois := true } }) s)) s
    when ends (fun s =>
      let s := swCount 21 (boolNat (!st.voided)) (updPacket id (fun x => { x with voided := true }) s)
      if !st.multicast then cutPacketAt id n true s
      else updPacket id (fun x => { x with copies := x.copies.map (cutCopy n) }) s) s

/-! ### A packet leaves (R111, R170, R182, R195) -/

/-- What the copy sends next is the VOID flit that ends it, or its cells have all left. -/
def copyEnds (st : Stored) (c : Copy) : Bool := (c.cut && c.endAt ≤ c.sent) || c.sent ≥ st.cells

def copyOn (st : Stored) (p v : Nat) : Option Copy := st.copies.find? (fun c => c.port = p && c.vc = v)

/-- The packet at the head of queue (p, v), when its next cell, or its VOID end, can leave. -/
def readyCell (s : State) (p v : Nat) : Option (Nat × Stored × Copy) :=
  match queueOf s p v with
  | [] => none
  | id :: _ => match packetOf s id with
    | none => none
    | some st => match copyOn st p v with
      | none => none
      | some c => if c.cut || st.cut || c.sent < st.cells then some (id, st, c) else none

/-- The header as it leaves port `p` on channel `v` (R140, R170, R195). -/
def departHeader (s : State) (p v : Nat) (st : Stored) (c : Copy) : Header :=
  let r := (roleOf s p).role
  sealHeader { st.hdr with
    vc := BitVec.ofNat 3 v, dst := c.dst, offset := c.offset
    routeHint := if r = 1 then 0 else if r = 3 then 1 else st.hdr.routeHint &&& 1 }

def voidFlit (v : Nat) : Flit := { kind := 1, vc := BitVec.ofNat 3 v, eop := true, fin := 1 }

/-- The flit that carries cell `c.sent`. -/
def cellFlit (s : State) (p v : Nat) (st : Stored) (c : Copy) : Flit :=
  let b := ((headerBytes (departHeader s p v st c) ++ st.data).drop (252 * c.sent)).take 252
  let last := st.complete && !st.cut && c.sent + 1 = st.cells
  { kind := 1, vc := BitVec.ofNat 3 v, sop := c.sent = 0, eop := last, fin := if last && st.void then 1 else 0
    nbytes := BitVec.ofNat 8 (b.length - 1), content := b }

/-- The last cell of a copy has left: what R182, R196 and R318 judge then. A multicast copy counts as sent also where it ends
VOID (R203; assumption log 161). -/
def copyLeft (id p v : Nat) (st : Stored) (good : Bool) (s : State) : State :=
  let s := dropCopy id p v s
  let s := when st.multicast (swCount 18 1) s
  let s := match st.tickIn with
    | some n => when (v = 0 && (packetOf s id).isNone) (judgeEgress n st.planIn) s
    | none => s
  if good && isEdge s p && st.hdr.opcode = opPut && !st.hdr.last && !st.hdr.pois && (st.vcIn = 1 || st.vcIn = 6) then
    countPut st.hdr s
  else s

/-- One cell of a unicast packet has left the buffer: a credit still withheld for it is released (R189). -/
def freeCell (id : Nat) (s : State) : State :=
  match packetOf s id with
  | none => s
  | some st =>
    match st.ingress with
    | none => s
    | some p =>
      if !st.multicast && cellsHeld st < st.cells - st.released then
        updPacket id (fun x => { x with released := x.released + 1 }) (releaseCredit p st.vcIn 1 s)
      else s

/-- Use a credit of channel `v` on port `p`. -/
def useCredit (p v : Nat) (s : State) : State :=
  updLink p (fun k => { k with used := k.used.modify v (· + 1) }) s

/-- A header uncorrectable in both copies as it is to leave: the packet is discarded; of a multicast packet the copies under
way end VOID (R198, R123; assumption log 156). -/
def headerGone (id : Nat) (s : State) : State :=
  match packetOf s id with
  | none => s
  | some st =>
    if !st.copies.any (fun c => decide (c.sent > 0)) then discardCounted id 22 s
    else
      let s := updPacket id (fun x => { x with copies := x.copies.map (fun c => { c with cut := true, endAt := 0 }) }) s
      forEach (st.copies.filter (fun c => c.sent = 0)) (fun c => dropCopy id c.port c.vc) (swCount 22 1 s)

/-- The next cell of a packet's copy is read from the buffer. A payload word that was marked before has acted on the packet
already (R197, R412). -/
def readNext (reads : List (Nat × CellRead)) (id : Nat) (c : Copy) (s : State) : State :=
  let r := ((reads.find? (fun x => x.1 = id)).map (·.2)).getD {}
  let e := cellWord s id c.sent r.cell
  if c.sent = 0 then when (headerLost e r.record) (headerGone id) (readHeader id e r.record s)
  else when (eccOf e = .uncorrectable && !e.marked) (badPayload id c.sent) (readCell id c.sent e s)

/-- The cell that queue (p, v) would send is read, unless the packet is to end VOID. -/
def readAhead (reads : List (Nat × CellRead)) (p v : Nat) (s : State) : State :=
  match readyCell s p v with
  | some (id, st, c) => if copyEnds st c then s else readNext reads id c s
  | none => s

/-- Send the next cell of the packet at the head of queue (p, v); `reads` says of which packets the cell read is in error.
Where its header is lost, nothing leaves in its place. -/
def takeFlit (reads : List (Nat × CellRead)) (p v : Nat) (s : State) : State × Flit :=
  let id0 := (readyCell s p v).map (·.1)
  let s := readAhead reads p v s
  match (readyCell s p v).filter (fun x => id0 = some x.1) with
  | none => (s, {})
  | some (id, st, c) =>
    let s := useCredit p v s
    if copyEnds st c then (copyLeft id p v st false s, voidFlit v)
    else
      let f := cellFlit s p v st c
      let s := updPacket id (fun x => { x with
        copies := x.copies.map (fun y => if y.port = p && y.vc = v then { y with sent := y.sent + 1 } else y) }) s
      let s := updPort p (fun q => { q with fetching := tset q.fetching v id }) s
      if f.eop then (copyLeft id p v st (!st.void) s, f) else (freeCell id s, f)

/-! ### What may be sent (R116, R117, R120 to R124) -/

def creditOk (k : Link) (v : Nat) : Bool :=
  let d := (nth k.limit v - nth k.used v).toNat
  decide (1 ≤ d ∧ d ≤ 32767)

/-- A flit of channel `v` is ready and has a credit. While grace runs the queues are held (R130); before admission only VC 4 and
VC 5 leave (R31). -/
def canSend (s : State) (p v : Nat) : Bool :=
  let q := portOf s p
  (readyCell s p v).isSome && creditOk q.link v && q.grace.isNone && (q.admitted || v = 4 || v = 5)

/-- New sequenced items wait for the acknowledges of R122 and stop before PORT_RETRAIN (R94). -/
def mayStart (q : Port) : Bool := q.state = .running && !q.link.resumeB && !q.link.resumeC && q.quiesce.isNone

def canNewB (q : Port) : Bool := mayStart q && decide (q.link.retryB.length < 180)
def canNewC (q : Port) : Bool := mayStart q && decide (q.link.retryC.length < 451)

def canReplay (q : Port) : Bool := q.state = .running && !q.link.resumeB && !q.link.resumeC
def replayingB (q : Port) : Bool := canReplay q && q.link.replayB.isSome
def replayingC (q : Port) : Bool := canReplay q && q.link.replayC.isSome

/-- Control flits wait. -/
def controlWaits (s : State) (p : Nat) : Bool :=
  let q := portOf s p
  replayingC q || (q.state = .running && !q.link.waitingTick.isEmpty) ||
    (canNewC q && (!q.link.waitingC.isEmpty || canSend s p 4))

/-- D-block content waits. -/
def dataWaits (s : State) (p : Nat) : Bool :=
  let q := portOf s p
  replayingB q || (canNewB q && [0, 1, 2, 3, 5, 6, 7].any (canSend s p))

def nextSeq (n nxt : W16) : Option W16 := if n + 1 = nxt then none else some (n + 1)

/-- A retry entry has been written: it reads well again. -/
def entryStored (p : Nat) (st : Stream) (n : W16) (s : State) : State :=
  updHealth (fun h => { h with badSites := h.badSites.filter (fun x => !(x = .retry p st n)) }) s

/-- Send a new sequenced control flit: it takes its number and its place in the retry buffer. -/
def newControl (p : Nat) (c : CFlit) (s : State) : State × Option CFlit :=
  let k := (portOf s p).link
  let c := { c with seqd := true, cseq := k.nxtC }
  let now := s.now
  (linkCount p 5 1 (updLink p (fun k => { k with
    nxtC := k.nxtC + 1
    retryC := k.retryC ++ [(k.nxtC, c)]
    progressC := if k.retryC.isEmpty then now else k.progressC }) (entryStored p .c k.nxtC s)), some c)

/-- The next waiting control flit: replays, then TICK flits, then new ones (R116, R117). A VC 4 packet whose trailer failed
as it came in goes on as it is: a control flit has no `end` field to say so (assumption log 145). -/
def takeControl (reads : List (Nat × CellRead)) (p : Nat) (s : State) : State × Option CFlit :=
  let q := portOf s p
  let k := q.link
  match (if replayingC q then k.replayC else none) with
  | some n =>
    let c := (k.retryC.find? (fun e => e.1 = n)).map (·.2)
    (linkCount p 6 1 (updLink p (fun k => { k with replayC := nextSeq n k.nxtC }) s), c)
  | none =>
    match (if q.state = .running then k.waitingTick else []) with
    | t :: rest => (updLink p (fun k => { k with waitingTick := rest }) s, some (refreshMarker s t))
    | [] =>
      if !canNewC q then (s, none)
      else match k.waitingC with
        | c :: rest => newControl p c (updLink p (fun k => { k with waitingC := rest }) s)
        | [] =>
          if !canSend s p 4 then (s, none)
          else match readyCell s p 4 with
            | none => (s, none)
            | some (_, st, c) =>
              let f := takeFlit reads p 4 s
              if f.2.kind = 0 then (f.1, none)
              else
              let h := { departHeader f.1 p 4 st c with pois := bitOf (leAt f.2.content 16 4) 28 }
              newControl p (packetCflit (sealHeader h) st.data) f.1

/-- Up to `n` waiting control flits. -/
def takeControls (reads : List (Nat × CellRead)) (p : Nat) : Nat → State → State × List CFlit
  | 0, s => (s, [])
  | n + 1, s =>
    match takeControl reads p s with
    | (s, none) => (s, [])
    | (s, some c) =>
      let r := takeControls reads p n s
      (r.1, c :: r.2)

/-! ### Filling a new D-block (R117) -/

def drrVcs : List Nat := [1, 2, 3, 5, 6, 7]

/-- Deficit round robin: the channel to serve, if one is ready, with the new turn and deficits. -/
def drrPick (ready : Nat → Bool) (weight : List Nat) : Nat → Nat → List Nat → Option Nat × Nat × List Nat
  | 0, turn, def_ => (none, turn, def_)
  | fuel + 1, turn, def_ =>
    let v := nth drrVcs turn
    if ready v then
      let d := if nth def_ turn = 0 then nth weight v else nth def_ turn
      (some v, if d ≤ 1 then (turn + 1) % 6 else turn, def_.set turn (d - 1))
    else drrPick ready weight fuel ((turn + 1) % 6) (def_.set turn 0)

def fillFlit (reads : List (Nat × CellRead)) (p : Nat) (s : State) : State × Flit :=
  let k := (portOf s p).link
  if k.pcOn && controlWaits s p then
    let r := takeControls reads p 3 s
    (updLink p (fun k => { k with ackDueC := false }) r.1, carrierFlit (k.expC - 1) r.2)
  else if canSend s p 0 then takeFlit reads p 0 s
  else
    let d := drrPick (canSend s p) s.policy.vcWeight 7 k.drrTurn k.deficit
    let s := updLink p (fun k => { k with drrTurn := d.2.1, deficit := d.2.2 }) s
    match d.1 with
    | none => (s, {})
    | some v => takeFlit reads p v s

def fillFlits (reads : List (Nat × CellRead)) (p : Nat) : Nat → State → State × List Flit
  | 0, s => (s, [])
  | n + 1, s =>
    let f := fillFlit reads p s
    let r := fillFlits reads p n f.1
    (r.1, f.2 :: r.2)

/-! ### Sending a slot (R104, R109, R112, R116, R119) -/

/-- Alignment markers go out on every lane before slot 0 and after every 16,384 slots; the scrambler starts anew. -/
def sendMarkers (p : Nat) (s : State) : State :=
  let q := portOf s p
  if q.link.txSlots != 0 then s
  else
    let w := widthOf q.laneSet
    let s := forEach (maskList 8 q.laneSet.toNat).zipIdx (fun e =>
      emit (.marker p e.1 (invertLevels (q.lanes.getD e.1 {}).txShort
        (symbolsToLevels (markerSymbols e.2 w q.link.txMarkers))))) s
    updLink p (fun k => { k with txMarkers := k.txMarkers + 1, txScr := BitVec.allOnes 31 }) s

def creditTurn (k : Link) : Option Nat :=
  ((List.range 8).map (fun i => (k.credTurn + i) % 8)).find? (fun v => nth k.credCum v != nth k.sentCred v)

/-- The return item of a D-block header, in R119's order, and what sending it clears. Of two acknowledges that are due, the
streams take turns, so that neither waits past its limit. -/
def returnItem (p : Nat) (s : State) : State × BitVec 4 × W16 :=
  let k := (portOf s p).link
  if k.nakB then (linkCount p 9 1 (updLink p (fun k => { k with nakB := false }) s), 0x9, k.expB)
  else if k.nakC then (linkCount p 9 1 (updLink p (fun k => { k with nakC := false }) s), 0xB, k.expC)
  else if k.ackDueB && !(k.ackDueC && k.ackTurnC) then
    (updLink p (fun k => { k with ackDueB := false, ackTurnC := true }) s, 0x8, k.expB - 1)
  else if k.ackDueC then (updLink p (fun k => { k with ackDueC := false, ackTurnC := false }) s, 0xA, k.expC - 1)
  else match creditTurn k with
    | some v => (updLink p (fun k => { k with sentCred := k.sentCred.set v (nth k.credCum v), credTurn := (v + 1) % 8 }) s,
        BitVec.ofNat 4 v, nth k.credCum v)
    | none => (s, 0xF, 0)

/-- The light of a slot on each lane of the set: its symbols striped from stream symbol `start` on (R101), as PAM4 levels
(R102), inverted by a ring on the short-wavelength flank (R48). -/
def slotLight (q : Port) (start : Nat) (symbols : List Sym) : List (Nat × List Level) :=
  let lanes := maskList 8 q.laneSet.toNat
  lanes.zipIdx.map (fun e => (e.1, invertLevels (q.lanes.getD e.1 {}).txShort
    (symbolsToLevels (laneSymbols lanes.length start e.2 symbols))))

/-- A slot has left. -/
def slotSent (p : Nat) (scr : BitVec 31) (symbols : List Sym) (s : State) : State :=
  emit (.slot p (slotLight (portOf s p) (portOf s p).link.txSymbol symbols)) (updLink p (fun k => { k with
    txScr := scr, txSlots := (k.txSlots + 1) % 16384, txSymbol := k.txSymbol + 1090 }) s)

def sendDBlock (p : Nat) (bseq : W16) (replay : Bool) (flits : List Flit) (s : State) : State :=
  let r := returnItem p s
  let k := (portOf s p).link
  let h : DHeader := { bseq := bseq, retValue := r.2.2, retKind := r.2.1, pcReq := k.pcReq, pcOn := k.pcOn, replay := replay }
  let e := encodeD k.txScr (dHeaderBytes h ++ flits.flatMap flitBytes)
  slotSent p e.1 e.2 (updLink p (fun k => { k with sinceCrun := k.sinceCrun + 1 }) r.1)

/-- A D-block: the next replay, or a new one, idle when nothing may be sent. -/
def sendD (reads : List (Nat × CellRead)) (p : Nat) (s : State) : State :=
  let q := portOf s p
  match (if replayingB q then q.link.replayB else none) with
  | some n =>
    let fl := ((q.link.retryB.find? (fun e => e.1 = n)).map (·.2)).getD []
    sendDBlock p n true fl (linkCount p 1 1 (updLink p (fun k => { k with replayB := nextSeq n k.nxtB }) s))
  | none =>
    let n := q.link.nxtB
    let r := if canNewB q then fillFlits reads p 5 s else (s, List.replicate 5 {})
    if r.2.all (fun f => f.kind = 0) then sendDBlock p n false r.2 r.1
    else
      let now := s.now
      sendDBlock p n false r.2 (linkCount p 0 1 (updLink p (fun k => { k with
        nxtB := n + 1
        retryB := k.retryB ++ [(n, r.2)]
        progressB := if k.retryB.isEmpty then now else k.progressB }) (entryStored p .d n r.1)))

def creditFlit (k : Link) : CFlit := { kind := 2, sub := 0x01, nbytes := 16, content := k.credCum.flatMap (fun c => leBytes 2 c.toNat) }

/-- A C-run: CREDIT first, then waiting control flits unless control is protected, then fillers (R115). -/
def sendC (reads : List (Nat × CellRead)) (p : Nat) (s : State) : State :=
  let k := (portOf s p).link
  let r := if k.pcOn then (s, []) else takeControls reads p 20 s
  let k := (portOf r.1 p).link
  let h : CHeader := { back := k.expB - 1, cack := k.expC - 1, nakB := k.nakB, nakC := k.nakC, pcReq := k.pcReq, pcOn := k.pcOn }
  let fl := creditFlit k :: r.2 ++ List.replicate (20 - r.2.length) fillerFlit
  let e := encodeC k.txScr (cHeaderBytes h ++ cHeaderBytes h ++ fl.flatMap (cflitBytes (k.expC - 1)))
  let now := s.now
  let s := linkCount p 9 (boolNat k.nakB + boolNat k.nakC) r.1
  slotSent p e.1 e.2 (updLink p (fun k => { k with
    nakB := false, nakC := false, ackDueB := false, ackDueC := false, sentCred := k.credCum, sinceCrun := 0, lastCrun := now
    resumeRun := false }) s)

/-- The choice of R116; the resume C-run comes first (R122). -/
def chooseC (s : State) (p : Nat) : Bool :=
  let q := portOf s p
  let old := decide (q.link.lastCrun + 10000 ≤ s.now)
  if q.link.resumeRun then true
  else if q.link.pcOn then old
  else (controlWaits s p && (decide (q.link.sinceCrun ≥ nth s.policy.crunGap p) || !dataWaits s p)) || old

/-- Replay after a warm retrain is complete: the port may be a candidate again (R130, R167). -/
def noteReplayed (p : Nat) (s : State) : State :=
  updPort p (fun q => { q with replayDone := q.replayDone ||
    (canReplay q && q.link.replayB.isNone && q.link.replayC.isNone) }) s

/-- The transmitter sends the slot stream. -/
def streams (q : Port) : Bool := q.state = .running || q.phase = .resume

/-- An entry that is to be replayed was marked uncorrectable before (R412). -/
def replayMarked (s : State) (p : Nat) : Bool :=
  let q := portOf s p
  (replayingB q && q.link.replayB.any (fun n => s.health.badSites.contains (.retry p .d n))) ||
    (replayingC q && q.link.replayC.any (fun n => s.health.badSites.contains (.retry p .c n)))

/-- A slot boundary. `replay` is what the entry to replay shows as it is read from the retry buffer (R407). -/
def slotBoundary (p : Nat) (reads : List (Nat × CellRead)) (replay : WordError) (s : State) : State :=
  let q := portOf s p
  let e : WordError := if replayMarked s p then { marked := true } else if replayingB q || replayingC q then replay else {}
  if !streams q || s.boot.thermTrip then s
  else if eccOf e = .uncorrectable then coldRetrain p caSelftest (sramRead 3 e s)
  else
    let s := sendMarkers p (sramRead 3 e s)
    noteReplayed p (if chooseC s p then sendC reads p s else sendD reads p s)

/-- SLOT_BOUNDARY (R116): `reads` says which packets' next cells are in error as they are read, `replay` what the entry to
replay shows. -/
def execSlotBoundary (port : Nat) (reads : List (Nat × CellRead)) (replay : WordError) (s : State) : Res :=
  onUnit (portOk port) (slotBoundary port reads replay) s

/-! ### Acknowledges, retry requests and credit counts received (R120, R122, R124) -/

def ackCovers (v una nxt : W16) : Bool := decide ((v - una + 1).toNat ≤ (nxt - una).toNat)

/-- A number lies in `una` to `nxt` − 1. -/
def unacked (n una nxt : W16) : Bool := decide ((n - una).toNat < (nxt - una).toNat)

def clampReplay (r : Option W16) (una nxt : W16) : Option W16 :=
  match r with
  | none => none
  | some n => if unacked n una nxt then some n else if una = nxt then none else some una

def ackB (v : W16) (now : Nat) (k : Link) : Link :=
  if !ackCovers v k.unaB k.nxtB then k
  else
    let una := v + 1
    { k with unaB := una, retryB := k.retryB.filter (fun e => unacked e.1 una k.nxtB), timeoutsB := 0
             progressB := if una = k.unaB then k.progressB else now, resumeB := false
             replayB := if k.resumeB then (if una = k.nxtB then none else some una) else clampReplay k.replayB una k.nxtB }

def ackC (v : W16) (now : Nat) (k : Link) : Link :=
  if !ackCovers v k.unaC k.nxtC then k
  else
    let una := v + 1
    { k with unaC := una, retryC := k.retryC.filter (fun e => unacked e.1 una k.nxtC), timeoutsC := 0
             progressC := if una = k.unaC then k.progressC else now, resumeC := false
             replayC := if k.resumeC then (if una = k.nxtC then none else some una) else clampReplay k.replayC una k.nxtC }

def takeAckB (p : Nat) (v : W16) (s : State) : State := updLink p (ackB v s.now) s
def takeAckC (p : Nat) (v : W16) (s : State) : State := updLink p (ackC v s.now) s

def takeNakB (p : Nat) (v : W16) (s : State) : State :=
  linkCount p 10 1 (updLink p (fun k => if unacked v k.unaB k.nxtB then { k with replayB := some v } else k) s)
def takeNakC (p : Nat) (v : W16) (s : State) : State :=
  linkCount p 10 1 (updLink p (fun k => if unacked v k.unaC k.nxtC then { k with replayC := some v } else k) s)

def takeCredit (p v : Nat) (c : W16) (s : State) : State :=
  if (c - nth (portOf s p).link.limit v).toNat ≤ 32767 then updLink p (fun k => { k with limit := k.limit.set v c }) s
  else linkCount p 12 1 s

/-- The carriage bits of a decoded header (R127, R128). -/
def takeCarriage (p : Nat) (pcReq pcOn : Bool) (s : State) : State :=
  let s := when (pcOn && !(portOf s p).link.farPcOn) (linkCount p 14 1) s
  updLink p (fun k => { k with pcOn := pcReq, farPcOn := pcOn }) s

/-! ### Retry requests of this receiver (R118, R119) -/

def requestB (p : Nat) (s : State) : State :=
  let now := s.now
  updLink p (fun k => if k.wantB then k else { k with wantB := true, nakB := true, nakAtB := now }) s
def requestC (p : Nat) (s : State) : State :=
  let now := s.now
  updLink p (fun k => if k.wantC then k else { k with wantC := true, nakC := true, nakAtC := now }) s

/-- An errored slot (R133): the fourth within 100 µs raises LINK_ERROR_BURST and queues the lane tests (R410). The event
forgets the times kept, so that the next one takes four more slots (assumption log 33). -/
def noteErrored (p : Nat) (s : State) : State :=
  let recent := (portOf s p).link.errored.filter (fun t => decide (s.now < t + 100000)) ++ [s.now]
  if recent.length < 4 then updLink p (fun k => { k with errored := recent }) s
  else
    let s := updLink p (fun k => { k with errored := [] }) s
    let s := record 2 8 p 0 [] (raise 0x000A p [] s)
    forEach (maskList 8 (portOf s p).laneSet.toNat) (fun l => queueTest (.lane p l)) s

/-! ### A packet arrives (R123, R139, R141, R163, R169) -/

/-- Release the credit of a received cell that is not kept; VC 5 credits are released at arrival (R190). -/
def releaseLost (p v : Nat) (s : State) : State := if v = 5 then s else releaseCredit p v 1 s

/-- A packet's header cell: checked, and stored in the lookup backlog. -/
def storeHead (p v : Nat) (b : Bytes) (eop void : Bool) (s : State) : State :=
  let h := parseHeader b
  if b.length < 32 || headerCheck h != h.hcheck || h.vc.toNat != v then
    pktCount 0 1 (when (!eop) (discardRest p v false) (releaseLost p v s))
  else if v = 5 && (portOf s p).backlog.length > 64 then swCount 5 1 (when (!eop) (discardRest p v false) s)
  else
    let hops := min 255 (h.hops.toNat + 1)
    let id := s.switch.nextId
    let st : Stored := {
      ingress := some p, vcIn := v, hdr := { h with hops := BitVec.ofNat 8 hops }, data := b.drop 32, cells := 1
      released := if v = 5 then 1 else 0, complete := eop, void := void, lastCell := s.now
      tickIn := if s.tick.running then some s.tick.number else none, planIn := planNow s, arrivals := [s.switch.nextCell]
      early := !(portOf s p).admitted
      seen := if v = 5 then (List.range 96).map (fun e => queueLen s e 5) else []
      seenFree := if v = 5 then freeCells s else 0 }
    let s := when (hops = 255) (pktCount 10 1) s
    let s := updSwitch (fun w => { w with packets := tset w.packets id st, nextId := id + 1, nextCell := w.nextCell + 1 }) s
    noteDeferred p (updPort p (fun q => { q with backlog := q.backlog ++ [id]
                                                 current := if eop then tdel q.current v else tset q.current v id }) s)

/-- A forwarded packet whose trailer fails ends VOID (R141). One that ends VOID already is neither checked nor counted again
(assumption log 174). -/
def checkTrailer (id : Nat) (s : State) : State :=
  match packetOf s id with
  | none => s
  | some st =>
    if st.complete && !st.void && !st.cut && (st.stage = .queued || st.stage = .held) && !trailerOk st.hdr st.data then
      pktCount 1 1 (updPacket id (fun x => { x with void := true }) s)
    else s

/-- A later cell of the packet in progress. -/
def storeCell (p v id : Nat) (b : Bytes) (eop void : Bool) (s : State) : State :=
  let now := s.now
  let s := updPacket id (fun x => { x with
    data := x.data ++ b, cells := x.cells + 1, arrivals := x.arrivals ++ [s.switch.nextCell], released := if v = 5 then x.released + 1 else x.released
    complete := eop, void := void, lastCell := now }) s
  let s := updSwitch (fun w => { w with nextCell := w.nextCell + 1 }) s
  noteDeferred p (noteWithheld id (checkTrailer id (when eop (updPort p (fun q => { q with current := tdel q.current v })) s)))

/-- A packet flit on channel `v`. An `end` code other than VOID ends the packet GOOD, the two reserved ones too (assumption
log 112). Every flit but a packet's last fills its 252 content bytes (R111). -/
def packetFlit (p : Nat) (f : Flit) (s : State) : State :=
  let v := f.vc.toNat
  let b := if f.eop then f.content.take (f.nbytes.toNat + 1) else f.content
  let void := f.eop && f.fin = 1
  let s := updLink p (fun k => { k with received := k.received.modify v (· + 1) }) s
  let s := when (v = 5) (releaseCredit p 5 1) s
  let q := portOf s p
  if f.sop then
    let s := match tget q.current v with
      | some old => endVoid old s
      | none => s
    storeHead p v b f.eop void (updPort p (fun q => { q with current := tdel q.current v, dropping := tdel q.dropping v }) s)
  else match tget q.current v with
    | some id => storeCell p v id b f.eop void s
    | none =>
      let s := releaseLost p v s
      let s := when (tgetD q.dropping v false) (linkCount p 20 1) s
      when f.eop (updPort p (fun q => { q with dropping := tdel q.dropping v })) s

/-- A VC 4 packet in a control flit. -/
def packetControl (p : Nat) (c : CFlit) (s : State) : State :=
  let s := updLink p (fun k => { k with received := k.received.modify 4 (· + 1) }) s
  storeHead p 4 (c.content.take c.nbytes.toNat) true false s

/-! ### Control flits received (R113, R114, R118) -/

def takeCredits (p : Nat) (b : Bytes) (s : State) : State :=
  forEach (List.range 8) (fun v => takeCredit p v (w16 (leAt b (2 * v) 2))) s

/-- A received identity refresh is a new IDENT for R80. -/
def takeRefresh (p : Nat) (b : Bytes) (s : State) : State :=
  judgeVerdict p (updPort p (fun q => { q with farKind := BitVec.ofNat 8 (leAt b 0 1), farEndpoint := w16 (leAt b 4 2)
                                               farPort := BitVec.ofNat 8 (leAt b 6 1), linkTag := w32 (leAt b 8 4) }) s)

def reservedControl (p : Nat) (s : State) : State := updPort p (fun q => { q with reservedFlits := q.reservedFlits + 1 }) s

/-- What an accepted control flit does. -/
def actControl (p : Nat) (inBlock : Bool) (arrival : Nat) (c : CFlit) (s : State) : State :=
  if c.kind = 0 then s
  else if c.kind = 1 then packetControl p c s
  else if c.kind = 2 then
    (if c.sub = 0x01 then takeCredits p c.content s
    else if c.sub = 0x02 then tickMarker p c.content inBlock arrival s
    else if c.sub = 0x03 then takeRefresh p c.content s
    else reservedControl p s)
  else reservedControl p s

/-- A control flit's 64 bytes: `true` when its CRC fails. -/
def controlFlit (p : Nat) (inBlock : Bool) (arrival : Nat) (b : Bytes) (s : State) : State × Bool :=
  if (portOf s p).state != .running then (s, false)
  else match parseCflit b with
    | none => (requestC p (linkCount p 7 1 s), true)
    | some (c, cack) =>
      let s := takeAckC p cack s
      let k := (portOf s p).link
      if !c.seqd then (actControl p inBlock arrival c s, false)
      else if c.cseq = k.expC then
        (actControl p inBlock arrival c (updLink p (fun k => { k with
          expC := k.expC + 1, ackDueC := true, wantC := false, nakC := false }) s), false)
      else if decide (1 ≤ (k.expC - c.cseq).toNat ∧ (k.expC - c.cseq).toNat ≤ 32767) then
        (linkCount p 8 1 (updLink p (fun k => { k with ackDueC := true }) s), false)
      else (requestC p s, false)

/-- Control flits one after another: `true` when some CRC fails. -/
def controlFlits (p : Nat) (inBlock : Bool) (arrival : Nat) : List Bytes → State → State × Bool
  | [], s => (s, false)
  | b :: bs, s =>
    let x := controlFlit p inBlock arrival b s
    let y := controlFlits p inBlock arrival bs x.1
    (y.1, x.2 || y.2)

/-! ### Slots received (R103, R112, R118) -/

/-- Corrected symbols count on the physical lane that carried them (R133). -/
def countCorrected (p start : Nat) (positions : List Nat) (s : State) : State :=
  let lanes := maskList 8 (portOf s p).laneSet.toNat
  forEach positions (fun x => linkCount p (21 + nth lanes ((start + x) % lanes.length)) 1) s

/-- The return item of a D-block header; a reserved `ret_kind` returns nothing (assumption log 111). -/
def takeReturn (p : Nat) (kind : BitVec 4) (v : W16) (s : State) : State :=
  if kind.toNat ≤ 7 then takeCredit p kind.toNat v s
  else if kind = 0x8 then takeAckB p v s
  else if kind = 0x9 then takeNakB p v s
  else if kind = 0xA then takeAckC p v s
  else if kind = 0xB then takeNakC p v s
  else s

/-- The flits of an accepted block, in order: `true` when a control flit's CRC fails. A flit of a reserved kind carries
nothing (assumption log 112). -/
def acceptFlits (p arrival : Nat) : List Flit → State → State × Bool
  | [], s => (s, false)
  | f :: fs, s =>
    let x := if (portOf s p).state != .running then (s, false)
      else if f.kind = 1 then (packetFlit p f s, false)
      else if f.kind = 2 then controlFlits p true arrival (chunks 64 3 f.content) s
      else (s, false)
    let y := acceptFlits p arrival fs x.1
    (y.1, x.2 || y.2)

/-- Something other than idle flits and conditioning C-runs has come in (R54). -/
def noteBusy (p : Nat) (s : State) : State := updPort p (fun q => { q with busyWindow := true }) s

/-- A slot that decodes to nothing is discarded and asked for again (R118). It does not make the FoM window busy: nothing
was taken in from it (assumption log 113). -/
def discardBlock (p : Nat) (s : State) : State := noteErrored p (requestB p (linkCount p 3 1 s))

/-- All five flits, or none when an `hcrc` fails. -/
def parseFlits : List Bytes → Option (List Flit)
  | [] => some []
  | b :: bs => match parseFlit b, parseFlits bs with
    | some f, some fs => some (f :: fs)
    | _, _ => none

/-- The bits of data symbol `k` that belong to idle flits of a D-block: byte 5 on, 256 bytes a flit (R107). -/
def idleBits (idle : List Nat) (k : Nat) : BitVec 10 :=
  BitVec.ofNat 10 (maskOf ((List.range 10).filter (fun j =>
    decide (40 ≤ 10 * k + j) && idle.contains ((10 * k + j - 40) / 2048))))

/-- The received bits of a D-block's idle flits by logical lane, and those that are not zero: `raw` are the data symbols,
descrambled and not corrected; slot symbol x of a slot that begins at `start` lies on lane (start + x) mod w (R133, R411). -/
def idleTally (w start : Nat) (idle : List Nat) (raw : List Sym) : List (Nat × Nat) :=
  raw.zipIdx.foldl (fun t e =>
    let m := idleBits idle e.2
    t.modify ((start + 2 + e.2) % w) (fun x => (x.1 + popCount 10 m.toNat, x.2 + popCount 10 (e.1 &&& m).toNat)))
    (List.replicate w (0, 0))

/-- A lane test of the port runs. -/
def lanesUnderTest (s : State) (p : Nat) : Bool :=
  s.health.tests.any (fun t => t.stage = .running && (match t.res with | .lane q _ => q = p | _ => false))

/-- The lane tests of a port observe the idle flits of a block until each has 2^21 bits (R411). -/
def observeIdle (p start : Nat) (raw : List Sym) (b : Bytes) (s : State) : State :=
  if !lanesUnderTest s p then s
  else match parseFlits (chunks 256 5 (b.drop 5)) with
    | none => s
    | some fl =>
      let lanes := maskList 8 (portOf s p).laneSet.toNat
      let idle := (fl.zipIdx.filter (fun e => e.1.kind = 0)).map (·.2)
      let tally := idleTally lanes.length start idle raw
      updHealth (fun h => { h with tests := h.tests.map (fun t => match t.res with
        | .lane q l =>
          if q = p && t.stage = .running && decide (t.bits < 2097152) && lanes.contains l then
            let x := tally.getD (lanes.idxOf l) (0, 0)
            { t with bits := t.bits + x.1, flips := t.flips + x.2 }
          else t
        | _ => t) }) s

/-- A decoded D-block is judged by its number (R118). With flits other than idle ones the window is busy, also where the block
is discarded (assumption log 113). -/
def receiveD (p arrival : Nat) (b : Bytes) (s : State) : State :=
  match parseFlits (chunks 256 5 (b.drop 5)) with
  | none => discardBlock p s
  | some fl =>
    let h := parseDHeader b
    let s := takeReturn p h.retKind h.retValue (takeCarriage p h.pcReq h.pcOn s)
    let k := (portOf s p).link
    if fl.all (fun f => f.kind = 0) then s
    else
    let s := noteBusy p s
    if h.bseq = k.expB then
      let r := acceptFlits p arrival fl (linkCount p 2 1 (updLink p (fun k => { k with
        expB := k.expB + 1, ackDueB := true, wantB := false, nakB := false }) s))
      when r.2 (noteErrored p) r.1
    else if decide (1 ≤ (k.expB - h.bseq).toNat ∧ (k.expB - h.bseq).toNat ≤ 32767) then
      noteErrored p (updLink p (fun k => { k with ackDueB := true }) s)
    else noteErrored p (requestB p s)

/-- The C-run holds only what a conditioning C-run holds: CREDIT, fillers and waiting sequenced control flits (R115); one that
carries a sequenced flit is no idle traffic (assumption log 113). -/
def onlyConditions (b : Bytes) : Bool :=
  (chunks 64 21 (b.drop 16)).all (fun f => match parseCflit f with
    | some (c, _) => c.kind = 0 || (c.kind = 2 && c.sub = 0x01)
    | none => false)

/-- A header of a C-run that stands. -/
def takeCHeader (p : Nat) (h : CHeader) (s : State) : State :=
  let s := takeAckC p h.cack (takeAckB p h.back (takeCarriage p h.pcReq h.pcOn s))
  let s := when h.nakB (takeNakB p (h.back + 1)) s
  when h.nakC (takeNakC p (h.cack + 1)) s

def receiveC (p arrival : Nat) (b : Bytes) (s : State) : State :=
  let s := match parseCHeader (b.take 16) with
    | some h => takeCHeader p h s
    | none => linkCount p 13 1 s
  let r := controlFlits p false arrival (chunks 64 21 (b.drop 16)) (when (!onlyConditions b) (noteBusy p) s)
  when r.2 (noteErrored p) r.1

/-- A slot: its type by distance, then as R112 or R118 says. The descrambler's place after a slot of undecided type is a
free value: the spec does not say which of the two lengths it passes over. -/
def slotReceived (p : Nat) (l : List Sym) (arrival : Nat) (s : State) : State :=
  let q := portOf s p
  if q.state != .running then s
  else
    let start := q.link.rxSymbol
    let scr := if start / 1090 % 16384 = 0 then BitVec.allOnes 31 else q.link.rxScr
    let s := updLink p (fun k => { k with rxSymbol := k.rxSymbol + 1090 }) s
    let d := typeDistance l
    if d ≤ 9 then
      let r := decodeD scr l
      let s := countCorrected p start r.2.2 (updLink p (fun k => { k with rxScr := r.1 }) s)
      match r.2.1 with
      | none => discardBlock p s
      | some b => noteReplayed p (receiveD p arrival b (observeIdle p start (scramble scr ((l.drop 2).take 1028)).2 b s))
    else if d ≥ 11 then
      let r := decodeC scr l
      noteReplayed p (receiveC p arrival r.2 (updLink p (fun k => { k with rxScr := r.1 }) s))
    else
      withFree (fun x s =>
        let scr := (scramble scr (List.replicate (if x % 2 = 0 then 1028 else 1088) 0)).1
        noteErrored p (requestC p (requestB p (linkCount p 4 1 (updLink p (fun k => { k with rxScr := scr }) s))))) s

/-- The symbols of a slot from the levels that the lanes of the set brought, the lowest lane first: polarity corrected
(R70), levels mapped back (R102), lanes merged (R101). -/
def slotSymbols (q : Port) (lanes : List (List Level)) : List Sym :=
  let set := maskList 8 q.laneSet.toNat
  mergeLanes set.length q.link.rxSymbol (set.zipIdx.map (fun e =>
    levelsToSymbols 1090 (invertLevels (q.lanes.getD e.1 {}).polarityInv (lanes.getD e.2 []))))

/-- SLOT_RECEIVED (R103, R118): `lanes` brings the levels of each lane of the set after deskewing (R105), `arrival` the time
at the decoder in 0.1 ns. -/
def execSlotReceived (port : Nat) (lanes : List (List Level)) (arrival : Nat) (s : State) : Res :=
  onUnit (portOk port) (slotReceived port (slotSymbols (portOf s port) lanes) arrival) s

/-! ### Alignment markers (R105) -/

/-- The lane's logical number within its set (R58). -/
def logicalLane (m : BitVec 8) (l : Nat) : Nat := (maskList l m.toNat).length

/-- An alignment marker on a lane in use, `offset` symbols from its place (R105). It counts as wrong unless every symbol is
the one due, misplaced or not (assumption log 143). -/
def markerArrives (p l : Nat) (symbols : List Sym) (offset : Int) (s : State) : State :=
  let q := portOf s p
  if q.state != .running || !inSet q.laneSet l then s
  else
    let want := markerSymbols (logicalLane q.laneSet l) (widthOf q.laneSet) (nth q.link.rxMarkers l)
    let bad := symbols != want || decide (offset.natAbs > 2)
    let was := (laneOf s p l).markerBad
    let s := updLink p (fun k => { k with rxMarkers := k.rxMarkers.modify l (· + 1) }) s
    let s := updLane p l (fun a => { a with markerBad := bad }) s
    if !bad then s
    else
      let s := linkCount p 15 1 s
      if was then retest p caSignal s else s

/-- ALIGNMENT_MARKER_RECEIVED (R105): the levels found, none where the marker is missing, and how many symbols they lie from
their place. -/
def execAlignmentMarkerReceived (port lane : Nat) (levels : List Level) (offset : Int) (s : State) : Res :=
  onUnit (portOk port && laneOk lane) (markerArrives port lane
    (levelsToSymbols 8 (invertLevels (laneOf s port lane).polarityInv levels)) offset) s

/-! ### Timers (R119, R120) -/

def thirdTimeout (p : Nat) (n : Nat) (s : State) : State := if n ≥ 3 then retest p caSignal s else s

def ackTimesOut (p : Nat) (st : Stream) (s : State) : State :=
  let q := portOf s p
  let due := s.now
  let wait := 1000 * s.policy.ackTimeout
  if q.state != .running then s
  else match st with
    | .d =>
      if q.link.retryB.isEmpty || decide (due < q.link.progressB + wait) then s
      else thirdTimeout p (q.link.timeoutsB + 1) (linkCount p 11 1 (updLink p (fun k => { k with
        replayB := some k.unaB, timeoutsB := if k.timeoutsB ≥ 2 then 0 else k.timeoutsB + 1, progressB := due }) s))
    | .c =>
      if q.link.retryC.isEmpty || decide (due < q.link.progressC + wait) then s
      else thirdTimeout p (q.link.timeoutsC + 1) (linkCount p 11 1 (updLink p (fun k => { k with
        replayC := some k.unaC, timeoutsC := if k.timeoutsC ≥ 2 then 0 else k.timeoutsC + 1, progressC := due }) s))

/-- ACK_TIMEOUT (R120). -/
def execAckTimeout (port : Nat) (stream : Stream) (s : State) : Res := onUnit (portOk port) (ackTimesOut port stream) s

def repeatRequest (p : Nat) (st : Stream) (s : State) : State :=
  let now := s.now
  if (portOf s p).state != .running then s
  else match st with
    | .d => updLink p (fun k => if k.wantB && decide (k.nakAtB + 1000 ≤ now) then { k with nakB := true, nakAtB := now } else k) s
    | .c => updLink p (fun k => if k.wantC && decide (k.nakAtC + 1000 ≤ now) then { k with nakC := true, nakAtC := now } else k) s

/-- RETRY_REQUEST_REPEAT (R119). -/
def execRetryRequestRepeat (port : Nat) (stream : Stream) (s : State) : Res :=
  onUnit (portOk port) (repeatRequest port stream) s

end Sys2Proof.Machine
end

