-- ==== Sys2Proof/Machine/Switch.lean ====
section
/-! DEFINITION. The switch core's commands (06): lookup, credit release, escape, route weights, the last-hop hold, stalled
packets, and packets that window functions write into the buffer. -/

namespace Sys2Proof.Machine

/-! ### Lookup (R19, R23, R31, R171 to R174, R198) -/

/-- The packet is addressed to this device (R19). -/
def toDevice (s : State) (dst : W16) : Bool := dst = 0xFFFF || (hasIdentity s && dst = ownId s)

inductive Fate where
  | terminate | drop | forward
  deriving DecidableEq, Repr, Inhabited

/-- What becomes of an arriving packet before any route is read (R19, R23, R31). -/
def fateOf (s : State) (st : Stored) : Fate :=
  let h := st.hdr
  let cmd := h.opcode = opCmd && h.window = 0x04
  if !hasIdentity s then (if st.vcIn = 4 || cmd then .terminate else .drop)
  else if st.early then
    (if st.vcIn = 4 then (if toDevice s h.dst then .terminate else .drop)
    else if st.vcIn = 5 then
      (if cmd && toDevice s h.dst then .terminate else if h.opcode = opCmdStatus && !toDevice s h.dst then .forward else .drop)
    else .drop)
  else if toDevice s h.dst then .terminate else .forward

def roleIs (s : State) (p r : Nat) : Bool := (roleOf s p).role.toNat = r

def isDown (h : Header) : Bool := h.routeHint.getLsbD 0

/-- The best adaptive candidate in rotation order from `r` (R172). -/
def bestCand (s : State) (cands : List Nat) (r v : Nat) (down : Bool) : Option Nat :=
  (List.range cands.length).foldl (fun best j =>
    let p := nth cands ((r + j) % cands.length)
    if eligible s p && !(down && roleIs s p 2) then
      match best with
      | none => some p
      | some b => if (queueLen s p v + 1) * (portOf s b).rw < (queueLen s b v + 1) * (portOf s p).rw then some p else best
    else best) none

/-- The packet may be routed adaptively (R172). -/
def adaptive (h : Header) (v : Nat) : Bool := (v = 1 || v = 2 || v = 5) && h.adpt && !h.ord

/-- The egress port, and whether it is the deterministic one. -/
def choosePort (s : State) (h : Header) (v e r : Nat) : Nat × Bool :=
  match (if adaptive h v then bestCand s (routeCands e) r v (isDown h) else none) with
  | some p => (p, false)
  | none => (escPort e, true)

/-- Route a stored packet from rotation `r` (R171, R172, R174). -/
def routePacket (id r : Nat) (s : State) : State :=
  match packetOf s id with
  | none => s
  | some st =>
    let e := routeOf s st.hdr.dst
    if !routeValid e then noRoute st.hdr.dst st.ingress (dropPacket id false s)
    else
      let c := choosePort s st.hdr st.vcIn e r
      if c.2 && isDown st.hdr && roleIs s c.1 2 then discardCounted id 1 s
      else checkTrailer id (sendToPort id c.1 st.vcIn s)

/-- A packet at the front of its port's backlog is looked up. Its header is read from its cell, and from the lookup record
where the cell does not decode; uncorrectable in both it is discarded (R198). -/
def takeLookup (p id : Nat) (cell copy : WordError) (s : State) : State :=
  match packetOf s id with
  | none => s
  | some st =>
    let e := cellWord s id 0 cell
    let s := readHeader id e copy s
    if headerLost e copy then discardCounted id 22 s
    else match fateOf s st with
      | .drop => updSwitch (fun w => { w with preAdmit := w.preAdmit + 1 }) (dropPacket id false s)
      | .terminate => updPacket id (fun x => { x with stage := .terminated }) s
      | .forward =>
        let r := (portOf s p).rot
        let s := when (adaptive st.hdr st.vcIn && routeValid (routeOf s st.hdr.dst)) (updPort p (fun q => { q with rot := q.rot + 1 })) s
        routePacket id r s

def lookup (p : Nat) (cell copy : WordError) (s : State) : State :=
  match (portOf s p).backlog with
  | [] => s
  | id :: rest => deferralOver p (takeLookup p id cell copy (updPort p (fun q => { q with backlog := rest }) s))

/-- The port that a group looks up next: the first in rotation with packets waiting (R168). -/
def nextLookup (s : State) (g : Nat) : Option Nat :=
  ((List.range 8).map (fun i => 8 * g + (nth s.switch.turn g + i) % 8)).find? (fun p => !(portOf s p).backlog.isEmpty)

/-- A lookup at port `p` when its group's rotation has come to it. -/
def lookupInTurn (p : Nat) (cell copy : WordError) (s : State) : State :=
  let g := p / 8
  if nextLookup s g = some p then
    lookup p cell copy (updSwitch (fun w => { w with turn := w.turn.set g ((p % 8 + 1) % 8) }) s)
  else s

/-- LOOKUP (R168, R172): the oldest packet of the port's backlog; `cell` and `copy`: what
reading its header from its cell and from the lookup record shows. -/
def execLookup (port : Nat) (cell copy : WordError) (s : State) : Res := onUnit (portOk port) (lookupInTurn port cell copy) s

/-! ### Credits released (R189) -/

/-- The cell's queue admits the release, or its window function has accepted the cell (R164): a parked part (R222) and a
segment PUT that waits to become readable (R271) are accepted; every other function frees the packet as it accepts it. -/
def releaseAllowed (s : State) (st : Stored) : Bool :=
  match st.stage with
  | .backlog => false
  | .terminated => st.putAccepted
  | .parked => true
  | _ => st.copies.all (fun c => belowThreshold s c.port c.vc)

/-- Nothing but its turn keeps a packet's next credit: its port is not washing, the port's lookup backlog is 32 packets or
fewer, and its queues or its window function admit it (R189). -/
def releaseReady (s : State) (st : Stored) : Bool :=
  match st.ingress with
  | none => false
  | some p => !(portOf s p).washing && decide ((portOf s p).backlog.length ≤ 32) && releaseAllowed s st

/-- A cell of another packet of the same queue that arrived earlier may release its credit and has not: the deferred credits
of one queue go in order of arrival (R189). A cell that another condition still keeps holds up none behind it. -/
def earlierWithheld (s : State) (id : Nat) (st : Stored) : Bool :=
  st.copies.any (fun c => s.switch.packets.any (fun e =>
    e.1 != id && releaseReady s e.2 && e.2.released < e.2.cells && e.2.copies.any (fun d => d.port = c.port && d.vc = c.vc) &&
      decide (nth e.2.arrivals e.2.released < nth st.arrivals st.released)))

def doCreditRelease (id : Nat) (s : State) : State :=
  match packetOf s id with
  | none => s
  | some st =>
    match st.ingress with
    | none => s
    | some p =>
      if st.released ≥ st.cells || (portOf s p).washing then s
      else if (portOf s p).backlog.length > 32 then
        (if st.backlogged then s else swCount 4 1 (updPacket id (fun x => { x with backlogged := true }) s))
      else if st.stage = .backlog then s
      else if !releaseAllowed s st then noteWithheld id s
      else if freeCells s < 1 || earlierWithheld s id st then s
      else updPacket id (fun x => { x with released := x.released + 1 }) (releaseCredit p st.vcIn 1 s)

/-- CREDIT_RELEASE (R189): one cell's credit of the packet, when every condition holds. -/
def execCreditRelease (packet : Nat) (s : State) : Res := .next (doCreditRelease packet s)

/-! ### Escape (R176 to R178) -/

/-- Move a queued packet to the escape queue of its deterministic port; at an edge port a PUT with `last` set is judged by
the last-hop hold first (R181). -/
def escapeMove (id p v ctr : Nat) (s : State) : State :=
  match packetOf s id with
  | none => s
  | some st =>
    let e := routeOf s st.hdr.dst
    if !routeValid e then s
    else
      let t := escPort e
      if isDown st.hdr && roleIs s t 2 then discardCounted id 1 s
      else if !(portOf s t).admitted && (portOf s t).grace.isNone then linkCount t 18 1 (dropPacket id false s)
      else
        let w := edgeVc s t (v + 5)
        let now := s.now
        let s := dropFromQueue p v id s
        let s := updPacket id (fun x => { x with
          queuedAt := now
          copies := x.copies.map (fun c => { c with port := t, vc := w }) }) (swCount ctr 1 s)
        noteWithheld id (if holdApplies s st t then arriveLast id s else pushQueue t w id s)

def headWaits (st : Stored) : Bool := st.stage = .queued && !st.multicast && st.copies.all (fun c => c.sent = 0 && !c.cut)

def escapeExpire (id : Nat) (s : State) : State :=
  match packetOf s id with
  | none => s
  | some st =>
    match st.copies with
    | [c] =>
      let inTime := decide (s.now < st.queuedAt + s.policy.escapeTimer)
      if !(headWaits st && (c.vc = 1 || c.vc = 2) && (roleIs s c.port 2 || roleIs s c.port 3)) || inTime ||
        !routeValid (routeOf s st.hdr.dst) then s
      else
        let behind := if st.hdr.ord then
            (((queueOf s c.port c.vc).dropWhile (· != id)).drop 1).filter (fun j =>
              match packetOf s j with
              | some x => x.hdr.ord && headWaits x
              | none => false)
          else []
        forEach behind (fun j => escapeMove j c.port c.vc 3) (escapeMove id c.port c.vc 2 s)
    | _ => s

/-- ESCAPE_TIMER_EXPIRE (R176). -/
def execEscapeTimerExpire (packet : Nat) (s : State) : Res := .next (escapeExpire packet s)

/-! ### Route weights (R173) -/

def losslessDepth (s : State) (p : Nat) : Nat := losslessVcs.foldl (fun n v => n + queueLen s p v) 0

def sampleDepths (s : State) : State :=
  { s with ports := s.ports.zipIdx.map (fun e =>
    { e.1 with depthSum := e.1.depthSum + losslessDepth s e.2, depthSamples := e.1.depthSamples + 1 }) }

/-- QUEUE_DEPTH_SAMPLE (R173). -/
def execQueueDepthSample (s : State) : Res := .next (sampleDepths s)

/-- A port's mean depth over the interval's samples. -/
def meanDepth (q : Port) : Rat := if q.depthSamples = 0 then 0 else (q.depthSum : Rat) / (q.depthSamples : Rat)

def meanOf (l : List Rat) : Rat := if l.isEmpty then 0 else l.foldl (· + ·) 0 / (l.length : Rat)

/-- Eligible ports of one role. -/
def weighed (s : State) (role : Nat) : List Nat := (List.range 96).filter (fun p => roleIs s p role && eligible s p)

/-- The change that R173's table gives. -/
def weightChange (port role : Rat) : Int :=
  if role ≥ 64 && port > role * 5 / 4 then -1 else if port < role * 3 / 4 then 1 else 0

def moveWeight (p : Nat) (d : Int) (s : State) : State :=
  let lo : Int := s.policy.rwLo
  let hi : Int := s.policy.rwHi
  let w : Int := (portOf s p).rw + d
  let s := updPort p (fun q => { q with rw := (clampInt lo hi w).toNat }) s
  if d < 0 && w < lo then raisePinned 6 (0xFF00 + p) false s
  else if d > 0 && w > hi then raisePinned 6 (0xFF00 + p) true s
  else s

def updateRole (role : Nat) (s : State) : State :=
  let ps := weighed s role
  let m := meanOf (ps.map (fun p => meanDepth (portOf s p)))
  let moves := ps.map (fun p => (p, weightChange (meanDepth (portOf s p)) m))
  forEach moves (fun e => moveWeight e.1 e.2) s

def updateWeights (s : State) : State :=
  let s := updateRole 3 (updateRole 2 s)
  { s with ports := s.ports.map (fun q => { q with depthSum := 0, depthSamples := 0 }) }

/-- ROUTE_WEIGHT_UPDATE (R173). -/
def execRouteWeightUpdate (s : State) : Res := .next (updateWeights s)

/-! ### The last-hop hold's timers (R183, R184) -/

def timerOver (s : State) (h : Hold) : Bool :=
  match h.timer with
  | none => false
  | some t => decide (t ≤ s.now)

def holdTimesOut (f : Flow) (s : State) : State :=
  match holdOf s f with
  | none => s
  | some h =>
    match h.held with
    | none => s
    | some id =>
      match packetOf s id with
      | none => s
      | some st =>
        if !timerOver s h then s
        else
          let now := s.now
          let s := swCount 13 1 (unholdPacket id true s)
          updHold f (fun x => { x with owed := msgLen st.hdr - x.count - putLength st.hdr, count := 0, held := none
                                       timer := none, owedSince := some now }) s

/-- HOLD_TIMEOUT (R183). -/
def execHoldTimeout (flow : Flow) (s : State) : Res := .next (holdTimesOut flow s)

/-- The owed period, one further `hold_timeout` with the value now in force, is over (R184, R202). -/
def owedOver (s : State) (h : Hold) : Bool :=
  match h.owedSince with
  | none => false
  | some t => decide (t + 1000 * s.policy.holdTimeout ≤ s.now)

def owedEnds (f : Flow) (s : State) : State :=
  match holdOf s f with
  | none => s
  | some h => if h.held.isNone && owedOver s h then freeHold f s else s

/-- HOLD_OWED_END (R184). -/
def execHoldOwedEnd (flow : Flow) (s : State) : Res := .next (owedEnds flow s)

def holdIdles (f : Flow) (s : State) : State :=
  match holdOf s f with
  | none => s
  | some h => if h.held.isNone && decide (h.idleSince + 4000 * s.policy.holdTimeout ≤ s.now) then freeHold f s else s

/-- HOLD_ENTRY_IDLE (R184). -/
def execHoldEntryIdle (flow : Flow) (s : State) : Res := .next (holdIdles flow s)

/-! ### Stalled packets (R199) -/

def stallVoids (p v : Nat) (s : State) : State :=
  match tget (portOf s p).fetching v with
  | none => s
  | some id =>
    match packetOf s id with
    | none => s
    | some st =>
      match copyOn st p v with
      | none => s
      | some c =>
        if st.complete || c.sent < st.cells || decide (s.now < st.lastCell + 1000 * s.policy.stallVoid) then s
        else swCount 23 1 (cutPacket id true s)

/-- STALL_VOID_EXPIRE (R199). -/
def execStallVoidExpire (port vc : Nat) (s : State) : Res := onUnit (portOk port && decide (vc < 8)) (stallVoids port vc) s

/-! ### Origination (R191, R195, R196) -/

/-- The packet's own channel of a copy's queue, as it enters. -/
def originVc (s : State) (p : Nat) (h : Header) : Nat := edgeVc s p h.vc.toNat

/-- The copies left after R196 removes ports that are neither admitted nor in grace. -/
def residue (s : State) (l : List Copy) : List Copy :=
  l.filter (fun c => (portOf s c.port).admitted || (portOf s c.port).grace.isSome)

/-- Queues that an originated packet enters. -/
def originQueues (s : State) (o : Originate) : List (Nat × Nat) :=
  if o.multicast then (residue s o.copies).map (fun c => (c.port, c.vc))
  else
    let h := o.pkt.hdr
    match o.viaPort with
    | some p => [(p, originVc s p h)]
    | none =>
      if toDevice s h.dst then []
      else
        let e := routeOf s h.dst
        if !routeValid e then [] else
          let p := (choosePort s h h.vc.toNat e 0).1
          [(p, originVc s p h)]

/-- Free cells and every queue admit the packet (R191). -/
def originRoom (s : State) (o : Originate) : Bool :=
  decide (freeCells s ≥ packetCells o.pkt.hdr) && (originQueues s o).all (fun e => belowThreshold s e.1 e.2)

/-- A stored packet made of an originated one. -/
def originStored (s : State) (o : Originate) (stage : Stage) : Stored :=
  { vcIn := o.pkt.hdr.vc.toNat, hdr := o.pkt.hdr, data := tailBytes o.pkt.payload, cells := packetCells o.pkt.hdr
    released := packetCells o.pkt.hdr, complete := true, multicast := o.multicast, stage := stage, queuedAt := s.now
    lastCell := s.now, tickIn := if s.tick.running then some s.tick.number else none, planIn := planNow s }

def addStored (st : Stored) (s : State) : State :=
  updSwitch (fun w => { w with packets := tset w.packets w.nextId st, nextId := w.nextId + 1 }) s

/-- A multicast packet is created: copies join their queues, ports that are down are counted (R196). The one packet is marked,
once, when the profile of any of its queues acts (R193; assumption log 159). -/
def createMulticast (o : Originate) (s : State) : State :=
  let cs := residue s o.copies
  let s := swCount 17 1 (swCount 19 (o.copies.length - cs.length) s)
  if cs.isEmpty then s
  else
    let id := s.switch.nextId
    let acts := cs.map (fun c => (c, wredDecide s c.port c.vc o.pkt.hdr.colour))
    let act := acts.any (fun a => a.2.2)
    let s := forEach acts (fun a => wredUpdate a.1.port a.1.vc a.2.1) s
    let s := when act (swCount (9 + min o.pkt.hdr.colour.toNat 2) 1) s
    let st := originStored s o .queued
    let s := addStored { st with copies := cs, hdr := { st.hdr with cmk := st.hdr.cmk || act } } s
    forEach cs (fun c => pushQueue c.port c.vc id) s

/-- Write one originated packet into the buffer. -/
def createPacket (o : Originate) (s : State) : State :=
  if o.multicast then createMulticast o s
  else
    let id := s.switch.nextId
    match o.viaPort with
    | some p => sendToPort id p o.pkt.hdr.vc.toNat (addStored (originStored s o .queued) s)
    | none =>
      if toDevice s o.pkt.hdr.dst then addStored { originStored s o .terminated with hdr := sealHeader o.pkt.hdr } s
      else routePacket id 0 (addStored (originStored s o .queued) s)

/-! ### Terminated packets without a window function (R147) -/

/-- TERMINATED_DISCARD (R147). -/
def execTerminatedDiscard (packet : Nat) (s : State) : Res := .next (atWindow packet (fun _ => false) (fun _ => id) s)

end Sys2Proof.Machine
end

