-- ==== Sys2Proof/Machine/CanvasCore.lean ====
section
/-! DEFINITION. The Canvas's slots (07): blocks and pools, caches, folding in member order, parking, results, and the ways a
slot ends (R204 to R206, R217 to R238). -/

namespace Sys2Proof.Machine

/-! ### Keys and packets -/

/-- The slot that a packet names: the chunk is the whole offset (R217; assumption log 164). -/
def keyOf (h : Header) : SlotKey :=
  { group := bitsOf h.opB.toNat 0 14, opSeq := h.opB.toNat / 16384, chunk := h.offset.toNat }

/-- W6 of a slot's packets. -/
def keyWord (k : SlotKey) : W32 := w32 (k.group + 16384 * k.opSeq)

def slotOf (s : State) (k : SlotKey) : Option Slot := s.canvas.slots.find? (fun x => x.key = k)

def updSlot (k : SlotKey) (f : Slot → Slot) (s : State) : State :=
  updCanvas (fun c => { c with slots := c.slots.map (fun x => if x.key = k then f x else x) }) s

/-- The descriptor of a slot: the one its recorded digest named when it was recorded. -/
def slotDesc (x : Slot) : Option Desc := x.desc.map parseDesc

/-- Record a digest, and find the descriptor of the slot's group that it names (R218). -/
def recordDigest (s : State) (w : W32) (x : Slot) : Slot := { x with digest := some w, desc := descBytes s x.group w }

/-- Count a discard that R243 gives no counter (R5; assumption log 11). -/
def canvasDiscard (s : State) : State := updCanvas (fun c => { c with discards := c.discards + 1 }) s

/-! ### Blocks and pools (R204, R205) -/

def poolSize (s : State) (sched : Bool) : Nat :=
  if sched then s.canvas.schedBlocks else 16384 - s.canvas.constBlocks - s.canvas.schedBlocks

def poolUsed (s : State) (sched : Bool) : Nat :=
  (s.canvas.slots.filter (fun x => x.scheduled = sched)).length +
    (s.canvas.staging.filter (fun e => e.2.1 = sched)).length

/-- Blocks without a use, those that constants still wait for left out. -/
def blocksLeft (c : Canvas) : Nat := 16384 - c.slots.length - c.staging.length - max c.constBlocks c.constAt.length

/-- Blocks that a pool can still give: its size less its blocks in use, and never a block that has a use. -/
def poolFree (s : State) (sched : Bool) : Nat := min (poolSize s sched - poolUsed s sched) (blocksLeft s.canvas)

/-- A block has a use (R204). -/
def blockUsed (c : Canvas) (i : Nat) : Bool :=
  c.slots.any (fun x => x.block = i) || (tget c.staging i).isSome || c.constAt.contains i

/-- The lowest block number without a use. -/
def newBlock (c : Canvas) : Nat :=
  ((List.range (c.slots.length + c.staging.length + c.constAt.length + 1)).find? (fun i => !blockUsed c i)).getD 0

/-- Give constant blocks the lowest numbers without a use, while there are any (assumption log 118). -/
def placeConstants : Nat → Canvas → Canvas
  | 0, c => c
  | n + 1, c =>
    if c.constAt.length ≥ c.constBlocks || decide (newBlock c ≥ 16384) then c
    else placeConstants n { c with constAt := c.constAt ++ [newBlock c] }

/-- A block has become free: a constant block that still waits takes it. -/
def blockFreed (s : State) : State := updCanvas (placeConstants 1) s

/-- Take a staging piece of a pool: in a block with room, or in a new block; none when the pool has neither. -/
def takePiece (sched : Bool) (s : State) : Option (Nat × State) :=
  match s.canvas.staging.find? (fun e => e.2.1 = sched && e.2.2 < 16) with
  | some (b, _, n) => some (b, updCanvas (fun c => { c with staging := tset c.staging b (sched, n + 1) }) s)
  | none =>
    if poolFree s sched = 0 then none
    else
      let b := newBlock s.canvas
      some (b, updCanvas (fun c => { c with staging := tset c.staging b (sched, 1) }) s)

/-- Free a piece; the block returns to its pool with its last piece. -/
def freePiece (b : Nat) (s : State) : State :=
  match tget s.canvas.staging b with
  | none => s
  | some (sched, n) =>
    blockFreed (updCanvas (fun c => { c with staging := if n ≤ 1 then tdel c.staging b else tset c.staging b (sched, n - 1) }) s)

/-- Free the place of a parked part. -/
def freePlace (x : Part) (s : State) : State :=
  match x.place with
  | .staging b => freePiece b s
  | .buffer id =>
    let n := match packetOf s id with
      | some st => st.cells
      | none => 0
    updCanvas (fun c => { c with parkedCells := c.parkedCells - n }) (dropPacket id false s)

def freeParked (k : SlotKey) (s : State) : State :=
  match slotOf s k with
  | none => s
  | some x => updSlot k (fun y => { y with parked := [] }) (forEach x.parked freePlace s)

/-! ### The caches (R228, R235, R236) -/

def cached (l : List (SlotKey × Nat)) (k : SlotKey) (now : Nat) : Option Nat :=
  (l.find? (fun e => e.1 = k && now < e.2)).map (·.2)

def alive (l : List (SlotKey × Nat)) (now : Nat) : List (SlotKey × Nat) := l.filter (fun e => decide (now < e.2))

/-- A new entry, replacing the oldest of 4,096 that live. -/
def cacheAdd (l : List (SlotKey × Nat)) (k : SlotKey) (now expiry : Nat) : List (SlotKey × Nat) :=
  let l := (alive l now).filter (fun e => !(e.1 = k))
  (if l.length ≥ 4096 then l.drop (l.length - 4095) else l) ++ [(k, expiry)]

/-- `retry_after`: ticks, or units of 4 µs while no tick runs, rounded up, at most 2,047. -/
def retryHint (s : State) (expiry : Nat) : Nat :=
  let unit := if s.tick.running then periodOf s else 4000
  min 2047 ((expiry - s.canvas.clock + unit - 1) / unit)

/-- The slot becomes *Free*: its block and places are freed and it enters the done cache. -/
def slotFree (k : SlotKey) (s : State) : State :=
  match slotOf s k with
  | none => s
  | some x =>
    let s := freeParked k s
    let now := s.canvas.clock
    blockFreed (updCanvas (fun c => { c with
      slots := c.slots.filter (fun y => !(y.key = k))
      doneCache := cacheAdd c.doneCache k now (now + timeoutNs x.group) }) s)

/-- A slot in *Out* becomes *Free* when its last result packet has been written; at once
where none leaves. -/
def slotWritten (k : SlotKey) (s : State) : State :=
  match slotOf s k with
  | none => s
  | some x => if x.state = .out && !s.switch.originate.any (fun o => o.slot = some k) then slotFree k s else s

/-! ### Palettes (R206) -/

def palettesIn (s : State) : List Nat := (List.range 32).filter (fun n => (nth s.canvas.palettes n).inService)

/-- Flags of one piece of work are raised on the palette that does it: which one is a free value. -/
def paletteFlags (f : AFlags) (s : State) : State :=
  let l := palettesIn s
  if f = 0 || l.isEmpty then s else withFree (fun x => raiseFlags (nth l (x % l.length)) f) s

/-! ### Sending (R224, R226, R230) -/

def payloadVc (g : Group) : BitVec 3 := if gSched g.header then 0 else 3

/-- A result packet of a slot (R224), less its destination. -/
def resultHeader (s : State) (g : Group) (k : SlotKey) (window : BitVec 8) (first : Nat) (n : Nat) (w : W32) : Header :=
  { gen := 2, vc := if n = 0 then 4 else payloadVc g, opcode := opReduceResult, length := w16 n, src := ownId s
    ftag := if n = 0 then 0 else w16 first, offset := BitVec.ofNat 48 k.chunk, window := window, opA := w, opB := keyWord k }

def copyTo (h : Header) (m : W64) : Copy := { port := mPort m, vc := h.vc.toNat, dst := mEndpoint m, offset := h.offset }

/-- Members split so that no port stands twice in one multicast packet. -/
def byPort : Nat → List W64 → List (List W64)
  | 0, _ => []
  | _, [] => []
  | fuel + 1, l =>
    let first := l.foldl (fun a m => if a.any (fun x => mPort x = mPort m) then a else a ++ [m]) []
    first :: byPort fuel (l.filter (fun m => !first.contains m))

/-- Multicast one packet to members. Before the device has an identifier nothing leaves, since no `src` is its to send (R20;
assumption log 115). -/
def sendMembers (h : Header) (payload : Bytes) (slot : Option SlotKey) (l : List W64) (s : State) : State :=
  if !hasIdentity s then s
  else forEach (byPort l.length l) (fun part s =>
    originate { pkt := { hdr := h, payload := payload }, copies := part.map (copyTo h), multicast := true, slot := slot } s) s

/-- Send a packet to the parent, by its port; nothing before Identity (R20; assumption log 115). -/
def sendParent (h : Header) (payload : Bytes) (m : W64) (s : State) : State :=
  if !hasIdentity s then s
  else originate { pkt := { hdr := { h with dst := mEndpoint m }, payload := payload }, viaPort := some (mPort m) } s

/-- One packet to endpoints (window 0x00) and children (window 0x01). -/
def sendDown (s0 : State) (g : Group) (k : SlotKey) (first n : Nat) (w : W32) (payload : Bytes) (l : List W64) (s : State) :
    State :=
  let s := sendMembers (resultHeader s0 g k 0x00 first n w) payload (some k) (l.filter (fun m => mKind m = 0)) s
  sendMembers (resultHeader s0 g k 0x01 first n w) payload (some k) (l.filter (fun m => mKind m = 1)) s

/-- Codes as little-endian bytes. -/
def codeBytes (fmt : Nat) (l : List Nat) : Bytes := l.flatMap (leBytes (fmtBytes fmt))

/-- The owner rank of a chunk, and whether a member holds it (R226). -/
def receives (d : Desc) (g : Group) (c : Nat) (m : W64) : Bool :=
  let owner := if d.delivery = 1 then d.root else c % max 1 (gRanks g.header)
  d.delivery = 0 || decide (mRankLo m ≤ owner ∧ owner ≤ mRankHi m)

/-- First stripes of the packets that the device sends for a chunk in a format. -/
def packetStripes (d : Desc) (c fmt : Nat) : List Nat :=
  let k := fitStripes fmt
  (List.range ((stripeCount d c + k - 1) / k)).map (fun i => i * k)

def packetElems (d : Desc) (c fmt first : Nat) : Nat := elemsOf d c first (fitStripes fmt)

/-! ### Ends (R218, R225) -/

/-- The counter of R243 of a final status. -/
def endCounter (st : W16) : Nat :=
  if st = stOk then 1 else if st = stMismatch then 2 else if st = stTimeout then 3 else if st = stMemberLost then 4 else 5

/-- Count a slot's end, once (R243; assumption log 163). -/
def countEnd (k : SlotKey) (st : W16) (s : State) : State :=
  match slotOf s k with
  | none => s
  | some x => if x.counted then s else canvasCount (endCounter st) 1 (updSlot k (fun y => { y with counted := true }) s)

/-- Positions of contributors whose share is not whole: no part in *Failed*, some stripe neither folded nor parked in
*Open*; a chunk without stripes has no part, so that every contributor is missing. -/
def missing (x : Slot) : List Nat :=
  (List.range (contributors x.group).length).filter (fun p =>
    if x.state = .failed || x.frontier.isEmpty then !x.arrived.contains p
    else x.frontier.zipIdx.any (fun e => decide (e.1 ≤ p) &&
      !(x.parked.any (fun y => y.pos = p && y.first ≤ e.2 && e.2 < y.first + y.stripes))))

/-- A missing contributor lies behind a port that left *Running* since the opening, or is not admitted. -/
def behindLost (s : State) (x : Slot) : Bool :=
  (missing x).any (fun p =>
    let q := portOf s (mPort (nth (contributors x.group) p))
    !q.admitted || decide (q.leftRunning > nth x.leftAt p))

/-- The final status (R225); `expired`: the operation timer has expired. -/
def finalStatus (s : State) (x : Slot) (expired : Bool) : W16 :=
  if x.internal then stInternalFault
  else if x.mismatch then stMismatch
  else if x.memberLost || (expired && behindLost s x) then stMemberLost
  else stTimeout

/-- An entry of the mismatch log (R242). -/
def mismatchEntry (s : State) (x : Slot) : Bytes :=
  let g := x.group
  let all := x.desc.isNone && x.digest.isSome
  let who := if all then
      x.arrived.foldl (fun m p => match memberIndex g (mEndpoint (nth (contributors g) p)) with
        | some i => m ||| 2 ^ i
        | none => m) x.offenders.toNat
    else x.offenders.toNat
  leBytes 2 x.key.group ++ leBytes 2 (gMembers g.header) ++ leBytes 4 x.key.opSeq ++ leBytes 4 x.key.chunk ++
    leBytes 4 ((x.digest.getD 0).toNat) ++ leBytes 4 s.tick.number.toNat ++ leBytes 18 who ++ zeros 10

/-- End a slot that did not complete, under its group's entry at the opening. -/
def endSlot (k : SlotKey) (expired : Bool) (s : State) : State :=
  match slotOf s k with
  | none => s
  | some x =>
    let g := x.group
    let st := finalStatus s x expired
    let s := countEnd k st s
    let s := if st = stMismatch then
        updCanvas (fun c => { c with mismatchLog := (mismatchEntry s x :: c.mismatchLog).take 64 }) s else s
    let s := freeParked k s
    let w := resultWord st false x.flags 0
    match parentOf g with
    | some m =>
      let up := s.canvas.clock + 2 * timeoutNs g
      sendParent (resultHeader s g k 0x01 0 0 w) [] m (updSlot k (fun y => { y with state := .up, upDeadline := up }) s)
    | none =>
      let s := updSlot k (fun y => { y with state := .out }) s
      slotWritten k (sendDown s g k 0 0 w [] (endpointsOf g ++ childrenOf g) s)

/-- Enter *Failed*: parked parts are freed; when every contributor has arrived the slot ends. -/
def failSlot (k : SlotKey) (f : Slot → Slot) (s : State) : State :=
  updSlot k (fun y => f { y with state := .failed }) (freeParked k s)

def endIfAllArrived (k : SlotKey) (s : State) : State :=
  match slotOf s k with
  | some x => if x.state = .failed && (missing x).isEmpty then endSlot k false s else s
  | none => s

/-! ### Completion (R218, R226, R230, R231) -/

def varnishSet (d : Desc) : VarnishSet :=
  { accFmt := d.accFmt, outFmt := d.outFmt, rtz := dRtz d, sat := dSat d, scale := d.scale, biasMode := d.biasMode
    clip := if dClip d then some (d.clipLo, d.clipHi) else none }

/-- The FP32 bias code of element `k` of chunk `c`. -/
def biasAt (s : State) (d : Desc) (c k : Nat) : Nat :=
  if d.biasMode = 1 then d.bias
  else leVal (mreadN s.canvas.constants (65536 * (d.biasBase + c) + 4 * k) 4)

/-- The slot's output codes with the flags of the stage. -/
def varnishAll (s : State) (d : Desc) (c : Nat) (acc : List Nat) : Flagged (List Nat) :=
  acc.zipIdx.foldr (fun e r =>
    let o := varnish (varnishSet d) (biasAt s d c e.2) e.1
    (o.1 ||| r.1, o.2 :: r.2)) (0, [])

/-- Send the results of a completed slot without a parent. -/
def sendResults (g : Group) (d : Desc) (k : SlotKey) (out : List Nat) (f : AFlags) (s : State) : State :=
  let w := resultWord stOk false f 0
  let all := endpointsOf g ++ childrenOf g
  let s1 := forEach (packetStripes d k.chunk d.outFmt) (fun first s =>
    let n := packetElems d k.chunk d.outFmt first
    let b := codeBytes d.outFmt ((out.drop (256 * first)).take n)
    sendDown s g k first b.length w b (all.filter (receives d g k.chunk)) s) s
  sendDown s1 g k 0 0 w [] (all.filter (fun m => !receives d g k.chunk m)) s1

/-- A part of the leaf's partial (R230). -/
def sendPartial (g : Group) (d : Desc) (k : SlotKey) (x : Slot) (m : W64) (s : State) : State :=
  forEach (packetStripes d k.chunk d.accFmt) (fun first s =>
    let n := packetElems d k.chunk d.accFmt first
    let b := codeBytes d.accFmt ((x.acc.drop (256 * first)).take n)
    let h : Header := { gen := 2, vc := payloadVc g, opcode := opReduceContrib, length := w16 b.length, src := ownId s
                        ttag := w16 x.flags.toNat, ftag := w16 first, offset := BitVec.ofNat 48 k.chunk, window := 0x01
                        opA := d.digest, opB := keyWord k }
    sendParent h b m s) s

/-- Every part of every contributor is folded. -/
def completeSlot (k : SlotKey) (s : State) : State :=
  match slotOf s k with
  | none => s
  | some x =>
    let g := x.group
    match slotDesc x with
    | none => s
    | some d =>
      match parentOf g with
      | some m =>
        let up := s.canvas.clock + 2 * timeoutNs g
        sendPartial g d k x m (updSlot k (fun y => { y with state := .up, upDeadline := up }) s)
      | none =>
        let o := varnishAll s d k.chunk x.acc
        let f := x.flags ||| o.1
        let s := updSlot k (fun y => { y with state := .out, flags := f }) (countEnd k stOk (paletteFlags o.1 s))
        slotWritten k (sendResults g d k o.2 f s)

/-! ### Folding (R220, R227, R247) -/

/-- A part from its packet: values and weights as raw codes. -/
def partOf (d : Desc) (pos : Nat) (child : Bool) (n first : Nat) (h : Header) (payload : Bytes) : Part :=
  let fmt := if child then d.accFmt else d.inFmt
  let g0 := h.offset.toNat * d.chunkElems + 256 * first
  let elems := elemsOf d h.offset.toNat first n
  let a := if child then 0 else areaOf d g0 (g0 + elems - 1)
  let code := fun sz off => leAt payload off sz
  { pos := pos, first := first, stripes := n, fmt := fmt, child := child, tag := BitVec.ofNat 4 h.ttag.toNat
    values := (List.range elems).map (fun i => code (fmtBytes fmt) (a + i * fmtBytes fmt))
    weights := if child || d.op != opCombine then []
      else (List.range (rowsOf d g0 (g0 + elems - 1))).map (fun j => code (fmtBytes d.wFmt) (j * fmtBytes d.wFmt)) }

def foldSet (d : Desc) : FoldSet := { op := d.op, accFmt := d.accFmt, mode := dRound d, sat := dSat d }

/-- The weight of element `i` of a part. -/
def weightAt (d : Desc) (chunk : Nat) (x : Part) (i : Nat) : Option Nat :=
  if x.weights.isEmpty then none
  else
    let g0 := chunk * d.chunkElems + 256 * x.first
    some (nth x.weights ((g0 + i) / d.rowLen - g0 / d.rowLen))

/-- Fold a part into the accumulators. -/
def foldAcc (d : Desc) (chunk : Nat) (x : Part) (acc : List Nat) : Flagged (List Nat) :=
  let pre := acc.take (256 * x.first)
  let mid := (acc.drop (256 * x.first)).take x.values.length
  let post := acc.drop (256 * x.first + x.values.length)
  let r := (mid.zip x.values).zipIdx.foldr (fun e r =>
    let o := foldElem (foldSet d) (dRne d) d.wFmt (x.pos = 0) e.1.1 x.fmt e.1.2 (weightAt d chunk x e.2)
    (o.1 ||| r.1, o.2 :: r.2)) ((0, []) : Flagged (List Nat))
  (r.1, pre ++ r.2 ++ post)

def covers (x : Part) (n : Nat) : List Nat := (List.range n).filter (fun i => x.first ≤ i && i < x.first + x.stripes)

/-- Every stripe of the part waits for its position. -/
def inOrder (x : Slot) (p : Part) : Bool := (covers p x.frontier.length).all (fun i => nth x.frontier i = p.pos)

/-- Fold a part and move the frontier on. -/
def foldPart (d : Desc) (k : SlotKey) (p : Part) (s : State) : State :=
  match slotOf s k with
  | none => s
  | some x =>
    let r := foldAcc d k.chunk p x.acc
    let s := updSlot k (fun y => { y with
      acc := r.2
      flags := y.flags ||| r.1 ||| (if p.child then p.tag else 0)
      frontier := y.frontier.zipIdx.map (fun e => if p.first ≤ e.2 && e.2 < p.first + p.stripes then p.pos + 1 else e.1) }) s
    canvasCount 6 1 (paletteFlags r.1 s)

def arrive (pos : Nat) (x : Slot) : Slot := { x with arrived := if x.arrived.contains pos then x.arrived else x.arrived ++ [pos] }

/-- A part of contributor `pos` was lost: it has not arrived unless another of its parts is folded or parked (R221). -/
def notArrived (pos : Nat) (x : Slot) : Slot :=
  if x.frontier.any (fun f => decide (f > pos)) || x.parked.any (fun q => q.pos = pos) then x
  else { x with arrived := x.arrived.filter (· != pos) }

/-- The memory that holds a parked part, as R418 numbers it: the packet buffer or a staging piece. -/
def placeMem (p : Part) : Nat :=
  match p.place with
  | .staging _ => 1
  | .buffer _ => 0

/-- A parked part cannot be folded: the word read is uncorrectable, or its packet in the buffer is poisoned by now (R221,
R229). One in the buffer is lost as one in a staging piece is (assumption log 181). -/
def partLost (s : State) (p : Part) (word : WordError) : Bool :=
  eccOf word = .uncorrectable || match p.place with
    | .staging _ => false
    | .buffer id => (packetOf s id).any poisoned

/-- Fold parked parts that are now in order; `word` is what the first of them shows as it is read: one that is lost has not
arrived. -/
def foldParked (d : Desc) (k : SlotKey) : Nat → WordError → State → State
  | 0, _, s => s
  | fuel + 1, word, s =>
    match slotOf s k with
    | none => s
    | some x =>
      match x.parked.find? (inOrder x) with
      | none => s
      | some p =>
        let lost := partLost s p word
        let s := freePlace p (updSlot k (fun y => { y with parked := y.parked.filter (fun q => !(q = p)) }) s)
        let s := sramRead (placeMem p) word s
        foldParked d k fuel {}
          (if lost then updSlot k (notArrived p.pos) s else foldPart d k p s)

def isComplete (x : Slot) : Bool := x.frontier.all (fun f => f = (contributors x.group).length)

/-! ### Parking (R221, R222) -/

/-- Cells of window 0x01 whose acceptance is deferred on a port and channel. -/
def deferredCells (s : State) (p v : Nat) : Nat :=
  s.switch.packets.foldl (fun n e =>
    if e.2.deferred && e.2.ingress = some p && e.2.vcIn = v then n + e.2.cells else n) 0

/-- Deferring the packet would stay within `grant` − 17 cells. -/
def mayDefer (s : State) (st : Stored) : Bool :=
  match st.ingress with
  | none => true
  | some p =>
    let own := if st.deferred then 0 else st.cells
    decide (deferredCells s p st.vcIn + own + 17 ≤ nth (portOf s p).grants st.vcIn)

/-- Defer a packet's acceptance, for reason `why`; the counter of that wait counts the packet once, however often the reason
changes (R243). -/
def deferPacket (id why ctr : Nat) (s : State) : State :=
  match packetOf s id with
  | none => s
  | some st =>
    let s := if st.waited.contains ctr then s else canvasCount ctr 1 s
    updPacket id (fun x => { x with deferred := true, why := why, waited := x.waited.erase ctr ++ [ctr] }) s

/-- Park a part in the first place available, and its contributor has arrived; or defer its acceptance, and it has not. -/
def parkPart (g : Group) (k : SlotKey) (id : Nat) (p : Part) (s : State) : State :=
  let sched := gSched g.header
  let put := fun (b : Nat) (s : State) =>
    canvasCount 7 1 (dropPacket id false (updSlot k (fun y =>
      arrive p.pos { y with parked := y.parked ++ [{ p with place := .staging b }] }) s))
  match takePiece sched s with
  | some (b, s) => put b s
  | none =>
    match (if sched then takePiece false s else none) with
    | some (b, s) => put b s
    | none =>
      match packetOf s id with
      | none => s
      | some st =>
        if s.canvas.parkedCells + st.cells > s.policy.parkCells && mayDefer s st then deferPacket id 1 9 s
        else
          let s := updPacket id (fun x => { x with stage := .parked, deferred := false }) s
          let s := updCanvas (fun c => { c with parkedCells := c.parkedCells + st.cells }) s
          canvasCount 8 1 (updSlot k (fun y =>
            arrive p.pos { y with parked := y.parked ++ [{ p with place := .buffer id }] }) s)

/-! ### Parts in a slot (R218 to R220) -/

def offend (src : W16) (x : Slot) : Slot :=
  match memberIndex x.group src with
  | some i => { x with offenders := x.offenders ||| (1 : BitVec 144) <<< i }
  | none => x

/-- The packet's stripes and payload length match R216: the status of the answer otherwise. -/
def partFault (d : Desc) (child : Bool) (h : Header) : Option W16 :=
  let c := h.offset.toNat
  let k := if child then fitStripes d.accFmt else d.partStripes
  let first := h.ftag.toNat
  if c ≥ chunkCount d || first ≥ stripeCount d c || first % max 1 k != 0 then some stBadParam
  else
    let n := elemsOf d c first k
    let g0 := c * d.chunkElems + 256 * first
    let want := if child then n * fmtBytes d.accFmt else areaOf d g0 (g0 + n - 1) + n * fmtBytes d.inFmt
    if h.length.toNat != want then some stBadLength else none

/-- A Canvas error found while the part was worked on: counted, recorded and tested (R407). -/
def noteCanvas (ecc : CanvasEcc) (s : State) : State :=
  match ecc with
  | .parity n => parityError n s
  | .accumulator e => sramRead 1 e s
  | _ => s

/-- It fails the slot. -/
def errorFails (ecc : CanvasEcc) : Bool :=
  match ecc with
  | .accumulator e => eccOf e = .uncorrectable
  | .parity _ => true
  | _ => false

/-- What the piece that is read first shows. -/
def pieceWord (ecc : CanvasEcc) : WordError :=
  match ecc with
  | .piece e => e
  | _ => {}

/-- A part of contributor `pos` in an *Open* slot. -/
def partOpen (g : Group) (k : SlotKey) (id pos : Nat) (child : Bool) (ecc : CanvasEcc) (st : Stored) (s : State) : State :=
  match slotOf s k with
  | none => s
  | some x =>
    let h := st.hdr
    if x.digest != some h.opA then
      let s := canvasDiscard (dropPacket id false s)
      endIfAllArrived k (failSlot k (fun y => arrive pos (offend h.src { y with mismatch := true })) s)
    else match slotDesc x with
      | none => canvasDiscard (dropPacket id false s)
      | some d =>
        match partFault d child h with
        | some status => answerStatus st status (canvasCount 15 1 (dropPacket id false s))
        | none =>
          let c := h.offset.toNat
          let k0 := if child then fitStripes d.accFmt else d.partStripes
          let n := min k0 (stripeCount d c - h.ftag.toNat)
          let p := partOf d pos child n h.ftag.toNat h (payloadOf h st.data)
          let cov := covers p x.frontier.length
          if cov.any (fun i => nth x.frontier i > pos) || x.parked.any (fun y => y.pos = pos && y.first = p.first) then
            canvasCount 10 1 (dropPacket id false s)
          else if !inOrder x p then parkPart g k id p s
          else
            let s := updSlot k (arrive pos) (dropPacket id false s)
            let s := noteCanvas ecc s
            if errorFails ecc then endIfAllArrived k (failSlot k (fun x => { x with internal := true }) s)
            else
              let s := foldPart d k p s
              let s := foldParked d k (x.parked.length + 1) (pieceWord ecc) s
              match slotOf s k with
              | some y => if isComplete y then completeSlot k s else s
              | none => s

/-- A part in a *Failed* slot. -/
def partFailed (k : SlotKey) (id pos : Nat) (st : Stored) (s0 : State) : State :=
  let s := updSlot k (fun x =>
    arrive pos (if x.digest.isNone then recordDigest s0 st.hdr.opA x
      else if x.digest != some st.hdr.opA then offend st.hdr.src x else x)) (canvasDiscard (dropPacket id false s0))
  endIfAllArrived k s

/-- A contribution to a slot that is not *Free*. -/
def partInSlot (g : Group) (k : SlotKey) (id pos : Nat) (child : Bool) (ecc : CanvasEcc) (st : Stored) (s : State) : State :=
  match slotOf s k with
  | none => s
  | some x =>
    match x.state with
    | .open_ => partOpen g k id pos child ecc st s
    | .failed => partFailed k id pos st s
    | _ => canvasCount 10 1 (dropPacket id false s)

/-- Record a child's failure status. -/
def recordStatus (st : W16) (x : Slot) : Slot :=
  if st = stInternalFault then { x with internal := true }
  else if st = stMismatch then { x with mismatch := true }
  else if st = stMemberLost then { x with memberLost := true }
  else x

/-- A failure status from a child in a slot that is not *Free*; in *Up* and *Out* it is discarded (assumption log 119). -/
def statusInSlot (k : SlotKey) (pos : Nat) (status : W16) (s : State) : State :=
  match slotOf s k with
  | none => s
  | some x =>
    match x.state with
    | .open_ => endIfAllArrived k (failSlot k (fun y => arrive pos (recordStatus status y)) s)
    | .failed => endIfAllArrived k (updSlot k (fun y => arrive pos (recordStatus status y)) s)
    | _ => canvasDiscard s

/-! ### Opening (R218, R234 to R237, R308, R413) -/

/-- The opening may take a block of this pool: scheduled first, then unscheduled. -/
def blockFor (s : State) (sched : Bool) : Option Bool :=
  if sched && poolFree s true > 0 then some true else if poolFree s false > 0 then some false else none

def rateAllows (s : State) : Bool :=
  match s.canvas.lastOpen with
  | none => true
  | some t => decide (t + 15625 ≤ 1000 * s.now)

/-- The reduce item, among those of a group, that the opening after `n` others counts for: none beyond their `slots`. -/
def itemAfter : Nat → List W64 → Option W64
  | _, [] => none
  | n, x :: l => if n < bitsOf x.toNat 16 12 then some x else itemAfter (n - bitsOf x.toNat 16 12) l

/-- Count an opening of a scheduled group against the running entry: the item it counts for, none beyond them (R308). -/
def countOpening (g : Nat) (s : State) : State × Option (W32 × Nat × Nat × Nat) :=
  let t := s.tick.number
  match (if s.tick.running then entryAt s t else none) with
  | none => (s, none)
  | some (p, i, e) =>
    let n := tgetD s.tick.openings g 0
    let s := updTick (fun t => { t with openings := tset t.openings g (n + 1) }) s
    match itemAfter n ((reduceItems s e).filter (fun x => bitsOf x.toNat 0 14 = g)) with
    | none => (sketchCount 13 1 s, none)
    | some x => (s, if s.tick.paused then none else some (t, p, i, bitsOf x.toNat 28 4))

/-- Open a slot on a block of `pool`. -/
def openSlot (g : Group) (k : SlotKey) (pool : Bool) (digest : Option W32) (s : State) : State :=
  let d := digest.bind (descByDigest s g)
  let o := if gSched g.header then countOpening k.group s else (s, none)
  let s := o.1
  let dead := (palettesIn s).isEmpty
  let at_ := 1000 * s.now
  let x : Slot := {
    key := k, block := newBlock s.canvas, group := g, desc := digest.bind (descBytes s g), scheduled := pool
    state := if digest.isNone || d.isNone || dead then .failed else .open_, digest := digest
    frontier := List.replicate ((d.map (fun d => stripeCount d k.chunk)).getD 0) 0
    acc := List.replicate ((d.map (fun d => chunkLen d k.chunk)).getD 0) 0
    mismatch := digest.isSome && d.isNone, internal := dead, opDeadline := s.canvas.clock + timeoutNs g
    leftAt := (contributors g).map (fun m => (portOf s (mPort m)).leftRunning), item := o.2 }
  canvasCount 0 1 (updCanvas (fun c => { c with slots := c.slots ++ [x], lastOpen := some at_ }) s)

/-- Answer a contribution `BUSY` with a hint. -/
def answerBusy (st : Stored) (expiry : Nat) (s : State) : State :=
  let h := { answerHeader st.hdr opReduceResult (answerSrc s st.hdr) stBusy with
    opA := resultWord stBusy st.hdr.cmk 0 (retryHint s expiry) }
  originate { pkt := { hdr := h }, viaPort := answerVia s st } s

/-- No block, or a full refusal cache, for an unscheduled opening (R235, R236). -/
def refuseOpening (g : Group) (k : SlotKey) (id : Nat) (st : Stored) (s : State) : State :=
  let now := s.canvas.clock
  let l := alive s.canvas.refusals now
  let s := canvasCount 12 1 (dropPacket id false s)
  if l.length ≥ 4096 then answerBusy st ((l.head?.map (·.2)).getD now) (canvasCount 13 1 s)
  else
    let exp := now + timeoutNs g
    answerBusy st exp (updCanvas (fun c => { c with refusals := l ++ [(k, exp)] }) s)

/-- An unscheduled slot may open while the refusal cache has room. -/
def refusalsFull (s : State) : Bool := decide ((alive s.canvas.refusals s.canvas.clock).length ≥ 4096)

/-- Step 10 of R217 for a contribution. -/
def openByPart (g : Group) (k : SlotKey) (id pos : Nat) (child : Bool) (ecc : CanvasEcc) (st : Stored) (s : State) : State :=
  let sched := gSched g.header
  if !sched && refusalsFull s then refuseOpening g k id st s
  else match blockFor s sched with
    | none => if sched then deferPacket id 2 14 s else refuseOpening g k id st s
    | some pool =>
      if !rateAllows s then deferPacket id 3 9 s
      else partInSlot g k id pos child ecc st (openSlot g k pool (some st.hdr.opA) s)

/-- Step 10 of R217 for a child's failure status (R235), a scheduled group's too (assumption log 165). -/
def openByStatus (g : Group) (k : SlotKey) (id pos : Nat) (status : W16) (s : State) : State :=
  let sched := gSched g.header
  if !sched && refusalsFull s then canvasCount 16 1 (dropPacket id false s)
  else match blockFor s sched with
    | none => canvasCount 16 1 (dropPacket id false s)
    | some pool =>
      if !rateAllows s then deferPacket id 3 9 s
      else statusInSlot k pos status (dropPacket id false (openSlot g k pool none s))

/-! ### GATHER (R233) -/

def gatherTag : W16 := 0x8000

/-- A gathered packet toward endpoints or children. -/
def gatherHeader (s : State) (st : Stored) (window : BitVec 8) : Header :=
  { gen := 2, vc := st.hdr.vc, opcode := opReduceResult, length := st.hdr.length, src := ownId s, ttag := gatherTag
    ftag := st.hdr.ftag, offset := st.hdr.offset, window := window
    opA := if st.hdr.opcode = opReduceResult then st.hdr.opA else 0, opB := st.hdr.opB }

/-- Copy a gathered packet to the members its origin's row names (R233). The REDUCE_CONTRIB to the parent carries `ttag` 0
(assumption log 178). -/
def gather (g : Group) (id : Nat) (st : Stored) (s : State) : State :=
  let b := payloadOf st.hdr st.data
  let src := st.hdr.src
  let up := (parentOf g).any (fun m => mEndpoint m = src)
  let fromChild := (childrenOf g).any (fun m => mEndpoint m = src)
  let s := dropPacket id false s
  let s := sendMembers (gatherHeader s st 0x00) b none (endpointsOf g) s
  if up then s
  else
    let s := sendMembers (gatherHeader s st 0x01) b none ((childrenOf g).filter (fun m => mEndpoint m != src)) s
    match parentOf g with
    | some m => if fromChild then s else
        sendParent { gatherHeader s st 0x01 with opcode := opReduceContrib, ttag := 0, opA := st.hdr.opA } b m s
    | none => s

/-! ### Relaying in *Up* (R226) -/

/-- The relayed header toward endpoint members: the packet as it came, built as R224 builds every copy. -/
def relayHeader (s : State) (h : Header) : Header :=
  { gen := 2, vc := h.vc, opcode := opReduceResult, length := h.length, src := ownId s, ttag := h.ttag, ftag := h.ftag
    offset := h.offset, opA := h.opA, opB := h.opB }

/-- A result or status from the parent to a slot in *Up*. A member without the owner rank gets its OK for every payload packet
relayed (R226; assumption log 162). A failure of the parent's that a completed slot relays counts by its status and enters no
mismatch log (assumption log 176). -/
def relay (g : Group) (k : SlotKey) (id : Nat) (st : Stored) (s : State) : State :=
  match slotOf s k with
  | none => s
  | some x =>
    let h := st.hdr
    let b := payloadOf h st.data
    let s := dropPacket id false s
    let rh := relayHeader s h
    let d := slotDesc x
    let owners := fun m => h.length = 0 || (match d with
      | some d => receives d g k.chunk m
      | none => true)
    let s := sendMembers rh b none ((endpointsOf g).filter owners) s
    let s := sendMembers { rh with vc := 4, length := 0, ftag := 0 } [] none ((endpointsOf g).filter (fun m => !owners m)) s
    let status : W16 := w16 h.opA.toNat
    if h.length = 0 then slotFree k (countEnd k status s)
    else match d with
      | none => s
      | some d =>
        let got := (List.range (fitStripes d.outFmt)).map (fun i => h.ftag.toNat + i) ++ x.relayed
        if (List.range (stripeCount d k.chunk)).all got.contains then slotFree k (countEnd k stOk s)
        else updSlot k (fun y => { y with relayed := got }) s

/-! ### Judging (R217) -/

/-- The opcode that R216 names for a descriptor and a sender. -/
def namedOpcode (d : Desc) (child : Bool) : BitVec 8 := if d.op = opCombine && !child then opCombineContrib else opReduceContrib

def vcFits (g : Group) (st : Stored) : Bool :=
  if st.hdr.length = 0 then st.vcIn = 4 else st.vcIn = (payloadVc g).toNat

def discardPart (id ctr : Nat) (s : State) : State := canvasCount ctr 1 (dropPacket id false s)

/-- Steps 5 to 10 for a contribution of contributor `pos`. -/
def judgeLater (g : Group) (k : SlotKey) (id pos : Nat) (child : Bool) (ecc : CanvasEcc) (st : Stored) (s : State) : State :=
  let x := slotOf s k
  let named := descByDigest s g st.hdr.opA
  let d5 := match x with
    | some y => slotDesc y
    | none => named
  let wrong := match d5 with
    | some d => st.hdr.opcode != namedOpcode d child
    | none => false
  if wrong then answerStatus st stBadOpcode (discardPart id 15 s)
  else if named.any (fun d => d.op = opGather) then gather g id st s
  else if named.isNone && (descsOf s g).all (fun d => d.op = opGather) then answerStatus st stMismatch (discardPart id 15 s)
  else if x.isNone && named.any (fun d => d.elemCount = 0) then answerStatus st stOk (discardPart id 17 s)
  else match cached s.canvas.refusals k s.canvas.clock with
    | some exp => answerBusy st exp (discardPart id 12 s)
    | none =>
      if (cached s.canvas.doneCache k s.canvas.clock).isSome then discardPart id 11 s
      else if x.isSome then partInSlot g k id pos child ecc st s
      else openByPart g k id pos child ecc st s

/-- A contribution to window 0x01. -/
def judgeContribution (id : Nat) (ecc : CanvasEcc) (st : Stored) (s : State) : State :=
  let k := keyOf st.hdr
  match groupOf s k.group with
  | none => answerStatus st stBadParam (discardPart id 15 s)
  | some g =>
    match positionOf g st.hdr.src with
    | none => answerStatus st stBadParam (discardPart id 15 s)
    | some pos =>
      if !vcFits g st then answerStatus st stBadParam (discardPart id 15 s)
      else judgeLater g k id pos ((childrenOf g).any (fun m => mEndpoint m = st.hdr.src)) ecc st s

/-- A REDUCE_RESULT to window 0x01. -/
def judgeResult (id : Nat) (st : Stored) (s : State) : State :=
  let k := keyOf st.hdr
  let h := st.hdr
  match groupOf s k.group with
  | none => discardPart id 15 s
  | some g =>
    let fromParent := (parentOf g).any (fun m => mEndpoint m = h.src)
    let fromChild := (childrenOf g).any (fun m => mEndpoint m = h.src)
    let gathered := fromParent && h.ttag = gatherTag
    let upSlot := fromParent && (slotOf s k).any (fun x => x.state = .up)
    let status : W16 := w16 h.opA.toNat
    let failure := fromChild && h.length = 0 && status != stOk
    if !(gathered || upSlot || failure) then discardPart id 16 s
    else if !vcFits g st then discardPart id 15 s
    else if gathered then gather g id st s
    else if upSlot then relay g k id st s
    else match positionOf g h.src with
      | none => discardPart id 16 s
      | some pos =>
        if (cached s.canvas.refusals k s.canvas.clock).isSome then discardPart id 12 s
        else if (cached s.canvas.doneCache k s.canvas.clock).isSome then discardPart id 11 s
        else if (slotOf s k).isSome then statusInSlot k pos status (dropPacket id false s)
        else openByStatus g k id pos status s

/-- A packet to window 0x01, deferred in P2 and P3 (R238), a result as well as a part (assumption log 177). -/
def canvasPacket (id : Nat) (ecc : CanvasEcc) (st : Stored) (s : State) : State :=
  if !engineRuns s then deferPacket id 1 9 s
  else if st.hdr.opcode = opReduceResult then judgeResult id st s
  else judgeContribution id ecc st s

/-- A deferred packet to window 0x01 is judged again, also for what R147 finds by now: one poisoned meanwhile is discarded
(R229). What is not deferred anew loses its mark. -/
def judgeAgain (id why : Nat) (ecc : CanvasEcc) (s : State) : State :=
  match terminatedOf s id with
  | none => s
  | some st =>
    if !(st.hdr.window = 0x01 && st.deferred && st.why = why) then s
    else if findingOf st = .act then canvasPacket id ecc st s else applyFinding id st s

/-! ### A group is changed or removed by a commit (R210) -/

/-- End every slot of a group at once: `MEMBER_LOST` to its endpoint members; its cache entries go. -/
def endGroup (n : Nat) (g : Group) (s : State) : State :=
  let ks := (s.canvas.slots.filter (fun x => x.key.group = n)).map (fun x => (x.key, x.flags))
  let s := forEach ks (fun e s =>
    let s := countEnd e.1 stMemberLost s
    let s := freeParked e.1 s
    let s := sendMembers (resultHeader s g e.1 0x00 0 0 (resultWord stMemberLost false e.2 0)) [] none (endpointsOf g) s
    blockFreed (updCanvas (fun c => { c with slots := c.slots.filter (fun x => !(x.key = e.1)) }) s)) s
  updCanvas (fun c => { c with refusals := c.refusals.filter (fun e => e.1.group != n)
                               doneCache := c.doneCache.filter (fun e => e.1.group != n) }) s

end Sys2Proof.Machine
end

