-- ==== Sys2Proof/Machine/Canvas.lean ====
section
/-! DEFINITION. The commands of the Canvas (07): contributions, results, deferred parts, timers and caches. -/

namespace Sys2Proof.Machine

/-- A packet of one opcode to window 0x01 that is not deferred. -/
def canvasWindow (id : Nat) (o : BitVec 8) (ecc : CanvasEcc) (s : State) : State :=
  atWindow id (fun h => h.window = 0x01 && h.opcode = o) (fun st s => if st.deferred then s else canvasPacket id ecc st s) s

/-- REDUCE_CONTRIB (R217). -/
def execReduceContrib (packet : Nat) (ecc : CanvasEcc) (s : State) : Res := .next (canvasWindow packet opReduceContrib ecc s)

/-- COMBINE_CONTRIB (R217). -/
def execCombineContrib (packet : Nat) (ecc : CanvasEcc) (s : State) : Res := .next (canvasWindow packet opCombineContrib ecc s)

/-- REDUCE_RESULT_RECEIVED (R217). -/
def execReduceResultReceived (packet : Nat) (s : State) : Res := .next (canvasWindow packet opReduceResult .clean s)

/-- DEFERRED_PART_ACCEPT (R222, R238). -/
def execDeferredPartAccept (packet : Nat) (ecc : CanvasEcc) (s : State) : Res := .next (judgeAgain packet 1 ecc s)

/-- SCHED_SLOT_OPEN_RESUME (R234). -/
def execSchedSlotOpenResume (packet : Nat) (ecc : CanvasEcc) (s : State) : Res := .next (judgeAgain packet 2 ecc s)

/-- OPENING_RATE_RESUME (R237). -/
def execOpeningRateResume (packet : Nat) (ecc : CanvasEcc) (s : State) : Res := .next (judgeAgain packet 3 ecc s)

/-- The operation timer has expired. A part whose last cell comes at the very instant of the deadline is earlier, so the expiry
acts once that instant has passed (R219; assumption log 180). -/
def opTimesOut (k : SlotKey) (s : State) : State :=
  match slotOf s k with
  | none => s
  | some x =>
    if engineRuns s && (x.state = .open_ || x.state = .failed) && decide (x.opDeadline < s.canvas.clock) then endSlot k true s
    else s

/-- OP_TIMEOUT (R218, R225). -/
def execOpTimeout (key : SlotKey) (s : State) : Res := .next (opTimesOut key s)

def upTimesOut (k : SlotKey) (s : State) : State :=
  match slotOf s k with
  | none => s
  | some x =>
    if engineRuns s && x.state = .up && decide (x.upDeadline ≤ s.canvas.clock) then
      let s := countEnd k stMemberLost s
      let w := resultWord stMemberLost false x.flags 0
      slotFree k (sendMembers (resultHeader s x.group k 0x00 0 0 w) [] none (endpointsOf x.group) s)
    else s

/-- UP_TIMEOUT (R232). -/
def execUpTimeout (key : SlotKey) (s : State) : Res := .next (upTimesOut key s)

def expire (l : List (SlotKey × Nat)) (k : SlotKey) (now : Nat) : List (SlotKey × Nat) :=
  l.filter (fun e => !(e.1 = k && decide (e.2 ≤ now)))

/-- DONE_CACHE_EXPIRE (R228). -/
def execDoneCacheExpire (key : SlotKey) (s : State) : Res :=
  .next (updCanvas (fun c => { c with doneCache := expire c.doneCache key c.clock }) s)

/-- REFUSAL_CACHE_EXPIRE (R235). -/
def execRefusalCacheExpire (key : SlotKey) (s : State) : Res :=
  .next (updCanvas (fun c => { c with refusals := expire c.refusals key c.clock }) s)

end Sys2Proof.Machine
end

