-- ==== Sys2Proof/Machine/Records.lean ====
section
/-! DEFINITION. What the device reports of itself, as bytes: the records of lanes and ports, IDENTIFY and GET_STATUS, the
flag records, the counter blocks and the telemetry window (R63, R100, R264, R346, R354, R356). -/

namespace Sys2Proof.Machine

/-- A field of a record: its lowest bit and its value. -/
def fields (l : List (Nat × Nat)) : Nat := l.foldl (fun n e => n + e.2 * 2 ^ e.1) 0

/-! ### Lanes and ports -/

/-- The 64-bit record of a lane (R63); a lane that is not in use shows no FoM of a self-test. -/
def laneRecord (l : Lane) : Nat :=
  fields [(0, if l.inUse then l.fom.toNat else 0), (8, boolNat l.los), (9, boolNat l.lol), (10, boolNat l.rich), (11, boolNat (l.pins.any pinHeld)),
    (12, boolNat l.inUse), (13, boolNat l.rxPass), (14, boolNat l.polarityInv), (15, boolNat l.retired),
    (16, l.rxHeater.toNat), (32, l.txHeater.toNat), (44, l.ctle.toNat)]

/-- Codes of a verdict. -/
def verdictCode : Verdict → Nat
  | .pending => 0
  | .pass => 1
  | .fail => 2

/-- The 192-bit record of a port (R100). -/
def portRecord (q : Port) : Nat :=
  fields [(0, stateCode q.state), (4, boolNat q.admitted), (5, verdictCode q.verdict), (7, boolNat q.seqHeld),
    (8, q.laneSet.toNat), (16, q.rxPass.toNat), (24, q.farRxPass.toNat), (32, q.cause.toNat), (48, q.gen.toNat),
    (50, boolNat q.laneReversed), (51, q.features.toNat), (56, q.failCount.toNat), (64, q.farEndpoint.toNat),
    (80, q.farPort.toNat), (88, boolNat (q.farKind = 1)), (96, q.farChipTag.toNat), (128, q.linkDelay.toNat),
    (144, q.probeWait.toNat)]

/-- The port's record and its eight lane records, 88 bytes. -/
def portInfo (q : Port) : Bytes :=
  leBytes 24 (portRecord q) ++ (List.range 8).flatMap (fun l => leBytes 8 (laneRecord (q.lanes.getD l {})))

def portsWhere (s : State) (f : Port → Bool) : List Nat := (List.range 96).filter (fun p => f (portOf s p))

def portsRunning (s : State) : List Nat := portsWhere s (fun q => q.state = .running)

/-! ### Identity and status (R6, R326, R346) -/

def ygIdent : Nat := 0x05719600
def ygRevision : Nat := 0x0100

def ygStraps (s : State) : Nat :=
  fields [(0, s.boot.slotId.toNat), (4, s.boot.pos.toNat), (6, s.boot.role.toNat), (8, s.boot.bootSrc.toNat)]

def ygEndpoint (s : State) : Nat :=
  fields [(0, s.sketch.endpoint.toNat), (16, s.sketch.plane.toNat), (31, boolNat s.sketch.epValid)]

/-- The code column of R380. -/
def ownershipCode (s : State) : Nat :=
  match s.tray.own with
  | .booting => 1
  | .claiming => 1
  | .active => 2
  | .standby => 1
  | .isolated => 3
  | .released => 0
  | .passive => 0

/-- `YG_STATUS.ownership`: its reset value of R326 until the firmware starts, the code of R380 from then on, in an Easel
restart too (R436; assumption log 62). -/
def ownership (s : State) : Nat :=
  if s.tray.own = .booting && !s.boot.fwAccepted && !s.boot.restarting then 0 else ownershipCode s

def palettesOn (s : State) : Nat := (palettesIn s).length

def commitArmed (s : State) : Bool := s.sketch.commit.isSome

def ygStatus (s : State) : Nat :=
  fields [(0, boolNat s.boot.easelReady), (1, boolNat s.sketch.inForce), (2, boolNat s.tick.locked),
    (3, boolNat s.tick.holdover), (4, s.power.mode), (6, ownership s), (8, boolNat (commitArmed s)),
    (9, boolNat s.boot.fatal), (16, (portsRunning s).length), (24, palettesOn s)]

def runningPlan (s : State) : Nat := (s.sketch.running.map (·.1)).getD 0xFF

/-- The IDENTIFY record. -/
def identifyRecord (s : State) : Bytes :=
  leBytes 4 ygIdent ++ leBytes 4 ygRevision ++ leBytes 4 s.boot.chipTag.toNat ++ leBytes 2 s.sketch.endpoint.toNat ++
    leBytes 2 (ygStraps s) ++
    [BitVec.ofNat 8 s.sketch.plane.toNat, BitVec.ofNat 8 (ownership s), BitVec.ofNat 8 s.power.mode,
      BitVec.ofNat 8 (fields [(0, boolNat s.sketch.inForce), (1, boolNat s.tick.locked), (2, boolNat s.tick.holdover),
        (3, boolNat (commitArmed s))])] ++
    leBytes 4 s.tick.number.toNat ++ leBytes 8 s.sketch.sketchId.toNat ++
    [BitVec.ofNat 8 (runningPlan s), BitVec.ofNat 8 (palettesOn s)] ++ zeros 2 ++ leBytes 4 s.boot.fwVersion.toNat ++
    leBytes 4 s.boot.configVersion.toNat ++ zeros 20

/-- Loops now at a bound: five of each lane, the route weight of each *Up* or *Down* port, the tray's and the governors'. -/
def loopsPinned (s : State) : Nat :=
  let lanes := s.ports.foldl (fun n q => q.lanes.foldl (fun n l => n + (l.pins.filter pinHeld).length) n) 0
  let weights := ((List.range 96).filter (fun p =>
    decide ((roleOf s p).role.toNat ≥ 2) &&
      decide ((portOf s p).rw ≤ s.policy.rwLo ∨ (portOf s p).rw ≥ s.policy.rwHi))).length
  lanes + weights + boolNat (pinHeld s.tray.pumpPinned) + boolNat (pinHeld s.tray.fanPinned) + boolNat s.power.govPinned +
    boolNat (pinHeld s.power.slopePinned)

/-- Rows, palettes and lanes that are retired now (R428); a lane that has passed a cold test since is not (R60). -/
def retiredCount (s : State) : Nat :=
  (s.health.retiredNow.filter (fun r => match r with | .lane _ _ => false | _ => true)).length + s.ports.foldl (fun n q => n + (q.lanes.filter (·.retired)).length) 0

/-- Rows, lanes and palettes retired since reset, those of the list in flash left out (R346). -/
def retiredSince (s : State) : Nat := (s.health.retiredNow.filter (fun r => !s.health.listed.contains r)).length

/-- The GET_STATUS record. -/
def statusRecord (s : State) : Bytes :=
  let admitted := portsWhere s (·.admitted)
  let narrowed := portsWhere s (fun q => q.state = .running && decide (widthOf q.laneSet < 8))
  let miswired := portsWhere s (fun q => q.state = .miswired)
  let grace := portsWhere s (·.grace.isSome)
  [BitVec.ofNat 8 (portsRunning s).length, BitVec.ofNat 8 admitted.length, BitVec.ofNat 8 narrowed.length,
      BitVec.ofNat 8 miswired.length] ++
    leBytes 2 (wrapInt 16 s.power.tjMax) ++ leBytes 2 (s.power.power / 1000) ++
    leBytes 12 (maskOf (portsRunning s)) ++ leBytes 12 (maskOf admitted) ++ leBytes 12 (maskOf grace) ++
    leBytes 4 (loopsPinned s) ++ leBytes 4 (poolFree s false) ++ leBytes 4 (retiredSince s) ++ zeros 8

/-- The 32 flag records of R264. -/
def flagRecords (s : State) : Bytes := (List.range 32).map (fun n => paletteByte (nth s.canvas.palettes n))

/-! ### Counter blocks (R354) -/

def words (l : List W64) : Bytes := l.flatMap (fun x => leBytes 8 x.toNat)

/-- A log of `n` entries of `k` bytes, newest first. -/
def logBytes (n k : Nat) (l : List Bytes) : Bytes :=
  (List.range n).flatMap (fun i => padTo k (l.getD i []))

/-- The state of R380 as a code. -/
def ownCode : OwnState → Nat
  | .booting => 1
  | .claiming => 2
  | .active => 3
  | .standby => 4
  | .isolated => 5
  | .released => 6
  | .passive => 7

/-- The control cycle in ticks: the nearer limit in whole ticks where its length leaves 0.5 ms to 100 ms (R369). -/
def cycleInForce (s : State) : Nat :=
  let per := if s.tick.running then periodOf s else 4000
  let n := s.tray.cycleTicks.toNat
  max ((500000 + per - 1) / per) (min n (100000000 / per))

/-- The control cycle, ns. -/
def cycleNs (s : State) : Nat := cycleInForce s * (if s.tick.running then periodOf s else 4000)

/-- This device is a synchronised standby (R370, R383). -/
def isSynced (s : State) : Bool :=
  decide (s.tray.own = .standby) && s.tray.committed.isSome && s.tray.freshCommit &&
    (if s.tray.copyMode = 0 then decide (s.now ≤ s.tray.committedAt + 2 * cycleNs s)
    else decide (s.tray.policyAt ≤ s.tray.committedAt))

/-- `synchronised` of the tray record: of this device as a standby, or of the twin as its heartbeat says. -/
def synchronised (s : State) : Bool := if s.tray.own = .active then s.tray.twin.heard && s.tray.twin.sync else isSynced s

/-- The epoch of the heartbeat and the tray record: last sent by the active device, last committed by another. -/
def trayEpoch (s : State) : W32 := if s.tray.own = .active then s.tray.epoch else s.tray.committedEpoch

/-- The tray record (R389). -/
def trayRecord (s : State) : Bytes :=
  let t := s.tray
  [BitVec.ofNat 8 (ownCode t.own), t.copyMode,
    BitVec.ofNat 8 (fields [(0, boolNat (synchronised s)), (1, boolNat t.twin.heard), (2, boolNat t.rmSilent),
      (3, boolNat t.lineFault)]),
    BitVec.ofNat 8 (fields [(0, boolNat (t.pumpAlarm != 0)), (1, boolNat t.flowAlarm), (2, boolNat t.coolantHot),
      (3, boolNat (t.fanFault != 0))])] ++
    leBytes 4 (trayEpoch s).toNat ++ leBytes 4 (cycleInForce s) ++ leBytes 2 t.pumpDuty ++ leBytes 2 t.fanDuty ++
    leBytes 2 t.flowNow ++ leBytes 2 (wrapInt 16 t.coolOut) ++ zeros 12

/-- The bytes of a flight record (R418). -/
def recordBytes (r : FlightRec) : Bytes :=
  let b := leBytes 8 r.seq.toNat ++ leBytes 8 r.time.toNat ++ leBytes 4 r.tick.toNat ++ leBytes 4 r.boot.toNat ++
    leBytes 2 r.rtype.toNat ++ leBytes 2 r.code.toNat ++ leBytes 4 r.resource.toNat ++ leBytes 8 r.address.toNat ++
    padTo 20 r.detail
  b ++ leBytes 4 (crc32 b).toNat

/-- Bytes of the record at place `k` of a stack: record *n* lies in stack *n* mod 4; an empty one reads as zero. -/
def recordAt (s : State) (stack k : Nat) : Bytes :=
  match tget s.health.records (4 * k + stack) with
  | some r => recordBytes r
  | none => zeros 64

/-- `len` bytes from byte `off` of a stack's ring. -/
def recorderBytes (s : State) (stack off len : Nat) : Bytes :=
  (((List.range ((off % 64 + len + 63) / 64)).flatMap (fun i => recordAt s stack (off / 64 + i))).drop (off % 64)).take len

/-- Size of a counter block for an index; none: no such block or index. -/
def blockSize (block index : Nat) : Option Nat :=
  if block = 1 then (if index < 96 then some 240 else none)
  else if block = 0x13 then (if index < 4 then some 939524096 else none)
  else if index ≠ 0 then none
  else if block = 2 then some 88 else if block = 3 then some 192 else if block = 4 then some 168
  else if block = 5 then some 3072 else if block = 6 then some 136 else if block = 7 then some 112
  else if block = 8 then some 6144 else if block = 9 then some 64 else if block = 0x10 then some 128
  else if block = 0x11 then some 96 else if block = 0x12 then some 128 else if block = 0x14 then some 5504
  else none

/-- The whole of a block but the flight recorder. -/
def blockBytes (s : State) (block index : Nat) : Bytes :=
  if block = 1 then words (portOf s index).ctr
  else if block = 2 then words s.switch.pkt
  else if block = 3 then words s.switch.ctr
  else if block = 4 then words s.canvas.ctr
  else if block = 5 then logBytes 64 48 s.canvas.mismatchLog
  else if block = 6 then words s.streams.ctr
  else if block = 7 then words s.sketch.ctr
  else if block = 8 then logBytes 256 24 s.sketch.overruns
  else if block = 9 then words s.host.ctr
  else if block = 0x10 then trayRecord s ++ words s.tray.ctr
  else if block = 0x11 then words s.power.ctr
  else if block = 0x12 then words (s.health.ctr.set 13 (w64 (32 - palettesOn s)))
  else if block = 0x14 then s.flash.certificate
  else []

/-- `len` bytes from byte `off` of a block; zero beyond its end. -/
def blockRange (s : State) (block index off len : Nat) : Bytes :=
  match blockSize block index with
  | none => zeros len
  | some n =>
    let k := min len (n - off)
    (if block = 0x13 then recorderBytes s index off k else padTo k ((blockBytes s block index).drop off)) ++ zeros (len - k)

/-! ### The telemetry window (R356) -/

/-- The 8 bytes of the window at an offset that is a multiple of 8. -/
def telemetryWord (s : State) (off : Nat) : Bytes :=
  let pick := fun (b : Bytes) (o : Nat) => padTo 8 (b.drop o)
  if off < 0x40 then pick (identifyRecord s) off
  else if off < 0x80 then pick (statusRecord s) (off - 0x40)
  else if 0x100 ≤ off && off < 0x160 then pick (leBytes 2 s.sketch.lastStatus.toNat ++ zeros 6 ++ s.sketch.lastResult) (off - 0x100)
  else if 0x200 ≤ off && off < 0x220 then pick (flagRecords s) (off - 0x200)
  else if 0x10000 ≤ off && off < 0x10000 + 0x80 * 96 then
    pick (portInfo (portOf s ((off - 0x10000) / 0x80))) ((off - 0x10000) % 0x80)
  else if 0x1000000 ≤ off then
    let b := (off - 0x1000000) / 0x100000
    let r := (off - 0x1000000) % 0x100000
    -- a block of more than 0x2000 bytes an index shows its first 0x2000 (assumption log 63)
    blockRange s b (r / 0x2000) (r % 0x2000) 8
  else zeros 8

def telemetryBytes (s : State) (off len : Nat) : Bytes :=
  (List.range (len / 8)).flatMap (fun i => telemetryWord s (off + 8 * i))

end Sys2Proof.Machine
end

