-- ==== Sys2Proof/Machine/RackCore.lean ====
section
/-! DEFINITION. Messages to the rack manager, the mode in force and the ownership state: what changes together (R380, R384,
R385, R390). -/

namespace Sys2Proof.Machine

/-- Out of chip reset and with its Easel running. -/
def awake (s : State) : Bool := s.boot.powered && !s.boot.inReset && s.boot.easelReady

/-! ### Messages (R384, R385) -/

/-- The tag of a message: the first 16 bytes of the HMAC-SHA-256 over all earlier bytes. -/
def rackTag (key msg : Bytes) : Bytes := (leBytes 32 (Config.hmacSha256 key msg).toNat).take 16

/-- Send a message of a type; without a configuration image the device knows neither key nor address and sends none. -/
def sendRack (typ : Nat) (body : Bytes) (s : State) : State :=
  match s.boot.config with
  | none => s
  | some c =>
    let n := s.tray.devSeq + 1
    let m := leBytes 2 typ ++ leBytes 2 (32 + body.length) ++ leBytes 4 n.toNat ++ leBytes 4 s.boot.chipTag.toNat ++ zeros 4 ++ body
    emit (.rack (c.netAddress, c.netPort) c.rmAddress c.rmPort (m ++ rackTag c.rmKey m)) (updTray (fun t => { t with devSeq := n }) s)

/-- The body of DEV_HEARTBEAT. -/
def heartbeatBody (s : State) : Bytes :=
  [BitVec.ofNat 8 (ownership s), BitVec.ofNat 8 s.power.mode,
    BitVec.ofNat 8 (fields [(0, boolNat s.tray.rmSilent), (1, boolNat s.tray.twin.heard), (2, boolNat (synchronised s))]), 0] ++
    leBytes 4 s.tick.number.toNat ++ leBytes 2 (s.power.power / 1000) ++ leBytes 2 (wrapInt 16 s.power.tjMax) ++
    leBytes 4 s.tray.policySeq.toNat ++ leBytes 2 s.tray.policyStatus.toNat ++ zeros 6

def sendDevHeartbeat (s : State) : State := if awake s then sendRack 0x0101 (heartbeatBody s) s else s

def sendTelemetry (s : State) : State := if awake s then sendRack 0x0102 (statusRecord s ++ trayRecord s) s else s

/-- DEV_HEARTBEAT (R385): every 100 ms. -/
def execDevHeartbeat (s : State) : Res := .next (sendDevHeartbeat s)

/-- DEV_TELEMETRY (R385): every 1 s. -/
def execDevTelemetry (s : State) : Res := .next (sendTelemetry s)

/-! ### Ownership (R380) -/

/-- `YG_STATUS.ownership` read `old`: a change sets `INT_CAUSE.owner` and is told to the rack manager (R328, R380, R385). -/
def noteOwner (old : Nat) (s : State) : State := if ownership s = old then s else sendDevHeartbeat (setCauseBoth 9 s)

/-- Enter an ownership state with a cause of R387. A device that enters *Standby* is not synchronised until it commits an
epoch (R383). -/
def setOwn (new : OwnState) (cause : Nat) (s : State) : State :=
  let old := s.tray.own
  if old = new then s
  else
    let c := ownership s
    let s := updTray (fun t => { t with own := new, freshCommit := t.freshCommit && !(new = .standby) }) s
    let s := raise 0x0100 0xFFFF ([BitVec.ofNat 8 (ownCode old), BitVec.ofNat 8 (ownCode new)] ++ leBytes 2 cause) s
    noteOwner c s

/-! ### The mode in force (R390 to R392) -/

def govFloor (s : State) : Nat := (s.boot.config.map (·.govFloor)).getD 16
def ballastMax (s : State) : Nat := (s.boot.config.map (·.ballastMax)).getD 150

/-- The mode that the budget in force asks for (R392). -/
def budgetMode (s : State) : Nat :=
  if s.power.budget ≥ 541 + 389 * (govFloor s : Rat) / 64 then 0 else if s.power.budget ≥ 545 then 2 else 3

/-- The highest-numbered request; a thermal trip holds P3 (R390, R397). -/
def modeAsked (s : State) : Nat :=
  let p := s.power
  max p.commanded (max p.ceiling (max (budgetMode s) (max (if p.alert || p.alertHold.isSome then 3 else 0)
    (max p.thermal (max (if p.overcurrent then 3 else 0) (if p.tripped then 3 else 0))))))

/-- Put the asked mode in force, with the cause of R404; a fall by alert, thermal step, over-current or trip is
protective. -/
def settleMode (cause : Nat) (s : State) : State :=
  let old := s.power.mode
  let new := modeAsked s
  if old = new then s
  else
    let protective := decide (old < new) && (cause = 4 || cause = 5 || cause = 6)
    let s := updPower (fun p => { p with mode := new
                                         protect := p.protect || protective
                                         protectCause := if protective then cause else p.protectCause }) s
    let s := raise 0x0120 0xFFFF [BitVec.ofNat 8 old, BitVec.ofNat 8 new, BitVec.ofNat 8 cause] (powerCount 0 1 s)
    sendDevHeartbeat s

/-- A power alert asks for P3 (R390): counted, told, and in force. -/
def alertRequest (s : State) : State := settleMode 4 (raise 0x0121 0xFFFF [] (powerCount 1 1 s))

end Sys2Proof.Machine
end

