-- ==== Sys2Proof/Machine/Cooling.lean ====
section
/-! DEFINITION. The cooling loops and their alarms (R362, R364). Duties in 0.1%, temperatures in 0.1 °C, flows in
0.1 L/min, tachs in rpm. -/

namespace Sys2Proof.Machine

/-! ### Inputs (R359) -/

/-- The frequency of a tach's pulses in mHz: those of 10 µs and more count, up to 1 kHz (R456). -/
def tachMilliHz (t : PulseTrain) : Nat :=
  min 1000000 ((t.widths.filter (fun w => decide (10000 ≤ w))).length * 1000000000000 / t.span)

/-- A tach of two pulses per revolution, in rpm, rounded down (assumption log 130). -/
def tachRpm (t : PulseTrain) : Nat := tachMilliHz t * 60 / 2000

/-- Pulses per litre of the flow meters, from the configuration image. -/
def flowPulses (s : State) : Nat := (s.boot.config.map (·.flowPulses)).getD Config.flowPulses

/-- A flow meter's reading in 0.1 L/min: from mHz, counted up to 5 kHz (R456), rounded down (assumption log 130). -/
def flowRate (s : State) (mHz : Nat) : Nat := min 5000000 mHz * 600 / (1000 * flowPulses s)

/-- The active device drives the tray. -/
def runsTray (s : State) : Bool := awake s && s.tray.own = .active && s.tray.outputs

/-- Both pumps are held at 99.0%. -/
def pumpsHeld (s : State) : Bool := s.tray.flowAlarm || s.tray.coolantHot

/-- Pump `n` is held at 99.0%: both are, or the other one has failed. -/
def pumpHeld (s : State) (n : Nat) : Bool := pumpsHeld s || bitOf s.tray.pumpAlarm.toNat (1 - n)

/-- One update of a duty toward `aim` within its bounds, by at most 2.0 points. -/
def dutyMove (lo hi : Nat) (cur : Nat) (aim : Int) : Nat :=
  (clampInt 10 990 ((cur : Int) + clampInt (-20) 20 (clampInt lo hi aim - (cur : Int)))).toNat

/-- The duty that each pump is driven at: an alarm's, or back toward the loop's. -/
def drivePumps (s : State) : State :=
  updTray (fun t => { t with pumpDrive := (List.range 2).map (fun n =>
    if pumpHeld s n then 990
    else (((nth t.pumpDrive n : Nat) : Int) + clampInt (-20) 20 ((t.pumpDuty : Int) - ((nth t.pumpDrive n : Nat) : Int))).toNat) }) s

/-- An alarm's action at once: held pumps and fans go to 99.0%. -/
def applyAlarms (s : State) : State :=
  updTray (fun t => { t with
    pumpDuty := if pumpsHeld s then 990 else t.pumpDuty
    fanDuty := if s.tray.coolantHot then 990 else t.fanDuty
    pumpDrive := (List.range 2).map (fun n => if pumpHeld s n then 990 else nth t.pumpDrive n) }) s

/-- Where a loop steers a duty: up while it is too hot, down while it is too cold, by a free step of at most 2.0 points
(assumption log 124). -/
def steer (cur : Nat) (is target : Int) (step : Nat) : Int :=
  if is > target then (cur : Int) + ((step % 21 : Nat) : Int)
  else if is < target then (cur : Int) - ((step % 21 : Nat) : Int) else (cur : Int)

/-- Every alarm of the pumps overrides the pump loop, which keeps its duty until the alarm lifts (R400, R401). -/
def pumpLoopHeld (s : State) : Bool := pumpsHeld s || s.tray.pumpAlarm != 0

def pumpLoop (outlet : Int) (step : Nat) (s : State) : State :=
  if pumpLoopHeld s then s
  else
    let lo := s.policy.pumpLo
    let hi := s.policy.pumpHi
    let x := dutyMove lo hi s.tray.pumpDuty (steer s.tray.pumpDuty outlet s.policy.coolTarget step)
    let pin : Pin := { lo := x = lo, hi := x = hi }
    raiseReached 0x10 0xFFFF s.tray.pumpPinned pin (updTray (fun t => { t with pumpDuty := x, pumpPinned := pin }) s)

def fanLoop (air : Int) (step : Nat) (s : State) : State :=
  if s.tray.coolantHot then s
  else
    let lo := s.policy.fanLo
    let hi := s.policy.fanHi
    let x := dutyMove lo hi s.tray.fanDuty (steer s.tray.fanDuty air s.policy.airTarget step)
    let pin : Pin := { lo := x = lo, hi := x = hi }
    raiseReached 0x11 0xFFFF s.tray.fanPinned pin (updTray (fun t => { t with fanDuty := x, fanPinned := pin }) s)

/-- The hottest air sensor among those that pass their checks. -/
def hottestAir (l : List TempReading) : Option Int :=
  (l.filter (·.plausible)).foldl (fun m r => some (match m with
    | none => r.value
    | some x => max x r.value)) none

/-- I3C sensors that fail: each raises SENSOR_FAULT once as it begins to, and control is kept (R375). -/
def judgeSensors (l : List TempReading) (s : State) : State :=
  let bad := (l.zipIdx.filter (fun e => !e.1.plausible)).map (fun e => 4 + e.2)
  let was := s.tray.sensorBad
  forEach (bad.filter (fun i => !was.contains i)) (fun i => raise 0x010C i []) (updTray (fun t => { t with sensorBad := bad }) s)

/-- One update of both loops; a loop whose sensor fails keeps its duty. -/
def coolingUpdate (outlet inlet : TempReading) (air : List TempReading) (s : State) : State :=
  if !runsTray s then s
  else
    let s := judgeSensors (outlet :: inlet :: air) s
    let s := when outlet.plausible (fun s =>
      withFree (fun x => pumpLoop outlet.value x) (updTray (fun t => { t with coolOut := outlet.value }) s)) s
    drivePumps (match hottestAir air with
      | none => s
      | some a => withFree (fun x => fanLoop a x) s)

/-- COOLING_LOOP_UPDATE (R362): what the coolant sensors and the air sensors of bus 2 read (assumption log 125 numbers
them). -/
def execCoolingLoopUpdate (outlet inlet : TempReading) (air : List TempReading) (s : State) : Res :=
  .next (coolingUpdate outlet inlet air s)

/-! ### Alarms (R364) -/

def alarmNumber : Alarm → Nat
  | .pump n => n
  | .flow => 2
  | .coolant => 3
  | .fan n => 4 + n

def alarmOn (s : State) : Alarm → Bool
  | .pump n => bitOf s.tray.pumpAlarm.toNat n
  | .flow => s.tray.flowAlarm
  | .coolant => s.tray.coolantHot
  | .fan n => bitOf s.tray.fanFault.toNat n

def setAlarm (a : Alarm) (on : Bool) (t : Tray) : Tray :=
  match a with
  | .pump n => { t with pumpAlarm := if on then t.pumpAlarm ||| (1 : BitVec 2) <<< n else t.pumpAlarm &&& ~~~((1 : BitVec 2) <<< n) }
  | .flow => { t with flowAlarm := on }
  | .coolant => { t with coolantHot := on }
  | .fan n => { t with fanFault := if on then t.fanFault ||| (1 : BitVec 8) <<< n else t.fanFault &&& ~~~((1 : BitVec 8) <<< n) }

def alarmCode : Alarm → Nat
  | .pump _ => 0x0108
  | .flow => 0x0109
  | .fan _ => 0x010A
  | .coolant => 0x010B

def alarmSource : Alarm → Nat
  | .pump n => n
  | .fan n => n
  | _ => 0xFFFF

/-- The condition of an alarm stands now: it is raised once, and its 10 s of absence start anew. -/
def alarmSeen (a : Alarm) (data : Bytes) (s : State) : State :=
  let now := s.now
  let was := alarmOn s a
  let s := updTray (fun t => { setAlarm a true t with alarmSeen := tset t.alarmSeen (alarmNumber a) now }) s
  if was then s else applyAlarms (raise (alarmCode a) (alarmSource a) data (trayCount 11 1 s))

def pumpAlarmed (n : Nat) (tach : PulseTrain) (s : State) : State :=
  if runsTray s && decide (tachRpm tach < nth s.policy.pumpTachMin n ∧ 200 ≤ nth s.tray.pumpDrive n) then
    alarmSeen (.pump n) (leBytes 2 (tachRpm tach)) s
  else s

/-- PUMP_ALARM (R364): the tach has stayed low for 50 ms. -/
def execPumpAlarm (n : Nat) (tach : PulseTrain) (s : State) : Res := onUnit (decide (n < 2)) (pumpAlarmed n tach) s

/-- The lower plausible reading of two. -/
def lowerPlausible (a b : Reading) : Option Nat :=
  if a.plausible && b.plausible then some (min a.value b.value)
  else if a.plausible then some a.value else if b.plausible then some b.value else none

def flowSampled (a b : Reading) (s : State) : State :=
  if !awake s || decide (s.boot.role.toNat ≥ 2) then s
  else match lowerPlausible a b with
    | none => s
    | some x =>
      let f := flowRate s x
      let low := if f < s.policy.flowMin then s.tray.flowLow + 1 else 0
      let s := updTray (fun t => { t with flowNow := f, flowLow := min low 5 }) s
      if runsTray s && decide (low ≥ 5) then alarmSeen .flow (leBytes 2 f) s else s

/-- FLOW_SAMPLE (R364): every 1 ms. -/
def execFlowSample (flow0 flow1 : Reading) (s : State) : Res := .next (flowSampled flow0 flow1 s)

def coolantIsHot (outlet : Int) (s : State) : State :=
  if runsTray s && decide (outlet > (s.policy.coolTarget : Int) + 100) then
    alarmSeen .coolant (leBytes 2 (wrapInt 16 outlet)) (updTray (fun t => { t with coolOut := outlet }) s)
  else s

/-- COOLANT_HOT (R364): the outlet has stayed hot for 1 s. -/
def execCoolantHot (outlet : Int) (s : State) : Res := .next (coolantIsHot outlet s)

def fanFaulted (n : Nat) (tach : PulseTrain) (s : State) : State :=
  if runsTray s && decide (tachRpm tach < nth s.policy.fanTachMin n) then alarmSeen (.fan n) (leBytes 2 (tachRpm tach)) s else s

/-- FAN_FAULT (R364): the tach has stayed low for 1 s. -/
def execFanFault (n : Nat) (tach : PulseTrain) (s : State) : Res := onUnit (decide (n < 8)) (fanFaulted n tach) s

/-- The reading that an alarm's events carry: a tach in rpm, the flow or the outlet temperature as last sampled (R387). -/
def alarmData (a : Alarm) (tach : PulseTrain) (s : State) : Bytes :=
  match a with
  | .pump _ => leBytes 2 (tachRpm tach)
  | .fan _ => leBytes 2 (tachRpm tach)
  | .flow => leBytes 2 s.tray.flowNow
  | .coolant => leBytes 2 (wrapInt 16 s.tray.coolOut)

def alarmEnds (a : Alarm) (tach : PulseTrain) (s : State) : State :=
  if awake s && s.tray.own = .active && alarmOn s a &&
      decide (tgetD s.tray.alarmSeen (alarmNumber a) 0 + 10000000000 ≤ s.now) then
    raiseWith (alarmCode a) (alarmSource a) (alarmData a tach s) true
      (updTray (fun t => { setAlarm a false t with alarmSeen := tdel t.alarmSeen (alarmNumber a) }) s)
  else s

/-- COOLING_ALARM_END (R364): `tach` is what a pump's or a fan's tach shows at the end. -/
def execCoolingAlarmEnd (alarm : Alarm) (tach : PulseTrain) (s : State) : Res := onUnit alarm.ok (alarmEnds alarm tach) s

end Sys2Proof.Machine
end

