-- ==== Sys2Proof/Machine/Jalivo.lean ====
section
/-! DEFINITION. How a Jalivo command is judged and run (R332, R339): the shared frame of every command row. -/

namespace Sys2Proof.Machine

/-- A command that has begun and whose answer waits for something to end. -/
def inProgress (s : State) (src : CmdSrc) : Bool :=
  s.sketch.commit.any (fun c => c.src = src) || s.host.washes.any (fun w => w.src = src) ||
    s.streams.sealing.any (fun e => e.2 = src) || s.health.tests.any (fun t => t.src = some src) ||
    s.boot.writing.any (fun w => w.1 = src) || s.tray.handover.any (fun h => h.1 = src)

/-- A command that acts on the tray (R345, R352). -/
def isTray (b : Bytes) : Bool :=
  let op := cmdOpcode b
  op = 0xA0 || op = 0xA1 ||
    (op = 0x70 && (List.range (cmdParamLen b / 8)).any (fun i => decide (leAt b (32 + 8 * i) 2 ≥ 0x100)))

/-- Run the command of a source: `mine` names the row's own opcode and action, `lenOk` its parameter lengths, `f` judges
from step 6 on and acts, given the parameters. Table-writing commands wait while a commit is in progress (R37). -/
def command (src : CmdSrc) (mine lenOk : Bytes → Bool) (f : Bytes → State → State) (s : State) : State :=
  match commandOf s src with
  | none => s
  | some b =>
    if !s.boot.easelReady || inProgress s src || !mine b then s
    else match earlyRefusal s src b with
      | some st => finish src st [] s
      | none =>
        if !(lenOk b && bytesFit b) then finish src stBadLength [] s
        else if isTray b && s.tray.own != .active then finish src stNotOwner [] s
        else if cmdClass (cmdOpcode b) = some 2 && s.sketch.commit.isSome then s
        else f (cmdParams b) s

/-- The row's opcode. -/
def isOp (op : Nat) (b : Bytes) : Bool := cmdOpcode b = op
/-- A STREAM_DEFINE action, or a CHIP_RESET kind. -/
def isSub (op k : Nat) (b : Bytes) : Bool := cmdOpcode b = op && subCode b = k
/-- `param_len` is exactly `n`. -/
def plen (n : Nat) (b : Bytes) : Bool := cmdParamLen b = n

/-- Answer with a refusal, or go on. -/
def refuseIf (src : CmdSrc) (checks : List (Bool × W16)) (f : State → State) (s : State) : State :=
  match checks.find? (·.1) with
  | some c => finish src c.2 [] s
  | none => f s

/-- Answer `OK` without results after acting. -/
def done (src : CmdSrc) (s : State) : State := finish src stOk [] s

end Sys2Proof.Machine
end

