-- ==== Sys2Proof/Machine/ConfigSpace.lean ====
section
/-! DEFINITION. The configuration space of the two PCI Express functions: when a function answers, and what each word of it
reads (R322, R434). Where the capabilities stand in it, and their registers' values at reset, follow the PCI Express Base
Specification (assumption log 122). -/

namespace Sys2Proof.Machine

/-- The function of a port answers: its link is up and the PCI Express stage has ended (R434, R442, R453). -/
def linkOk (s : State) (hp : HostPort) : Bool :=
  s.boot.powered && !s.boot.inReset && s.boot.pcieUp && (fnOf s hp).linkUp && !(fnOf s hp).perst

/-- BAR0 of a port answers: the function answers and is in D0, and the host has assigned BAR0 and enabled memory accesses
(R322, R434; assumption log 122). -/
def barOk (s : State) (hp : HostPort) : Bool :=
  linkOk s hp && !(fnOf s hp).d3hot && (fnOf s hp).barSet && (fnOf s hp).mse

/-- Device Serial Number: bits [63:0] of the identity digest. -/
def serialNumber (s : State) : W64 := w64 (leAt s.boot.identity 0 8)

/-- The Type 0 header: identifiers, class and revision, BAR0, the subsystem identifiers of the configuration image. -/
def typeZeroWord (s : State) (f : HostFn) (off : Nat) : W32 :=
  if off = 0x00 then 0x96001D5C
  else if off = 0x04 then w32 (0x00100000 + 2 * boolNat f.mse + 4 * boolNat f.bme + f.pcie.command.toNat)
  else if off = 0x08 then w32 (0x0B400000 + ygRevision / 256)
  else if off = 0x10 then f.bar0.setWidth 32 &&& 0xFFFF0000 ||| 4
  else if off = 0x14 then (f.bar0 >>> 32).setWidth 32
  else if off = 0x2C then
    w32 ((s.boot.config.map (fun c => c.subVendor.toNat + 65536 * c.subSystem.toNat)).getD 0)
  else if off = 0x34 then 0x40
  else if off = 0x3C then f.pcie.intLine.setWidth 32
  else 0

/-- Power management (D0 and D3hot), then MSI-X with 64 vectors, its table at 0xE000 and its pending bits at 0xF000. -/
def powerMsixWord (f : HostFn) (off : Nat) : W32 :=
  if off = 0x40 then 0x00035001
  else if off = 0x44 then w32 (8 + 3 * boolNat f.d3hot)
  else if off = 0x50 then w32 (0x003F7011 + 2 ^ 30 * boolNat f.msixMaskAll + 2 ^ 31 * boolNat f.msixEnable)
  else if off = 0x54 then 0xE000
  else if off = 0x58 then 0xF000
  else 0

/-- PCI Express: an endpoint for Flit mode with Function Level Reset, a Max_Payload_Size of 512 bytes, ×8 at 64 GT/s and
10-bit tags; the rate and width to which the link trained. -/
def pcieWord (f : HostFn) (off : Nat) : W32 :=
  if off = 0x70 then 0x80020010
  else if off = 0x74 then 0x10008022
  else if off = 0x78 then f.pcie.devCtl.setWidth 32
  else if off = 0x7C then 0x00400086
  else if off = 0x80 then w32 (f.pcie.linkCtl.toNat + 65536 * (f.link.rate % 16 + 16 * (f.link.width % 64)))
  else if off = 0x94 then 0x00030000
  else if off = 0x98 then f.pcie.devCtl2.setWidth 32
  else if off = 0x9C then 0x7E
  else if off = 0xA0 then w32 (f.pcie.linkCtl2.toNat + 65536 * 1024)
  else 0

/-- Advanced Error Reporting, then the Device Serial Number. -/
def extendedWord (s : State) (f : HostFn) (off : Nat) : W32 :=
  if off = 0x100 then 0x15020001
  else if off = 0x104 then f.pcie.aerUncorr
  else if off = 0x108 then f.pcie.aerUncorrMask
  else if off = 0x10C then f.pcie.aerUncorrSev
  else if off = 0x110 then f.pcie.aerCorr
  else if off = 0x114 then f.pcie.aerCorrMask
  else if off = 0x118 then f.pcie.aerCtl
  else if 0x11C ≤ off && off < 0x12C then f.pcie.aerLog.getD ((off - 0x11C) / 4) 0
  else if off = 0x150 then 0x00010003
  else if off = 0x154 then (serialNumber s).setWidth 32
  else if off = 0x158 then ((serialNumber s) >>> 32).setWidth 32
  else 0

/-- A word of the configuration space; what no register names reads as zero. -/
def configWord (s : State) (f : HostFn) (off : Nat) : W32 :=
  if off % 4 != 0 then 0
  else if off < 0x40 then typeZeroWord s f off
  else if off < 0x70 then powerMsixWord f off
  else if off < 0x100 then pcieWord f off
  else extendedWord s f off

/-- What a read of configuration space is answered with (R434): between the release of chip reset and the end of the PCI
Express stage, Configuration Request Retry Status; a port whose link is down gives no answer. -/
def readConfig (s : State) (hp : HostPort) (off : Nat) : ConfigAnswer :=
  if linkOk s hp then .value (configWord s (fnOf s hp) off)
  else if s.boot.powered && !s.boot.inReset && !s.boot.pcieUp && !(fnOf s hp).perst then .retry
  else .none

end Sys2Proof.Machine
end

