-- ==== Sys2Proof/Machine/HostIf.lean ====
section
/-! DEFINITION. The two PCI Express functions: BAR0 registers, command and completion rings, event rings, interrupts,
resets of one function (R322 to R334, R453). -/

namespace Sys2Proof.Machine

/-- The port that `boot_src` names; none: a boot from flash (R327, R433). -/
def bootPort (s : State) : Option HostPort :=
  if s.boot.bootSrc = 1 then some .a else if s.boot.bootSrc = 2 then some .b else none

/-! ### Command rings (R329 to R333) -/

def ringError (hp : HostPort) (s : State) : State := setCause hp 6 s

/-- Halt a ring (R333). -/
def haltRing (hp : HostPort) (r : Nat) (s : State) : State :=
  ringError hp (hostCount 7 1 (updRing hp r (fun x => { x with halted := true }) s))

def ringSize (x : Ring) : Nat := 2 ^ x.crSize.toNat
def cqSizeOf (x : Ring) : Nat := 2 ^ x.cqSize.toNat

/-- `cr_tail` at or above the ring size halts an enabled ring. -/
def checkTail (hp : HostPort) (r : Nat) (s : State) : State :=
  let x := ringOf s hp r
  if x.enable && !x.halted && decide (ringSize x ≤ x.crTail.toNat) then haltRing hp r s else s

def doorbell (hp : HostPort) (r : Nat) (v : W32) (s : State) : State :=
  if !barOk s hp then s
  else checkTail hp r (updRing hp r (fun x => { x with crTail := v.setWidth 12 }) s)

/-- DOORBELL_WRITE (R331). -/
def execDoorbellWrite (hp : HostPort) (r : Nat) (value : W32) (s : State) : Res :=
  onUnit (decide (r < 4)) (doorbell hp r value) s

/-- The ring may be enabled: both sizes within 4 to 12, both bases multiples of 4,096. -/
def ringFit (x : Ring) : Bool :=
  decide (4 ≤ x.crSize.toNat ∧ x.crSize.toNat ≤ 12 ∧ 4 ≤ x.cqSize.toNat ∧ x.cqSize.toNat ≤ 12) &&
    decide (x.crBaseLo.toNat % 4096 = 0) && decide (x.cqBaseLo.toNat % 4096 = 0)

/-- A ring's command after a reset: one that executes completes without a completion, one that has finished goes. -/
def discardCmd (c : Option RingCmd) : Option RingCmd :=
  match c with
  | none => none
  | some x => if x.reply.isSome then none else some { x with discard := true }

/-- Clear both rings' indices and `halted`. -/
def clearRing (x : Ring) : Ring :=
  { x with crHead := 0, crTail := 0, cqHead := 0, cqTail := 0, halted := false, phase := true, cmd := discardCmd x.cmd }

/-- Write the control register of a ring: `reset` acts first, then `enable`. -/
def ringControl (hp : HostPort) (r : Nat) (v : W32) (s : State) : State :=
  if !barOk s hp then s
  else
    let s := when (v.getLsbD 1) (updRing hp r clearRing) s
    if !v.getLsbD 0 then updRing hp r (fun x => { x with enable := false }) s
    else if ringFit (ringOf s hp r) then checkTail hp r (updRing hp r (fun x => { x with enable := true }) s)
    else ringError hp (updRing hp r (fun x => { x with enable := false }) s)

/-- RING_ENABLE_WRITE (R329). -/
def execRingEnableWrite (hp : HostPort) (r : Nat) (value : W32) (s : State) : Res :=
  onUnit (decide (r < 4)) (ringControl hp r value) s

/-- RING_RESET (R329): `reset` alone, `enable` staying as it is. -/
def execRingReset (hp : HostPort) (r : Nat) (s : State) : Res :=
  onUnit (decide (r < 4)) (when (barOk s hp) (updRing hp r clearRing)) s

/-- The entry that a fetch read (R330); none: it halts the ring. -/
def fetchedCmd (x : Ring) (f : RingFetch) : Option RingCmd :=
  let e := padTo 64 f.entry
  let len := leAt e 8 4
  if f.error || leAt e 0 8 % 8 != 0 || leAt e 16 8 % 8 != 0 || !decide (32 ≤ len ∧ len ≤ 4096) || decide (leAt e 24 4 > 4080)
  then none
  else some { bytes := padTo len f.cmd, index := x.crHead, resAddr := w64 (leAt e 16 8), resCap := leAt e 24 4
              cookie := w64 (leAt e 32 8) }

/-- The completion ring has no empty entry. -/
def cqFull (x : Ring) : Bool := decide ((x.cqTail.toNat + 1) % cqSizeOf x = x.cqHead.toNat)

/-- The ring is served, its completion ring has an empty entry, and its next entry may be fetched (R331 to R333, R323). -/
def mayFetch (s : State) (hp : HostPort) (r : Nat) : Bool :=
  let x := ringOf s hp r
  awake s && x.enable && !x.halted && x.cmd.isNone && !cqFull x && x.crHead != x.crTail && masters (fnOf s hp) && barOk s hp

/-- A command without a row of its own is answered as soon as it runs. -/
def settleRing (hp : HostPort) (r : Nat) (s : State) : State :=
  match commandOf s (.ring hp r) with
  | none => s
  | some b => match rowless s (.ring hp r) b with
    | none => s
    | some st => finish (.ring hp r) st [] s

def fetchEntry (hp : HostPort) (r : Nat) (f : RingFetch) (s : State) : State :=
  if !mayFetch s hp r then s
  else
    let x := ringOf s hp r
    match fetchedCmd x f with
    | none => haltRing hp r s
    | some c => settleRing hp r (updRing hp r (fun x => { x with
        crHead := BitVec.ofNat 12 ((x.crHead.toNat + 1) % ringSize x), cmd := some c }) s)

/-- RING_ENTRY_FETCH (R331, R332). -/
def execRingEntryFetch (hp : HostPort) (r : Nat) (fetch : RingFetch) (s : State) : Res :=
  onUnit (decide (r < 4)) (fetchEntry hp r fetch) s

/-- The completion entry (R333). -/
def completionBytes (c : RingCmd) (r : Reply) (phase : Bool) : Bytes :=
  let n := min r.result.length c.resCap
  leBytes 2 r.status.toNat ++ leBytes 2 r.tag.toNat ++ leBytes 2 n ++ leBytes 2 c.index.toNat ++ leBytes 8 c.cookie.toNat ++
    leBytes 2 r.opcode.toNat ++ zeros 6 ++
    leBytes 4 (boolNat phase + 2 * boolNat (decide (r.result.length > c.resCap))) ++ zeros 4

def postCompletion (hp : HostPort) (r : Nat) (error : Bool) (s : State) : State :=
  let x := ringOf s hp r
  match x.cmd with
  | none => s
  | some c =>
    match c.reply with
    | none => s
    | some rep =>
      if !(x.enable && !x.halted && masters (fnOf s hp) && barOk s hp) || cqFull x then s
      else if error then haltRing hp r s
      else
        let res := rep.result.take c.resCap
        let s := when (!res.isEmpty) (emit (.hostWrite hp c.resAddr res)) s
        let s := emit (.hostWrite hp (ringAddr x.cqBaseLo x.cqBaseHi 32 x.cqTail.toNat) (completionBytes c rep x.phase)) s
        let t := (x.cqTail.toNat + 1) % cqSizeOf x
        let s := updRing hp r (fun y => { y with
          cqTail := BitVec.ofNat 12 t, phase := if t = 0 then !y.phase else y.phase, cmd := none }) s
        if cmdNoIrq c.bytes then releaseHeld hp (notePosted hp s)
        else releaseHeld hp (setCause hp r (notePosted hp s))

/-- COMPLETION_POST (R333): `error` is a PCI Express error on the writes. -/
def execCompletionPost (hp : HostPort) (r : Nat) (error : Bool) (s : State) : Res :=
  onUnit (decide (r < 4)) (postCompletion hp r error) s

/-- CQ_HEAD_WRITE (R333). -/
def execCqHeadWrite (hp : HostPort) (r : Nat) (value : W32) (s : State) : Res :=
  onUnit (decide (r < 4)) (when (barOk s hp) (updRing hp r (fun x => { x with cqHead := value.setWidth 12 }))) s

/-! ### The event ring (R334, R336) -/

def eventRingFit (f : HostFn) : Bool :=
  decide (4 ≤ f.erSize.toNat ∧ f.erSize.toNat ≤ 12) && decide (f.erBaseLo.toNat % 4096 = 0)

def clearEventRing (f : HostFn) : HostFn := { f with erHead := 0, erTail := 0, erPhase := true }

/-- Write `er_ctrl`. -/
def eventControl (hp : HostPort) (v : W32) (s : State) : State :=
  if !barOk s hp then s
  else
    let s := updFn hp (fun f => { f with classMask := (v >>> 8).setWidth 8 }) (when (v.getLsbD 1) (updFn hp clearEventRing) s)
    if !v.getLsbD 0 then updFn hp (fun f => { f with erEnable := false }) s
    else if eventRingFit (fnOf s hp) then updFn hp (fun f => { f with erEnable := true }) s
    else ringError hp (updFn hp (fun f => { f with erEnable := false }) s)

/-- EVENT_RING_ENABLE_WRITE (R334). -/
def execEventRingEnableWrite (hp : HostPort) (value : W32) (s : State) : Res := .next (eventControl hp value s)

/-- EVENT_RING_RESET (R334): `reset` alone, the other fields staying as they are. -/
def execEventRingReset (hp : HostPort) (s : State) : Res := .next (when (barOk s hp) (updFn hp clearEventRing) s)

/-- ER_HEAD_WRITE (R336). -/
def execErHeadWrite (hp : HostPort) (value : W32) (s : State) : Res :=
  .next (when (barOk s hp) (updFn hp (fun f => { f with erHead := value.setWidth 12 })) s)

/-! ### Interrupts (R11, R328) -/

/-- INT_CAUSE_CLEAR: `raised` are the causes that the device sets in the same cycle: each reads 1 afterwards, and one that
read 0 before is set as ever (R11, R328). -/
def clearCauses (hp : HostPort) (v : W32) (raised : BitVec 10) (s : State) : State :=
  let s := when (barOk s hp) (updFn hp (fun f => { f with intCause := f.intCause &&& ~~~(v.setWidth 10 &&& ~~~raised) })) s
  forEach (maskList 10 raised.toNat) (setCause hp) s

/-- INT_CAUSE_CLEAR (R328). -/
def execIntCauseClear (hp : HostPort) (value : W32) (raised : BitVec 10) (s : State) : Res :=
  .next (clearCauses hp value raised s)

/-- A new mask: a held message of a masked cause is dropped; a cause set and newly unmasked sends its message at once, from
which completions and events are then counted anew (assumption log 17). -/
def writeMask (hp : HostPort) (v : W32) (s : State) : State :=
  if !barOk s hp then s
  else
    let f := fnOf s hp
    let m : BitVec 10 := v.setWidth 10
    let freed := f.intMask &&& ~~~m &&& f.intCause
    let held := f.heldCauses &&& ~~~(m ||| freed)
    let sent := freed &&& 0x1F != 0
    forEach (maskList 10 freed.toNat) (sendCause hp) (updFn hp (fun f => { f with
      intMask := m, heldCauses := held, posted := if sent then 0 else f.posted
      firstHeld := if sent && held = 0 then none else f.firstHeld }) s)

/-- INT_MASK_WRITE (R328). -/
def execIntMaskWrite (hp : HostPort) (value : W32) (s : State) : Res := .next (writeMask hp value s)

/-- INTERRUPT_COALESCE_EXPIRE (R328): `co_time` has passed since the first held completion or event. -/
def execInterruptCoalesceExpire (hp : HostPort) (s : State) : Res := .next (releaseHeld hp s)

/-- Send the pending messages whose vectors are no longer masked. -/
def flushPending (hp : HostPort) (s : State) : State :=
  let f := fnOf s hp
  if !f.msixEnable || !masters f || !f.linkUp then s
  else forEach ((maskList 64 f.msixPba.toNat).filter (fun v => !vectorMasked f v)) (fun v => sendVector hp (BitVec.ofNat 6 v)) s

/-! ### Access to BAR0 (R10, R324, R325) -/

/-- An access that R324 accepts. -/
def accessFits (offset bytes : Nat) : Bool :=
  (bytes = 4 && offset % 4 = 0) || (bytes = 8 && offset % 8 = 0)

/-- An access that R324 does not accept: it changes nothing and is counted. -/
def badAccess (hp : HostPort) (offset bytes : Nat) (s : State) : State :=
  when (barOk s hp && !accessFits offset bytes) (hostCount 7 1) s

/-- BAR0_BAD_ACCESS (R324): a read takes zero, as `readAccess` has it, and a write changes nothing. -/
def execBar0BadAccess (hp : HostPort) (offset bytes : Nat) (_write : Bool) (s : State) : Res :=
  .next (badAccess hp offset bytes s)

/-! ### Boot registers (R327, R435) -/

/-- `BOOT_STATUS` changes: the cause is set on the boot port. -/
def setBootStatus (v : BitVec 2) (s : State) : State :=
  if s.boot.bootStatus = v then s
  else
    let s := updBoot (fun b => { b with bootStatus := v }) s
    match bootPort s with
    | none => s
    | some hp => setCause hp 7 s

/-- The ROM reads its image from flash: where `boot_src` says so, and in a restart of the Easel until both banks have failed
(R409, R424). -/
def readsFlash (s : State) : Bool := (bootPort s).isNone || (s.boot.restarting && s.boot.bootStatus = 2)

/-- The ROM waits for a fetch from this port's host. -/
def waitsForFetch (s : State) (hp : HostPort) : Bool :=
  barOk s hp && bootPort s = some hp && s.boot.hbmTrained && s.boot.rootDone && s.boot.secret.isSome && !s.boot.fwAccepted &&
    s.boot.bootStatus != 1 && !readsFlash s && !s.boot.easelStopped

def startFetch (hp : HostPort) (s : State) : State :=
  if !waitsForFetch s hp then s
  else if decide (4096 ≤ s.boot.bootLen.toNat ∧ s.boot.bootLen.toNat ≤ 67108864) then setBootStatus 1 s
  else setBootStatus 3 s

/-- BOOT_FETCH_START (R435). -/
def execBootFetchStart (hp : HostPort) (s : State) : Res := .next (startFetch hp s)

/-! ### Register writes -/

/-- A write to the registers of ring `r` at offset `o` within them. -/
def writeRingReg (hp : HostPort) (r o : Nat) (v : W32) (s : State) : State :=
  let base := fun (f : Ring → Ring) => updRing hp r (fun x => if x.enable then x else f x) s
  if o = 0x00 then base (fun x => { x with crBaseLo := v })
  else if o = 0x04 then base (fun x => { x with crBaseHi := v })
  else if o = 0x08 then base (fun x => { x with crSize := v.setWidth 4 })
  else if o = 0x0C then doorbell hp r v s
  else if o = 0x14 then ringControl hp r v s
  else if o = 0x20 then base (fun x => { x with cqBaseLo := v })
  else if o = 0x24 then base (fun x => { x with cqBaseHi := v })
  else if o = 0x28 then base (fun x => { x with cqSize := v.setWidth 4 })
  else if o = 0x2C then updRing hp r (fun x => { x with cqHead := v.setWidth 12 }) s
  else s

/-- A write to the event ring's registers. -/
def writeEventReg (hp : HostPort) (o : Nat) (v : W32) (s : State) : State :=
  let base := fun (g : HostFn → HostFn) => updFn hp (fun f => if f.erEnable then f else g f) s
  if o = 0x300 then base (fun f => { f with erBaseLo := v })
  else if o = 0x304 then base (fun f => { f with erBaseHi := v })
  else if o = 0x308 then base (fun f => { f with erSize := v.setWidth 4 })
  else if o = 0x30C then updFn hp (fun f => { f with erHead := v.setWidth 12 }) s
  else if o = 0x314 then eventControl hp v s
  else s

/-- A write to the boot registers: on the boot port alone. -/
def writeBootReg (hp : HostPort) (o : Nat) (v : W32) (s : State) : State :=
  if bootPort s != some hp then s
  else if o = 0x20 then updBoot (fun b => { b with bootAddrLo := v }) s
  else if o = 0x24 then updBoot (fun b => { b with bootAddrHi := v }) s
  else if o = 0x28 then updBoot (fun b => { b with bootLen := v }) s
  else if o = 0x2C && v.getLsbD 0 then startFetch hp s
  else s

/-- A 32-bit write to BAR0; offsets without a register, and read-only ones, ignore it. -/
def writeBar0 (hp : HostPort) (off : Nat) (v : W32) (s : State) : State :=
  if !barOk s hp || off % 4 != 0 then s
  else if off = 0x1C then updFn hp (fun f => { f with scratch := v }) s
  else if 0x20 ≤ off && off ≤ 0x30 then writeBootReg hp off v s
  else if off = 0x100 then clearCauses hp v 0 s
  else if off = 0x104 then writeMask hp v s
  else if off = 0x108 then
    releaseHeld hp (updFn hp (fun f => { f with coCount := v.setWidth 8, coTime := (v >>> 8).setWidth 16 }) s)
  else if 0x140 ≤ off && off < 0x168 then
    updFn hp (fun f => { f with vec := f.vec.set ((off - 0x140) / 4) (v.setWidth 6) }) s
  else if 0x200 ≤ off && off < 0x300 then writeRingReg hp ((off - 0x200) / 0x40) ((off - 0x200) % 0x40) v s
  else if 0x300 ≤ off && off < 0x318 then writeEventReg hp off v s
  else if 0xE000 ≤ off && off < 0xE400 then
    flushPending hp (updFn hp (fun f => { f with msixTable := tset f.msixTable ((off - 0xE000) / 4) v }) s)
  else s

/-- Bus Master Enable is set (R323). -/
def setBusMaster (hp : HostPort) (s : State) : State :=
  flushPending hp (updFn hp (fun f => { f with bme := true }) s)

def updPcie (hp : HostPort) (f : PcieRegs → PcieRegs) (s : State) : State := updFn hp (fun x => { x with pcie := f x.pcie }) s

/-- The command register: Memory Space and Bus Master Enable, and the bits without effect here. -/
def writeCommand (hp : HostPort) (v : W32) (s : State) : State :=
  let s := updPcie hp (fun r => { r with command := v.setWidth 16 &&& 0x0540 }) (updFn hp (fun f => { f with mse := v.getLsbD 1 }) s)
  if v.getLsbD 2 then setBusMaster hp s else updFn hp (fun f => { f with bme := false }) s

/-- Ring, event and interrupt registers and MSI-X state as at reset, and nothing else (R323, R440). -/
def functionReset (f : HostFn) : HostFn :=
  { linkUp := f.linkUp, link := f.link, perst := f.perst, bme := f.bme, d3hot := f.d3hot, mse := f.mse, barSet := f.barSet
    bar0 := f.bar0, pcie := f.pcie, scratch := f.scratch
    rings := f.rings.map (fun x => { ({} : Ring) with cmd := discardCmd x.cmd }) }

/-- Device Control: bit 15 starts a Function Level Reset and is not kept. -/
def writeDevCtl (hp : HostPort) (v : W32) (s : State) : State :=
  let s := updPcie hp (fun r => { r with devCtl := v.setWidth 16 &&& 0x7FFF }) s
  when (v.getLsbD 15) (updFn hp functionReset) s

/-- A write to an error register: status bits are cleared by writing 1, masks and severities are set. -/
def writeAer (hp : HostPort) (off : Nat) (v : W32) (s : State) : State :=
  updPcie hp (fun r =>
    if off = 0x104 then { r with aerUncorr := r.aerUncorr &&& ~~~v } else if off = 0x108 then { r with aerUncorrMask := v }
    else if off = 0x10C then { r with aerUncorrSev := v } else if off = 0x110 then { r with aerCorr := r.aerCorr &&& ~~~v }
    else if off = 0x114 then { r with aerCorrMask := v } else if off = 0x118 then { r with aerCtl := v } else r) s

/-- A write of a word of configuration space. BAR0 is 64 KiB: its address has zeros below bit 16 (R322). -/
def writeConfig (hp : HostPort) (off : Nat) (v : W32) (s : State) : State :=
  if off = 0x04 then writeCommand hp v s
  else if off = 0x10 then updFn hp (fun f => { f with
    barSet := true, bar0 := f.bar0 &&& 0xFFFFFFFF00000000 ||| (v &&& 0xFFFF0000).setWidth 64 }) s
  else if off = 0x14 then updFn hp (fun f => { f with
    barSet := true, bar0 := f.bar0 &&& 0xFFFFFFFF ||| v.setWidth 64 <<< 32 }) s
  else if off = 0x3C then updPcie hp (fun r => { r with intLine := v.setWidth 8 }) s
  else if off = 0x44 then
    (if v &&& 3 = 0 || v &&& 3 = 3 then flushPending hp (updFn hp (fun f => { f with d3hot := decide (v &&& 3 = 3) }) s) else s)
  else if off = 0x50 then flushPending hp (updFn hp (fun f => { f with msixEnable := v.getLsbD 31, msixMaskAll := v.getLsbD 30 }) s)
  else if off = 0x78 then writeDevCtl hp v s
  else if off = 0x80 then updPcie hp (fun r => { r with linkCtl := v.setWidth 16 }) s
  else if off = 0x98 then updPcie hp (fun r => { r with devCtl2 := v.setWidth 16 }) s
  else if off = 0xA0 then updPcie hp (fun r => { r with linkCtl2 := v.setWidth 16 }) s
  else writeAer hp off v s

/-- A write by the host: to BAR0, aligned as R324 has it, or to the function's configuration space. -/
def writeRegister (hp : HostPort) (w : RegWrite) (s : State) : State :=
  if !linkOk s hp then s
  else match w with
  | .bar0 off v => if accessFits off 4 then writeBar0 hp off v s else badAccess hp off 4 s
  | .bar0Wide off v =>
    if accessFits off 8 then writeBar0 hp (off + 4) ((v >>> 32).setWidth 32) (writeBar0 hp off (v.setWidth 32) s)
    else badAccess hp off 8 s
  | .config off v => writeConfig hp off v s
  | .powerState d3 => flushPending hp (updFn hp (fun f => { f with d3hot := d3 }) s)
  | .busMaster on => if on then setBusMaster hp s else updFn hp (fun f => { f with bme := false }) s
  | .msixControl e m => flushPending hp (updFn hp (fun f => { f with msixEnable := e, msixMaskAll := m }) s)

/-- REGISTER_WRITE (R10). -/
def execRegisterWrite (hp : HostPort) (write : RegWrite) (s : State) : Res := .next (writeRegister hp write s)

/-- BUS_MASTER_ENABLE_SET (R323). -/
def execBusMasterEnableSet (hp : HostPort) (s : State) : Res := .next (when (linkOk s hp) (setBusMaster hp) s)

/-! ### Reads of BAR0 (R325 to R334) -/

def readRing (x : Ring) (o : Nat) : W32 :=
  if o = 0x00 then x.crBaseLo else if o = 0x04 then x.crBaseHi else if o = 0x08 then x.crSize.setWidth 32
  else if o = 0x0C then x.crTail.setWidth 32 else if o = 0x10 then x.crHead.setWidth 32
  else if o = 0x14 then
    w32 (fields [(0, boolNat x.enable), (2, boolNat x.halted), (3, boolNat (x.cmd.any (fun c => c.reply.isNone)))])
  else if o = 0x20 then x.cqBaseLo else if o = 0x24 then x.cqBaseHi else if o = 0x28 then x.cqSize.setWidth 32
  else if o = 0x2C then x.cqHead.setWidth 32 else if o = 0x30 then x.cqTail.setWidth 32
  else 0

def readBoot (s : State) (hp : HostPort) (o : Nat) : W32 :=
  if bootPort s != some hp then 0
  else if o = 0x20 then s.boot.bootAddrLo else if o = 0x24 then s.boot.bootAddrHi else if o = 0x28 then s.boot.bootLen
  else if o = 0x30 then s.boot.bootStatus.setWidth 32
  else 0

/-- What an aligned 32-bit read of BAR0 returns: a port whose BAR0 does not answer returns all ones (the link is down). -/
def readBar0 (s : State) (hp : HostPort) (off : Nat) : W32 :=
  let f := fnOf s hp
  if !barOk s hp then BitVec.allOnes 32
  else if off % 4 != 0 then 0
  else if off = 0x00 then w32 ygIdent else if off = 0x04 then w32 ygRevision
  else if off = 0x08 then s.boot.chipTag else if off = 0x0C then w32 (ygEndpoint s) else if off = 0x10 then w32 (ygStraps s)
  else if off = 0x14 then w32 (ygStatus s) else if off = 0x18 then s.tick.number else if off = 0x1C then f.scratch
  else if 0x20 ≤ off && off ≤ 0x30 then readBoot s hp off
  else if off = 0x100 then f.intCause.setWidth 32 else if off = 0x104 then f.intMask.setWidth 32
  else if off = 0x108 then w32 (f.coCount.toNat + 256 * f.coTime.toNat)
  else if 0x140 ≤ off && off < 0x168 then (f.vec.getD ((off - 0x140) / 4) 0).setWidth 32
  else if 0x200 ≤ off && off < 0x300 then readRing (ringOf s hp ((off - 0x200) / 0x40)) ((off - 0x200) % 0x40)
  else if off = 0x300 then f.erBaseLo else if off = 0x304 then f.erBaseHi else if off = 0x308 then f.erSize.setWidth 32
  else if off = 0x30C then f.erHead.setWidth 32 else if off = 0x310 then f.erTail.setWidth 32
  else if off = 0x314 then w32 (boolNat f.erEnable + 256 * f.classMask.toNat)
  else if 0xE000 ≤ off && off < 0xE400 then
    let k := (off - 0xE000) / 4
    tgetD f.msixTable k (if k % 4 = 3 then 1 else 0)
  else if off = 0xF000 then f.msixPba.setWidth 32 else if off = 0xF004 then (f.msixPba >>> 32).setWidth 32
  else 0

/-- What a read of BAR0 returns (R324): an aligned 64-bit read takes two registers, the lower offset first; an access of
another size or place reads as zero; a BAR0 that does not answer, all ones. -/
def readAccess (s : State) (hp : HostPort) (off bytes : Nat) : W64 :=
  if !barOk s hp then BitVec.allOnes 64
  else if !accessFits off bytes then 0
  else if bytes = 8 then (readBar0 s hp off).setWidth 64 ||| (readBar0 s hp (off + 4)).setWidth 64 <<< 32
  else (readBar0 s hp off).setWidth 64

/-! ### Resets of one function (R323, R440, R453) -/

/-- FUNCTION_LEVEL_RESET (R323). -/
def execFunctionLevelReset (hp : HostPort) (s : State) : Res := .next (updFn hp functionReset s)

/-- PERST_ASSERT (R453). -/
def execPerstAssert (hp : HostPort) (s : State) : Res :=
  .next (updFn hp (fun f => { functionReset f with perst := true, linkUp := false }) s)

/-- PERST_RELEASE (R453): the port may train again, where the PCI Express stage has ended, and its link comes up as `link`
says: lanes in reverse order and inverted ones are corrected (R322, R458). -/
def execPerstRelease (hp : HostPort) (link : PcieLink) (s : State) : Res :=
  .next (when (fnOf s hp).perst (updFn hp (fun f => { f with
    perst := false, link := link, linkUp := s.boot.powered && !s.boot.inReset && s.boot.pcieUp })) s)

end Sys2Proof.Machine
end

