-- ==== Sys2Proof/Machine/PolicyRules.lean ====
section
/-! DEFINITION. The policy fields of R352: their indices and ranges (R61, R88, R132, R202, R344, R388, R399), the relations
between them, and how a list of entries is judged and applied. -/

namespace Sys2Proof.Machine

/-- Indices of a field's scope; none: a reserved identifier. -/
def fieldScope (id : Nat) : Option (List Nat) :=
  if id = 0x01 || id = 0x02 || id = 0x03 then some [0]
  else if decide (0x04 ≤ id ∧ id ≤ 0x0A) then some (List.range 12)
  else if id = 0x0B || id = 0x0C || id = 0x10 || id = 0x11 then some (List.range 96)
  else if id = 0x12 then some [0]
  else if id = 0x13 then some [1, 2, 3, 5, 6, 7]
  else if id = 0x14 then some (List.range 768)
  else if decide (0x20 ≤ id ∧ id ≤ 0x22) then some [0]
  else if id = 0x23 then some (List.range 8)
  else if decide (0x24 ≤ id ∧ id ≤ 0x26) then some (List.range 3)
  else if decide (0x27 ≤ id ∧ id ≤ 0x29) || id = 0x30 || id = 0x40 then some [0]
  else if decide (0x100 ≤ id ∧ id ≤ 0x106) || id = 0x10A then some [0]
  else if id = 0x107 then some (List.range 2)
  else if id = 0x108 then some (List.range 8)
  else if id = 0x109 then some (List.range 64)
  else if id = 0x120 then some ((List.range 32).filter (fun i => decide (i % 8 ≤ 5)))
  else none

/-- The value lies in the field's range at index `i`. -/
def valueOk (id i v : Nat) : Bool :=
  let within := fun lo hi => decide (lo ≤ v ∧ v ≤ hi)
  if id = 0x01 then within 1 255 else if id = 0x02 then within 1 254 else if id = 0x03 then within 0 253
  else if id = 0x04 || id = 0x05 then within 0 4095
  else if id = 0x06 then within 20 44
  else if id = 0x07 || id = 0x08 then within 0 30
  else if id = 0x09 then within 0 32 else if id = 0x0A then within 0 16
  else if id = 0x0B then v = 2 || v = 4 || v = 8
  else if id = 0x0C then within 20 60000
  else if id = 0x10 then within 0 100000
  else if id = 0x11 || id = 0x12 then within 1 64
  else if id = 0x13 then within 1 15
  else if id = 0x14 then (if i % 8 = 4 || i % 8 = 5 then within 16 8192 else within 0 8192)
  else if id = 0x20 then within 250 64000 && decide (v % 250 = 0)
  else if id = 0x21 || id = 0x22 then within 1 1000
  else if id = 0x23 then decide (-4 ≤ signedOf 32 v ∧ signedOf 32 v ≤ 3)
  else if id = 0x24 || id = 0x25 then within 0 64
  else if id = 0x26 then within 0 256
  else if id = 0x27 then within 0 15
  else if id = 0x28 || id = 0x29 then within 1 15
  else if id = 0x30 then within 0 393216
  else if id = 0x40 then within 0 255
  else if id = 0x100 || id = 0x101 then within 200 990
  else if id = 0x102 || id = 0x103 then within 10 990
  else if id = 0x104 || id = 0x105 then within 200 600
  else if id = 0x106 then within 10 500
  else if id = 0x107 then within 100 10000
  else if id = 0x108 then within 100 20000
  else if id = 0x109 then within 130 190
  else if id = 0x10A then within 10 3600
  else if id = 0x120 then within 100 130
  else false

/-- Write a field at one index. -/
def setField (id i v : Nat) (p : Policy) : Policy :=
  if id = 0x01 then { p with fomGood := v }
  else if id = 0x02 then { p with fomWarn := v }
  else if id = 0x03 then { p with fomRetrain := v }
  else if id = 0x04 then { p with heaterLo := p.heaterLo.set i v }
  else if id = 0x05 then { p with heaterHi := p.heaterHi.set i v }
  else if id = 0x06 then { p with modBias := p.modBias.set i v }
  else if id = 0x07 then { p with ctleLo := p.ctleLo.set i v }
  else if id = 0x08 then { p with ctleHi := p.ctleHi.set i v }
  else if id = 0x09 then { p with ffeLimit := p.ffeLimit.set i v }
  else if id = 0x0A then { p with dfeLimit := p.dfeLimit.set i v }
  else if id = 0x0B then { p with minWidth := p.minWidth.set i v }
  else if id = 0x0C then { p with probePeriod := p.probePeriod.set i v }
  else if id = 0x10 then { p with grace := p.grace.set i v }
  else if id = 0x11 then { p with crunGap := p.crunGap.set i v }
  else if id = 0x12 then { p with ackTimeout := v }
  else if id = 0x13 then { p with vcWeight := p.vcWeight.set i v }
  else if id = 0x14 then { p with grant := p.grant.set i v }
  else if id = 0x20 then { p with escapeTimer := v }
  else if id = 0x21 then { p with holdTimeout := v }
  else if id = 0x22 then { p with stallVoid := v }
  else if id = 0x23 then { p with alphaK := p.alphaK.set i (signedOf 32 v) }
  else if id = 0x24 then { p with wredMin := p.wredMin.set i v }
  else if id = 0x25 then { p with wredMax := p.wredMax.set i v }
  else if id = 0x26 then { p with wredPmax := p.wredPmax.set i v }
  else if id = 0x27 then { p with wredW := v }
  else if id = 0x28 then { p with rwLo := v }
  else if id = 0x29 then { p with rwHi := v }
  else if id = 0x30 then { p with parkCells := v }
  else if id = 0x40 then { p with inbandClasses := v }
  else if id = 0x100 then { p with pumpLo := v }
  else if id = 0x101 then { p with pumpHi := v }
  else if id = 0x102 then { p with fanLo := v }
  else if id = 0x103 then { p with fanHi := v }
  else if id = 0x104 then { p with coolTarget := v }
  else if id = 0x105 then { p with airTarget := v }
  else if id = 0x106 then { p with flowMin := v }
  else if id = 0x107 then { p with pumpTachMin := p.pumpTachMin.set i v }
  else if id = 0x108 then { p with fanTachMin := p.fanTachMin.set i v }
  else if id = 0x109 then { p with laserSet := p.laserSet.set i v }
  else if id = 0x10A then { p with snapshotInterval := v }
  else if id = 0x120 then { p with railLimit := p.railLimit.set i v }
  else p

/-- The indices that an entry names: all of the scope for 0xFFFF, none when the index is not in it. -/
def entryIndices (e : PolicyEntry) : List Nat :=
  match fieldScope e.id.toNat with
  | none => []
  | some l => if e.index = 0xFFFF then l else if l.contains e.index.toNat then [e.index.toNat] else []

/-- An entry's identifier, index and value are allowed by themselves. -/
def entryOk (e : PolicyEntry) : Bool :=
  !(entryIndices e).isEmpty && (entryIndices e).all (fun i => valueOk e.id.toNat i e.value.toNat)

def applyEntry (e : PolicyEntry) (p : Policy) : Policy :=
  (entryIndices e).foldl (fun p i => setField e.id.toNat i e.value.toNat p) p

/-- Later values of a repeated field win. -/
def applyEntries (l : List PolicyEntry) (p : Policy) : Policy := l.foldl (fun p e => applyEntry e p) p

/-- Sum of the lossless grants over all ports (R187). -/
def grantSum (p : Policy) : Nat :=
  p.grant.zipIdx.foldl (fun n e => if e.2 % 8 = 5 then n else n + e.1) 0

/-- The relations between fields: the identifiers and index of each (none: any index), and whether it holds. -/
def relations (p : Policy) : List (List Nat × Option Nat × Bool) :=
  [([1, 2, 3], none, decide (p.fomRetrain < p.fomWarn ∧ p.fomWarn < p.fomGood))] ++
  (List.range 12).map (fun i => ([4, 5], some i, decide (nth p.heaterLo i ≤ nth p.heaterHi i))) ++
  (List.range 12).map (fun i => ([7, 8], some i, decide (nth p.ctleLo i ≤ nth p.ctleHi i))) ++
  [([0x14], none, decide (grantSum p ≤ 786432))] ++
  (List.range 3).map (fun i => ([0x24, 0x25], some i, decide (nth p.wredMin i < nth p.wredMax i))) ++
  [([0x28, 0x29], none, decide (p.rwLo ≤ p.rwHi)), ([0x100, 0x101], none, decide (p.pumpLo ≤ p.pumpHi)),
    ([0x102, 0x103], none, decide (p.fanLo ≤ p.fanHi))]

/-- The entry sets a field of a relation. VC 5's grants are no part of the grant sum (R187). -/
def touches (r : List Nat × Option Nat × Bool) (e : PolicyEntry) : Bool :=
  r.1.contains e.id.toNat && (match r.2.1 with
    | none => e.id != 0x14 || (entryIndices e).any (fun i => i % 8 != 5)
    | some i => (entryIndices e).contains i)

/-- The number of the first failing entry, if any fails (R352). -/
def policyFault (p : Policy) (l : List PolicyEntry) : Option Nat :=
  let broken := (relations (applyEntries (l.filter entryOk) p)).filter (fun r => !r.2.2)
  l.findIdx? (fun e => !entryOk e || broken.any (fun r => touches r e &&
    !((l.takeWhile (fun x => !(x = e))).any (touches r))))

/-- Drop the entries that touch a relation they would break together, until those left break none; each round drops one at
least. -/
def settleEntries (p : Policy) : Nat → List PolicyEntry → List PolicyEntry
  | 0, l => l
  | n + 1, l =>
    let broken := (relations (applyEntries l p)).filter (fun r => !r.2.2)
    if broken.isEmpty then l else settleEntries p n (l.filter (fun e => !broken.any (fun r => touches r e)))

/-- The policy entries of a configuration image that give starting values (R202, R352): those in range, less all that touch
a relation they would break together (assumption log 83). -/
def imageEntries (p : Policy) (l : List PolicyEntry) : List PolicyEntry :=
  let ok := l.filter entryOk
  settleEntries p ok.length ok

/-- Entries of 8 bytes (R352). -/
def parseEntries (b : Bytes) : List PolicyEntry :=
  (List.range (b.length / 8)).map (fun i =>
    { id := w16 (leAt b (8 * i) 2), index := w16 (leAt b (8 * i + 2) 2), value := w32 (leAt b (8 * i + 4) 4) })

def isTrayEntry (e : PolicyEntry) : Bool := decide (e.id.toNat ≥ 0x100)

/-- The active controller writes these set points to its laser sources and these limits to its conversion modules, over I3C
(R46, R388, R399). -/
def driveSettings (lasers rails : List Nat) (s : State) : State :=
  let s := forEach lasers (fun i s => emit (.laserSource i (nth s.policy.laserSet i)) s) s
  let s := forEach rails (fun i s => emit (.railModule i (nth s.policy.railLimit i)) s) s
  updTray (fun t => { t with lasers := s.policy.laserSet, modules := s.policy.railLimit }) s

/-- Indices of a field that entries set, a value set anew to what it was among them. -/
def indicesSet (id : Nat) (l : List PolicyEntry) : List Nat :=
  ((l.filter (fun e => e.id.toNat = id)).flatMap entryIndices).eraseDups

/-- Apply entries that have passed. Tray and power fields are applied by the active controller alone (R352, R385), and an
epoch follows each change of them in cold mode (R371). -/
def applyPolicy (l : List PolicyEntry) (s : State) : State :=
  let active := s.tray.own = .active
  let l := if active then l else l.filter (fun e => !isTrayEntry e)
  let now := s.now
  let s := { s with policy := applyEntries l s.policy }
  if l.any isTrayEntry then
    updTray (fun t => { t with policyAt := now, sendDue := true }) (driveSettings (indicesSet 0x109 l) (indicesSet 0x120 l) s)
  else s

end Sys2Proof.Machine
end

