-- ==== Sys2Proof/Machine/StreamCore.lean ====
section
/-! DEFINITION. The stream store's tables and checks (09, R266 to R290): segment and stream entries, tiles, work items, the
content rules and the capacity checks, and tiles on their way through staging. -/

namespace Sys2Proof.Machine

/-! ### Entries (R268, R273, R279) -/

def sgValid (e : Nat) : Bool := bitOf e 0
def sgRes (e : Nat) : Nat := bitsOf e 1 2
def sgReady (e : Nat) : Bool := bitOf e 3
def sgHost (e : Nat) : HostPort := if bitOf e 4 then .b else .a
def sgSize (e : Nat) : Nat := bitsOf e 8 11
def sgBytes (e : Nat) : Nat := 65536 * sgSize e
def sgCrc (e : Nat) : Nat := bitsOf e 32 32
def sgLoc (e : Nat) : Nat := bitsOf e 64 64
/-- Store address of a local segment. -/
def sgStore (e : Nat) : Nat := 65536 * bitsOf e 64 22
/-- A local segment. -/
def sgLocal (e : Nat) : Bool := sgValid e && sgRes e = 0

def stValid (e : Nat) : Bool := bitOf e 0
def stServed (e : Nat) : Bool := bitOf e 1
def stCode (e : Nat) : Nat := bitsOf e 2 3
def stLead (e : Nat) : Nat := bitsOf e 8 8
def stOut (e : Nat) : Nat := bitsOf e 16 16
def stBase (e : Nat) : Nat := bitsOf e 32 32
def stSegBase (e : Nat) : Nat := bitsOf e 64 18
def stSegCount (e : Nat) : Nat := bitsOf e 82 19
def stCursor (e : Nat) : Nat := bitsOf e 128 32
def tileBytes (e : Nat) : Nat := 256 * 2 ^ stCode e

def itStream (x : W64) : Nat := bitsOf x.toNat 0 16
def itCount (x : W64) : Nat := bitsOf x.toNat 16 13
def itSet (x : W64) : Nat := bitsOf x.toNat 32 14

/-- The stream tables: those in force, or as they would stand. A list entry in `lost` names no valid segment (R408). -/
structure StreamTables where
  segments : Table (BitVec 128)
  streams : Table (BitVec 192)
  segList : Table (BitVec 18)
  lost : List Nat := []
  deriving DecidableEq, Repr

def streamTables (s : State) : StreamTables :=
  { segments := s.streams.segments, streams := s.streams.streams, segList := s.streams.segList }

/-- The stream tables as checks see them (R408). -/
def liveTables (s : State) : StreamTables :=
  { segments := live s 7 s.streams.segments, streams := live s 8 s.streams.streams, segList := s.streams.segList
    lost := (s.health.badTables.filter (fun e => e.1 = 9)).map (·.2) }

def StreamTables.seg (t : StreamTables) (i : Nat) : Nat := (tgetD t.segments i 0).toNat
def StreamTables.stream (t : StreamTables) (i : Nat) : Nat := (tgetD t.streams i 0).toNat
def StreamTables.listed (t : StreamTables) (i : Nat) : Nat := (tgetD t.segList i 0).toNat
/-- The segments of a stream, in list order. -/
def StreamTables.segsOf (t : StreamTables) (e : Nat) : List Nat := (List.range (stSegCount e)).map (fun i => t.listed (stSegBase e + i))
/-- Tiles of a stream (R274). -/
def StreamTables.tiles (t : StreamTables) (e : Nat) : Nat := (t.segsOf e).foldl (fun n g => n + sgBytes (t.seg g)) 0 / tileBytes e

/-- Entries as lookups see them: an uncorrectable entry acts as one with `valid` 0 (R408). -/
def segAt (s : State) (i : Nat) : Nat := if badEntry s 7 i then 0 else (streamTables s).seg i
def streamAt (s : State) (i : Nat) : Nat := if badEntry s 8 i then 0 else (streamTables s).stream i

def updSeg (i : Nat) (f : BitVec 128 → BitVec 128) (s : State) : State :=
  updStreams (fun x => { x with segments := tmod x.segments i f }) s

def setReady (i : Nat) (on : Bool) (s : State) : State :=
  updSeg i (fun e => if on then e ||| (8 : BitVec 128) else e &&& ~~~(8 : BitVec 128)) s

def setCursor (i n : Nat) (s : State) : State :=
  updStreams (fun x => { x with streams := tmod x.streams i (fun e =>
    (e &&& ~~~(BitVec.ofNat 192 ((2 ^ 32 - 1) * 2 ^ 128))) ||| BitVec.ofNat 192 (n % 2 ^ 32 * 2 ^ 128)) }) s

/-- Walk a stream's segment list, from list entry `i`, to a byte offset: the list entry, the segment, the offset in it. -/
def locate (s : State) : Nat → List Nat → Nat → Option (Nat × Nat × Nat)
  | _, [], _ => none
  | i, g :: gs, off =>
    let n := sgBytes ((streamTables s).seg g)
    if off < n then some (i, g, off) else locate s (i + 1) gs (off - n)

/-- The place of tile `t` of a stream. -/
def tilePlace (s : State) (e t : Nat) : Option (Nat × Nat × Nat) :=
  locate s (stSegBase e) ((streamTables s).segsOf e) (t * tileBytes e)

/-! ### Content rules (R269, R274) -/

/-- Bytes of the stream store (R266). -/
def storeBytes : Nat := 266287972352

/-- The fields that the map marks zero for the entry's residence are zero; reserved bits are ignored (R8). -/
def segZeros (e : Nat) : Bool :=
  if sgRes e = 0 then decide (bitsOf e 4 1 = 0 ∧ bitsOf e 86 42 = 0)
  else if sgRes e = 1 then decide (sgCrc e = 0 ∧ bitsOf e 64 16 = 0)
  else decide (bitsOf e 4 1 = 0 ∧ sgCrc e = 0 ∧ bitsOf e 80 48 = 0)

/-- Bytes of the valid local segments. -/
def localBytes (t : StreamTables) : Nat :=
  t.segments.foldl (fun n e => if sgLocal e.2.toNat then n + sgBytes e.2.toNat else n) 0

/-- Local segments overlap. -/
def overlaps (a b : Nat) : Bool := decide (sgStore a < sgStore b + sgBytes b ∧ sgStore b < sgStore a + sgBytes a)

/-- One segment entry passes R269, given the tables, the routes and the own identifier. A range beyond the store is left to
the capacity check when the store is exceeded in total. -/
def segOk (t : StreamTables) (routeOk : Nat → Bool) (me : W16) (i e : Nat) : Bool :=
  !sgValid e ||
    (decide (sgRes e ≠ 3 ∧ 1 ≤ sgSize e ∧ sgSize e ≤ 1024) && segZeros e &&
      (sgRes e != 0 || ((decide (sgStore e + sgBytes e ≤ storeBytes) || decide (localBytes t > storeBytes)) &&
        t.segments.all (fun x => x.1 = i || !sgLocal x.2.toNat || !overlaps e x.2.toNat))) &&
      (sgRes e != 2 || (decide (bitsOf (sgLoc e) 0 16 < 0xFFF0 ∧ bitsOf (sgLoc e) 0 16 ≠ me.toNat) && routeOk (bitsOf (sgLoc e) 0 16))))

def hostFed (t : StreamTables) (e : Nat) : Bool := (t.segsOf e).any (fun g => sgRes (t.seg g) = 1)

/-- One stream entry passes R274. -/
def streamOk (t : StreamTables) (e : Nat) : Bool :=
  !stValid e ||
    (decide (stCode e ≤ 4 ∧ 1 ≤ stLead e ∧ stLead e ≤ 15 ∧ 1 ≤ stSegCount e ∧ stSegBase e + stSegCount e ≤ 262144) &&
      (t.segsOf e).all (fun g => sgValid (t.seg g)) &&
      t.lost.all (fun i => !decide (stSegBase e ≤ i ∧ i < stSegBase e + stSegCount e)) &&
      (!hostFed t e || (t.segsOf e).all (fun g => sgRes (t.seg g) = 1)) &&
      (!(stServed e || hostFed t e) || decide (stLead e ≥ 8)) &&
      (!stServed e || (t.segsOf e).all (fun g => sgRes (t.seg g) = 0)))

/-- The first failing item: section type and index. -/
def streamFault (t : StreamTables) (routeOk : Nat → Bool) (me : W16) : Option (Nat × Nat) :=
  match t.segments.find? (fun e => !segOk t routeOk me e.1 e.2.toNat) with
  | some e => some (7, e.1)
  | none => (t.streams.find? (fun e => !streamOk t e.2.toNat)).map (fun e => (8, e.1))

/-! ### Capacity checks (R289, R290) -/

/-- The stream items of entry `n` of a plan. -/
def planItems (pl : Plans) (n : W64) : List W64 := (pl.items.drop (bitsOf n.toNat 0 18)).take (bitsOf n.toNat 18 5)

def sumNat (l : List Nat) : Nat := l.foldl (· + ·) 0

def itemBytes (t : StreamTables) (x : W64) : Nat := itCount x * tileBytes (t.stream (itStream x))

/-- Bytes of the items of one entry that satisfy `f`. -/
def entryBytes (t : StreamTables) (pl : Plans) (f : Nat → Bool) (e : W64) : Nat :=
  sumNat (((planItems pl e).filter (fun x => f (t.stream (itStream x)))).map (itemBytes t))

/-- Sum over entries `n + a` to `n + b`, taken cyclically. -/
def windowSum (es : List W64) (n a b : Nat) (f : Nat → W64 → Nat) : Nat :=
  if es.isEmpty then 0
  else sumNat ((List.range (b + 1 - a)).map (fun j => f (a + j) (es.getD ((n + a + j) % es.length) 0)))

/-- Staged bytes that tick `n` of a plan needs. -/
def stagedBytes (t : StreamTables) (pl : Plans) (es : List W64) (n : Nat) : Nat :=
  windowSum es n 1 15 (fun d e => entryBytes t pl (fun st => decide (d ≤ stLead st)) e)

def hostBytes64 (t : StreamTables) (pl : Plans) (es : List W64) (n : Nat) : Nat :=
  windowSum es n 0 63 (fun _ e => entryBytes t pl (hostFed t) e)

def hbmBytes8 (t : StreamTables) (pl : Plans) (es : List W64) (n : Nat) : Nat :=
  windowSum es n 0 7 (fun _ e => entryBytes t pl (fun st => !hostFed t st) e)

/-- Every excess of one check over its budget: plan, entry, bytes. -/
def excesses (pl : Plans) (budget : Nat) (f : List W64 → Nat → Nat) : List (Nat × Nat × Nat) :=
  (pl.entries.zipIdx.flatMap (fun e => (List.range e.1.length).map (fun n => (e.2, n, f e.1 n - budget)))).filter
    (fun x => x.2.2 != 0)

/-- The largest, the first of equals. -/
def largest (l : List (Nat × Nat × Nat)) : Nat × Nat × Nat :=
  l.foldl (fun a x => if x.2.2 > a.2.2 then x else a) (0, 0, 0)

/-- The shortfalls of R289: store, staging, host-fed, HBM, and the plan and entry of the largest rate or staging excess. -/
structure Shortfall where
  store : Nat
  staging : Nat
  host : Nat
  hbm : Nat
  plan : Nat
  entry : Nat
  deriving DecidableEq, Repr

def capacityShort (t : StreamTables) (plans : Option Plans) (period : Nat) : Shortfall :=
  let store := localBytes t - storeBytes
  match plans with
  | none => { store := store, staging := 0, host := 0, hbm := 0, plan := 0, entry := 0 }
  | some pl =>
    let served := t.streams.any (fun e => stValid e.2.toNat && stServed e.2.toNat)
    let a := excesses pl 536870912 (stagedBytes t pl)
    let b := excesses pl (3200 * period) (hostBytes64 t pl)
    let c := if served then excesses pl (90112 * period) (hbmBytes8 t pl) else []
    let w := largest (a ++ b ++ c)
    { store := store, staging := (largest a).2.2, host := (largest b).2.2, hbm := (largest c).2.2, plan := w.1, entry := w.2.1 }

def Shortfall.none_ (x : Shortfall) : Bool := decide (x.store = 0 ∧ x.staging = 0 ∧ x.host = 0 ∧ x.hbm = 0)

/-- The stream shortfall record. -/
def shortfallBytes (x : Shortfall) : Bytes :=
  leBytes 8 x.store ++ leBytes 8 x.staging ++ leBytes 8 x.host ++ leBytes 8 x.hbm ++ leBytes 1 x.plan ++ zeros 3 ++
    leBytes 4 x.entry ++ zeros 8

/-! ### Work items in force (R275, R350) -/

/-- Items of every plan of the sketch in force. -/
def itemsInForce (s : State) : List W64 :=
  match s.sketch.plans with
  | none => []
  | some pl => pl.entries.flatten.flatMap (planItems pl)

def streamNamed (s : State) (i : Nat) : Bool := (itemsInForce s).any (fun x => itStream x = i)

def setNamed (s : State) (i : Nat) : Bool := (itemsInForce s).any (fun x => itSet x = i)

/-! ### Tiles on their way (R280 to R285) -/

def updTile (i : Nat) (f : Tile → Tile) (s : State) : State := updStreams (fun x => { x with tiles := tmod x.tiles i f }) s

def dropTile (i : Nat) (s : State) : State := updStreams (fun x => { x with tiles := tdel x.tiles i }) s

/-- Bytes of staging that tiles being read or staged take. -/
def stagingUsed (s : State) : Nat :=
  s.streams.tiles.foldl (fun n e => if e.2.state = .waiting then n else n + e.2.bytes) 0

/-- `STREAM_UNREADY` (R284): counted; the event at most once per segment per 1 ms. -/
def unreadyTile (g : Nat) (s : State) : State :=
  let s := streamCount 12 1 s
  let due := match tget s.streams.unreadyAt g with
    | none => true
    | some t => decide (t + 1000000 ≤ s.now)
  if due then
    raise 0x0021 0xFFFF (leBytes 4 g) (updStreams (fun x => { x with unreadyAt := tset x.unreadyAt g s.now }) s)
  else s

/-- Schedule tile `t` of a stream for tick `n` (R280). -/
def scheduleTile (n : W32) (plan entry : Nat) (x : W64) (t : Nat) (s : State) : State :=
  let e := streamAt s (itStream x)
  match tilePlace s e t with
  | none => s
  | some (i, g, off) =>
    let sg := if badEntry s 9 i then 0 else segAt s g
    if sgRes sg = 2 && sgValid sg then s
    else if !sgValid sg || (sgRes sg = 0 && !sgReady sg) then unreadyTile g s
    else
      let tl : Tile := {
        stream := itStream x, number := t, tick := n, entry := entry, plan := plan, portSet := itSet x, segment := g
        address := (if sgRes sg = 0 then sgStore sg else sgLoc sg) + off, bytes := tileBytes e
        host := if sgRes sg = 1 then some (sgHost sg) else none }
      updStreams (fun y => { y with tiles := tset y.tiles y.nextTile tl, nextTile := y.nextTile + 1 }) s

/-- Apply the rewinds of a stream that are effective for tick `n` (R275). -/
def applyRewinds (i : Nat) (n : W32) (s : State) : State :=
  let due := s.streams.rewinds.filter (fun r => r.1 = i && !laterTick r.2.1 n)
  let s := forEach due (fun r s => setCursor i r.2.2.toNat s) s
  updStreams (fun x => { x with rewinds := x.rewinds.filter (fun r => !(r.1 = i && !laterTick r.2.1 n)) }) s

/-- Rewinds take effect with their tick, whether or not an item of the stream runs in it (R275). -/
def rewindsDue (n : W32) (s : State) : State :=
  forEach ((s.streams.rewinds.map (·.1)).eraseDups) (fun i => applyRewinds i n) s

/-- Run one stream item of tick `n`: its tiles are scheduled and the cursor moves on (R280); in P2 and P3 it is skipped and
counted (R285). -/
def runItem (n : W32) (plan entry : Nat) (x : W64) (s : State) : State :=
  if !engineRuns s then streamCount 15 1 s
  else
    let i := itStream x
    let s := applyRewinds i n s
    let e := streamAt s i
    let total := (streamTables s).tiles e
    if !stValid e || total = 0 then s
    else
      let c := stCursor e
      let s := forEach (List.range (itCount x)) (fun j s => scheduleTile n plan entry x ((c + j) % total) s) s
      setCursor i ((c + itCount x) % total) s

/-! ### Copies of a tile (R278, R280, R281) -/

/-- Subscriptions that a tile still owes a copy: by their route's `esc_port`, which lies in the port set. -/
def owedSubs (s : State) (t : Tile) : List (Nat × Subscription) :=
  let set := if badEntry s 3 t.portSet then 0 else (tgetD s.switch.portSets t.portSet 0).toNat
  s.streams.subs.filterMap (fun b =>
    let r := routeOf s b.src
    if b.stream.toNat = t.stream && !t.served.contains b.src && routeValid r && decide (escPort r < 96) && bitOf set (escPort r)
    then some (escPort r, b) else none)

/-- The first owed subscriber of each port. -/
def firstPerPort (l : List (Nat × Subscription)) : List (Nat × Subscription) :=
  l.foldl (fun a x => if a.any (fun y => y.1 = x.1) then a else a ++ [x]) []

/-- The index that a tile carries. -/
def tileIndex (e : Nat) (t : Tile) : Nat := (stBase e + t.number) % 2 ^ 32

/-- The landing address (R278). -/
def landing (e : Nat) (t : Tile) (b : Subscription) : BitVec 48 :=
  BitVec.ofNat 48 (b.base.toNat + (tileIndex e t * t.bytes) % (b.size.toNat * 65536))

/-- The next multicast packet of a tile. -/
def tilePacket (s : State) (t : Tile) : Originate :=
  let e := streamAt s t.stream
  { pkt := {
      hdr := { gen := 2, vc := 0, opcode := opStreamData, length := w16 t.bytes, src := ownId s, ftag := w16 (stOut e)
               pois := t.poisoned, opA := w32 (stOut e + 65536 * (tileIndex e t % 65536)), opB := s.tick.number }
      payload := t.data }
    copies := (firstPerPort (owedSubs s t)).map (fun x => { port := x.1, vc := 0, dst := x.2.src, offset := landing e t x.2 })
    multicast := true }

/-- A staged tile may leave: its tick has begun, or is over (R282, R283). -/
def tileDue (s : State) (t : Tile) : Bool :=
  t.state = .staged && s.tick.running && (t.late || !laterTick t.tick s.tick.number)

/-- Staged tiles without an owed copy leave staging once their tick has begun; in P2 and P3 staged tiles are kept (R285). -/
def sweepTiles (s : State) : State :=
  if !engineRuns s then s
  else updStreams (fun x => { x with tiles := x.tiles.filter (fun e => !(tileDue s e.2 && (owedSubs s e.2).isEmpty)) }) s

/-- Tile `t` is scheduled later than `u`: late tiles come before those of the current tick, however long they were kept. -/
def laterTile (t u : Tile) : Bool := if t.late = u.late then laterTick t.tick u.tick else u.late

/-- Tiles that may be written now: those due of the earliest scheduled tick among them (R283). -/
def tilesReady (s : State) : List (Nat × Tile) :=
  let due := s.streams.tiles.filter (fun e => tileDue s e.2 && !(owedSubs s e.2).isEmpty)
  due.filter (fun e => due.all (fun x => !laterTile e.2 x.2))

end Sys2Proof.Machine
end

