-- ==== Sys2Proof/Machine/SketchCore.lean ====
section
/-! DEFINITION. The sketch image (R292 to R298, R305 to R307, R310): its sections, the tables as they would stand after
activation, every content rule, the Canvas checks, and the judgement of a commit (R300 to R302). -/

namespace Sys2Proof.Machine

/-! ### Signed images (R293, R294) -/

/-- SHA-384 over the bytes before the signature block, the digest field taken as zero. -/
def imageDigest (b : Bytes) (sigOff : Nat) : Bytes := digestBytes (b.take 48 ++ zeros 48 ++ (b.take sigOff).drop 96)

/-- The digest field. -/
def statedDigest (b : Bytes) : Bytes := (b.drop 48).take 48

/-- Both signatures over the digest verify under one key pair. -/
def signedBy (ed ml : Bytes) (b : Bytes) (sigOff : Nat) : Bool :=
  Config.ed25519Verify ed (statedDigest b) ((b.drop (sigOff + 8)).take 64) &&
    Config.mldsaVerify ml (statedDigest b) ((b.drop (sigOff + 72)).take 3309)

def keyIndex (b : Bytes) (sigOff : Nat) : Nat := leAt b sigOff 4

/-- `YG_REVISION` of first silicon (R6). -/
def revision : Nat := 0x0100

/-! ### Sections (R295, R296) -/

structure Section where
  typ : Nat
  off : Nat
  len : Nat
  deriving DecidableEq, Repr

def sectionsOf (b : Bytes) : List Section :=
  (List.range (leAt b 12 2)).map (fun i =>
    let o := leAt b 32 4 + 16 * i
    { typ := leAt b o 2, off := leAt b (o + 4) 4, len := leAt b (o + 8) 4 })

def sectionBytes (b : Bytes) (l : List Section) (typ : Nat) : Option Bytes :=
  (l.find? (fun x => x.typ = typ)).map (fun x => (b.drop x.off).take x.len)

def crosses (x y : Section) : Bool := decide (x.off < y.off + y.len ∧ y.off < x.off + x.len)

/-- A section out of place: its type. -/
def misplaced (sigOff : Nat) : List Section → Option Nat
  | [] => none
  | x :: l =>
    if decide (x.off < 128 ∨ x.off % 16 ≠ 0 ∨ x.off + x.len > sigOff ∨ x.typ = 0 ∨ x.typ > 12) ||
      l.any (fun y => crosses x y || y.typ = x.typ) then some x.typ
    else misplaced sigOff l

/-- Sections that are carried together or not at all. -/
def unpaired (l : List Section) : Option Nat :=
  let has := fun n => l.any (fun x => x.typ = n)
  ([(4, 5), (8, 9), (10, 11)].find? (fun p => has p.1 != has p.2)).map (fun p => if has p.1 then p.2 else p.1)

/-- Records of a table section, in order: `size` gives the length of a body from its bytes. Reading ends at the first record
that does not fit, or whose index is out of range or does not rise: its index. -/
def recordsFrom (limit : Nat) (size : Bytes → Nat) : Nat → Option Nat → Bytes → List (Nat × Bytes) × Option Nat
  | 0, _, b => ([], if b.isEmpty then none else some (leAt b 0 4))
  | fuel + 1, last, b =>
    if b.isEmpty then ([], none)
    else
      let i := leAt b 0 4
      let n := size (b.drop 8)
      if b.length < roundUp 8 (8 + n) || i ≥ limit || last.any (fun j => decide (i ≤ j)) then ([], some i)
      else
        let r := recordsFrom limit size fuel (some i) (b.drop (roundUp 8 (8 + n)))
        ((i, (b.drop 8).take n) :: r.1, r.2)

def recordsOf (limit : Nat) (size : Bytes → Nat) (b : Bytes) : List (Nat × Bytes) × Option Nat :=
  recordsFrom limit size (b.length / 16 + 1) none b

/-! ### The tables as they would stand -/

structure Proposed where
  carried : List Nat                        -- section types
  endpoint : W16
  plane : Nat
  roles : List PortRole
  routes : Table (BitVec 128)
  portSets : Table (BitVec 96)
  descs : Table Bytes
  groups : Table Group
  constBlocks : Nat
  schedBlocks : Nat
  constants : Bytes                         -- as carried
  streams : StreamTables
  tickSet : Option TickSettings
  plans : Option Plans
  policy : List PolicyEntry
  deriving DecidableEq, Repr

def parseRoles (b : Bytes) : List PortRole :=
  (List.range 96).map (fun p =>
    { role := BitVec.ofNat 2 (leAt b (16 + 8 * p) 1), expPort := BitVec.ofNat 8 (leAt b (17 + 8 * p) 1)
      expEndpoint := w16 (leAt b (18 + 8 * p) 2) })

/-- How often each expected endpoint stands on the ports of a role, by first appearance. -/
def linkCounts (roles : List PortRole) (r : Nat) : List Nat :=
  let l := (roles.filter (fun x => x.role.toNat = r)).map (·.expEndpoint)
  (l.eraseDups).map (fun e => (l.filter (· = e)).length)

/-- R16: the port roles fit a row of the shape table of R15. -/
def shapeOk (roles : List PortRole) : Bool :=
  let count := fun r => (roles.filter (fun x => x.role.toNat = r)).length
  let rows : List Nat := [4, 6, 8, 12, 16, 24, 32, 48, 96]
  let up := linkCounts roles 2
  let down := linkCounts roles 3
  if count 2 = 0 && count 3 = 0 then true
  else if count 3 = 0 then
    decide (count 2 = 48 ∧ count 1 ≤ 48) &&
      rows.any (fun n => up.length = n / 2 && up.all (· = 96 / n))
  else count 3 = 96 && rows.any (fun n => down.length = n && down.all (· = 96 / n))

/-- The failing item of an Identity section (R297, R16). -/
def identityFault (b : Bytes) : Option Nat :=
  if b.length != 784 || leAt b 0 2 ≥ 0xFFF0 || leAt b 2 1 > 15 then some 0
  else match (List.range 96).find? (fun p => decide (leAt b (16 + 8 * p) 1 > 3)) with
    | some p => some p
    | none => if shapeOk (parseRoles b) then none else some 0

/-- A port role other than *Unused*. -/
def usedPort (roles : List PortRole) (p : Nat) : Bool := decide (p < 96) && (roles.getD p {}).role != 0

/-- R166. -/
def routeEntryOk (roles : List PortRole) (i e : Nat) : Bool :=
  !routeValid e ||
    (decide (bitsOf e 8 4 ≤ 8) && usedPort roles (escPort e) && (routeCands e).all (usedPort roles) &&
      !decide (0xFFF0 ≤ i ∧ i ≤ 0xFFFE))

/-- R195. -/
def portSetOk (roles : List PortRole) (m : Nat) : Bool := (maskList 96 m).all (usedPort roles)

/-- A group entry from its bytes (R207, R208). -/
def parseGroup (b : Bytes) : Group :=
  let h := w64 (leAt b 0 8)
  { header := h, members := (List.range (gMembers h)).map (fun i => w64 (leAt b (8 + 8 * i) 8)) }

def groupSize (b : Bytes) : Nat := 8 + 8 * gMembers (w64 (leAt b 0 8))

/-- Tick settings (R310). -/
def parseTick (b : Bytes) : TickSettings :=
  { period := leAt b 0 4, mode := BitVec.ofNat 8 (leAt b 4 1)
    ports := (List.range (min 4 (leAt b 5 1))).map (fun i => leAt b (6 + i) 1), source := w16 (leAt b 10 2)
    startNumber := w32 (leAt b 12 4), gateMax := leAt b 16 4 }

def tickOk (roles : List PortRole) (me : W16) (t : TickSettings) : Bool :=
  decide (1000 ≤ t.period ∧ t.period ≤ 64000 ∧ t.period % 100 = 0 ∧ t.mode.toNat ≤ 2 ∧ t.gateMax ≤ t.period) &&
    t.ports.all (usedPort roles) &&
    (if t.mode = 0 then !t.ports.isEmpty && t.source != me else t.ports.isEmpty && t.source = me)

/-- Plans (R305). -/
def parsePlans (b : Bytes) : Option Plans :=
  let n := leAt b 0 1
  let items := leAt b 4 4
  let io := leAt b 8 4
  let head := fun p => (leAt b (16 + 16 * p) 2, leAt b (20 + 16 * p) 4)
  if decide (n < 1 ∨ n > 8 ∨ leAt b 1 1 ≥ n ∨ items > 262144 ∨ io + 8 * items > b.length ∨ 16 + 16 * n > b.length) ||
    (List.range n).any (fun p => decide ((head p).1 < 1 ∨ (head p).1 > 8192 ∨ (head p).2 + 8 * (head p).1 > b.length)) then none
  else some {
    primary := leAt b 1 1
    entries := (List.range n).map (fun p => (List.range (head p).1).map (fun i => w64 (leAt b ((head p).2 + 8 * i) 8)))
    items := (List.range items).map (fun i => w64 (leAt b (io + 8 * i) 8)) }

def rGroup (x : W64) : Nat := bitsOf x.toNat 0 14
def rSlots (x : W64) : Nat := bitsOf x.toNat 16 12
def rSpan (x : W64) : Nat := bitsOf x.toNat 28 4
def rStage (x : W64) : Nat := bitsOf x.toNat 32 10

/-- The reduce items of an entry. -/
def planReduce (pl : Plans) (e : W64) : List W64 :=
  (pl.items.drop (bitsOf e.toNat 0 18 + bitsOf e.toNat 18 5)).take (bitsOf e.toNat 23 5)

/-- A tick entry passes R306, its items R279 and R307. -/
def entryOkIn (p : Proposed) (pl : Plans) (e : W64) : Bool :=
  let ns := bitsOf e.toNat 18 5
  let nr := bitsOf e.toNat 23 5
  decide (ns ≤ 16 ∧ nr ≤ 16 ∧ bitsOf e.toNat 0 18 + ns + nr ≤ pl.items.length) &&
    (planItems pl e).all (fun x => stValid (p.streams.stream (itStream x)) && decide (1 ≤ itCount x ∧ itCount x ≤ 4096) &&
      (tget p.portSets (itSet x)).isSome) &&
    (planReduce pl e).all (fun x => (match tget p.groups (rGroup x) with
      | some g => gValid g.header && gSched g.header
      | none => false) && decide (1 ≤ rSlots x ∧ 1 ≤ rSpan x))

/-- A table from records. -/
def tableOf {α : Type} (f : Bytes → α) (l : List (Nat × Bytes)) : Table α := l.map (fun e => (e.1, f e.2))

/-- Records with `valid` 0 in bit 0 leave their entry at its reset value, which is not listed. -/
def validRecords (l : List (Nat × Bytes)) : List (Nat × Bytes) := l.filter (fun e => bitOf (leAt e.2 0 1) 0)

/-- One section, where it is carried. -/
def readSection {α : Type} (b : Bytes) (typ : Nat) (kept : α) (f : Bytes → α) : α :=
  match sectionBytes b (sectionsOf b) typ with
  | none => kept
  | some x => f x

/-- The table sections: type, entries, and the size of a record's body (R295). -/
def tableSizes : List (Nat × Nat × (Bytes → Nat)) :=
  [(2, 65536, fun _ => 16), (3, 16384, fun _ => 12), (4, 32768, fun _ => 64), (5, 16384, groupSize), (7, 262144, fun _ => 16),
   (8, 65536, fun _ => 24), (9, 262144, fun _ => 4)]

/-- The records of a table section. -/
def tableRecords (typ : Nat) (x : Bytes) : List (Nat × Bytes) × Option Nat :=
  match tableSizes.find? (fun t => t.1 = typ) with
  | none => ([], none)
  | some (_, limit, size) => recordsOf limit size x

/-- A table section with a record out of order or of range, or cut short (R296): its type and that record's index. -/
def recordFault (b : Bytes) : Option (Nat × Nat) :=
  tableSizes.findSome? (fun t => (readSection b t.1 none (fun x => (tableRecords t.1 x).2)).map (fun i => (t.1, i)))

/-- A table as it would stand. -/
def readTable {α : Type} (b : Bytes) (typ : Nat) (kept : Table α) (keep : Bytes → Bool) (f : Bytes → α) : Table α :=
  readSection b typ kept (fun x => tableOf f ((tableRecords typ x).1.filter (fun e => keep e.2)))

/-- The tables as they would stand after the image's activation: the carried sections, and the others as they are. A carried
stream starts at tile 0: its `cursor`, which no write sets, is not taken (R10, R273). -/
def propose (s : State) (b : Bytes) : Proposed :=
  let valid := fun (x : Bytes) => bitOf (leAt x 0 1) 0
  { carried := (sectionsOf b).map (·.typ)
    endpoint := readSection b 1 (ownId s) (fun x => w16 (leAt x 0 2))
    plane := readSection b 1 s.sketch.plane.toNat (fun x => leAt x 2 1)
    roles := readSection b 1 s.sketch.roles parseRoles
    routes := readTable b 2 s.switch.routes (fun x => routeValid (leVal x)) (fun x => BitVec.ofNat 128 (leVal x))
    portSets := readTable b 3 s.switch.portSets (fun _ => true) (fun x => BitVec.ofNat 96 (leVal x))
    descs := readTable b 4 s.canvas.descs (fun _ => true) (fun x => x)
    groups := readTable b 5 s.canvas.groups valid parseGroup
    constBlocks := readSection b 6 s.canvas.constBlocks (fun x => leAt x 0 4)
    schedBlocks := readSection b 6 s.canvas.schedBlocks (fun x => leAt x 4 4)
    constants := readSection b 6 [] (fun x => x.drop 16)
    streams := {
      segments := readTable b 7 s.streams.segments valid (fun x => BitVec.ofNat 128 (leVal x))
      streams := readTable b 8 s.streams.streams valid (fun x => BitVec.ofNat 192 (leVal (x.take 16)))
      segList := readTable b 9 s.streams.segList (fun x => leVal x % 2 ^ 18 != 0) (fun x => BitVec.ofNat 18 (leVal x)) }
    tickSet := readSection b 10 s.sketch.tickSet (fun x => some (parseTick x))
    plans := readSection b 11 s.sketch.plans parsePlans
    policy := readSection b 12 [] parseEntries }

/-- The proposed tables as the checks see them (R408): a table that is kept lacks its uncorrectable entries. -/
def Proposed.judged (s : State) (p : Proposed) : Proposed :=
  let see := fun {α : Type} (typ : Nat) (t : Table α) => if p.carried.contains typ then t else live s typ t
  { p with
    routes := see 2 p.routes, portSets := see 3 p.portSets, descs := see 4 p.descs, groups := see 5 p.groups
    streams := {
      segments := see 7 p.streams.segments, streams := see 8 p.streams.streams, segList := p.streams.segList
      lost := if p.carried.contains 9 then [] else (liveTables s).lost } }

/-- The entries of a Policy section that are refused (R352): the number of the first. -/
def policySectionFault (s : State) (x : Bytes) : Option Nat :=
  if x.isEmpty || x.length % 8 != 0 then some 0 else policyFault s.policy (parseEntries x)

/-- The first failing item of the tables as they would stand, in section order (assumption log 60). -/
def contentFault (s : State) (b : Bytes) (p : Proposed) : Option (Nat × Nat) :=
  match readSection b 1 none identityFault with
  | some i => some (1, i)
  | none =>
  let lookGroup := fun i => (tget p.groups i).map (·.header)
  let routeOk := fun d => routeValid (tgetD p.routes d 0).toNat
  match p.routes.find? (fun e => !routeEntryOk p.roles e.1 e.2.toNat) with
  | some e => some (2, e.1)
  | none =>
  match p.portSets.find? (fun e => !portSetOk p.roles e.2.toNat) with
  | some e => some (3, e.1)
  | none =>
  match (if p.carried.contains 4 then p.descs.find? (fun e => !descRecordOk p.constBlocks lookGroup e.2) else none) with
  | some e => some (4, e.1)
  | none =>
  match p.groups.find? (fun e => !(groupOk p.roles e.2 && groupDescsOk p.constBlocks (tget p.descs) lookGroup e.2.header)) with
  | some e => some (5, e.1)
  | none =>
  if readSection b 6 false (fun x => x.length != 16 + 65536 * leAt x 0 4) then some (6, 0)
  else
  match streamFault p.streams routeOk p.endpoint with
  | some e => some e
  | none =>
  if readSection b 10 false (fun x => x.length != 32 || leAt x 5 1 > 4) || p.tickSet.any (fun t => !tickOk p.roles p.endpoint t) then
    some (10, 0)
  else if readSection b 11 false (fun x => (parsePlans x).isNone) then some (11, 0)
  else
  match p.plans.bind (fun pl => pl.entries.findSome? (fun es => es.findIdx? (fun e => !entryOkIn p pl e))) with
  | some i => some (11, i)
  | none => (readSection b 12 none (policySectionFault s)).map (fun i => (12, i))

/-! ### Canvas checks (R301) -/

/-- Blocks that tick entry `n` of a plan reserves. -/
def reserved (pl : Plans) (es : List W64) (n : Nat) : Nat :=
  sumNat ((List.range es.length).map (fun m =>
    sumNat (((planReduce pl (es.getD m 0)).filter (fun x => decide ((n + es.length - m) % es.length < rSpan x))).map
      (fun x => rSlots x + rStage x))))

/-- `pool_short`, `sched_short`, `canvas_plan`, `canvas_entry`. -/
def canvasShort (p : Proposed) : Nat × Nat × Nat × Nat :=
  let w := match p.plans with
    | none => (0, 0, 0)
    | some pl => largest (excesses pl p.schedBlocks (reserved pl))
  (p.constBlocks + p.schedBlocks - 16384, w.2.2, w.1, w.2.1)

/-! ### The judgement (R300, R302) -/

/-- The result record. -/
structure CommitResult where
  sketchId : Nat := 0
  activeTick : Nat := 0
  failSection : Nat := 0
  failIndex : Nat := 0
  canvas : Nat × Nat × Nat × Nat := (0, 0, 0, 0)
  stream : Shortfall := { store := 0, staging := 0, host := 0, hbm := 0, plan := 0, entry := 0 }
  deriving DecidableEq, Repr

def commitBytes (r : CommitResult) : Bytes :=
  leBytes 8 r.sketchId ++ leBytes 4 r.activeTick ++ leBytes 2 r.failSection ++ zeros 2 ++ leBytes 4 r.failIndex ++ zeros 4 ++
    leBytes 4 r.canvas.1 ++ leBytes 4 r.canvas.2.1 ++ leBytes 1 r.canvas.2.2.1 ++ zeros 3 ++ leBytes 4 r.canvas.2.2.2 ++
    shortfallBytes r.stream

/-- Every byte of a load area has been written. -/
def loadFull (a : LoadArea) : Bool := a.covered = [(0, a.imageLen)]

def loadBytes (a : LoadArea) : Bytes := mreadN a.mem 0 a.imageLen

/-- Step 2. -/
def headerOk (s : State) (b : Bytes) : Bool :=
  let a := s.sketch.load
  decide (leAt b 0 4 = 0x4B534759 ∧ leAt b 6 2 = 128 ∧ leAt b 8 4 = a.imageLen ∧ leAt b 16 8 = a.sketchId.toNat ∧
    leAt b 16 8 ≠ 0 ∧ 1 ≤ leAt b 12 2 ∧ leAt b 12 2 ≤ 12 ∧ leAt b 36 4 + 3392 = a.imageLen ∧ 128 ≤ leAt b 32 4 ∧
    leAt b 32 4 + 16 * leAt b 12 2 ≤ leAt b 36 4)

/-- Step 3: the keys of the block's `key_index` come from the configuration image. -/
def sketchSigned (s : State) (b : Bytes) : Bool :=
  let o := leAt b 36 4
  match s.boot.config with
  | none => false
  | some c => match c.sketchKeys.find? (fun k => k.index = keyIndex b o) with
    | none => false
    | some k => decide (keyIndex b o ≤ 3) && statedDigest b = imageDigest b o && signedBy k.ed k.ml b o

/-- The start tick lies at least 16 ticks ahead (R35). -/
def farEnough (s : State) (t : W32) : Bool := decide (16 ≤ (t - s.tick.number).toNat ∧ (t - s.tick.number).toNat ≤ 0x7FFFFFFF)

/-- R300 from step 2 on (without a running tick `now` is the only commit, R438): the status, the result record and, when every step passes, the tables. -/
def judgeCommit (s : State) (c : Commit) (b : Bytes) : W16 × CommitResult × Option Proposed :=
  let r0 : CommitResult := { sketchId := leAt b 16 8 }
  if !headerOk s b then (stBadParam, r0, none)
  else if !sketchSigned s b then (stSigFail, r0, none)
  else if !decide (leAt b 4 2 = 1 ∧ leAt b 24 2 = 0x9600 ∧ leAt b 26 2 ≤ revision) then (stVersionMismatch, r0, none)
  else if !(leAt b 28 4 = 0 || leAt b 28 4 = s.boot.chipTag.toNat) then (stBadParam, r0, none)
  else
    let l := sectionsOf b
    let bad := fun (e : Nat × Nat) => (stBadParam, { r0 with failSection := e.1, failIndex := e.2 }, (none : Option Proposed))
    match misplaced (leAt b 36 4) l with
    | some t => bad (t, 0)
    | none => match unpaired l with
      | some t => bad (t, 0)
      | none =>
        if !hasIdentity s && !l.any (fun x => x.typ = 1) then bad (1, 0)
        else match recordFault b with
          | some e => bad e
          | none =>
            let p := propose s b
            let seen := p.judged s
            match contentFault s b seen with
            | some e => bad e
            | none =>
              let period := (p.tickSet.map (·.period)).getD 4000
              let sh := capacityShort seen.streams p.plans period
              let cv := canvasShort p
              let r := { r0 with canvas := cv, stream := sh }
              if !sh.none_ then (stStoreOvercommit, r, none)
              else if !(cv.1 = 0 && cv.2.1 = 0) then (stCanvasOvercommit, r, none)
              else if !(if c.now then s.sketch.running.isNone else s.tick.running && farEnough s c.start) then (stBadParam, r, none)
              else (stOk, { r with activeTick := if c.now then 0 else c.start.toNat }, some p)

end Sys2Proof.Machine
end

