-- ==== Sys2Proof/Machine/TickRun.lean ====
section
/-! DEFINITION. What happens when a tick starts (10): overruns of the ticks that ended, gating, markers, TICK_OUT, and the
prefetches of the plan that will be in force (R280, R282, R308, R311 to R316, R318). -/

namespace Sys2Proof.Machine

/-! ### The plan of a tick (R308, R309) -/

/-- The plan and its start that will be in force at tick `m`: none at or after an armed commit's start tick. -/
def planFor (s : State) (m : W32) : Option (Nat × W32) :=
  if s.sketch.commit.any (fun c => c.armed && !laterTick c.start m) then none
  else match s.sketch.pending with
    | some (p, t) => if laterTick t m then s.sketch.running else if p = 0xFF then none else some (p, t)
    | none => s.sketch.running

/-- The entry of tick `m`: plan, index, entry. -/
def entryFor (s : State) (m : W32) : Option (Nat × Nat × W64) :=
  match planFor s m, s.sketch.plans with
  | some (p, st), some pl =>
    if !runsPlan s || (if s.sketch.running = some (p, st) then beforePlan s st m else laterTick st m) then none
    else planEntry pl p st m
  | _, _ => none

/-! ### Overruns (R318) -/

/-- Tiles of ended ticks that are not written are late (R283). -/
def streamOverruns (s : State) : State :=
  let late := (s.streams.tiles.map (·.2)).filter (fun t => !t.late && laterTick s.tick.number t.tick)
  let judged := late.filter (fun t => !t.exempt)
  let now := s.tick.number
  let s := streamCount 11 late.length s
  let s := updStreams (fun x => { x with tiles := x.tiles.map (fun e =>
    (e.1, if laterTick now e.2.tick then { e.2 with late := true } else e.2)) }) s
  forEach ((judged.map (·.tick)).eraseDups) (fun n s =>
    match judged.filter (fun t => t.tick = n) with
    | [] => s
    | t :: l => noteOverrun n t.plan 1 t.entry t.stream (l.length + 1) s) s

/-- A slot of a reduce item whose span has ended. -/
def spanOver (now : W32) (x : Slot) : Option (W32 × Nat × Nat × Nat) :=
  x.item.filter (fun i => decide ((i.2.2.2 : Int) ≤ tickDiff now i.1))

/-- Slots that are not *Free* when their span ends; none is judged in P2 and P3. -/
def reduceOverruns (s : State) : State :=
  let now := s.tick.number
  let due := s.canvas.slots.filterMap (fun x => (spanOver now x).map (fun i => (i, x.key.group)))
  let s := updCanvas (fun c => { c with slots := c.slots.map (fun x =>
    if (spanOver now x).isSome then { x with item := none } else x) }) s
  if !engineRuns s then s
  else forEach ((due.map (fun d => d.1.1)).eraseDups) (fun n s =>
    match due.filter (fun d => d.1.1 = n) with
    | [] => s
    | d :: l => noteOverrun n d.1.2.1 2 d.1.2.2.1 d.2 (l.length + 1) s) s

/-! ### TICK_OUT, gating and markers (R312, R313, R316, R395) -/

/-- The pulse of tick `n`. -/
def pulseOf (n : W32) : Pulse :=
  let pos := n.toNat % 64
  let next := n + 64 - w32 pos
  if pos = 0 then .mark else if pos ≤ 32 && next.getLsbD (pos - 1) then .one else .zero

/-- A pulse is high for 25%, 50% or 75% of the period (R312), in ns. -/
def pulseHigh (s : State) (x : Pulse) : Rat :=
  (periodOf s : Rat) * (match x with
    | .zero => 1
    | .one => 2
    | .mark => 3) / 4

/-- A source by its tick settings: internal, or on TICK_IN. -/
def sourceSet (t : TickSettings) : Bool := decide (t.mode = 1 ∨ t.mode = 2)

def isSource (s : State) : Bool := s.sketch.tickSet.any sourceSet

/-- The armed commit and what it will install. -/
def armedProposal (s : State) : Option (Commit × Proposed) :=
  (s.sketch.commit.filter (fun c => c.armed)).map (fun c => (c, propose s (loadBytes s.sketch.load)))

/-- The armed commit's proposal, when it will be in force at tick `m`. -/
def proposalAt (s : State) (m : W32) : Option (Commit × Proposed) :=
  (armedProposal s).filter (fun x => !laterTick x.1.start m)

/-- The entry that tick `m` will run, of the plans that will then be in force. -/
def gateEntry (s : State) (m : W32) : Option W64 :=
  match proposalAt s m with
  | some (c, p) => if runsPlan s then p.plans.bind (fun pl => (planEntry pl pl.primary c.start m).map (·.2.2)) else none
  | none => (entryFor s m).map (·.2.2)

/-- The tick settings that will be in force in tick `m`. -/
def settingsAt (s : State) (m : W32) : Option TickSettings :=
  match proposalAt s m with
  | some (_, p) => p.tickSet
  | none => s.sketch.tickSet

/-- A source in P0 or P1 lengthens the tick before a gated entry by `gate_max` (R316, R395): tick `m` − 1, before the entry
of tick `m`. -/
def gateFor (m : W32) (s : State) : State :=
  match gateEntry s m, settingsAt s (m - 1) with
  | some e, some ts =>
    if isSource s && sourceSet ts && bitOf e.toNat 28 && engineRuns s then
      powerCount 8 1 (updTick (fun t => { addLengthen (m - 1) (ts.gateMax : Rat) t with gated := t.gated ++ [m] }) s)
    else s
  | _, _ => s

/-- Gate tick `n` + 2 before its marker is sent. -/
def gateTick (s : State) : State := gateFor (s.tick.number + 2) s

/-- Announce tick `n` + 2 on every port that carries markers. -/
def announceTick (s : State) : State :=
  let m := s.tick.number + 2
  let c := markerFlit s m (s.tick.gated.contains m)
  forEach (markerPorts s) (fun p => updLink p (fun k => { k with waitingTick := k.waitingTick ++ [c] })) s

/-! ### Prefetch (R282) -/

/-- The stream items whose reads begin now: those of tick *n* + `lead`; after an activation also those whose read start
has passed. -/
def prefetch (fresh : Bool) (s0 : State) : State :=
  forEach (List.range 16) (fun d s =>
    match entryFor s (s0.tick.number + w32 d) with
    | none => s
    | some (p, i, e) => forEach (streamItems s e) (fun x s =>
        let lead := stLead (streamAt s (itStream x))
        if (fresh && d ≤ lead) || (d = lead && d ≥ 1) then runItem (s0.tick.number + w32 d) p i x s else s) s) s0

/-! ### The start of a tick -/

/-- An activation or a switch is due at the current tick. -/
def commitDue (s : State) : Bool :=
  s.tick.running && s.sketch.commit.any (fun c => c.armed && !laterTick c.start s.tick.number)

def switchDue (s : State) : Bool := s.tick.running && s.sketch.pending.any (fun p => !laterTick p.2 s.tick.number)

def boundaryWork (s : State) : Bool := commitDue s || switchDue s

/-- The tick numbers move on. -/
def advanceTick (at_ : Rat) (n : W32) (s : State) : State :=
  let paused := !engineRuns s
  let len : Rat := (periodOf s : Rat) + s.tick.rate + tgetD s.tick.lengthen n.toNat 0
  let recent := fun (x : Table Nat) => x.filter (fun e => decide (tickDiff n (w32 e.1) < 2 ^ 30))
  let s := updSketch (fun k => { k with
    planOld := k.planOld || k.running.any (fun r => decide (2 ^ 30 ≤ tickDiff n r.2)) }) s
  let s := updTick (fun t => { t with
    lateStream := recent t.lateStream, lateReduce := recent t.lateReduce, lateEgress := recent t.lateEgress }) s
  let s := updTick (fun t => { t with
    running := true, number := n, start := at_, next := at_ + len, lengthen := tdel t.lengthen n.toNat, openings := []
    silent := t.silent + 1, paused := paused, gated := t.gated.filter (fun m => !laterTick n m) }) s
  let s := when s.tick.holdover (sketchCount 7 1) s
  let s := when paused (updStreams (fun x => { x with tiles := x.tiles.map (fun e =>
    (e.1, if e.2.tick = n then { e.2 with exempt := true } else e.2)) })) s
  emit (.tickOut n (pulseHigh s (pulseOf n))) s

/-- Tick `n` starts at `at_`: all but the reads that begin with it. -/
def beginTick (at_ : Rat) (n : W32) (s : State) : State :=
  let s := rewindsDue n (reduceOverruns (streamOverruns (advanceTick at_ n s)))
  sweepTiles (raiseOverruns (announceTick (gateTick s)))

/-- Tick `n` starts at `at_`. Its entry runs once the activation and the switch due at it have been made. -/
def tickBegins (at_ : Rat) (n : W32) (s : State) : State :=
  let s := beginTick at_ n s
  if boundaryWork s then s else prefetch false s

end Sys2Proof.Machine
end

