-- ==== Sys2Proof/Machine/Sketch.lean ====
section
/-! DEFINITION. The sketch commands and the tick's own events (10): loading, commit, activation, plan switches, tick starts
and the tick's inputs (R299 to R304, R309, R311 to R315). -/

namespace Sys2Proof.Machine

/-! ### Loading (R299) -/

/-- Write bytes at an offset of a load area. -/
def loadWrite (off : Nat) (d : Bytes) (a : LoadArea) : LoadArea :=
  { a with mem := mwrite a.mem off d, covered := addRange off (off + d.length) a.covered }

def commitBusy (s : State) : Bool := s.sketch.commit.isSome

def loadBegin (src : CmdSrc) (p : Bytes) (s : State) : State :=
  let n := leAt p 0 4
  refuseIf src [(!decide (4096 ≤ n ∧ n ≤ 268435456), stBadParam), (commitBusy s, stBusy)] (fun s =>
    done src (updSketch (fun k => { k with load := { begun := true, imageLen := n, sketchId := w64 (leAt p 8 8) } }) s)) s

/-- SKETCH_LOAD_BEGIN (R299). -/
def execSketchLoadBegin (src : CmdSrc) (s : State) : Res := onUnit src.ok (command src (isOp 0x10) (plen 16) (loadBegin src)) s

/-- `param_len` 9 to 4,064. -/
def dataLength (b : Bytes) : Bool := decide (9 ≤ cmdParamLen b ∧ cmdParamLen b ≤ 4064)

def loadData (src : CmdSrc) (p : Bytes) (s : State) : State :=
  let off := leAt p 0 4
  let d := p.drop 8
  let a := s.sketch.load
  refuseIf src [(!a.begun, stNotReady), (decide (off + d.length > a.imageLen), stBadParam), (commitBusy s, stBusy)] (fun s =>
    done src (updSketch (fun k => { k with load := loadWrite off d k.load }) s)) s

/-- SKETCH_LOAD_DATA (R299). -/
def execSketchLoadData (src : CmdSrc) (s : State) : Res := onUnit src.ok (command src (isOp 0x11) dataLength (loadData src)) s

/-! ### Activation (R304) -/

/-- A group entry without its reserved bits (R8, R207, R208). -/
def groupFields (g : Group) : Group :=
  { header := g.header &&& 0x07FFFFFFFFFFFFFF, members := g.members.map (· &&& 0x1FFF1FFF037FFFFF) }

/-- A group's entry and the descriptors it covers, to tell whether a commit changes it. -/
def groupView (groups : Table Group) (descs : Table Bytes) (i : Nat) : Option (Group × List (Option Bytes)) :=
  (tget groups i).map (fun g => (groupFields g, (List.range (gDescCount g.header)).map (fun j => tget descs (gDescBase g.header + j))))

/-- Slots of changed and removed groups end (R210). -/
def endChangedGroups (p : Proposed) (s : State) : State :=
  forEach s.canvas.groups (fun e s' =>
    if groupView s.canvas.groups s.canvas.descs e.1 = groupView p.groups p.descs e.1 then s' else endGroup e.1 e.2 s') s

/-- A segment entry after a commit that carries the section: *Ready* is kept by an unchanged local segment (R270). `old` is the
entry as lookups saw it. -/
def carriedSegment (old e : Nat) : Nat :=
  let same := sgLocal old && sgReady old && sgSize old = sgSize e && sgLoc old = sgLoc e && sgCrc old = sgCrc e
  let bare := if bitOf e 3 then e - 8 else e
  if sgRes e != 0 || same then bare + 8 else bare

def installSegments (t : Table (BitVec 128)) (s : State) : State :=
  let old := segAt s
  updStreams (fun x => { x with segments := t.map (fun e =>
    (e.1, BitVec.ofNat 128 (carriedSegment (old e.1) e.2.toNat))) }) s

/-- Streams and segment list are replaced: subscriptions of other streams are dropped (R277), rewinds are discarded (R36). -/
def installStreams (t : StreamTables) (s : State) : State :=
  let old := streamAt s
  let keeps := fun (b : Subscription) =>
    let n := b.stream.toNat
    stValid (old n) && stValid (t.stream n) && stCode (old n) = stCode (t.stream n)
  let dropped := (s.streams.subs.filter (fun b => !keeps b)).length
  streamCount 7 dropped (updStreams (fun x => { x with
    streams := t.streams, segList := t.segList, rewinds := [], subs := x.subs.filter keeps }) s)

/-- Tiles staged for the replaced sketch are discarded (R284). -/
def discardTiles (s : State) : State :=
  streamCount 16 s.streams.tiles.length (updStreams (fun x => { x with tiles := [] }) s)

/-- The constant blocks' bytes as memory. -/
def constantMemory (b : Bytes) : Memory := mwrite [] 0 b

/-- Replace the carried table sections (R36). -/
def installTables (p : Proposed) (s : State) : State :=
  let has := fun n => p.carried.contains n
  let s := updSwitch (fun w => { w with routes := p.routes, portSets := p.portSets }) s
  let s := updCanvas (fun c => { c with descs := p.descs, groups := p.groups }) s
  let s := when (has 6) (updCanvas (fun c => { c with
    constBlocks := p.constBlocks, schedBlocks := p.schedBlocks, constants := constantMemory p.constants })) s
  let s := when (has 6) (updCanvas (fun c => placeConstants c.constBlocks { c with constAt := c.constAt.take c.constBlocks })) s
  let s := when (has 7) (installSegments p.streams.segments) s
  let s := when (has 8) (installStreams p.streams) s
  updHealth (fun h => { h with badTables := h.badTables.filter (fun e => !has e.1)
                               lostTables := h.lostTables.filter (fun e => !has e.1) }) s

/-- A running port sends an identity refresh (R81, R114). It travels on no one lane: its `lane` byte is 0 (assumption log 173). -/
def sendRefresh (p : Nat) (s : State) : State :=
  if (portOf s p).state != .running then s
  else
    let c : CFlit := { kind := 2, sub := 3, nbytes := 25, seqd := true, content := identContent s p 0 }
    updLink p (fun k => { k with waitingC := k.waitingC ++ [c] }) s

/-- A port acts on its role and verdict under the new sketch (R97, R82). -/
def applyRole (p : Nat) (s : State) : State :=
  let q := portOf s p
  if (roleOf s p).role = 0 then
    (if q.state = .disabled || (q.state = .absent && q.cause = caUnused) then s else toUnused p s)
  else
    let s := if q.state = .absent && q.cause = caUnused then toListen p q.cause s else s
    let s := judgeVerdict p s
    let q := portOf s p
    if q.state = .miswired && q.cause != caCrossed && q.verdict != .fail && q.mapValid then toPrimer p s
    else tryReady p s

/-- Identity, roles and plane (R297). -/
def installIdentity (p : Proposed) (s : State) : State :=
  let old := ownId s
  let s := updSketch (fun k => { k with endpoint := p.endpoint, plane := BitVec.ofNat 4 p.plane, epValid := true, roles := p.roles }) s
  let s := when (p.endpoint != old) (forEach (List.range 96) sendRefresh) s
  forEach (List.range 96) applyRole s

/-- A pending switch at or after the activation is cancelled (R309). -/
def cancelSwitch (s : State) : State :=
  match s.sketch.pending with
  | none => s
  | some (p, t) => raise 0x002D p (leBytes 4 t.toNat) (updSketch (fun k => { k with pending := none }) s)

/-- A source that was one in the same way continues its count; a device that becomes an internal source begins at
`start_number` (R311). A follower keeps its tick port while its source stays and the port is in the new list (R310, R315). -/
def retuneTick (old : Option TickSettings) (ts : TickSettings) (s : State) : State :=
  let was := old.any (fun o => o.mode = ts.mode && (ts.mode != 0 || o.source = ts.source))
  let per : Rat := (ts.period : Rat)
  let grown : Rat := per - (((old.map (·.period)).getD 4000 : Nat) : Rat)
  if ts.mode = 0 then
    updTick (fun t => { t with
      next := if was then t.next + grown else t.start + per
      port := if was then t.port.filter ts.ports.contains else none
      locked := was && t.locked, good := if was then t.good else 0, holdover := was && t.holdover, silent := 0 }) s
  else if was then updTick (fun t => { t with next := t.next + grown }) s
  else
    let s := updTick (fun t => { t with
      next := t.start + per, rate := 0, lengthen := [], depth := 0, holdover := false, port := none, locked := ts.mode = 1
      badEdges := 0, framePos := none, frameBits := 0, frameLast := none }) s
    if ts.mode = 1 then gateFor (ts.startNumber + 1) (beginTick (s.now : Rat) ts.startNumber s) else s

def installTick (p : Proposed) (s : State) : State :=
  if !p.carried.contains 10 then s
  else
    let old := s.sketch.tickSet
    let s := updSketch (fun k => { k with tickSet := p.tickSet }) s
    match p.tickSet with
    | none => s
    | some ts => retuneTick old ts s

/-- The commit's answer: counted, kept for the telemetry window, sent (R303, R321, R356). -/
def answerCommit (src : CmdSrc) (status : W16) (result : Bytes) (s : State) : State :=
  let s := updSketch (fun k => { k with commit := none, lastStatus := status, lastResult := padTo 88 result }) s
  finish src status result (sketchCount (if status = stOk then 0 else 1) 1 s)

/-- The new sketch replaces the carried sections, with every side effect of R304; then plan `primary` starts, or none. -/
def activate (c : Commit) (b : Bytes) (r : CommitResult) (p : Proposed) (s : State) : State :=
  let s := updSketch (fun k => { k with commit := none }) s
  let s := endChangedGroups p (discardTiles (cancelSwitch s))
  let s := applyPolicy p.policy (installTables p s)
  let run := if c.now then none else p.plans.map (fun pl => (pl.primary, c.start))
  let s := updSketch (fun k => { k with
    plans := p.plans, running := run, planOld := false, inForce := true, sketchId := w64 (leAt b 16 8)
    digest := statedDigest b }) s
  let s := when (p.carried.contains 1) (installIdentity p) s
  let s := installTick p s
  let s := when (run.isSome) (prefetch true) s
  answerCommit c.src stOk (commitBytes r) s

/-! ### Commit (R300, R303) -/

def commitCmd (src : CmdSrc) (p : Bytes) (s : State) : State :=
  refuseIf src [(!s.sketch.load.begun, stNotReady), (commitBusy s, stBusy)] (updSketch (fun k => { k with
    commit := some { src := src, start := w32 (leAt p 0 4), now := bitOf (leAt p 4 4) 0 } })) s

/-- SKETCH_COMMIT (R300): the checks begin. -/
def execSketchCommit (src : CmdSrc) (s : State) : Res := onUnit src.ok (command src (isOp 0x12) (plen 8) (commitCmd src)) s

def checksComplete (s : State) : State :=
  match s.sketch.commit with
  | none => s
  | some c =>
    if c.armed then s
    else if !loadFull s.sketch.load then answerCommit c.src stNotReady [] s
    else
      let b := loadBytes s.sketch.load
      match judgeCommit s c b with
      | (_, r, some p) =>
        if c.now then activate c b r p s else updSketch (fun k => { k with commit := some { c with armed := true } }) s
      | (st, r, none) => answerCommit c.src st (commitBytes r) s

/-- COMMIT_CHECKS_COMPLETE (R300). -/
def execCommitChecksComplete (s : State) : Res := .next (checksComplete s)

/-- The armed commit activates at its start tick: what its image proposes over the tables in force then (assumption
log 61). -/
def sketchActivates (s : State) : State :=
  match s.sketch.commit with
  | none => s
  | some c =>
    let b := loadBytes s.sketch.load
    if !commitDue s then s
    else activate c b { sketchId := leAt b 16 8, activeTick := c.start.toNat } (propose s b) s

/-- SKETCH_ACTIVATE (R304): at the start tick. -/
def execSketchActivate (s : State) : Res := .next (sketchActivates s)

/-! ### Plan switches (R309) -/

def planPresent (s : State) (p : Nat) : Bool := s.sketch.plans.any (fun pl => p = 0xFF || decide (p < pl.entries.length))

/-- A commit in progress, or a pending switch, stands in the way. -/
def switchBusy (s : State) (t : W32) : Bool :=
  s.sketch.commit.any (fun c => c.now || !laterTick c.start t) ||
    s.sketch.pending.any (fun p => decide ((p.2 - s.tick.number).toInt < 16))

def planSwitchCmd (src : CmdSrc) (p : Bytes) (s : State) : State :=
  let plan := leAt p 0 1
  let t := w32 (leAt p 4 4)
  refuseIf src [(!s.tick.locked, stNotReady), (!planPresent s plan || !farEnough s t, stBadParam), (switchBusy s t, stBusy)]
    (fun s => done src (updSketch (fun k => { k with pending := some (plan, t) }) s)) s

/-- PLAN_SWITCH (R309). -/
def execPlanSwitch (src : CmdSrc) (s : State) : Res := onUnit src.ok (command src (isOp 0x13) (plen 8) (planSwitchCmd src)) s

def switchTakesEffect (s : State) : State :=
  match s.sketch.pending with
  | none => s
  | some (p, t) =>
    if !switchDue s || commitDue s then s
    else
      let s := updSketch (fun k => { k with pending := none, running := if p = 0xFF then none else some (p, t), planOld := false }) s
      prefetch false (raise 0x002C p (leBytes 4 t.toNat) (sketchCount 2 1 s))

/-- PLAN_SWITCH_TAKE_EFFECT (R309). -/
def execPlanSwitchTakeEffect (s : State) : Res := .next (switchTakesEffect s)

/-! ### The tick's events (R311 to R315) -/

def tickMode (s : State) : Option Nat := s.sketch.tickSet.map (·.mode.toNat)

/-- A tick starts by the device's own count: not for a TICK_IN source outside holdover, and not while an activation or a
switch of the current tick is due. -/
def tickStarts (s : State) : State :=
  if !s.tick.running || boundaryWork s || (tickMode s = some 2 && !s.tick.holdover) || decide ((s.now : Rat) < s.tick.next) then s
  else tickBegins s.tick.next (s.tick.number + 1) s

/-- TICK_START (R311). -/
def execTickStart (s : State) : Res := .next (tickStarts s)

/-- What a pulse that was high for this long carries: its width within 5% of the period of one of the three; none where it is
no such pulse (R312). -/
def pulseFrom (s : State) (high : Rat) : Option Pulse :=
  [Pulse.zero, .one, .mark].find? (fun x => decide (absRat (high - pulseHigh s x) ≤ (periodOf s : Rat) / 20))

/-- A pulse of the TICK_IN frame (R312); a pulse of no legal width breaks the frame (assumption log 157).
Answers the number that two frames agree on, when this pulse brings it. -/
def takePulse (pulse : Option Pulse) (t : Tick) : Tick × Option W32 :=
  match pulse with
  | none => ({ t with framePos := none, frameLast := none }, none)
  | some .mark =>
    let whole := t.framePos = some 63
    let agreed := if whole && t.frameLast = some (t.frameBits - 64) then some t.frameBits else none
    ({ t with framePos := some 0, frameBits := 0, frameLast := if whole then some t.frameBits else none }, agreed)
  | some p =>
    match t.framePos with
    | none => (t, none)
    | some k =>
      let one := p = .one
      if k ≥ 63 || (k ≥ 32 && one) then ({ t with framePos := none, frameLast := none }, none)
      else ({ t with framePos := some (k + 1), frameBits := if one then t.frameBits ||| (1 : W32) <<< k else t.frameBits }, none)

/-- A tick starts at an edge that is taken. -/
def edgeTick (at_ : Rat) (pulse : Option Pulse) (s : State) : State :=
  let x := takePulse pulse s.tick
  let n := x.2.getD (s.tick.number + 1)
  let s := updTick (fun _ => { x.1 with badEdges := 0, holdover := false, locked := x.1.locked || x.2.isSome }) s
  tickBegins at_ n s

def edgeArrives (pulse : Option Pulse) (s : State) : State :=
  if tickMode s != some 2 || boundaryWork s then s
  else
    let at_ : Rat := (s.now : Rat) - (s.tick.inputDelay : Rat) / 10
    let tol : Rat := (periodOf s : Rat) / 20
    if !s.tick.running then edgeTick at_ pulse s
    else if absRat (at_ - s.tick.next) ≤ tol then edgeTick at_ pulse s
    else if s.tick.holdover && absRat (at_ - s.tick.start) ≤ tol then
      let x := takePulse pulse s.tick
      updTick (fun _ => { x.1 with start := at_, next := at_ + (periodOf s : Rat), badEdges := 0, holdover := false
                                   number := x.2.getD x.1.number, locked := x.1.locked || x.2.isSome }) s
    else
      let s := sketchCount 8 1 (updTick (fun t => { t with badEdges := t.badEdges + 1 }) s)
      if s.tick.badEdges < 4 then s
      else edgeTick at_ pulse (updTick (fun t => { t with framePos := none, frameLast := none }) s)

/-- TICK_IN_EDGE (R311): the pulse that rises here stays high for `high` tenths of a ns. -/
def execTickInEdge (high : Nat) (s : State) : Res := .next (edgeArrives (pulseFrom s ((high : Rat) / 10)) s)

def enterHoldover (s : State) : State :=
  if s.tick.holdover then s
  else raise 0x002A 0xFFFF [] (updTick (fun t => { t with holdover := true, port := none }) s)

def edgeMissing (s : State) : State :=
  if tickMode s = some 2 && s.tick.running && decide (s.tick.next + (periodOf s : Rat) / 20 < (s.now : Rat)) then
    enterHoldover (updTick (fun t => { t with framePos := none, frameLast := none }) s)
  else s

/-- TICK_IN_MISSING (R311). -/
def execTickInMissing (s : State) : Res := .next (edgeMissing s)

/-- The ports after the current one in list order, then those before it (R315). -/
def searchOrder (l : List Nat) (p : Nat) : List Nat := ((l.dropWhile (· != p)).drop 1) ++ l.takeWhile (· != p)

def portLost (s : State) : State :=
  match s.sketch.tickSet, s.tick.port with
  | some ts, some p =>
    if ts.mode != 0 || s.tick.silent < 4 then s
    else match (searchOrder ts.ports p).find? (fun q => (markerPorts s).contains q) with
      | some q => updTick (fun t => { t with port := some q, silent := 0 }) s
      | none => enterHoldover s
  | _, _ => s

/-- TICK_PORT_LOST (R315). -/
def execTickPortLost (s : State) : Res := .next (portLost s)

end Sys2Proof.Machine
end

