-- ==== Sys2Proof/Machine/Images.lean ====
section
/-! DEFINITION. Firmware and configuration images: how one is judged, the update commands, the floors, and attestation
(R422 to R430). -/

namespace Sys2Proof.Machine

/-! ### The image header (R423) -/

def imVersion (b : Bytes) : W32 := w32 (leAt b 12 4)
def imSec (b : Bytes) : Nat := leAt b 16 4
def imKind (b : Bytes) : Nat := leAt b 6 2
def imSigOff (b : Bytes) : Nat := leAt b 24 4

/-- The header is consistent with an image of `n` bytes: magic, format, length and the place of the signatures. -/
def imageHeaderOk (n : Nat) (b : Bytes) : Bool :=
  decide (leAt b 0 4 = 0x49464759 ∧ leAt b 4 2 = 1 ∧ leAt b 8 4 = n ∧ 4096 ≤ n ∧ n ≤ 67108864 ∧ imSigOff b + 3392 = n)

/-- `target_tag` names this device or any. -/
def tagFits (s : State) (b : Bytes) : Bool := leAt b 28 4 = 0 || leAt b 28 4 = s.boot.chipTag.toNat

/-- `part` and `min_revision` fit. -/
def partFits (b : Bytes) : Bool := decide (leAt b 20 2 = 0x9600 ∧ leAt b 22 2 ≤ revision)

/-- The floor of a kind; 0 while the floor record's tag fails (R425). -/
def floorOf (s : State) (cfg : Bool) : Nat :=
  if !s.flash.floorOk then 0 else if cfg then s.flash.cfgFloor.toNat else s.flash.fwFloor.toNat

def floorMet (s : State) (cfg : Bool) (b : Bytes) : Bool := decide (floorOf s cfg ≤ imSec b)

/-- Digest and both signatures: a firmware image under a release key, a configuration image under a key of its owner
certificate, which verifies itself (R422, R424). -/
def imageSigned (cfg : Bool) (b : Bytes) : Bool :=
  let o := imSigOff b
  let i := keyIndex b o
  statedDigest b = imageDigest b o &&
    (if cfg then
      decide (i ≤ 3) && Config.ownerCertOk b && signedBy (leBytes 32 (Config.certEd b i).toNat) (leBytes 1952 (Config.certMl b i).toNat) b o
    else decide (i ≤ 1) && signedBy (leBytes 32 (Config.releaseEd i).toNat) (leBytes 1952 (Config.releaseMl i).toNat) b o)

/-- The boot chain accepts an image of a kind (R424). -/
def imageAccepted (s : State) (cfg : Bool) (b : Bytes) : Bool :=
  imageHeaderOk b.length b && decide (imKind b = if cfg then 2 else 1) && imageSigned cfg b && partFits b && tagFits s b &&
    floorMet s cfg b

/-- An image of flash: by kind and bank (true: B). -/
def bankImage (s : State) (cfg b : Bool) : Image :=
  if cfg then (if b then s.flash.cfgB else s.flash.cfgA) else if b then s.flash.fwB else s.flash.fwA

def setBank (cfg b : Bool) (img : Image) (f : Flash) : Flash :=
  if cfg then (if b then { f with cfgB := img } else { f with cfgA := img })
  else if b then { f with fwB := img } else { f with fwA := img }

/-- The bank that is not active. -/
def inactiveBank (f : Flash) (cfg : Bool) : Bool := if cfg then !f.activeCfg else !f.activeFw

/-! ### The secret section of a configuration bank (R425) -/

/-- Flip the bytes from `at_` on by a key stream. -/
def xorAt (at_ : Nat) (k b : Bytes) : Bytes :=
  b.take at_ ++ List.zipWith (· ^^^ ·) ((b.drop at_).take k.length) k ++ b.drop (at_ + k.length)

/-- The key stream of a sealed bank. -/
def sealStream (key : Bytes) (x : Seal) : Bytes := padTo x.len (Config.gcmStream key x.nonce x.len)

/-- An image as it is written: its secret section encrypted with AES-256-GCM under the sealing key; the nonce is a free value
(assumption log 151). -/
def sealImage (key : Bytes) (nonce : BitVec 96) (b : Bytes) : Image × Seal :=
  let place := Config.secretSection b
  let at_ := min place.1 b.length
  let x : Seal := { at_ := at_, len := min place.2 (b.length - at_), nonce := nonce }
  let c := xorAt x.at_ (sealStream key x) b
  (c, { x with tag := Config.gcmTag key nonce ((c.drop x.at_).take x.len) })

/-- The image of a sealed bank; none where the tag fails. -/
def openImage (key : Bytes) (x : Seal) (c : Image) : Option Bytes :=
  if x.len = 0 then some c
  else if Config.gcmTag key x.nonce ((c.drop x.at_).take x.len) = x.tag then some (xorAt x.at_ (sealStream key x) c)
  else none

/-- The configuration image of a bank, as the firmware reads it in Easel memory; one that does not open is empty. -/
def openBank (s : State) (b : Bool) : Bytes :=
  let x := if b then s.flash.sealB else s.flash.sealA
  ((s.boot.secret.bind (fun k => openImage (sealingKey k) x (bankImage s true b))).getD [])

def setSeal (b : Bool) (x : Seal) (f : Flash) : Flash := if b then { f with sealB := x } else { f with sealA := x }

/-- Write an image to the inactive bank of its kind: a configuration image sealed (R425, R429). -/
def writeBank (cfg : Bool) (b : Bytes) (s : State) : State :=
  match s.boot.secret with
  | none => updFlash (fun f => setBank cfg (inactiveBank f cfg) b f) s
  | some k =>
    if !cfg then updFlash (fun f => setBank cfg (inactiveBank f cfg) b f) s
    else withFree (fun x =>
      let c := sealImage (sealingKey k) (BitVec.ofNat 96 x) b
      updFlash (fun f => setSeal (inactiveBank f true) c.2 (setBank true (inactiveBank f true) c.1 f))) s

/-! ### The layout of the flash (R457) -/

/-- Where a part of the flash begins, and its size, in bytes. -/
def flashAt : FlashPart → Nat × Nat
  | .firmwareA => (0x00000000, 0x04000000)
  | .firmwareB => (0x04000000, 0x04000000)
  | .configA => (0x08000000, 0x04000000)
  | .configB => (0x0C000000, 0x04000000)
  | .snapshots => (0x10000000, 0x02000000)
  | .retirement => (0x12000000, 0x00100000)
  | .floors => (0x12100000, 0x00010000)
  | .helper1 => (0x12110000, 0x00010000)
  | .helper2 => (0x12120000, 0x00010000)
  | .certificate => (0x12130000, 0x00010000)
  | .bootControl => (0x12140000, 0x00010000)

/-- What stands in a part of the flash whose bytes the spec lays out; slot `n` of the snapshot ring. -/
def flashBytes (s : State) (n : Nat) : FlashPart → Bytes
  | .firmwareA => s.flash.fwA
  | .firmwareB => s.flash.fwB
  | .configA => s.flash.cfgA
  | .configB => s.flash.cfgB
  | .snapshots => s.flash.snapshots.getD n []
  | .helper1 => s.flash.helper1
  | .helper2 => s.flash.helper2
  | .certificate => s.flash.certificate
  | .floors => leBytes 4 s.flash.fwFloor.toNat ++ leBytes 4 s.flash.cfgFloor.toNat ++ s.flash.floorTag
  | _ => []

/-- A write to flash that something interrupts leaves the inactive bank unverifiable (R442). -/
def spoilBank (s : State) : Flash :=
  match s.boot.writing with
  | none => s.flash
  | some w => setBank w.2.1 (inactiveBank s.flash w.2.1) [] s.flash

def kindCode (cfg : Bool) : Nat := if cfg then 2 else 1

/-- FW_UPDATE: the event and the record of an update step (R418, R419). -/
def updateStep (cfg : Bool) (step : Nat) (version : W32) (s : State) : State :=
  let d := [BitVec.ofNat 8 step] ++ leBytes 4 version.toNat
  record 6 0x0147 (kindCode cfg) 0 d (raise 0x0147 (kindCode cfg) d s)

/-! ### The update commands (R429) -/

def fwBegin (src : CmdSrc) (p : Bytes) (s : State) : State :=
  let n := leAt p 0 4
  refuseIf src [(!decide (4096 ≤ n ∧ n ≤ 67108864), stBadParam), (s.boot.writing.isSome, stBusy)] (fun s =>
    done src (updBoot (fun b => { b with upload := { begun := true, imageLen := n } }) s)) s

/-- FW_UPDATE_BEGIN (R429). -/
def execFwUpdateBegin (src : CmdSrc) (s : State) : Res := onUnit src.ok (command src (isOp 0xB0) (plen 8) (fwBegin src)) s

def fwData (src : CmdSrc) (p : Bytes) (s : State) : State :=
  let off := leAt p 0 4
  let d := p.drop 8
  let a := s.boot.upload
  refuseIf src [(!a.begun, stNotReady), (decide (off + d.length > a.imageLen), stBadParam), (s.boot.writing.isSome, stBusy)]
    (fun s => done src (updBoot (fun b => { b with upload := loadWrite off d b.upload }) s)) s

/-- FW_UPDATE_DATA (R429). -/
def execFwUpdateData (src : CmdSrc) (s : State) : Res := onUnit src.ok (command src (isOp 0xB1) dataLength (fwData src)) s

/-- The judgement of the upload area: NOT_READY, BAD_PARAM, BUSY, SIG_FAIL, VERSION_MISMATCH, then the write begins. -/
def fwCommit (src : CmdSrc) (p : Bytes) (s : State) : State :=
  let a := s.boot.upload
  let b := loadBytes a
  let cfg := decide (imKind b = 2)
  refuseIf src [(!(a.begun && loadFull a), stNotReady), (!(imageHeaderOk a.imageLen b && tagFits s b), stBadParam),
      (s.boot.writing.isSome, stBusy), (!imageSigned cfg b, stSigFail),
      (!(decide (imKind b = 1 ∨ imKind b = 2) && partFits b && floorMet s cfg b), stVersionMismatch)]
    (updBoot (fun x => { x with writing := some (src, cfg, bitOf (leAt p 0 4) 0, bitOf (leAt p 0 4) 1) })) s

/-- FW_UPDATE_COMMIT (R429). -/
def execFwUpdateCommit (src : CmdSrc) (s : State) : Res := onUnit src.ok (command src (isOp 0xB2) (plen 4) (fwCommit src)) s

/-- The image is in the inactive bank; what was set for an earlier image in that bank goes. -/
def noteWritten (cfg act : Bool) (sec : Option W32) (f : Flash) : Flash :=
  if cfg then { f with pendingCfg := act, raiseCfg := sec, writtenCfg := true }
  else { f with pendingFw := act, raiseFw := sec, writtenFw := true }

def writeCompletes (s : State) : State :=
  match s.boot.writing with
  | none => s
  | some (src, cfg, act, rf) =>
    let b := loadBytes s.boot.upload
    let s := updFlash (noteWritten cfg act (if rf then some (w32 (imSec b)) else none)) (writeBank cfg b s)
    let s := updateStep cfg 1 (imVersion b) (updBoot (fun x => { x with writing := none }) s)
    done src s

/-- FW_UPDATE_WRITE_COMPLETE (R429). -/
def execFwUpdateWriteComplete (s : State) : Res := .next (writeCompletes s)

/-! ### Floors (R425, R429) -/

/-- The new image has first reached `easel_ready`: its floor is raised, where it was asked for, never lowered, and the record
gets its tag under the sealing key. -/
def raiseFloor (cfg : Bool) (s : State) : State :=
  match (if cfg then s.flash.raiseCfg else s.flash.raiseFw) with
  | none => s
  | some v =>
    let n := max v.toNat (floorOf s cfg)
    let other := floorOf s (!cfg)
    let fw := w32 (if cfg then other else n)
    let cf := w32 (if cfg then n else other)
    let tag := (s.boot.secret.map (fun k => floorTagOf k fw cf)).getD s.flash.floorTag
    let s := updFlash (fun f => { f with
      floorOk := true, floorTag := tag, fwFloor := fw, cfgFloor := cf
      raiseFw := if cfg then f.raiseFw else none, raiseCfg := if cfg then none else f.raiseCfg }) s
    raise 0x0148 (kindCode cfg) (leBytes 4 n) s

/-! ### Attestation (R428) -/

def attestBody (s : State) (nonce : Bytes) : Bytes :=
  leBytes 4 0x54414759 ++ leBytes 2 1 ++ leBytes 2 3728 ++ leBytes 8 (sinceReset s) ++ leBytes 4 s.tick.number.toNat ++
    leBytes 4 ygIdent ++ leBytes 4 ygRevision ++ leBytes 4 s.boot.chipTag.toNat ++ padTo 32 nonce ++ padTo 48 s.boot.identity ++
    leBytes 48 Config.romDigest.toNat ++ padTo 48 s.boot.fwDigest ++ padTo 48 s.boot.configDigest ++ padTo 48 s.sketch.digest ++
    leBytes 8 s.sketch.sketchId.toNat ++ leBytes 4 s.boot.fwVersion.toNat ++ leBytes 4 s.boot.configVersion.toNat ++
    leBytes 4 (floorOf s false) ++ leBytes 4 (floorOf s true) ++ leBytes 2 (ygStraps s) ++
    [s.boot.bootBank, BitVec.ofNat 8 (palettesOn s)] ++ leBytes 4 (retiredCount s) ++
    leBytes 4 (fields [(0, boolNat s.flash.floorOk), (1, boolNat s.boot.restarted),
      (2, boolNat (s.flash.writtenFw || s.flash.writtenCfg))]) ++ zeros 12

/-- The report: both signatures sign the SHA-384 of its first 352 bytes. -/
def attestReport (s : State) (k : BitVec 256) (nonce : Bytes) : Bytes :=
  let b := attestBody s nonce
  b ++ leBytes 64 (Config.ed25519Sign (edSeed k) (digestBytes b)).toNat ++ leBytes 3309 (Config.mldsaSign (mlSeed k) (digestBytes b)).toNat ++ zeros 3

def attestCmd (src : CmdSrc) (p : Bytes) (s : State) : State :=
  match s.boot.secret with
  | none => finish src stNotReady [] s
  | some k => finish src stOk (attestReport s k (p.take 32)) s

/-- ATTEST (R428). -/
def execAttest (src : CmdSrc) (s : State) : Res := onUnit src.ok (command src (isOp 0xB3) (plen 32) (attestCmd src)) s

end Sys2Proof.Machine
end

