-- ==== Sys2Proof/Machine/TrayImage.lean ====
section
/-! DEFINITION. The sections of a state image (R368): the bodies as this device's format lays them out, and what an image of
a format that the firmware reads says (assumption log 137). -/

namespace Sys2Proof.Machine

/-- A count, and that many items of equal width. -/
def putItems {α : Type} (f : α → Bytes) (l : List α) : Bytes := leBytes 2 l.length ++ l.flatMap f

/-- The items of width `w` behind a count. -/
def getItems {α : Type} (w : Nat) (f : Bytes → α) (b : Bytes) : List α :=
  (List.range (leAt b 0 2)).map (fun i => f ((b.drop (2 + w * i)).take w))

def pinCode (p : Pin) : Nat := boolNat p.lo + 2 * boolNat p.hi
def pinFrom (x : Nat) : Pin := { lo := bitOf x 0, hi := bitOf x 1 }

/-- The dynamic addresses of one bus: the bus, how many, the addresses. -/
def busBytes (e : Nat × List (BitVec 7)) : Bytes :=
  leBytes 1 e.1 ++ leBytes 1 e.2.length ++ padTo 128 (e.2.map (fun a => a.setWidth 8))

def busFrom (b : Bytes) : Nat × List (BitVec 7) := (leAt b 0 1, ((b.drop 2).take (leAt b 1 1)).map (fun a => a.setWidth 7))

def policyEntryBytes (e : PolicyEntry) : Bytes := leBytes 2 e.id.toNat ++ leBytes 2 e.index.toNat ++ leBytes 4 e.value.toNat

def policyEntryFrom (b : Bytes) : PolicyEntry := { id := w16 (leAt b 0 2), index := w16 (leAt b 2 2), value := w32 (leAt b 4 4) }

/-- The body of a section in this device's format, by type. The firmware-private section is empty. -/
def sectionBody (c : TrayContents) : Nat → Bytes
  | 1 => leBytes 2 c.pumpDuty ++ leBytes 2 c.fanDuty ++ putItems (leBytes 2) c.pumpDrive
  | 2 => leBytes 1 (pinCode c.pumpPinned) ++ leBytes 1 (pinCode c.fanPinned) ++ leBytes 1 c.flowLow
  | 3 => putItems (fun e => leBytes 2 e.1 ++ leBytes 8 e.2) c.alarms
  | 4 => putItems busBytes c.addresses
  | 5 => putItems (leBytes 4) c.lasers
  | 6 => putItems (leBytes 4) c.modules
  | 7 => [c.copyMode] ++ leBytes 4 c.cycleTicks.toNat ++ putItems policyEntryBytes c.policy
  | 8 => c.rackPolicy
  | _ => []

/-- The sections of an image, from the first one on: type and body. -/
def imageSections : Nat → Bytes → List (Nat × Bytes)
  | 0, _ => []
  | n + 1, b =>
    let len := leAt b 4 4
    (leAt b 0 2, (b.drop 8).take len) :: imageSections n (b.drop (8 + len))

/-- The body of the first section of a type; an image without one has an empty body. -/
def bodyOf (l : List (Nat × Bytes)) (typ : Nat) : Bytes := ((l.find? (fun e => e.1 = typ)).map (·.2)).getD []

/-- What the sections of an image in this device's format say. -/
def readSections (b : Bytes) : TrayContents :=
  let l := imageSections (leAt b 29 1) (b.drop 64)
  let out := bodyOf l 1
  let loops := bodyOf l 2
  let pol := bodyOf l 7
  { pumpDuty := leAt out 0 2, fanDuty := leAt out 2 2, pumpDrive := getItems 2 leVal (out.drop 4)
    pumpPinned := pinFrom (leAt loops 0 1), fanPinned := pinFrom (leAt loops 1 1), flowLow := leAt loops 2 1
    alarms := getItems 10 (fun x => (leAt x 0 2, leAt x 2 8)) (bodyOf l 3)
    addresses := getItems 130 busFrom (bodyOf l 4), lasers := getItems 4 leVal (bodyOf l 5), modules := getItems 4 leVal (bodyOf l 6)
    copyMode := BitVec.ofNat 8 (leAt pol 0 1), cycleTicks := w32 (leAt pol 1 4), policy := getItems 8 policyEntryFrom (pol.drop 5)
    rackPolicy := bodyOf l 8 }

def imageFormatOf (b : Bytes) : W16 := w16 (leAt b 4 2)

/-- The firmware reads a format: its own, and the others that it knows. -/
def readsFormat (f : W16) : Bool := f = Config.imageFormat || Config.formatReadable f

/-- What an image says: in this device's format section by section, in another as that format has it. -/
def imageContents (b : Bytes) : TrayContents :=
  if imageFormatOf b = Config.imageFormat then readSections b else Config.imageContents b

end Sys2Proof.Machine
end

