-- ==== Sys2Proof/Machine/TwinLink.lean ====
section
/-! DEFINITION. The twin link, the state image and its epochs, and TWIN_CONFIG (R365 to R371, R374, R381, R383). -/

namespace Sys2Proof.Machine

/-- The device runs the twin link: role 0 or 1, after `easel_ready` (R357, R380). -/
def hasTwin (s : State) : Bool := awake s && decide (s.boot.role.toNat ≤ 1) && s.tray.own != .booting

/-! ### Lanes and frames (R365, R366) -/

/-- A lane's symbols of a frame: K27.7, every fourth byte, K29.7; and the running disparity after them. -/
def frameLane (rd : Bool) (b : Bytes) : List CodeGroup × Bool :=
  let first := encodeControl rd .k27_7
  let d := encodeRun (disparityAfter rd first) b
  let last := encodeControl d.2 .k29_7
  (first :: d.1 ++ [last], disparityAfter d.2 last)

/-- The bytes of a frame that travel on lane `l`: byte k on lane k mod 4. -/
def laneBytes (l : Nat) (b : Bytes) : Bytes := (b.zipIdx.filter (fun e => e.2 % 4 = l)).map (·.1)

/-- The four lanes of a frame, each with the running disparity after it. -/
def frameLanes (rds : List Bool) (b : Bytes) : List (List CodeGroup × Bool) :=
  (List.range 4).map (fun l => frameLane (nth rds l) (laneBytes l b))

/-- What a lane sends between frames: K28.5 D16.2, which leaves its running disparity as it is (R366). -/
def idlePair (rd : Bool) : List CodeGroup :=
  let first := encodeControl rd .k28_5
  first :: (encodeRun (disparityAfter rd first) [0x50]).1

/-- The lane set of a lane, from negative running disparity: K28.5, D21.5, its number and the number's complement. -/
def laneSet (l : Nat) : List CodeGroup × Bool :=
  let first := encodeControl false .k28_5
  let n := BitVec.ofNat 8 l
  let d := encodeRun (disparityAfter false first) [0xB5, n, ~~~n]
  (first :: d.1, d.2)

/-- The twin link trains: every lane starts with negative running disparity and sends its lane set, once here (assumption
log 127). -/
def trainTwin (s : State) : State :=
  let s := updTwin (fun t => { t with
    up := false, lanes := [], inverted := 0, skews := [], txRd := (List.range 4).map (fun l => (laneSet l).2) }) s
  forEach (List.range 4) (fun l => emit (.twinLaneSet l (laneSet l).1)) s

/-- A frame of a type: header, payload, CRC. -/
def twinFrame (typ : Nat) (fseq : W16) (payload : Bytes) : Bytes :=
  let b := [BitVec.ofNat 8 typ, 0] ++ leBytes 2 fseq.toNat ++ leBytes 4 payload.length ++ payload
  b ++ leBytes 4 (crc32 b).toNat

/-- Send a frame while the link is up. Every lane has sent K28.5 D16.2 since the frame before, which stands here once
(assumption log 127). -/
def sendTwin (typ : Nat) (payload : Bytes) (s : State) : State :=
  if !(hasTwin s && s.tray.twin.up) then s
  else
    let x := frameLanes s.tray.twin.txRd (twinFrame typ s.tray.twin.fseq payload)
    let s := emit (.twinIdle (s.tray.twin.txRd.map idlePair)) s
    emit (.twin (x.map (·.1))) (updTwin (fun t => { t with fseq := t.fseq + 1, txRd := x.map (·.2) }) s)

/-- The data bytes before the closing K29.7; a symbol error, a control code group in another place, or a frame that does not
close gives none. -/
def closedBytes : List (Option Decoded) → Option Bytes
  | [] => none
  | some (.data b) :: t => (closedBytes t).map (fun l => b :: l)
  | some (.control k) :: t => if k = .k29_7 && t.isEmpty then some [] else none
  | none :: _ => none

/-- The bytes that a physical lane carried between K27.7 and K29.7; the opening group's form tells the running disparity
before it. -/
def receivedLane (inv : Bool) (x : List CodeGroup) : Option Bytes :=
  let g := invertGroups inv x
  let first := g.headD 0
  let rd := first = encodeControl true .k27_7
  if rd || first = encodeControl false .k27_7 then closedBytes (decodeRun (disparityAfter rd first) (g.drop 1)) else none

/-- The physical lane on which the far end's lane `n` arrives. -/
def laneOfNumber (t : Twin) (n : Nat) : Nat := ((t.lanes.find? (fun e => e.2 = n)).map (·.1)).getD n

/-- The bytes of a received frame, its lanes corrected for polarity and mapped; a lane with a symbol error gives none, as
lanes of unequal length do. -/
def receivedBytes (t : Twin) (frame : List (List CodeGroup)) : Option Bytes :=
  let lane := fun n => receivedLane (t.inverted.getLsbD (laneOfNumber t n)) (frame.getD (laneOfNumber t n) [])
  match lane 0, lane 1, lane 2, lane 3 with
  | some a, some b, some c, some d =>
    if b.length = a.length && c.length = a.length && d.length = a.length then
      some ((List.range (4 * a.length)).map (fun k => nth (nth [a, b, c, d] (k % 4)) (k / 4)))
    else none
  | _, _, _, _ => none

/-- Type and payload of a frame that passes its CRC and whose length is right. -/
def frameContent (b : Bytes) : Option (Nat × Bytes) :=
  let n := leAt b 4 4
  if b.length = n + 12 && leAt b (n + 8) 4 = (crc32 (b.take (n + 8))).toNat then some (leAt b 0 1, (b.drop 8).take n) else none

def receivedFrame (t : Twin) (frame : List (List CodeGroup)) : Option (Nat × Bytes) :=
  match receivedBytes t frame with
  | none => none
  | some b => frameContent b

/-- A frame that fails is discarded and counted (assumption log 128); it breaks a run of valid heartbeats. -/
def frameFails (s : State) : State :=
  trayCount 6 1 (updTwin (fun t => { t with run := if t.heard then t.run else 0 }) s)

/-- A frame arrives: `f` takes the payload of one of type `typ`. -/
def twinReceived (typ : Nat) (frame : List (List CodeGroup)) (f : Bytes → State → State) (s : State) : State :=
  if !(hasTwin s && s.tray.twin.up) then s
  else match receivedFrame s.tray.twin frame with
    | none => frameFails s
    | some x => if x.1 = typ then f x.2 s else s

/-- TWIN_FRAME_CRC_FAIL (R366). -/
def execTwinFrameCrcFail (frame : List (List CodeGroup)) (s : State) : Res := .next (twinReceived 0 frame (fun _ s => s) s)

def sendStateRequest (s : State) : State := sendTwin 0x05 (zeros 8) s

/-! ### The state image (R368, R369) -/

/-- The entries that carry tray policy, the rail limits of R399 included. -/
def trayEntries (p : Policy) : List PolicyEntry :=
  let one := fun (id v : Nat) => ({ id := BitVec.ofNat 16 id, index := 0, value := BitVec.ofNat 32 v } : PolicyEntry)
  let all := fun (id : Nat) (l : List Nat) => l.zipIdx.map (fun e =>
    ({ id := BitVec.ofNat 16 id, index := BitVec.ofNat 16 e.2, value := BitVec.ofNat 32 e.1 } : PolicyEntry))
  [one 0x100 p.pumpLo, one 0x101 p.pumpHi, one 0x102 p.fanLo, one 0x103 p.fanHi, one 0x104 p.coolTarget, one 0x105 p.airTarget,
    one 0x106 p.flowMin] ++ all 0x107 p.pumpTachMin ++ all 0x108 p.fanTachMin ++ all 0x109 p.laserSet ++
    [one 0x10A p.snapshotInterval] ++ (all 0x120 p.railLimit).filter (fun e => decide (e.index.toNat % 8 ≤ 5))

/-- What the tray's control state is now. -/
def trayContents (s : State) : TrayContents :=
  let t := s.tray
  let on := ([Alarm.pump 0, .pump 1, .flow, .coolant] ++ (List.range 8).map Alarm.fan).filter (alarmOn s)
  { pumpDuty := t.pumpDuty, fanDuty := t.fanDuty, pumpDrive := t.pumpDrive, pumpPinned := t.pumpPinned, fanPinned := t.fanPinned
    flowLow := t.flowLow
    alarms := on.map (fun a => (alarmNumber a, s.now - tgetD t.alarmSeen (alarmNumber a) s.now))
    addresses := t.addresses, lasers := t.lasers, modules := t.modules, policy := trayEntries s.policy
    copyMode := t.nextCopyMode.getD t.copyMode, cycleTicks := t.nextCycle.getD t.cycleTicks, rackPolicy := t.rackPolicy }

/-- A section of an image. The firmware keeps a body to 466,016 bytes, so that the image stays within 4 MiB. -/
def imageSection (typ : Nat) (c : TrayContents) : Bytes :=
  let b := (sectionBody c typ).take 466016
  leBytes 2 typ ++ zeros 2 ++ leBytes 4 b.length ++ b

/-- The nine sections, to a multiple of 4. -/
def imageBody (c : TrayContents) : Bytes :=
  let b := (List.range 9).flatMap (fun i => imageSection (i + 1) c)
  padTo (roundUp 4 b.length) b

/-- The image of an epoch: its header, and the sections as the firmware lays them out. -/
def imageOf (s : State) (epoch : W32) : Bytes :=
  let body := imageBody (trayContents s)
  leBytes 4 0x47544E57 ++ leBytes 2 Config.imageFormat.toNat ++ leBytes 2 64 ++ leBytes 4 epoch.toNat ++
    leBytes 4 (64 + body.length) ++ leBytes 4 s.tick.number.toNat ++ leBytes 4 s.boot.chipTag.toNat ++
    leBytes 4 (cycleInForce s) ++ [s.tray.copyMode, 9] ++ zeros 34 ++ body

def imageEpoch (b : Bytes) : W32 := w32 (leAt b 8 4)

/-- STATE_DATA frames of at most 65,536 image bytes, in offset order. -/
def sendImageData (epoch : W32) : Nat → Nat → Bytes → State → State
  | 0, _, _, s => s
  | n + 1, off, b, s =>
    if b.isEmpty then s
    else sendImageData epoch n (off + 65536) (b.drop 65536)
      (sendTwin 0x02 (leBytes 4 epoch.toNat ++ leBytes 4 off ++ b.take 65536) s)

/-- Send one epoch: the next number, the whole image, STATE_END. -/
def sendEpoch (s : State) : State :=
  let e := s.tray.epoch + 1
  let b := imageOf s e
  let s := updTray (fun t => { t with epoch := e, newest := some b, sendDue := false, awaits := true }) s
  sendTwin 0x03 (leBytes 4 e.toNat ++ leBytes 4 b.length ++ leBytes 4 (crc32 b).toNat ++ zeros 4) (sendImageData e 65 0 b s)

/-- Settings of TWIN_CONFIG come into force with a control cycle (R381). -/
def takeTwinConfig (s : State) : State :=
  updTray (fun t => { t with copyMode := t.nextCopyMode.getD t.copyMode, cycleTicks := t.nextCycle.getD t.cycleTicks
                             nextCopyMode := none, nextCycle := none }) s

/-- A control cycle has ended: three in a row without STATE_ACK, while heartbeats arrive, raise STANDBY_UNSYNC. In cold
mode a cycle counts while an epoch sent waits for its acknowledge (R370, assumption log 129). -/
def judgeUnsync (s : State) : State :=
  let t := s.tray
  let n := if t.ackSeen || !t.twin.heard then 0 else if t.copyMode = 0 || t.awaits then t.unacked + 1 else t.unacked
  let s := updTray (fun t => { t with unacked := n, ackSeen := false }) s
  if n ≥ 3 && !s.tray.unsyncRaised then
    raise 0x0106 0xFFFF (leBytes 4 (s.tray.acked.getD 0).toNat) (updTray (fun t => { t with unsyncRaised := true }) s)
  else s

def cycleEnds (s : State) : State :=
  if !(awake s && s.tray.own = .active && decide (s.tray.cycleAt + cycleNs s ≤ s.now)) then s
  else
    let now := s.now
    let s := takeTwinConfig (updTray (fun t => { t with cycleAt := now }) (judgeUnsync s))
    when (s.tray.copyMode = 0 || s.tray.sendDue) sendEpoch s

/-- CONTROL_CYCLE_END (R369): every control cycle in warm mode; in cold mode what has become due is sent (R371). -/
def execControlCycleEnd (s : State) : Res := .next (cycleEnds s)

/-- Keep the newest image in the flash ring of eight; it is the flash snapshot from now on. -/
def writeSnapshot (s : State) : State :=
  match s.tray.newest with
  | none => s
  | some b => updTray (fun t => { t with snapshot := some b }) (updFlash (fun f => { f with snapshots := (b :: f.snapshots).take 8 }) s)

def snapshotDue (s : State) : Bool := decide (s.tray.snapAt + 1000000000 * s.policy.snapshotInterval ≤ s.now)

def snapshots (s : State) : State :=
  if !(hasTwin s && snapshotDue s) then s
  else
    let now := s.now
    let s := updTray (fun t => { t with snapAt := now }) s
    writeSnapshot (when (s.tray.own = .active && s.tray.copyMode != 0) sendEpoch s)

/-- SNAPSHOT_INTERVAL (R371). -/
def execSnapshotInterval (s : State) : Res := .next (snapshots s)

/-! ### Training (R365) -/

def lanesPermuted (t : Table Nat) : Bool := (List.range 4).all (fun n => t.any (fun e => e.2 = n))

/-- The lanes lie within the receiver's deskew of each other (assumption log 127). -/
def lanesDeskewed (t : Table Int) : Bool := t.all (fun e => decide (-40 ≤ e.2 ∧ e.2 ≤ 40))

/-- A lane set as received: the lane number, and whether the polarity is inverted; none where a group is not what R365 puts
there. -/
def readLaneSet (x : List CodeGroup) : Option (Nat × Bool) :=
  let look := fun (inv : Bool) =>
    let g := invertGroups inv x
    let first := g.headD 0
    let rd := first = encodeControl true .k28_5
    if rd || first = encodeControl false .k28_5 then
      match decodeRun (disparityAfter rd first) (g.drop 1) with
      | [some (.data pol), some (.data n), some (.data m)] => if pol = 0xB5 && m = ~~~n then some n.toNat else none
      | _ => none
    else none
  match look false, look true with
  | some n, _ => some (n, false)
  | none, some n => some (n, true)
  | none, none => none

/-- A lane aligns; with all four the link comes up, or TWIN_LANES is raised. -/
def laneTrained (lane : Nat) (groups : List CodeGroup) (skew : Int) (s : State) : State :=
  match readLaneSet groups with
  | none => s
  | some (number, inverted) =>
    if !hasTwin s then s
    else
      let bit := (1 : BitVec 4) <<< lane
      let s := updTwin (fun t => { t with
        lanes := tset t.lanes lane number, skews := tset t.skews lane skew
        inverted := if inverted then t.inverted ||| bit else t.inverted &&& ~~~bit }) s
      let t := s.tray.twin
      if t.lanes.length < 4 then s
      else if lanesPermuted t.lanes then updTwin (fun t => { t with up := lanesDeskewed t.skews }) s
      else raise 0x0110 0xFFFF ((List.range 4).map (fun l => BitVec.ofNat 8 (tgetD t.lanes l 0)) ++
        [BitVec.ofNat 8 t.inverted.toNat]) (updTwin (fun t => { t with up := false }) s)

/-- TWIN_LANE_TRAINED (R365): a lane aligns on the lane set it received, with its skew in code groups. -/
def execTwinLaneTrained (lane : Nat) (groups : List CodeGroup) (skew : Int) (s : State) : Res :=
  onUnit (decide (lane < 4)) (laneTrained lane groups skew) s

/-- TWIN_LINK_DOWN (R365): the link goes down and every lane trains again. -/
def execTwinLinkDown (lane : Nat) (s : State) : Res :=
  onUnit (decide (lane < 4)) (fun s =>
    if hasTwin s && (tget s.tray.twin.lanes lane).isSome then trainTwin s else s) s

/-! ### Heartbeats (R367) -/

/-- [1:0] ROLE; [5:2] SLOT_ID; [7:6] POS. -/
def rankByte (s : State) : Byte :=
  BitVec.ofNat 8 (fields [(0, s.boot.role.toNat), (2, s.boot.slotId.toNat), (6, s.boot.pos.toNat)])

/-- The rank of R373 from a rank byte: a lower one is better. -/
def rankOf (b : Byte) : Nat := 64 * bitsOf b.toNat 0 2 + 4 * bitsOf b.toNat 2 4 + bitsOf b.toNat 6 2

/-- This device's own inputs: two tachs in rpm, two flows in 0.1 L/min. -/
def trayInputs (s : State) (pump0 pump1 : TachReading) (flow0 flow1 : Reading) : List Reading :=
  [{ value := tachRpm pump0.pulses, plausible := pump0.plausible }, { value := tachRpm pump1.pulses, plausible := pump1.plausible },
    { flow0 with value := flowRate s flow0.value }, { flow1 with value := flowRate s flow1.value }]

/-- `diag`: lockstep, watchdog and memory pass; every reading is plausible. -/
def diagBits (s : State) (r : List Reading) : Byte :=
  let ok := fun (check : Nat) => boolNat (!(s.tray.failedCheck = check))
  BitVec.ofNat 8 (fields [(0, ok 1), (1, ok 2), (2, ok 3), (3, boolNat (r.all (·.plausible)))])

def heartbeatPayload (r : List Reading) (s : State) : Bytes :=
  let x := r.map (·.value)
  [BitVec.ofNat 8 (ownCode s.tray.own), rankByte s, diagBits s r, BitVec.ofNat 8 (boolNat (isSynced s))] ++
    leBytes 4 s.boot.chipTag.toNat ++ leBytes 4 (trayEpoch s).toNat ++ leBytes 4 s.tick.number.toNat ++
    leBytes 2 (nth x 0) ++ leBytes 2 (nth x 1) ++ leBytes 2 (nth x 2) ++ leBytes 2 (nth x 3) ++ zeros 8

/-- HEARTBEAT_SEND (R367): every 100 µs, with this device's readings. -/
def execHeartbeatSend (pump0 pump1 : TachReading) (flow0 flow1 : Reading) (s : State) : Res :=
  .next (sendTwin 0x01 (heartbeatPayload (trayInputs s pump0 pump1 flow0 flow1) s) s)

/-- Take the fields of a heartbeat. -/
def takeHeartbeat (b : Bytes) (now : Nat) (me : Nat) (t : Twin) : Twin :=
  let rank := BitVec.ofNat 8 (leAt b 1 1)
  let own := leAt b 0 1
  { t with ownState := BitVec.ofNat 8 own, rank := rank, diag := BitVec.ofNat 8 (leAt b 2 1), sync := bitOf (leAt b 3 1) 0
           chipTag := w32 (leAt b 4 4), epoch := w32 (leAt b 8 4), pumpTach := w32 (leAt b 16 4), flow := w32 (leAt b 20 4)
           lastHeard := now, run := min 3 (t.run + 1)
           lastBetter := if (own = 2 || own = 3) && decide (rankOf rank < me) then some now else t.lastBetter }

/-! ### Release (R376) -/

/-- Stop driving the tray: the line, the outputs and the buses. A TWIN_CONFIG that waits for a control cycle lapses. -/
def dropTray (t : Tray) : Tray :=
  { t with drives := false, lineLow := false, outputs := false, claimUntil := none, busesHeld := 0, leds := false, lamps := 0
           restore := none, activated := false, nextCopyMode := none, nextCycle := none }

/-- Release control with a cause of R387, into the state that follows. -/
def releaseControl (cause : Nat) (next : OwnState) (s : State) : State :=
  let s := sendTwin 0x06 (leBytes 2 cause ++ zeros 6) (trayCount 1 1 (updTray dropTray s))
  let s := setOwn next cause s
  when (next = .standby) sendStateRequest s

/-- A heartbeat of a better-ranked active twin: this device gives up (R374). -/
def resolveCollision (s : State) : State :=
  let t := s.tray.twin
  if s.tray.own = .active && decide (t.ownState.toNat = 3) && decide (rankOf t.rank < rankOf (rankByte s)) then
    releaseControl 6 .standby (trayCount 3 1 s)
  else s

/-- A standby whose twin is active knows that the line is low: the twin drives it (R372, assumption log 126). -/
def noteLine (s : State) : State :=
  if s.tray.own = .standby && decide (s.tray.twin.ownState.toNat = 3) then updTray (fun t => { t with lineLow := true }) s else s

def heartbeatTaken (b : Bytes) (s : State) : State :=
  if b.length ≠ 32 then s
  else
    let now := s.now
    let me := rankOf (rankByte s)
    let was := s.tray.twin.heard
    let s := updTwin (takeHeartbeat b now me) s
    let s :=
      if was || s.tray.twin.run < 3 then s
      else
        let s := raise 0x0102 0xFFFF (leBytes 4 s.tray.twin.chipTag.toNat) (updTwin (fun t => { t with heard := true }) s)
        if s.tray.own = .isolated then setOwn .standby 8 (sendStateRequest s) else s
    noteLine (resolveCollision s)

/-- HEARTBEAT_RECEIVED (R367). -/
def execHeartbeatReceived (frame : List (List CodeGroup)) (s : State) : Res := .next (twinReceived 0x01 frame heartbeatTaken s)

/-! ### Receiving epochs (R370) -/

/-- Give up what the receiving buffer holds. -/
def discardRecv (s : State) : State :=
  if s.tray.recvEpoch.isNone then s
  else trayCount 5 1 (updTray (fun t => { t with recvEpoch := none, recv := [], recvCovered := [] }) s)

def heartbeatLostNow (s : State) : State :=
  if !(hasTwin s && s.tray.twin.heard && decide (s.tray.twin.lastHeard + 500000 ≤ s.now)) then s
  else
    let s := trayCount 7 1 (updTwin (fun t => { t with heard := false, run := 0 }) s)
    let s := discardRecv (raise 0x0101 0xFFFF [] s)
    if s.tray.own = .standby && s.tray.lineLow then setOwn .isolated 7 s else s

/-- HEARTBEAT_LOST (R367, R380). -/
def execHeartbeatLost (s : State) : Res := .next (heartbeatLostNow s)

/-- A frame of a later epoch than the one being received discards it. -/
def laterEpoch (epoch : W32) (s : State) : State :=
  match s.tray.recvEpoch with
  | none => s
  | some e => if laterTick epoch e then discardRecv s else s

/-- A standby takes STATE_DATA: epoch, offset, image bytes. -/
def stateData (p : Bytes) (s : State) : State :=
  let epoch := w32 (leAt p 0 4)
  let off := leAt p 4 4
  let d := p.drop 8
  if !(s.tray.own = .standby) || decide (p.length < 8 ∨ off + d.length > 4194304 ∨ d.length > 65536) then s
  else
    let s := laterEpoch epoch s
    if s.tray.recvEpoch.any (fun e => !(e = epoch)) then s
    else updTray (fun t => { t with
      recvEpoch := some epoch, recv := mwrite t.recv off d, recvCovered := addRange off (off + d.length) t.recvCovered }) s

/-- STATE_DATA_RECEIVED (R370). -/
def execStateDataReceived (frame : List (List CodeGroup)) (s : State) : Res := .next (twinReceived 0x02 frame stateData s)

/-- Every byte of an image of `len` bytes has arrived (R370). -/
def imageCovered (s : State) (len : Nat) : Bool := len = 0 || s.tray.recvCovered.any (fun r => r.1 = 0 && len ≤ r.2)

/-- Every condition of R370 on the received image. -/
def epochGood (s : State) (epoch : W32) (len : Nat) (crc : W32) (b : Bytes) : Bool :=
  s.tray.recvEpoch = some epoch && imageCovered s len && crc32 b = crc && imageEpoch b = epoch &&
    readsFormat (imageFormatOf b) && (s.tray.committed.isNone || laterTick epoch s.tray.committedEpoch)

/-- Commit the received image: the buffers change roles, and the settings of TWIN_CONFIG come with its section 7 (R381). -/
def commitEpoch (epoch : W32) (b : Bytes) (s : State) : State :=
  let now := s.now
  let s := updTray (fun t => { t with
    committed := some b, committedEpoch := epoch, committedAt := now, freshCommit := true, newest := some b
    copyMode := (imageContents b).copyMode, cycleTicks := (imageContents b).cycleTicks, recvEpoch := none, recv := [], recvCovered := [] }) s
  sendTwin 0x04 (leBytes 4 epoch.toNat ++ zeros 4) (trayCount 4 1 s)

/-- A standby takes STATE_END: epoch, length and CRC of the image. -/
def stateEnd (p : Bytes) (s : State) : State :=
  let epoch := w32 (leAt p 0 4)
  let len := leAt p 4 4
  let crc := w32 (leAt p 8 4)
  if !(s.tray.own = .standby) || decide (p.length ≠ 16) then s
  else
    let s := laterEpoch epoch s
    let b := mreadN s.tray.recv 0 (min len 4194304)
    if epochGood s epoch len crc b then commitEpoch epoch b s
    else
      let unreadable := s.tray.recvEpoch = some epoch && imageCovered s len && crc32 b = crc &&
        !readsFormat (imageFormatOf b)
      let s := when unreadable (raise 0x0107 0xFFFF (leBytes 2 (imageFormatOf b).toNat)) s
      if s.tray.recvEpoch.isNone then trayCount 5 1 s else discardRecv s

/-- STATE_END_RECEIVED (R370). -/
def execStateEndReceived (frame : List (List CodeGroup)) (s : State) : Res := .next (twinReceived 0x03 frame stateEnd s)

/-! ### The active device's side (R370, R371, R378) -/

/-- The awaited acknowledge of a handover has come: control is released, without restart (R378). -/
def handoverDone (src : CmdSrc) (s : State) : State :=
  let due := s.now + 20000000
  let s := updTray (fun t => { t with handover := none, noTakeUntil := due }) s
  releaseControl 4 .standby (trayCount 2 1 (done src s))

/-- The active device takes STATE_ACK: the epoch committed. -/
def stateAck (p : Bytes) (s : State) : State :=
  let epoch := w32 (leAt p 0 4)
  if !(s.tray.own = .active) || decide (p.length ≠ 8) then s
  else
    let s := updTray (fun t => { t with
      acked := some epoch, unacked := 0, ackSeen := true, awaits := t.awaits && !(epoch = t.epoch), unsyncRaised := false }) s
    match s.tray.handover with
    | some (src, e, _) => if e = epoch then handoverDone src s else s
    | none => s

/-- STATE_ACK_RECEIVED (R370). -/
def execStateAckReceived (frame : List (List CodeGroup)) (s : State) : Res := .next (twinReceived 0x04 frame stateAck s)

def stateRequested (s : State) : State := when (s.tray.own = .active) (updTray (fun t => { t with sendDue := true })) s

/-- STATE_REQUEST_RECEIVED (R371, R383). -/
def execStateRequestReceived (frame : List (List CodeGroup)) (s : State) : Res :=
  .next (twinReceived 0x05 frame (fun _ => stateRequested) s)

/-- The twin has released the line: the cause is kept, and the line is high unless this device drives it. -/
def releaseTaken (p : Bytes) (s : State) : State :=
  updTray (fun t => { t with lineLow := t.drives, twin := { t.twin with release := some (w16 (leAt p 0 2)) } }) s

/-- RELEASE_RECEIVED (R366). -/
def execReleaseReceived (frame : List (List CodeGroup)) (s : State) : Res := .next (twinReceived 0x06 frame releaseTaken s)

/-! ### TWIN_CONFIG (R381) -/

/-- A control cycle of `n` ticks at the current period lies within 0.5 ms to 100 ms. -/
def cycleOk (s : State) (n : Nat) : Bool :=
  let ns := n * (if s.tick.running then periodOf s else 4000)
  decide (500000 ≤ ns ∧ ns ≤ 100000000)

def twinConfigCmd (src : CmdSrc) (p : Bytes) (s : State) : State :=
  let m := leAt p 0 1
  let n := leAt p 4 4
  refuseIf src [(decide (m > 1) || !cycleOk s n, stBadParam)] (fun s =>
    done src (updTray (fun t => { t with nextCopyMode := some (BitVec.ofNat 8 m), nextCycle := some (w32 n), sendDue := true }) s)) s

/-- TWIN_CONFIG (R381). -/
def execTwinConfig (src : CmdSrc) (s : State) : Res :=
  onUnit src.ok (command src (isOp 0xA0) (plen 8) (twinConfigCmd src)) s

end Sys2Proof.Machine
end

