-- ==== Sys2Proof/Machine/StartUp.lean ====
section
/-! DEFINITION. Power, the kinds of reset, the start-up stages, the Easel's restarts and the test access port (R409, R424 to
R426, R430 to R443, R452, R459, R460). -/

namespace Sys2Proof.Machine

/-! ### Chip reset (R432, R440 to R442) -/

/-- The bank to boot next becomes the active one (R429). -/
def switchBanks (f : Flash) : Flash :=
  { f with
    activeFw := if f.pendingFw then !f.activeFw else f.activeFw
    newFw := f.pendingFw || f.newFw, writtenFw := f.writtenFw && !f.pendingFw
    attempts := if f.pendingFw then 0 else f.attempts, pendingFw := false
    activeCfg := if f.pendingCfg then !f.activeCfg else f.activeCfg
    newCfg := f.pendingCfg || f.newCfg, writtenCfg := f.writtenCfg && !f.pendingCfg, pendingCfg := false }

/-- A function at chip reset: everything at its reset value, PERST_N as the host holds it. -/
def resetFn (f : HostFn) : HostFn := { perst := f.perst }

/-- Everything as at reset but flash, the flight recorder (R440), the pins that others drive, the protection attenuators
with what the laser monitors have seen (R45), and the model's own queue, clock, free-value counter and outputs. -/
def chipReset (s : State) : State :=
  let b := s.boot
  { pending := s.pending, now := s.now, free := s.free, out := s.out
    boot := {
      powered := b.powered, inReset := true, resetLow := b.resetLow, railsLow := b.railsLow, refclkLocked := b.refclkLocked
      thermTrip := b.thermTrip, jtag := b.jtag, jtagHolds := b.jtagHolds, boundary := b.boundary, boots := b.boots, claimed := b.claimed
      resetEnd := b.resetEnd }
    flash := switchBanks (spoilBank s), lasers := s.lasers
    host := { fnA := resetFn s.host.fnA, fnB := resetFn s.host.fnB }
    power := { alert := s.power.alert }
    health := { records := s.health.records, heldRecords := s.health.heldRecords } }

/-- RESET_N_ASSERT (R432): a pulse below 1 µs is ignored. -/
def execResetNAssert (lowNs : Nat) (s : State) : Res :=
  .next (if !s.boot.powered || lowNs < 1000 then s else chipReset (updBoot (fun b => { b with resetLow := true }) s))

/-- The rail holds the HBM's contents (R418). -/
def isHbmRail (r : CoreRail) : Bool := r = .vddHbm || r = .vddqHbm

/-- CORE_RAIL_FALL (R432): without its rails the HBM loses the flight-recorder ring. -/
def execCoreRailFall (rail : CoreRail) (s : State) : Res :=
  .next (if !s.boot.powered then s
    else
      let s := updBoot (fun b => { b with railsLow := if b.railsLow.contains rail then b.railsLow else b.railsLow ++ [rail] }) s
      chipReset (when (isHbmRail rail) (updHealth (fun h => { h with records := [] })) s))

/-- REFCLK_LOSS (R452). -/
def execRefclkLoss (s : State) : Res :=
  .next (if !s.boot.powered then s else chipReset (updBoot (fun b => { b with refclkLocked := false }) s))

/-- REFCLK_LOCK (R432). -/
def execRefclkLock (s : State) : Res := .next (when s.boot.powered (updBoot (fun b => { b with refclkLocked := true })) s)

/-- POWER_LOSS (R440): all state not kept in flash is lost. -/
def execPowerLoss (s : State) : Res :=
  .next { pending := s.pending, now := s.now, free := s.free, out := s.out
          boot := { powered := false, inReset := true, resetLow := true, refclkLocked := false, boots := 0 }
          flash := spoilBank s, host := { fnA := resetFn s.host.fnA, fnB := resetFn s.host.fnB }
          power := { alert := s.power.alert } }

/-- POWER_ON (R440): everything under chip reset, THERM_TRIP_N released. -/
def execPowerOn (s : State) : Res :=
  .next (if s.boot.powered then s
    else { pending := s.pending, now := s.now, free := s.free, out := s.out
           boot := { inReset := true, resetLow := true, refclkLocked := s.boot.refclkLocked, boots := 0, resetEnd := s.now }
           flash := switchBanks s.flash, host := { fnA := resetFn s.host.fnA, fnB := resetFn s.host.fnB }
           power := { alert := s.power.alert } })

/-- Chip reset may end: power, a locked reference clock, no thermal trip, no pins under test (R432, R443, R460). -/
def mayLeaveReset (s : State) : Bool :=
  s.boot.powered && s.boot.inReset && s.boot.refclkLocked && !s.boot.thermTrip && !s.boot.jtagHolds

/-- Chip reset ends: RESET_N is high, the rails are back, and a power alert still asserted asks for P3 (R390). -/
def leaveReset (s : State) : State :=
  let now := s.now
  when s.power.alert alertRequest (updBoot (fun b => { b with
    inReset := false, resetLow := false, railsLow := [], resetEnd := now, boots := b.boots + 1 }) s)

/-- CHIP_RESET_RELEASE (R434). RESET_N is high from here on, also while something else holds the chip reset (R443, R460). -/
def execChipResetRelease (s : State) : Res :=
  .next (when (mayLeaveReset s) leaveReset (when s.boot.powered (updBoot (fun b => { b with resetLow := false })) s))

/-- `CHIP_RESET` (R355, R441). -/
def resetCmd (src : CmdSrc) (whole : Bool) (p : Bytes) (s : State) : State :=
  refuseIf src [(leAt p 4 4 != 0x05719600, stBadParam), (s.boot.pendingReset.isSome, stBusy)] (fun s =>
    let due := s.now + 1000000
    done src (updBoot (fun b => { b with pendingReset := some (whole, due) }) s)) s

/-- CHIP_RESET_CHIP (R441). -/
def execChipResetChip (src : CmdSrc) (s : State) : Res := onUnit src.ok (command src (isSub 0xF0 1) (plen 8) (resetCmd src true)) s

/-- CHIP_RESET_EASEL (R441). -/
def execChipResetEasel (src : CmdSrc) (s : State) : Res := onUnit src.ok (command src (isSub 0xF0 2) (plen 8) (resetCmd src false)) s

/-! ### The Easel's restarts (R409, R440) -/

/-- Commands that run on the Easel end without answers; rings and event rings keep bases, sizes and `enable`. -/
def endCommands (s : State) : State :=
  let clear := fun (f : HostFn) => { f with rings := f.rings.map (fun x => { clearRing x with cmd := none }) }
  let s := updHost (fun h => { h with fnA := clear h.fnA, fnB := clear h.fnB, inband := [], replyCache := [], washes := [] }) s
  let s := { s with flash := spoilBank s, ports := s.ports.map (fun q => { q with washing := false }) }
  let s := updBoot (fun b => { b with pendingReset := none, upload := {}, writing := none }) s
  let s := updSketch (fun k => { k with load := {}, commit := none }) s
  let s := updStreams (fun x => { x with sealing := [] }) s
  let s := updHealth (fun h => { h with tests := h.tests.map (fun t => { t with src := none }) }) s
  updTray (fun t => { t with handover := none }) s

/-- Tray ownership is released under R376, with the cause of a restart. -/
def releaseTray (s : State) : State :=
  if s.tray.own = .active then releaseControl 9 .released s
  else if s.tray.own = .passive || s.tray.own = .released then updTray dropTray s
  else setOwn .booting 9 (updTray dropTray s)

/-- The Easel's firmware stops and starts again. -/
def easelDown (s : State) : State :=
  updBoot (fun b => { b with easelReady := false, restarting := true, restarted := true }) (endCommands (releaseTray s))

/-- `fatal` is set: the cause too, where it was clear. -/
def setFatal (s : State) : State :=
  if s.boot.fatal then s else setCauseBoth 8 (updBoot (fun b => { b with fatal := true }) s)

/-- The second uncommanded restart within 60 s of the first. -/
def restartsAgain (s : State) : Bool :=
  match s.boot.lastRestart with
  | none => false
  | some t => decide (s.now < t + 60000000000)

/-- An uncommanded restart: 1 memory, 2 watchdog; a second within 60 s leaves the Easel stopped. Firmware that has not yet
reached `easel_ready` restarts too, and goes on with the stage it was in (assumption log 154). -/
def easelFails (cause : Nat) (copyBad : Bool) (s : State) : State :=
  if !s.boot.powered || s.boot.inReset || s.boot.easelStopped || !(s.boot.fwAccepted || s.boot.restarting) then s
  else
    let again := restartsAgain s
    let now := s.now
    let s := setFatal (easelDown s)
    let s := record 2 10 cause 0 [] s
    updBoot (fun b => { b with
      easelStopped := again, restartCause := BitVec.ofNat 8 cause, lastRestart := some now
      fwAccepted := b.fwAccepted && !copyBad, triedOther := b.triedOther && !copyBad }) s

/-- EASEL_WATCHDOG_EXPIRE (R409): `copyBad` says that the verified copy of the firmware is uncorrectable. -/
def execEaselWatchdogExpire (copyBad : Bool) (s : State) : Res := .next (easelFails 2 copyBad s)

/-- The row of an HBM stack that holds row `r` of its Easel memory: from 62 GiB on (R266). -/
def easelRow (r : Nat) : Nat := 65011712 + r

/-- A word of Easel memory has been read: counted, recorded, reported and tested like any HBM word; an uncorrectable one
restarts the Easel (R407, R409). -/
def easelRead (stack row word : Nat) (e : WordError) (copyBad : Bool) (s : State) : State :=
  let s := hbmRead 6 stack (easelRow row) word e s
  if eccOf e = .uncorrectable then easelFails 1 copyBad s else s

/-- EASEL_MEMORY_UNCORRECTABLE (R409): with its verified copy bad too, the firmware comes from flash again. -/
def execEaselMemoryUncorrectable (stack row word : Nat) (error : WordError) (copyBad : Bool) (s : State) : Res :=
  onUnit (decide (stack < 4 ∧ row < 1048576 ∧ word < 32)) (easelRead stack row word error copyBad) s

/-- A whole state image that this firmware can read (R368). -/
def imageReadable (b : Bytes) : Bool :=
  decide (leAt b 0 4 = 0x47544E57 ∧ leAt b 6 2 = 64 ∧ leAt b 12 4 = b.length) && readsFormat (imageFormatOf b)

/-- The valid snapshot of the latest epoch (R371). -/
def latestSnapshot (l : List Bytes) : Option Bytes :=
  (l.filter imageReadable).foldl (fun m b => match m with
    | none => some b
    | some a => if laterTick (imageEpoch b) (imageEpoch a) then some b else some a) none

/-- A device whose Easel serves enters *Passive* or *Claiming*; a controller-capable one loads its flash snapshot and starts
the twin link first (R371, R380). -/
def enterTray (cause : Nat) (s : State) : State :=
  let now := s.now
  let s := updTray (fun t => { t with readyAt := now, rmAt := now }) s
  if s.boot.role.toNat > 1 then setOwn .passive cause s
  else
    let snap := latestSnapshot s.flash.snapshots
    let s := when (!s.tray.twin.up) trainTwin (updTray (fun t => { t with snapshot := snap, coresDown := false, failedCheck := 0 }) s)
    if s.tray.lineFault then s else setOwn .claiming cause s

/-- A restart writes the Easel's memory anew: no word of its rows (R266) reads uncorrectable any longer (R412; assumption log
184). -/
def easelWritten (s : State) : State :=
  rewriteWords (rowAddress 0 (easelRow 0) 0) 4294967296 s

/-- A restart has ended in `easel_ready`: a commanded one had not set `fatal` and raises no event. -/
def endRestart (s : State) : State :=
  let cause := s.boot.restartCause
  let s := easelWritten (updBoot (fun b => { b with restarting := false, fatal := false, restartCause := 0 }) s)
  when (cause != 0) (fun s => raise 0x0145 0xFFFF [cause] (healthCount 15 1 s)) s

/-- The restart of an Easel that has served since chip reset is over. -/
def restartOver (s : State) : State :=
  if !(s.boot.restarting && s.boot.reached && s.boot.fwAccepted && !s.boot.easelStopped && !s.boot.inReset) then s
  else enterTray 9 (endRestart (updBoot (fun b => { b with easelReady := true }) s))

/-- EASEL_RESTART_COMPLETE (R409). -/
def execEaselRestartComplete (s : State) : Res := .next (restartOver s)

/-- The commanded restart: it counts toward no second restart (R440). -/
def commandedRestart (s : State) : State :=
  if s.boot.easelReady then easelDown s else updBoot (fun b => { b with pendingReset := none }) s

def delayEnds (s : State) : State :=
  match s.boot.pendingReset with
  | none => s
  | some (whole, t) => if s.now < t then s else if whole then chipReset s else commandedRestart s

/-- CHIP_RESET_DELAY_END (R441). -/
def execChipResetDelayEnd (s : State) : Res := .next (delayEnds s)

/-! ### The stages (R424, R426, R430, R433 to R436) -/

/-- What an input reads: an open one what its pull makes it (R455). -/
def pinReads (pullUp : Bool) (x : PinLevel) : Bool :=
  match x with
  | .low => false
  | .high => true
  | .open => pullUp

/-- Strap pins as a field, bit 0 first; pins in `ups` pull up. -/
def strapField (n : Nat) (ups : List Nat) (l : List PinLevel) : BitVec n :=
  BitVec.ofNat n (maskOf ((List.range n).filter (fun i => pinReads (ups.contains i) (l.getD i .open))))

/-- Every strap pulls down but ROLE[1] (R455). -/
def sampleStraps (x : StrapPins) (s : State) : State :=
  if s.boot.inReset || s.boot.strapsValid || s.now < s.boot.resetEnd + 10000 then s
  else updBoot (fun b => { b with
    strapsValid := true, slotId := strapField 4 [] x.slotId, pos := strapField 2 [] x.pos
    role := strapField 2 [1] x.role, bootSrc := strapField 2 [] x.bootSrc }) s

/-- STRAP_SAMPLE (R433): 10 µs after leaving chip reset. -/
def execStrapSample (pins : StrapPins) (s : State) : Res := .next (sampleStraps pins s)

/-- The floor record's tag under the sealing key passes or not; when it fails, both floors are taken as 0 (R425). -/
def checkFloors (k : BitVec 256) (s : State) : State :=
  updFlash (fun f => { f with floorOk := f.floorTag == floorTagOf k f.fwFloor f.cfgFloor }) s

/-- The root secret from the array's start-up pattern: with the first helper copy, else with the second (R426). Flash pins that
are shorted or open give neither (R458). -/
def secretFrom (f : Flash) (pattern : Bytes) (flashReads : Bool) : Option (BitVec 256) :=
  if !flashReads then none
  else match reconstruct pattern f.helper1 with
  | some k => some k
  | none => reconstruct pattern f.helper2

def rootSecret (pattern : Bytes) (flashReads : Bool) (s : State) : State :=
  if s.boot.inReset || !s.boot.strapsValid || s.boot.rootDone then s
  else match secretFrom s.flash pattern flashReads with
  | none => setFatal (updBoot (fun b => { b with rootDone := true }) s)
  | some k => checkFloors k (updBoot (fun b => { b with
      rootDone := true, secret := some k, identity := identityDigest k, chipTag := w32 (leAt (identityDigest k) 0 4) }) s)

/-- ROOT_SECRET_COMPLETE (R426): `pattern` is what the ROM reads in the SRAM array. -/
def execRootSecretComplete (pattern : Bytes) (flashReads : Bool) (s : State) : Res := .next (rootSecret pattern flashReads s)

def pcieStage (linkA linkB : PcieLink) (s : State) : State :=
  if s.boot.inReset || !s.boot.rootDone || s.boot.pcieUp then s
  else
    let up := fun (l : PcieLink) (f : HostFn) => { f with linkUp := !f.perst, link := l }
    updHost (fun h => { h with fnA := up linkA h.fnA, fnB := up linkB h.fnB }) (updBoot (fun b => { b with pcieUp := true }) s)

/-- PCIE_STAGE_COMPLETE (R434): each link comes up as it has trained (R322, R458). -/
def execPcieStageComplete (linkA linkB : PcieLink) (s : State) : Res := .next (pcieStage linkA linkB s)

/-- The number of the newest valid record; 0 in an empty ring. -/
def newestSeq (t : Table FlightRec) : W64 := t.foldl (fun m e => if m.toNat < e.2.seq.toNat then e.2.seq else m) 0

def hbmTrained (s : State) : State :=
  if s.boot.inReset || !s.boot.rootDone || s.boot.hbmTrained then s
  else
    let held := s.health.heldRecords
    let s := updBoot (fun b => { b with hbmTrained := true }) s
    forEach held putRecord (updHealth (fun h => { h with recSeq := newestSeq h.records, heldRecords := [] }) s)

/-- HBM_TRAINING_COMPLETE (R434): the ring goes on after its newest valid record, with the records that waited. -/
def execHbmTrainingComplete (s : State) : Res := .next (hbmTrained s)

/-- Where the firmware image comes from: none, host memory; otherwise the bank (true: B). -/
def firmwareBank (s : State) : Option Bool :=
  if readsFlash s then some (s.flash.activeFw != s.boot.triedOther) else none

def bankCode (s : State) : BitVec 8 :=
  match firmwareBank s with
  | some b => BitVec.ofNat 8 (boolNat b)
  | none => if bootPort s = some .a then 2 else 3

def firmwareImage (s : State) (fetched : Bytes) : Bytes :=
  match firmwareBank s with
  | some b => bankImage s false b
  | none => padTo s.boot.bootLen.toNat fetched

/-- The ROM has an image to judge: from flash unless both banks have failed, from a host once it is fetched; the root secret
is there (R426). -/
def firmwareDue (s : State) : Bool :=
  !s.boot.inReset && s.boot.hbmTrained && s.boot.secret.isSome && !s.boot.fwAccepted && !s.boot.easelStopped &&
    (match firmwareBank s with
      | some _ => s.boot.bootStatus != 3
      | none => s.boot.bootStatus = 1)

/-- Every counter reads zero (R436). -/
def clearCounters (s : State) : State :=
  let z := fun (l : List W64) => List.replicate l.length (0 : W64)
  let s := { s with ports := s.ports.map (fun q => { q with ctr := z q.ctr }) }
  let s := updSwitch (fun w => { w with ctr := z w.ctr, pkt := z w.pkt }) s
  let s := updCanvas (fun c => { c with ctr := z c.ctr }) (updStreams (fun x => { x with ctr := z x.ctr }) s)
  let s := updSketch (fun k => { k with ctr := z k.ctr }) (updHost (fun h => { h with ctr := z h.ctr }) s)
  updTray (fun t => { t with ctr := z t.ctr }) (updPower (fun p => { p with ctr := z p.ctr }) (updHealth (fun h => { h with ctr := z h.ctr }) s))

/-- What the start of the firmware after a chip reset finds (R436): every counter zero, the commanded mode P0, the slope
governor's reference at the measured power. An Easel restart keeps all three (R440). -/
def firmwareBegins (s : State) : State :=
  if s.boot.restarting then s
  else updPower (fun p => { p with commanded := 0, ref := (p.power : Rat) / 1000 }) (clearCounters s)

/-- Accepted: the firmware starts. -/
def startFirmware (b : Bytes) (s : State) : State :=
  let code := bankCode s
  let now := s.now
  let own := ownership s
  let s := firmwareBegins s
  let s := updBoot (fun x => { x with
    fwAccepted := true, fwVersion := imVersion b, fwDigest := statedDigest b, fwSec := w32 (imSec b), bootBank := code
    bootAt := if x.restarting then x.bootAt else now }) s
  setBootStatus 2 (noteOwner own s)

/-- Refused: the other bank is tried; with none left the ROM waits for a new fetch, in a restart too. -/
def refuseFirmware (s : State) : State :=
  if (firmwareBank s).isSome && !s.boot.triedOther then updBoot (fun b => { b with triedOther := true }) s
  else setBootStatus 3 s

/-- FIRMWARE_VERIFIED (R424): `fetched` is what host memory held, where a host boots the device. -/
def execFirmwareVerified (fetched : Bytes) (s : State) : Res :=
  .next (if !firmwareDue s then s
    else
      let b := firmwareImage s fetched
      if imageAccepted s false b then startFirmware b s else refuseFirmware s)

/-- The bank that the firmware came from: none, host memory. -/
def bankBooted (s : State) : Option Bool := if s.boot.bootBank.toNat < 2 then some (s.boot.bootBank = 1) else none

/-- The boot bank holds an image that has never reached `easel_ready`. -/
def bootsNewFw (s : State) : Bool :=
  match bankBooted s with
  | some b => if b = s.flash.activeFw then s.flash.newFw else s.flash.writtenFw
  | none => false

/-- The third boot in a row of a new image without `easel_ready`: the other bank, where it meets the floor. -/
def fallBack (s : State) : State :=
  let img := bankImage s false (!s.flash.activeFw)
  if !decide (floorOf s false ≤ imSec img) then s
  else updateStep false 3 (imVersion img)
    (updFlash (fun f => { f with activeFw := !f.activeFw, newFw := false, attempts := 0, raiseFw := none }) s)

/-- The boot has lasted 5 s without `easel_ready`, restarts of its firmware and a stopped Easel included: it is counted, and
the ROM boots again unless the Easel is stopped. -/
def bootTimesOut (s : State) : State :=
  if s.boot.inReset || !(s.boot.fwAccepted || s.boot.restarting) || s.boot.easelReady || bankBooted s != some s.flash.activeFw ||
    !s.flash.newFw || s.now < s.boot.bootAt + 5000000000 then s
  else
    let s := updFlash (fun f => { f with attempts := f.attempts + 1 }) s
    let own := ownership s
    let s := updBoot (fun b => { b with
      fwAccepted := false, restarting := false, restartCause := 0, triedOther := false, cfgDone := false, config := none, configVersion := 0, configDigest := zeros 48, configSec := 0 }) s
    let s := noteOwner own s
    when (decide (s.flash.attempts ≥ 3)) fallBack s

/-- BOOT_ATTEMPT_TIMEOUT (R430). -/
def execBootAttemptTimeout (s : State) : Res := .next (bootTimesOut s)

/-- The route weight 8 of chip reset, moved into the bounds that the image gives (R173). -/
def startWeight (p : Policy) : Nat := (clampInt p.rwLo p.rwHi 8).toNat

/-- The configuration image is accepted: its values come into force (R422). -/
def takeConfig (b : Bytes) (s : State) : State :=
  let c := Config.configContents b
  let s := updBoot (fun x => { x with
    cfgDone := true, config := some c, configVersion := imVersion b, configDigest := statedDigest b, configSec := w32 (imSec b) }) s
  let s := { s with policy := applyEntries (imageEntries s.policy c.policy) s.policy }
  let s := { s with ports := s.ports.map (fun q => { q with rw := startWeight s.policy }) }
  settleMode 3 (updPower (fun p => { p with budgetTarget := c.budget, budget := (c.budget : Rat) }) s)

/-- CONFIG_VERIFIED (R424): without an accepted image the device runs with `config_version` 0 and no sketch keys. -/
def execConfigVerified (s : State) : Res :=
  .next (if s.boot.inReset || !s.boot.fwAccepted || s.boot.cfgDone || s.boot.easelStopped then s
    else
      let b := openBank s s.flash.activeCfg
      if imageAccepted s true b then takeConfig b s else updBoot (fun x => { x with cfgDone := true }) s)

/-- A listed resource is out of service from start-up on; it is not one retired since reset (R346). -/
def takeListed (r : TestRes) (s : State) : State :=
  updHealth (fun h => { h with retiredNow := h.retiredNow ++ [r], listed := h.listed ++ [r] }) s

/-- Take a listed row out of service again, untested; test a listed palette again (R416). -/
def applyRetired (pass : BitVec 32) (r : TestRes) (s : State) : State :=
  let remap := fun s => updHealth (fun h => { h with remapped := h.remapped ++ [r] }) (takeListed r s)
  match r with
  | .lane _ _ => s
  | .palette n =>
    if pass.getLsbD n then s
    else updCanvas (fun c => { c with palettes := c.palettes.modify n (fun p => { p with inService := false }) }) (takeListed r s)
  | .sramRow _ _ => healthCount 11 1 (remap s)
  | .hbmRow _ _ => healthCount 12 1 (remap s)

/-- A new image has reached `easel_ready`: FW_UPDATE step 2, and its floor. -/
def noteActivated (cfg : Bool) (version : W32) (s : State) : State := raiseFloor cfg (updateStep cfg 2 version s)

/-- `easel_ready` (R436): the retirement list, the boot record, the tray, and what a new image brings. -/
def becomeReady (pass : BitVec 32) (s : State) : State :=
  let newFw := bootsNewFw s
  let newCfg := s.flash.newCfg && s.boot.config.isSome
  let s := forEach (s.flash.retired.map (·.res)) (applyRetired pass) s
  let s := record 5 0 s.boot.bootBank.toNat 0 [] s
  let s := when s.boot.restarting endRestart (updBoot (fun b => { b with easelReady := true, reached := true, fatal := false }) s)
  let s := enterTray 0 s
  let s := when newFw (noteActivated false s.boot.fwVersion) s
  let s := when newCfg (noteActivated true s.boot.configVersion) s
  updFlash (fun f => { f with newFw := f.newFw && !newFw, newCfg := f.newCfg && !newCfg, attempts := 0 }) s

/-- EASEL_READY (R434, R436): `palettePass` says which listed palettes pass their test. -/
def execEaselReady (palettePass : BitVec 32) (s : State) : Res :=
  .next (if s.boot.inReset || !s.boot.fwAccepted || !s.boot.cfgDone || s.boot.reached || s.boot.easelStopped then s
    else becomeReady palettePass s)

/-! ### The test access port (R459, R460) -/

/-- Instructions that take the pins. -/
def takesPins (i : JtagInstr) : Bool :=
  match i with
  | .extest => true
  | .extestPulse => true
  | .extestTrain => true
  | .clamp => true
  | .highz => true
  | _ => false

/-- The IDCODE (R459). -/
def idcode : W32 := w32 (ygRevision / 256 * 2 ^ 28 + 0x9600 * 2 ^ 12 + 0x3C7 * 2 + 1)

/-- Cells of the boundary-scan register: one for each pin of R455 but the test access port's own, in R455's order, then one
for each pair that R459 names: 32 of PCI Express, eight of the twin link, two of the management Ethernet (assumption
log 152). -/
def boundaryCells : Nat := 58 + 42

/-- The instruction scans the boundary register. -/
def scansBoundary (i : JtagInstr) : Bool :=
  match i with
  | .samplePreload => true
  | .extest => true
  | .extestPulse => true
  | .extestTrain => true
  | _ => false

/-- What the data register that an instruction selects captures: the identification code, the levels on the pins and pairs,
or the zero of the bypass register (R459). -/
def captured (i : JtagInstr) (levels : List Bool) : List Bool :=
  if i = .idcode then (List.range 32).map (fun n => idcode.getLsbD n)
  else if scansBoundary i then (List.range boundaryCells).map (fun n => levels.getD n false)
  else [false]

/-- Scan the selected data register: its bits leave on TDO as new ones come in on TDI; what the boundary register then holds
drives the pins that an instruction takes. -/
def scanData (x : JtagScan) (s : State) : State :=
  let r := captured s.boot.jtag x.levels ++ x.tdi
  let s := emit (.tdo (r.take x.tdi.length)) s
  when (scansBoundary s.boot.jtag) (updBoot (fun b => { b with boundary := r.drop x.tdi.length })) s

/-- JTAG_INSTRUCTION_UPDATE (R460): while RESET_N is high a test instruction acts as BYPASS. A scan of the data register may
follow (assumption log 152). -/
def execJtagInstructionUpdate (instr : JtagInstr) (scan : Option JtagScan) (s : State) : Res :=
  let s := updBoot (fun b => { b with
    jtag := if takesPins instr && !b.resetLow then .bypass else instr
    jtagHolds := takesPins instr && b.resetLow }) s
  .next (match scan with
    | none => s
    | some x => scanData x s)

/-- JTAG_TEST_LOGIC_RESET (R460). -/
def execJtagTestLogicReset (s : State) : Res := .next (updBoot (fun b => { b with jtag := .idcode, jtagHolds := false }) s)

/-- What the test logic drives on the pins: nothing while the device's logic has them, and at HIGHZ. -/
def testDrives (s : State) : Option (List Bool) :=
  if s.boot.jtagHolds && s.boot.jtag != .highz then some s.boot.boundary else none

end Sys2Proof.Machine
end

