-- ==== Sys2Proof/Machine/Health.lean ====
section
/-! DEFINITION. The patrol scrubber, table entries and the targeted self-tests (R406 to R417). -/

namespace Sys2Proof.Machine

/-! ### Table entries (R408) -/

/-- A table entry is found uncorrectable: it acts as one with `valid` 0. -/
def badTable (tbl i : Nat) (s : State) : State :=
  if badEntry s tbl i then s else updHealth (fun h => { h with badTables := h.badTables ++ [(tbl, i)] }) s

def restoreEntry (tbl i : Nat) (copyBad : Bool) (s : State) : State :=
  if !badEntry s tbl i || s.health.lostTables.contains (tbl, i) then s
  else if copyBad then
    raise 0x0146 tbl (leBytes 4 i) (updHealth (fun h => { h with lostTables := h.lostTables ++ [(tbl, i)] }) s)
  else record 2 9 tbl i [] (healthCount 14 1 (entryWritten tbl i s))

/-- TABLE_RESTORE (R408): from the copy in Easel memory, unless the copy is uncorrectable too. -/
def execTableRestore (tbl index : Nat) (copyBad : Bool) (s : State) : Res := .next (restoreEntry tbl index copyBad s)

/-! ### Patrol scrub (R406, R407) -/

/-- A Canvas slot fails for an uncorrectable accumulator. -/
def accumulatorBad (k : SlotKey) (s : State) : State :=
  match slotOf s k with
  | none => s
  | some x => if x.state = .open_ then endIfAllArrived k (failSlot k (fun y => { y with internal := true }) s) else s

/-- A parked part that is uncorrectable counts as not arrived. -/
def pieceBad (k : SlotKey) (pos first : Nat) (s : State) : State :=
  match slotOf s k with
  | none => s
  | some x => match x.parked.find? (fun p => p.pos = pos && p.first = first) with
    | none => s
    | some p => freePlace p (updSlot k (fun y => notArrived pos { y with parked := y.parked.filter (fun q => !(q = p)) }) s)

/-- A part parked in packet `id`, whose cell is uncorrectable, has not arrived (R221, R229). -/
def unparkBad (id : Nat) (s : State) : State :=
  match s.canvas.slots.findSome? (fun x => (x.parked.find? (fun p => p.place = .buffer id)).map (fun p => (x.key, p))) with
  | none => s
  | some (k, p) => pieceBad k p.pos p.first s

/-- What an uncorrectable word does where the scrubber finds it (R407); `held`: the memory holds it so (R412). A header cell
acts as it is read, where the record may still hold the header (R198), and a retry entry at its replay; a word of an HBM row is
marked as it is read. -/
def scrubEffect (site : ScrubSite) (held : Bool) (s : State) : State :=
  match site with
  | .bufferCell id cell =>
    when (cell != 0) (fun s => unparkBad id (badPayload id cell s)) (when held (markSite site) s)
  | .canvasAcc g o c => accumulatorBad { group := g, opSeq := o, chunk := c } s
  | .canvasPiece g o c pos ftag => pieceBad { group := g, opSeq := o, chunk := c } pos ftag s
  | .staging t =>
    if (tget s.streams.tiles t).any (fun x => x.state = .staged && !x.poisoned) then
      streamCount 13 1 (updStreams (fun x => { x with tiles := tmod x.tiles t (fun y => { y with poisoned := true }) }) s)
    else s
  | .retry _ _ _ => when held (markSite site) s
  | .table t i => badTable t i s
  | .hbm _ _ _ => s
  | .easel _ _ _ copyBad => easelFails 1 copyBad s

/-- A word read by the scrubber: counted, recorded, reported and its row queued for test. -/
def siteRead (site : ScrubSite) (e : WordError) (s : State) : State :=
  match site with
  | .bufferCell _ _ => sramRead 0 e s
  | .canvasAcc _ _ _ => sramRead 1 e s
  | .canvasPiece _ _ _ _ _ => sramRead 1 e s
  | .staging _ => sramRead 2 e s
  | .retry _ _ _ => sramRead 3 e s
  | .table _ _ => sramRead 4 e s
  | .hbm k r w => hbmRead 5 k r w e s
  | .easel k r w _ => hbmRead 6 k (easelRow r) w e s

/-- The word reads uncorrectable until it is written again (R412). -/
def siteMarked (s : State) (site : ScrubSite) : Bool :=
  match site with
  | .hbm k r w => s.health.badWords.contains (rowAddress k r w / 32)
  | .easel k r w _ => s.health.badWords.contains (rowAddress k (easelRow r) w / 32)
  | _ => s.health.badSites.contains site

def scrub (site : ScrubSite) (word : WordError) (s : State) : State :=
  let e : WordError := if siteMarked s site then { marked := true } else word
  let s := siteRead site e s
  if eccOf e = .uncorrectable then scrubEffect site (inMemory e) s else s

/-- PATROL_SCRUB (R406): the word read, and what is wrong with it. -/
def execPatrolScrub (site : ScrubSite) (word : WordError) (s : State) : Res := onUnit site.ok (scrub site word) s

/-! ### Resources under test (R410, R417) -/

def testKind : TestRes → Nat
  | .lane _ _ => 1
  | .sramRow _ _ => 2
  | .hbmRow _ _ => 3
  | .palette _ => 4

def testResource : TestRes → Nat
  | .lane p _ => p
  | .sramRow b _ => b
  | .hbmRow k _ => k
  | .palette n => n

def testSub : TestRes → Nat
  | .lane _ l => l
  | .sramRow _ r => r
  | .hbmRow _ r => r
  | .palette _ => 0

def isRow : TestRes → Bool
  | .sramRow _ _ => true
  | .hbmRow _ _ => true
  | _ => false

/-- `resource` and `sub` as event data. -/
def testData (r : TestRes) : Bytes := leBytes 2 (testResource r) ++ leBytes 4 (testSub r)

def isRetired (s : State) (r : TestRes) : Bool :=
  match r with
  | .lane p l => (laneOf s p l).retired
  | _ => s.health.retiredNow.contains r

def findTest (s : State) (r : TestRes) : Option Test := s.health.tests.find? (fun t => t.res = r)

def updTest (r : TestRes) (f : Test → Test) (s : State) : State :=
  updHealth (fun h => { h with tests := h.tests.map (fun t => if t.res = r then f t else t) }) s

def dropTest (r : TestRes) (s : State) : State :=
  updHealth (fun h => { h with tests := h.tests.filter (fun t => !(t.res = r)) }) s

/-- Rows of one SRAM bank or HBM stack whose address a spare holds. -/
def sparesUsed (s : State) (r : TestRes) : Nat :=
  (s.health.remapped.filter (fun x => testKind x = testKind r && testResource x = testResource r)).length

def spareCount (r : TestRes) : Nat := if testKind r = 2 then 4 else 65536

/-- Row tests that hold a spare row before their copy is complete. -/
def sparesPromised (s : State) (r : TestRes) : Nat :=
  (s.health.tests.filter (fun t => t.stage = .running && testKind t.res = testKind r && testResource t.res = testResource r)).length

def sparesFree (s : State) (r : TestRes) : Nat := spareCount r - (sparesUsed s r + sparesPromised s r)

/-! ### Verdicts and retirement (R414, R416) -/

/-- Retire a resource: the lane leaves the usable set and its port retrains, the row keeps its spare, the palette stays out
of service. Rows and palettes enter the list in flash; a full list raises SPARES_LOW. -/
def retire (r : TestRes) (s : State) : State :=
  let s := updHealth (fun h => { h with retiredNow := if h.retiredNow.contains r then h.retiredNow else h.retiredNow ++ [r] }) s
  let s := record 4 0x0142 (testResource r) (testSub r) [] s
  let s := raise 0x0142 (testKind r) (testData r) s
  match r with
  | .lane p l =>
    let s := updLane p l (fun a => { a with retired := true }) (healthCount 10 1 s)
    when (inSet (portOf s p).laneSet l) (retest p caSelftest) s
  | _ =>
    let s := match r with
      | .palette n => updCanvas (fun c => { c with palettes := c.palettes.modify n (fun p => { p with inService := false }) }) s
      | _ => healthCount (if testKind r = 2 then 11 else 12) 1 s
    if s.flash.retired.any (fun e => e.res = r) then s
    else if s.flash.retired.length ≥ 4096 then raise 0x0143 0xFFFF (leBytes 4 0) s
    else updFlash (fun f => { f with retired := f.retired ++ [{ res := r }] }) s

/-- Transient verdicts of a resource within 24 h. -/
def transientCount (s : State) (r : TestRes) : Nat :=
  (s.health.transients.filter (fun e => e.1 = r && decide (s.now < e.2 + 86400000000000))).length

/-- A passing test is transient; the fourth transient verdict within 24 h retires. A commanded test adds none, whatever became
of its command (R417). -/
def transientVerdict (r : TestRes) (commanded : Bool) (s : State) : State :=
  if commanded then s
  else
    let now := s.now
    let s := healthCount 6 1 (updHealth (fun h => { h with
      transients := h.transients.filter (fun e => decide (now < e.2 + 86400000000000)) ++ [(r, now)] }) s)
    if transientCount s r ≥ 4 then retire r (healthCount 7 1 s) else s

/-- The result of SELFTEST_RUN. -/
def testResult (verdict errors duration : Nat) : Bytes :=
  [BitVec.ofNat 8 verdict, 0] ++ leBytes 2 (min errors 65535) ++ leBytes 4 duration

/-- Answer the command that asked for a test, if one did. -/
def answerTest (t : Test) (verdict errors duration : Nat) (s : State) : State :=
  match t.src with
  | none => s
  | some src => finish src stOk (testResult verdict errors duration) s

/-- A test has ended with a verdict (R414): recorded, raised, and acted on. -/
def giveVerdict (t : Test) (pass : Bool) (errors duration : Nat) (s : State) : State :=
  let v := boolNat !pass
  let s := dropTest t.res (healthCount 5 1 s)
  let s := record 3 0x0141 (testResource t.res) (testSub t.res) [BitVec.ofNat 8 v] s
  let s := raise 0x0141 (testKind t.res) (testData t.res ++ [BitVec.ofNat 8 v]) s
  let s := if pass then transientVerdict t.res t.commanded s else retire t.res (healthCount 7 1 s)
  answerTest t v errors duration s

/-! ### Starting a test (R412, R415) -/

/-- The limits on concurrent tests leave room for this one. -/
def roomToTest (s : State) (r : TestRes) : Bool :=
  let on := s.health.tests.filter (fun t => t.stage != .queued)
  match r with
  | .lane p _ => !on.any (fun t => match t.res with | .lane q _ => q = p | _ => false)
  | .palette _ => !on.any (fun t => testKind t.res = 4)
  | _ => decide ((on.filter (fun t => isRow t.res)).length < 4)

/-- No spare row is free: the test is skipped and the row stays in service. -/
def skipTest (t : Test) (s : State) : State :=
  let bank := testResource t.res
  let s := raise 0x0143 bank (leBytes 4 0) (healthCount 8 1 (dropTest t.res s))
  answerTest t 2 0 0 s

/-- A lane's test needs its port in *Running* with the lane in use; otherwise a retrain's self-test decides the lane. -/
def laneTestable (s : State) (p l : Nat) : Bool := decide ((portOf s p).state = .running) && inSet (portOf s p).laneSet l

def startTest (r : TestRes) (s : State) : State :=
  match findTest s r with
  | none => s
  | some t =>
    if t.stage != .queued || !roomToTest s r || !awake s then s
    else
      let now := s.now
      let go := updTest r (fun t => { t with stage := .running, began := now })
      match r with
      | .lane p l =>
        if laneTestable s p l then updTest r (fun t => { t with left := (portOf s p).leftRunning }) (go s)
        else match t.src with
          | none => dropTest r s
          | some src => finish src stNotReady [] (dropTest r s)
      | .palette n => go (updCanvas (fun c => { c with palettes := c.palettes.modify n (fun p => { p with inService := false }) }) s)
      | _ => if sparesFree s r = 0 then skipTest t s else go s

/-- SELFTEST_START (R415). -/
def execSelftestStart (res : TestRes) (s : State) : Res := onUnit res.ok (startTest res) s

/-! ### Ending a test (R411 to R413) -/

/-- A lane test that a retrain ended: the retrain's self-test gives the verdict once the port runs again. -/
def laneByRetrain (t : Test) (p l : Nat) (s : State) : State :=
  if (portOf s p).state = .running then giveVerdict t (laneOf s p l).rxPass (laneOf s p l).testErrors ((s.now - t.began) / 1000) s else s

/-- A lane passes its test in spare slots: over 2^21 observed bits of idle flits, at most 20 that are not zero, and a lane
FoM of at least `fom_warn` (R411). -/
def spareTestPasses (s : State) (p l : Nat) (t : Test) : Bool :=
  decide (t.flips ≤ 20) && decide ((laneOf s p l).fom.toNat ≥ s.policy.fomWarn)

/-- The end of a lane test: with 2^21 bits observed it has its verdict; 1 ms after its start without them the port goes to
*Retest*; a retrain that began meanwhile gives the verdict itself. -/
def laneTested (p l : Nat) (s : State) : State :=
  match findTest s (.lane p l) with
  | none => s
  | some t =>
    if t.stage != .running then s
    else if (portOf s p).state != .running || (portOf s p).leftRunning ≠ t.left then laneByRetrain t p l s
    else if t.bits ≥ 2097152 then giveVerdict t (spareTestPasses s p l t) t.flips ((s.now - t.began) / 1000) s
    else if t.began + 1000000 ≤ s.now then retest p caSelftest s
    else s

/-- LANE_TEST_COMPLETE (R411): what the lane has shown in spare slots (`observeIdle`). -/
def execLaneTestComplete (port lane : Nat) (s : State) : Res :=
  onUnit (portOk port && laneOk lane) (laneTested port lane) s

def rowCopied (r : TestRes) (s : State) : State :=
  match findTest s r with
  | none => s
  | some t =>
    if t.stage != .running || !isRow r then s
    else updHealth (fun h => { h with remapped := h.remapped ++ [r] }) (updTest r (fun t => { t with stage := .copied }) s)

/-- ROW_COPY_COMPLETE (R412): the address switches to the spare. -/
def execRowCopyComplete (res : TestRes) (s : State) : Res := onUnit res.ok (rowCopied res) s

/-- A passing row is copied back and the spare of this test freed (R412); the spare of a test that failed before stays. -/
def freeSpare (r : TestRes) (s : State) : State := updHealth (fun h => { h with remapped := h.remapped.erase r }) s

def rowTested (r : TestRes) (failing : Nat) (duration : W32) (s : State) : State :=
  match findTest s r with
  | none => s
  | some t =>
    if t.stage != .copied then s
    else
      let was := s.health.retiredNow.contains r
      let s := giveVerdict t (decide (failing = 0)) failing duration.toNat s
      let retires := s.health.retiredNow.contains r && !was
      when (decide (failing = 0) && !retires) (freeSpare r) s

/-- ROW_TEST_COMPLETE (R412): the March test's failing cells and its duration in µs. -/
def execRowTestComplete (res : TestRes) (failing : Nat) (duration : W32) (s : State) : Res :=
  onUnit res.ok (rowTested res failing duration) s

def paletteTested (n : Nat) (crc : W32) (failing : Nat) (duration : W32) (s : State) : State :=
  match findTest s (.palette n) with
  | none => s
  | some t =>
    if t.stage != .running then s
    else
      let pass := crc = Config.goldenCrc
      let s := when pass (updCanvas (fun c => { c with palettes := c.palettes.modify n (fun p => { p with inService := true }) })) s
      giveVerdict t pass failing duration.toNat s

/-- PALETTE_TEST_COMPLETE (R413): the CRC-32 over the results of the golden vectors. -/
def execPaletteTestComplete (palette : Nat) (crc : W32) (failing : Nat) (duration : W32) (s : State) : Res :=
  onUnit (decide (palette < 32)) (paletteTested palette crc failing duration) s

/-! ### SELFTEST_RUN (R417) -/

/-- The resource that the parameters name. -/
def namedResource (p : Bytes) : Option TestRes :=
  let res := leAt p 2 2
  let sub := leAt p 4 4
  let r : Option TestRes :=
    if leAt p 0 1 = 1 then some (.lane res sub) else if leAt p 0 1 = 2 then some (.sramRow res sub)
    else if leAt p 0 1 = 3 then some (.hbmRow res sub) else if leAt p 0 1 = 4 && sub = 0 then some (.palette res) else none
  r.filter (fun x => x.ok && (match x with
    | .hbmRow _ row => decide (row < 65011712)
    | _ => true))

def laneUnready (s : State) : TestRes → Bool
  | .lane p l => !laneTestable s p l
  | _ => false

def selftestCmd (src : CmdSrc) (p : Bytes) (s : State) : State :=
  match namedResource p with
  | none => finish src stBadParam [] s
  | some r =>
    refuseIf src [(isRetired s r, stResourceRetired), (laneUnready s r, stNotReady),
      (testOn s r || decide (s.health.tests.length ≥ 64), stBusy)] (fun s =>
      updHealth (fun h => { h with tests := h.tests ++ [{ res := r, commanded := true, src := some src }] }) s) s

/-- SELFTEST_RUN (R417): the command ends with the test. -/
def execSelftestRun (src : CmdSrc) (s : State) : Res :=
  onUnit src.ok (command src (isOp 0xC0) (plen 8) (selftestCmd src)) s

end Sys2Proof.Machine
end

