-- ==== Sys2Proof/Machine/Inband.lean ====
section
/-! DEFINITION. In-band commands: the queue of window 0x04 and the reply cache (R341 to R343). -/

namespace Sys2Proof.Machine

/-- A cached answer that matches a CMD in source, `ttag` and the CRC-32 of the command bytes, and still lives. -/
def cacheHit (s : State) (h : Header) (b : Bytes) : Option CachedReply :=
  s.host.replyCache.find? (fun e => e.src = h.src && e.ttag = h.ttag && e.crc = crc32 b && decide (s.now < e.expiry))

/-- The same command waits or runs already. -/
def alreadyQueued (s : State) (h : Header) (b : Bytes) : Bool :=
  s.host.inband.any (fun c => c.hdr.src = h.src && c.hdr.ttag = h.ttag && crc32 c.bytes = crc32 b)

/-- A CMD that R147 lets act: discarded before `easel_ready`, answered from the cache, discarded as a repeat, refused by a
full queue of 16, or queued. -/
def takeCmd (id : Nat) (st : Stored) (s : State) : State :=
  let s := dropPacket id false s
  let b := payloadOf st.hdr st.data
  if !s.boot.easelReady then hostCount 5 1 s
  else match cacheHit s st.hdr b with
  | some e => originate { pkt := cmdStatus s st.hdr e.status e.payload, viaPort := answerVia s st } (hostCount 4 1 s)
  | none =>
    if alreadyQueued s st.hdr b then s
    else if s.host.inband.length ≥ 16 then
      originate { pkt := cmdStatus s st.hdr stBusy [], viaPort := answerVia s st } (hostCount 3 1 s)
    else
      let c : InbandCmd := { hdr := st.hdr, viaPort := answerVia s st, bytes := b }
      settleInband 16 (updHost (fun h => { h with inband := h.inband ++ [c] }) s)

/-- CMD (R341). -/
def execCmd (packet : Nat) (s : State) : Res :=
  .next (atWindow packet (fun h => h.window = 0x04) (takeCmd packet) s)

/-- REPLY_CACHE_EXPIRE (R343): the entry's 1 s has passed. -/
def execReplyCacheExpire (src ttag : W16) (crc : W32) (s : State) : Res :=
  .next (updHost (fun h => { h with replyCache := h.replyCache.filter (fun e =>
    !(e.src = src && e.ttag = ttag && e.crc = crc && decide (e.expiry ≤ s.now))) }) s)

end Sys2Proof.Machine
end

