-- ==== Sys2Proof/Machine/Ownership.lean ====
section
/-! DEFINITION. Ownership of the tray: claim, takeover, self-checks, handover, the I3C buses (R361, R372 to R380, R382). -/

namespace Sys2Proof.Machine

/-! ### Claim (R373) -/

/-- No better-ranked twin in *Claiming* or *Active* has been heard in the last 500 µs. -/
def noBetterTwin (s : State) : Bool :=
  match s.tray.twin.lastBetter with
  | none => true
  | some t => decide (t + 500000 < s.now)

def mayClaim (s : State) : Bool :=
  hasTwin s && s.tray.own = .claiming && !s.tray.lineLow && !s.tray.lineFault && noBetterTwin s &&
    decide (s.tray.readyAt + 1000000 * rankOf (rankByte s) ≤ s.now)

/-- The epoch that a claiming device numbers on from: the latest it holds (assumption log 132). -/
def epochHeld (t : Tray) : W32 :=
  let later := fun (a b : W32) => if laterTick b a then b else a
  let e := match t.snapshot with
    | none => t.epoch
    | some b => later t.epoch (imageEpoch b)
  if t.committed.isSome then later e t.committedEpoch else e

/-- What a device that becomes active starts its control cycles with. -/
def freshCycles (now : Nat) (t : Tray) : Tray :=
  { t with drives := true, lineLow := true, outputs := false, activated := false, cycleAt := now, snapAt := now
           unacked := 0, unsyncRaised := false, ackSeen := false, awaits := false }

/-- The first claim after power-up assigns the dynamic addresses of the I3C targets (R361). -/
def claims (s : State) : State :=
  if !mayClaim s then s
  else
    let due := s.now + 1000000
    let now := s.now
    let first := !s.boot.claimed
    setOwn .active 1 (updTray (fun t => { freshCycles now t with
      claimUntil := some due, restore := t.snapshot, epoch := epochHeld t, assigns := first })
      (updBoot (fun b => { b with claimed := true }) s))

/-- CLAIM (R373): the wait has passed with the line high. -/
def execClaim (s : State) : Res := .next (claims s)

/-- A duty that a PWM net can be driven at: 1.0% to 99.0% (R359). -/
def legalDuty (n : Nat) : Nat := max 10 (min 990 n)

/-- No alarm stands. -/
def noAlarms (t : Tray) : Tray :=
  { t with pumpAlarm := 0, flowAlarm := false, coolantHot := false, fanFault := 0, alarmSeen := [], flowLow := 0 }

/-- Start the outputs at these duties, with no alarm and no loop at a bound (R373, R382). -/
def startOutputs (pump fan : Nat) (s : State) : State :=
  updTray (fun t => { noAlarms t with
    outputs := true, activated := true, restore := none, pumpDuty := legalDuty pump, fanDuty := legalDuty fan
    pumpDrive := [legalDuty pump, legalDuty pump], pumpPinned := {}, fanPinned := {} }) s

/-- The tray policy that an image carries, where it passes the checks of R352. -/
def takeImagePolicy (l : List PolicyEntry) (s : State) : State :=
  let l := l.filter isTrayEntry
  if (policyFault s.policy l).isSome then s else { s with policy := applyEntries l s.policy }

/-- Alarms that an image records stand again, each with the time since its condition was last seen. -/
def takeImageAlarms (l : List (Nat × Nat)) (s : State) : State :=
  let now := s.now
  let all := [Alarm.pump 0, .pump 1, .flow, .coolant] ++ (List.range 8).map Alarm.fan
  forEach all (fun a s => match l.find? (fun e => e.1 = alarmNumber a) with
    | none => s
    | some e => updTray (fun t => { setAlarm a true t with alarmSeen := tset t.alarmSeen (alarmNumber a) (now - e.2) }) s) s

/-- The indices of `rail_limit` that name a rail (R388, R399). -/
def allRails : List Nat := (List.range 32).filter (fun i => decide (i % 8 ≤ 5))

/-- Start from a state image: outputs at its duties and loops from their state, then alarms, addresses, module and source
settings, TWIN_CONFIG, tray policy and rack policy (R381, R382). The set points and limits of that policy are written to the
sources and modules (R46, R399; assumption log 183). -/
def startFromImage (b : Bytes) (s : State) : State :=
  let c := imageContents b
  let s := startOutputs c.pumpDuty c.fanDuty s
  let s := updTray (fun t => { t with
    pumpDrive := [legalDuty (nth c.pumpDrive 0), legalDuty (nth c.pumpDrive 1)], pumpPinned := c.pumpPinned, fanPinned := c.fanPinned
    flowLow := min 5 c.flowLow
    addresses := (List.range 4).filterMap (fun i => (c.addresses.find? (fun e => e.1 = i)).map (fun e => (i, e.2)))
    lasers := (List.range 64).map (fun i => nth c.lasers i), modules := (List.range 32).map (fun i => nth c.modules i)
    copyMode := c.copyMode, cycleTicks := c.cycleTicks, nextCopyMode := none, nextCycle := none, rackPolicy := c.rackPolicy }) s
  driveSettings (List.range 64) allRails (applyAlarms (takeImageAlarms c.alarms (takeImagePolicy c.policy s)))

/-- Start from the configuration image; without one the duties are free values. Every set point and every rail limit in force
is written to its source and module (R46, R399, R422). -/
def startFromConfig (s : State) : State :=
  driveSettings (List.range 64) allRails (match s.boot.config with
    | some c => startOutputs c.pumpDuty c.fanDuty s
    | none => withFree (fun x => withFree (fun y => startOutputs x y)) s)

/-- Start the outputs from what the device holds. -/
def startTray (s : State) : State :=
  match s.tray.restore with
  | some b => startFromImage b s
  | none => startFromConfig s

def listenEnds (s : State) : State :=
  match s.tray.claimUntil with
  | none => s
  | some t =>
    if awake s && s.tray.own = .active && decide (t ≤ s.now) then startTray (updTray (fun x => { x with claimUntil := none }) s) else s

/-- CLAIM_LISTEN_END (R373). -/
def execClaimListenEnd (s : State) : Res := .next (listenEnds s)

def lineIsLow (s : State) : State :=
  if hasTwin s && s.tray.own = .claiming then
    setOwn .standby 0 (sendStateRequest (updTray (fun t => { t with lineLow := true }) s))
  else s

/-- CLAIMING_LINE_LOW (R380). -/
def execClaimingLineLow (s : State) : Res := .next (lineIsLow s)

/-! ### Takeover (R377, R382) -/

/-- What a takeover starts from: its source code, image and epoch. -/
def bestState (s : State) : Nat × Option Bytes × W32 :=
  match s.tray.committed with
  | some b => (0, some b, s.tray.committedEpoch)
  | none => match s.tray.snapshot with
    | some b => (1, some b, imageEpoch b)
    | none => (2, none, 0)

/-- Raise TAKEOVER; the age of a snapshot or of the configuration image is a free value. -/
def raiseTakeover (source : Nat) (epoch : W32) (s : State) : State :=
  let ev := fun (age : Nat) => raise 0x0103 0xFFFF ([BitVec.ofNat 8 source] ++ leBytes 4 epoch.toNat ++ leBytes 4 age)
  if source = 0 then ev ((s.now - s.tray.committedAt) / 1000) s else withFree ev s

def mayTakeOver (s : State) : Bool :=
  hasTwin s && (s.tray.own = .standby || s.tray.own = .isolated) && !s.tray.lineFault && decide (s.tray.noTakeUntil ≤ s.now)

def takesOver (s : State) : State :=
  if !mayTakeOver s then s
  else
    let b := bestState s
    let now := s.now
    let s := discardRecv s
    let s := updTray (fun t => { freshCycles now t with restore := b.2.1, epoch := b.2.2, assigns := false }) s
    raiseTakeover b.1 b.2.2 (setOwn .active 2 (trayCount 0 1 s))

/-- TAKEOVER (R377): the line has been high for 10 µs. -/
def execTakeover (s : State) : Res := .next (takesOver s)

/-- IMAGE_ACTIVATED (R382): after a takeover the outputs start from the state taken. -/
def execImageActivated (s : State) : Res :=
  .next (if awake s && s.tray.own = .active && s.tray.claimUntil.isNone && !s.tray.activated then startTray s else s)

/-! ### The I3C buses (R361) -/

/-- With the fourth bus the LED outputs are driven; what each of the four lamps then shows is a free value (assumption log
123). -/
def driveLamps (s : State) : State :=
  if s.tray.busesHeld = 15 && !s.tray.leds then
    withFree (fun x => updTray (fun t => { t with leds := true, lamps := BitVec.ofNat 4 x })) s
  else s

/-- Take a bus: assign addresses at the first claim after power-up, else check every target of the address table
(assumption log 131). -/
def busTaken (bus : Nat) (answered : List (BitVec 7)) (s : State) : State :=
  if !runsTray s then s
  else
    let assign := s.tray.assigns && !s.tray.busesHeld.getLsbD bus
    let known := tgetD s.tray.addresses bus []
    let s := updTray (fun t => { t with
      busesHeld := t.busesHeld ||| (1 : BitVec 4) <<< bus
      addresses := if assign then tset t.addresses bus answered else t.addresses }) s
    let s := driveLamps s
    if assign then s
    else forEach (known.filter (fun a => !answered.contains a)) (fun a => raise 0x010D bus [a.setWidth 8]) s

/-- I3C_BUS_TAKE (R361): the addresses that ENTDAA assigned, or the targets that answered GETSTATUS. -/
def execI3cBusTake (bus : Nat) (answered : List (BitVec 7)) (s : State) : Res :=
  onUnit (decide (bus < 4)) (busTaken bus answered) s

/-! ### Self-checks (R375, R376) -/

/-- A check of the active device fails: control is released and the control cores restart. -/
def selfCheckFails (check : Nat) (s : State) : State :=
  if !(awake s && s.tray.own = .active) then s
  else
    let s := updTray (fun t => { t with coresDown := true, failedCheck := check, plausBad := 0 }) s
    raise 0x0104 check [] (releaseControl 3 .released s)

/-- LOCKSTEP_MISMATCH (R375). -/
def execLockstepMismatch (s : State) : Res := .next (selfCheckFails 1 s)
/-- CONTROL_WATCHDOG_EXPIRE (R375). -/
def execControlWatchdogExpire (s : State) : Res := .next (selfCheckFails 2 s)
/-- CONTROL_MEMORY_FAULT (R375). -/
def execControlMemoryFault (s : State) : Res := .next (selfCheckFails 3 s)

/-- Two readings differ by more than `pct` per cent of the twin's. -/
def differ (mine twins pct : Nat) : Bool :=
  decide (100 * (max mine twins - min mine twins) > pct * twins)

/-- The number of the first failing input: pumps 0 and 1, then flow meters 2 and 3. -/
def failingInput (s : State) (r : List Reading) : Option Nat :=
  let t := s.tray.twin
  let twins := [leAt (leBytes 4 t.pumpTach.toNat) 0 2, leAt (leBytes 4 t.pumpTach.toNat) 2 2, leAt (leBytes 4 t.flow.toNat) 0 2,
    leAt (leBytes 4 t.flow.toNat) 2 2]
  let own := r.map (·.value)
  (List.range 4).find? (fun i =>
    !(nth r i).plausible || (t.heard && differ (nth own i) (nth twins i) (if i < 2 then 5 else 10)))

/-- One check: a failure counts with a twin that is heard only while its inputs pass. -/
def plausibilityChecked (r : List Reading) (s : State) : State :=
  if !(awake s && s.tray.own = .active) then s
  else
    let t := s.tray.twin
    match (if t.heard && !bitOf t.diag.toNat 3 then none else failingInput s r) with
    | none => updTray (fun x => { x with plausBad := 0 }) s
    | some i =>
      let n := s.tray.plausBad + 1
      let s := updTray (fun x => { x with plausBad := min n 10 }) s
      if n < 10 then s
      else if t.heard then selfCheckFails 4 s
      else when (n = 10) (raise 0x010C i []) s

/-- PLAUSIBILITY_CHECK (R375): every 1 ms. -/
def execPlausibilityCheck (pump0 pump1 : TachReading) (flow0 flow1 : Reading) (s : State) : Res :=
  .next (plausibilityChecked (trayInputs s pump0 pump1 flow0 flow1) s)

def ownLineFaults (s : State) : State :=
  if !(awake s && s.tray.own = .active && s.tray.drives) then s
  else
    let s := updTray (fun t => { t with lineFault := true }) s
    releaseControl 5 .released (raise 0x0105 0xFFFF [] s)

/-- OWN_LINE_FAULT (R379). -/
def execOwnLineFault (s : State) : Res := .next (ownLineFaults s)

def coresRestarted (s : State) : State :=
  if !(awake s && s.tray.own = .released) then s
  else
    let s := updTray (fun t => { t with coresDown := false, failedCheck := 0 }) s
    if s.tray.lineFault then s else setOwn .claiming 9 s

/-- CORE_RESTART_COMPLETE (R380): the checks pass again. -/
def execCoreRestartComplete (s : State) : Res := .next (coresRestarted s)

/-! ### CONTROL_HANDOVER (R378) -/

/-- The twin is heard and shows a synchronised standby. -/
def twinReady (s : State) : Bool := s.tray.twin.heard && s.tray.twin.sync && decide (s.tray.twin.ownState.toNat = 4)

def handoverCmd (src : CmdSrc) (_p : Bytes) (s : State) : State :=
  refuseIf src [(!twinReady s, stNotReady), (s.tray.handover.isSome, stBusy)] (fun s =>
    let s := sendEpoch s
    let due := s.now + 2000000
    updTray (fun t => { t with handover := some (src, t.epoch, due) }) s) s

/-- CONTROL_HANDOVER (R378). -/
def execControlHandover (src : CmdSrc) (s : State) : Res :=
  onUnit src.ok (command src (isOp 0xA1) (plen 0) (handoverCmd src)) s

def handoverTimesOut (s : State) : State :=
  match s.tray.handover with
  | none => s
  | some (src, _, t) => if t ≤ s.now then finish src stTimeout [] (updTray (fun x => { x with handover := none }) s) else s

/-- HANDOVER_ACK_TIMEOUT (R378): control is kept. -/
def execHandoverAckTimeout (s : State) : Res := .next (handoverTimesOut s)

end Sys2Proof.Machine
end

