-- ==== Sys2Proof/Machine/PortCmds.lean ====
section
/-! DEFINITION. The identity and port commands (R94 to R96, R346, R348, R349). -/

namespace Sys2Proof.Machine

/-- IDENTIFY (R346). -/
def execIdentify (src : CmdSrc) (s : State) : Res :=
  onUnit src.ok (command src (isOp 0x01) (plen 0) (fun _ s => finish src stOk (identifyRecord s) s)) s

/-- GET_STATUS (R346). -/
def execGetStatus (src : CmdSrc) (s : State) : Res :=
  onUnit src.ok (command src (isOp 0x02) (plen 0) (fun _ s => finish src stOk (statusRecord s) s)) s

def portInfoCmd (src : CmdSrc) (p : Bytes) (s : State) : State :=
  refuseIf src [(decide (leAt p 0 1 > 95), stBadParam)] (fun s => finish src stOk (portInfo (portOf s (leAt p 0 1))) s) s

/-- PORT_INFO (R346). -/
def execPortInfo (src : CmdSrc) (s : State) : Res :=
  onUnit src.ok (command src (isOp 0x24) (plen 8) (portInfoCmd src)) s

/-- The ports of a mask, in increasing order. -/
def maskPorts (p : Bytes) : List Nat := maskList 96 (leAt p 0 12)

/-- An empty mask, or a named port of role *Unused* (R348). -/
def maskBad (s : State) (p : Bytes) : Bool := (maskPorts p).isEmpty || (maskPorts p).any (fun i => (roleOf s i).role = 0)

/-! ### PORT_ENABLE (R96, R125, R129) -/

def mayAdmit (q : Port) : Bool := q.state = .running && q.verdict = .pass

/-- Admission: the grants of VCs 0 to 3, and of VCs 6 and 7 off the edge, are added; the grace period ends. -/
def admitPort (p : Nat) (s : State) : State :=
  let q := portOf s p
  if q.admitted || !mayAdmit q then s
  else
    let vcs := if isEdge s p then [0, 1, 2, 3] else [0, 1, 2, 3, 6, 7]
    let s := updPort p (fun q => { q with admitted := true, grace := none }) s
    updLink p (fun k => { k with credCum := k.credCum.zipIdx.map (fun e =>
      if vcs.contains e.2 then e.1 + w16 (nth q.grants e.2) else e.1) }) s

def enableCmd (src : CmdSrc) (p : Bytes) (s : State) : State :=
  refuseIf src [(maskBad s p, stBadParam)] (fun s =>
    let refused := (maskPorts p).filter (fun i => !((portOf s i).admitted || mayAdmit (portOf s i)))
    finish src (if refused.isEmpty then stOk else stNotReady) (leBytes 12 (maskOf refused) ++ zeros 4)
      (forEach (maskPorts p) admitPort s)) s

/-- PORT_ENABLE (R96). -/
def execPortEnable (src : CmdSrc) (s : State) : Res := onUnit src.ok (command src (isOp 0x20) (plen 16) (enableCmd src)) s

/-! ### PORT_DISABLE (R95) -/

/-- Disable a port; a wash that it is part of sees it leave undrained. -/
def disableNow (p : Nat) (s : State) : State :=
  if (portOf s p).washing then abandonWash p s else (disablePort p s).1

def disableCmd (src : CmdSrc) (p : Bytes) (s : State) : State :=
  refuseIf src [(maskBad s p, stBadParam)] (fun s => done src (forEach (maskPorts p) disableNow s)) s

/-- PORT_DISABLE (R95). -/
def execPortDisable (src : CmdSrc) (s : State) : Res := onUnit src.ok (command src (isOp 0x21) (plen 16) (disableCmd src)) s

/-! ### PORT_RETRAIN (R87, R94) -/

/-- Start a cold retrain: from *Running* the sent blocks are awaited first, from any other state an attempt starts at
once. -/
def retrainPort (p : Nat) (s : State) : State :=
  let s := updPort p (fun q => { q with failCount := 0, probeWait := 0 }) s
  let q := portOf s p
  if q.state = .running then
    (if q.quiesce.isSome then s
    else
      let due := s.now + 10000
      updPort p (fun q => { q with quiesce := some due }) s)
  else toListen p caHostRetrain (goCold p s)

def retrainCmd (src : CmdSrc) (p : Bytes) (s : State) : State :=
  refuseIf src [(maskBad s p, stBadParam)] (fun s => done src (forEach (maskPorts p) retrainPort s)) s

/-- PORT_RETRAIN (R94). -/
def execPortRetrain (src : CmdSrc) (s : State) : Res := onUnit src.ok (command src (isOp 0x23) (plen 16) (retrainCmd src)) s

/-! ### PORT_WASH (R349) -/

/-- No packet is queued or held for a port. -/
def queuesEmpty (s : State) (p : Nat) : Bool := (List.range 8).all (fun v => (queueOf s p v).isEmpty) && (heldFor s p).isEmpty

/-- Everything for the port has left and been acknowledged. -/
def drained (s : State) (p : Nat) : Bool :=
  let k := (portOf s p).link
  queuesEmpty s p && (portOf s p).fetching.isEmpty && allAcked (portOf s p) && k.waitingC.isEmpty

/-- A named port starts its wash; one that is not admitted is disabled at once, undrained if it still holds packets. -/
def washPort (p : Nat) (s : State) : State :=
  let q := portOf s p
  if q.state = .disabled then s
  else if q.admitted && q.state = .running then updPort p (fun q => { q with washing := true }) s
  else
    let clean := queuesEmpty s p
    let d := disablePort p s
    if clean then d.1 else noteUndrained p d.2 d.1

def washCmd (src : CmdSrc) (p : Bytes) (s : State) : State :=
  let t := leAt p 12 4
  refuseIf src [(maskBad s p || !decide (1 ≤ t ∧ t ≤ 100000), stBadParam)] (fun s =>
    let w : Wash := { src := src, ports := BitVec.ofNat 96 (leAt p 0 12), deadline := s.now + 1000 * t }
    let s := updHost (fun h => { h with washes := h.washes ++ [w] }) s
    finishWashes (forEach (maskPorts p) washPort s)) s

/-- PORT_WASH (R349). -/
def execPortWash (src : CmdSrc) (s : State) : Res := onUnit src.ok (command src (isOp 0x22) (plen 16) (washCmd src)) s

def washDrained (p : Nat) (s : State) : State :=
  if (portOf s p).washing && drained s p then finishWashes (disablePort p s).1 else s

/-- WASH_PORT_DRAINED (R349): the port's queues are empty and everything sent is acknowledged. -/
def execWashPortDrained (port : Nat) (s : State) : Res := onUnit (portOk port) (washDrained port) s

/-- Disable a port that its wash could not drain. -/
def giveUpPort (p : Nat) (s : State) : State :=
  if (portOf s p).washing then
    let d := disablePort p s
    noteUndrained p d.2 d.1
  else s

def washTimesOut (src : CmdSrc) (s : State) : State :=
  match s.host.washes.find? (fun w => w.src = src) with
  | none => s
  | some w => if w.deadline ≤ s.now then finishWashes (forEach (maskList 96 w.ports.toNat) giveUpPort s) else s

/-- WASH_TIMEOUT (R349). -/
def execWashTimeout (src : CmdSrc) (s : State) : Res := onUnit src.ok (washTimesOut src) s

end Sys2Proof.Machine
end

