-- ==== Sys2Proof/Machine/PowerMod.lean ====
section
/-! DEFINITION. Power modes, the power and slope governors, thermal steps, the trip and the rails (R390 to R398). Powers
that the monitors report are in mW, currents in 0.1 A, temperatures in 0.1 °C. -/

namespace Sys2Proof.Machine

/-! ### Commands (R353, R390, R394) -/

def powerModeCmd (src : CmdSrc) (p : Bytes) (s : State) : State :=
  let m := leAt p 0 1
  refuseIf src [(decide (m > 3), stBadParam)] (fun s =>
    let s := settleMode 1 (updPower (fun x => { x with commanded := m }) s)
    finish src stOk ([BitVec.ofNat 8 s.power.mode] ++ zeros 3) s) s

/-- POWER_MODE_SET (R353, R390). -/
def execPowerModeSet (src : CmdSrc) (s : State) : Res :=
  onUnit src.ok (command src (isOp 0x71) (plen 4) (powerModeCmd src)) s

def slopeOk (n : Nat) : Bool := decide (10 ≤ n ∧ n ≤ 2000)

def slopeLimitCmd (src : CmdSrc) (p : Bytes) (s : State) : State :=
  let n := leAt p 0 4
  refuseIf src [(!slopeOk n, stBadParam)] (fun s => done src (updPower (fun x => { x with slope := n }) s)) s

/-- SLOPE_LIMIT_SET (R394). -/
def execSlopeLimitSet (src : CmdSrc) (s : State) : Res :=
  onUnit src.ok (command src (isOp 0x72) (plen 4) (slopeLimitCmd src)) s

/-! ### PWR_ALERT_N (R390, R391) -/

def alertAsserts (s : State) : State :=
  if s.power.alert then s
  else
    let s := updPower (fun p => { p with alert := true, alertHold := none }) s
    if s.boot.inReset || !s.boot.powered then s
    else alertRequest s

/-- PWR_ALERT_ASSERT (R390). -/
def execPwrAlertAssert (s : State) : Res := .next (alertAsserts s)

def alertReleases (s : State) : State :=
  if !s.power.alert then s
  else if s.boot.inReset || !s.boot.powered then updPower (fun p => { p with alert := false }) s
  else
    let due := s.now + 1000000
    raiseWith 0x0121 0xFFFF [] true (updPower (fun p => { p with alert := false, alertHold := some due }) s)

/-- PWR_ALERT_RELEASE (R390): the request stands for 1 ms more. -/
def execPwrAlertRelease (s : State) : Res := .next (alertReleases s)

def alertHoldEnds (s : State) : State :=
  match s.power.alertHold with
  | none => s
  | some t => if t ≤ s.now then settleMode 7 (updPower (fun p => { p with alertHold := none }) s) else s

/-- ALERT_HOLD_END (R391). -/
def execAlertHoldEnd (s : State) : Res := .next (alertHoldEnds s)

/-! ### The power governor (R393) -/

/-- Envelope of a mode, W (R3). -/
def envelope (mode : Nat) : Nat := if mode = 0 then 980 else if mode = 1 then 820 else if mode = 2 then 620 else 430

/-- The cap, W. -/
def powerCap (s : State) : Rat := min (envelope s.power.mode : Rat) s.power.budget

/-- θ's cap by mode, in 1/64. -/
def thetaCap (mode : Nat) : Nat := if mode = 0 then 64 else if mode = 1 then 32 else 0

/-- Draw of the present work at issue fraction k/64, W, from the 65 figures in mW. -/
def drawAt (draw : List Nat) (k : Nat) : Rat := ((draw.getD k 0 : Nat) : Rat) / 1000

/-- The largest multiple of 1/64 up to `top` whose draw fits; 0 where none does. -/
def largestFit (draw : List Nat) (limit : Rat) : Nat → Nat
  | 0 => 0
  | k + 1 => if drawAt draw (k + 1) ≤ limit then k + 1 else largestFit draw limit k

/-- The mode that the requests above software policy ask for: alert, over-current, thermal step and trip (R400, R401). -/
def protectiveMode (s : State) : Nat :=
  let p := s.power
  max (if p.alert || p.alertHold.isSome || p.overcurrent || p.tripped then 3 else 0) p.thermal

/-- One of those requests, and no governor, holds θ where it stands: the governors are not pinned then (R401). -/
def thetaHeld (s : State) (theta : Nat) : Bool :=
  decide (protectiveMode s > 0 ∧ thetaCap (protectiveMode s) ≤ theta)

/-- Lower θ until the draw fits the cap, not below `gov_floor`; what the governor allows is never below `gov_floor`. -/
def governPower (power : Nat) (draw : List Nat) (s : State) : State :=
  let w : Rat := (power : Rat) / 1000
  let isOver := decide (w > powerCap s)
  let floor := govFloor s
  let old := s.power.theta
  let pinned := isOver && decide (old ≤ floor ∧ s.power.mode ≤ 1) && !thetaHeld s old
  let limit := if isOver then max floor (largestFit draw (powerCap s) old) else 64
  let was := s.power.govPinned
  let s := updPower (fun p => { p with power := power, theta := min old limit, govTheta := limit, govPinned := pinned
                                       ref := if p.refSet then p.ref else w, refSet := true }) s
  let s := when pinned (powerCount 4 1) s
  when (pinned && !was) (raisePinned 0x12 0xFFFF false) s

/-- POWER_GOVERNOR_UPDATE (R393): the package power and the draw at each multiple of 1/64. -/
def execPowerGovernorUpdate (power : Nat) (draw : List Nat) (s : State) : Res :=
  .next (if s.boot.inReset || !s.boot.powered then s else governPower power draw s)

/-! ### The slope governor (R394) -/

/-- What one interval of the slope governor settles. -/
structure SlopeStep where
  theta : Nat
  ballast : Rat
  ref : Rat
  pinned : Pin               -- lower: a rise with θ at 0; upper: a fall that ballast cannot hold
  step : Rat                 -- change of the reference, W
  unheld : Bool              -- a step that the slope did not hold
  deriving DecidableEq, Repr

/-- The pseudocode of R394; `d` is the draw unthrottled. The floor acts within `top`, the mode's cap (assumption log 133). A
fall counts as one that `ballast_max` cannot hold where the reference falls by more than the slope for want of ballast. -/
def slopeStep (draw : List Nat) (r cap : Rat) (slope top floor ballMax : Nat) (protect : Bool) : SlopeStep :=
  let d := drawAt draw 64
  let by_ : Rat := (slope : Rat) / 100
  let lo := if protect then 0 else r - by_
  let hi := r + by_
  let want := max d lo
  let target := min (min want hi) cap
  let fit := largestFit draw target top
  let theta := if cap < min want hi then min top (max fit floor) else fit
  let gap := target - drawAt draw theta
  let ballast := if protect then 0 else min (max gap 0) (ballMax : Rat)
  let r2 := drawAt draw theta + ballast
  let rise := decide (theta = 0) && decide (drawAt draw 0 > hi)
  let fall := !protect && decide (gap > (ballMax : Rat) ∧ r2 < lo)
  { theta := theta, ballast := ballast, ref := r2, step := r2 - r
    pinned := { lo := rise, hi := fall }
    unheld := rise || fall || (protect && decide (r2 < r - by_)) }

/-- Whole W of a step's size. -/
def wholeWatts (x : Rat) : Nat := (if x < 0 then -x else x).floor.toNat

/-- Raise SLOPE_EXCEEDED, at most once per 1 ms, with the step over the last 1 ms. -/
def slopeExceeded (cause : Nat) (s : State) : State :=
  let due := match s.power.exceededAt with
    | none => true
    | some t => decide (t + 1000000 ≤ s.now)
  if !due then s
  else
    let now := s.now
    let first := (s.power.history.getLast?).getD s.power.ref
    let step := wholeWatts (s.power.ref - first)
    raise 0x0126 0xFFFF (leBytes 2 step ++ [BitVec.ofNat 8 cause])
      (powerCount 9 1 (updPower (fun p => { p with exceededAt := some now }) s))

/-- The budget in force moves toward its target at the slope (R392). -/
def moveBudget (s : State) : State :=
  let by_ : Rat := (s.power.slope : Rat) / 100
  let t : Rat := (s.power.budgetTarget : Rat)
  let b := s.power.budget
  let b2 := if t < b - by_ then b - by_ else if b + by_ < t then b + by_ else t
  settleMode 3 (updPower (fun p => { p with budget := b2 }) s)

/-- Count ballast energy in whole mJ: 1 W for 10 µs is 0.01 mJ. -/
def countBallast (s : State) : State :=
  let acc := s.power.ballastAcc + s.power.ballast / 100
  let n := acc.floor.toNat
  powerCount 7 n (updPower (fun p => { p with ballastAcc := acc - (n : Rat) }) s)

def governSlope (draw : List Nat) (s : State) : State :=
  let p := s.power
  let r := slopeStep draw p.ref (powerCap s) p.slope (min (thetaCap p.mode) p.govTheta) (govFloor s)
    (ballastMax s) p.protect
  let pin : Pin := if thetaHeld s r.theta then {} else r.pinned
  let s := updPower (fun x => { x with
    theta := r.theta, ballast := r.ballast, ref := r.ref, history := (x.ref :: x.history).take 100
    slopePinned := pin, protect := false, protectCause := 0 }) s
  let s := when (r.theta < thetaCap p.mode) (powerCount 6 1) s
  let s := raiseReached 0x13 0xFFFF p.slopePinned pin (when (pinHeld pin) (powerCount 5 1) s)
  let s := when r.unheld (slopeExceeded (if p.protect then p.protectCause else 0)) s
  moveBudget (countBallast s)

/-- SLOPE_GOVERNOR_UPDATE (R394): before a first measurement there is no reference yet. -/
def execSlopeGovernorUpdate (draw : List Nat) (s : State) : Res :=
  .next (if s.boot.inReset || !s.boot.powered || !s.power.refSet then s else governSlope draw s)

/-! ### Junction temperature (R396, R397) -/

/-- The hottest sensor and its reading. -/
def hottest (l : List Int) : Nat × Int :=
  l.zipIdx.foldl (fun m e => if e.1 > m.2 then (e.2, e.1) else m) (0, l.headD 250)

/-- A step of the thermal request. -/
def thermalStep (sensor : Nat) (new : Nat) (s : State) : State :=
  let up := decide (s.power.thermal < new)
  let s := updPower (fun p => { p with thermal := new, coolSince := none }) s
  let s := raise 0x0122 sensor (leBytes 2 (wrapInt 16 s.power.tjMax) ++ [BitVec.ofNat 8 new]) (powerCount 2 1 s)
  settleMode (if up then 5 else 7) s

/-- Time below the return level of the present request: 97.0 °C from P2, 92.0 °C from P1. -/
def coolFor (s : State) : Bool :=
  let level : Int := if s.power.thermal = 2 then 970 else 920
  decide (s.power.tjMax < level)

/-- Above the operating maximum: an event once per second, and the time counted in ms. -/
def overMaximum (sensor : Nat) (s : State) : State :=
  let n := s.power.overMaxRun + 1
  let s := powerCount 10 (n / 10) (updPower (fun p => { p with overMaxRun := n % 10 }) s)
  let due := match s.power.overMaxAt with
    | none => true
    | some t => decide (t + 1000000000 ≤ s.now)
  if !due then s
  else
    let now := s.now
    raise 0x0123 sensor (leBytes 2 (wrapInt 16 s.power.tjMax)) (updPower (fun p => { p with overMaxAt := some now }) s)

def thermalSampled (sensors : List Int) (s : State) : State :=
  let h := hottest sensors
  let now := s.now
  let s := updPower (fun p => { p with tjMax := h.2 }) s
  let s := updPower (fun p => { p with coolSince := if p.thermal > 0 && coolFor s then some (p.coolSince.getD now) else none }) s
  let cooled := match s.power.coolSince with
    | none => false
    | some t => decide (t + 100000000 ≤ now)
  let s :=
    if h.2 ≥ 1000 && s.power.thermal < 2 then thermalStep h.1 2 s
    else if h.2 ≥ 950 && s.power.thermal < 1 then thermalStep h.1 1 s
    else if cooled then thermalStep h.1 (s.power.thermal - 1) s
    else s
  when (decide (h.2 > 1050)) (overMaximum h.1) s

/-- THERMAL_SAMPLE (R396): every sensor, every 100 µs. -/
def execThermalSample (sensors : List Int) (s : State) : Res :=
  .next (if s.boot.inReset || !s.boot.powered then s else thermalSampled sensors s)

/-- The comparator trips: P3, THERM_TRIP_N and the modulators stop, a protective fall also where P3 was in force (R394); the
event needs the Easel. -/
def trips (sensor : Nat) (tj : Int) (s : State) : State :=
  if !s.boot.powered || s.boot.thermTrip || tj < 1150 then s
  else
    let s := updBoot (fun b => { b with thermTrip := true }) s
    if s.boot.inReset then s
    else
      let s := settleMode 5 (updPower (fun p => { p with
        tripped := true, protect := true, protectCause := 5, tjMax := max p.tjMax tj }) s)
      when s.boot.easelReady (raise 0x0124 sensor (leBytes 2 (wrapInt 16 s.power.tjMax))) s

/-- THERM_TRIP (R397). -/
def execThermTrip (sensor : Nat) (tj : Int) (s : State) : Res := .next (trips sensor tj s)

/-! ### Rails (R398) -/

/-- Ratings of rails 0 to 5, 0.1 A (16, rail ratings). -/
def railRating : List Nat := [9000, 1200, 3000, 400, 600, 1100]

def overRated (n : Nat) (i : Nat) : Bool := decide (10 * i > 11 * nth railRating n)
def calmRail (n : Nat) (i : Nat) : Bool := decide (10 * i < 9 * nth railRating n)

/-- Rail `n` has exceeded 110% of its rating in two samples in a row: it asks for P3, counted and told once until the request
lifts (assumption log 141). -/
def railExceeds (n : Nat) (s : State) : State :=
  let amps := nth s.power.railAmps n
  settleMode 6 (raise 0x0125 n (leBytes 2 (amps / 10))
    (powerCount 3 1 (updPower (fun p => { p with overcurrent := true, ocRails := p.ocRails ++ [n] }) s)))

def railsSampled (amps : List Nat) (s : State) : State :=
  let now := s.now
  let runs := (List.range 6).map (fun n => if overRated n (nth amps n) then nth s.power.railHigh n + 1 else 0)
  let calm := (List.range 6).all (fun n => calmRail n (nth amps n))
  let s := updPower (fun p => { p with railHigh := runs, railAmps := (List.range 6).map (fun n => nth amps n)
                                       calmSince := if calm then some (p.calmSince.getD now) else none }) s
  forEach ((List.range 6).filter (fun n => decide (nth runs n ≥ 2) && !s.power.ocRails.contains n)) railExceeds s

/-- RAIL_CURRENT_SAMPLE (R398): the six rails' currents, every 10 µs. -/
def execRailCurrentSample (deciamps : List Nat) (s : State) : Res :=
  .next (if s.boot.inReset || !s.boot.powered then s else railsSampled deciamps s)

def overcurrentLifts (s : State) : State :=
  let due := match s.power.calmSince with
    | none => false
    | some t => decide (t + 10000000 ≤ s.now)
  if s.power.overcurrent && due then
    let rails := s.power.ocRails
    let s := updPower (fun p => { p with overcurrent := false, ocRails := [] }) s
    settleMode 7 (forEach rails (fun n s => raiseWith 0x0125 n (leBytes 2 (nth s.power.railAmps n / 10)) true s) s)
  else s

/-- OVERCURRENT_LIFT (R398). -/
def execOvercurrentLift (s : State) : Res := .next (overcurrentLifts s)

end Sys2Proof.Machine
end

