-- ==== Sys2Proof/Machine/RackMgr.lean ====
section
/-! DEFINITION. Messages from the rack manager (R384 to R386, R392). -/

namespace Sys2Proof.Machine

def msgType (m : Bytes) : Nat := leAt m 0 2
def msgSeq (m : Bytes) : W32 := w32 (leAt m 4 4)
def msgBody (m : Bytes) : Bytes := (m.drop 16).take (m.length - 32)

/-- The message's length, tag, chip tag and sequence number are right (R384). -/
def rackMsgOk (s : State) (key m : Bytes) : Bool :=
  decide (32 ≤ m.length ∧ m.length ≤ 1024) && leAt m 2 2 = m.length &&
    (m.drop (m.length - 16) == rackTag key (m.take (m.length - 16))) && leAt m 8 4 = s.boot.chipTag.toNat &&
    (match s.tray.rmSeq with
    | none => true
    | some q => laterTick (msgSeq m) q)

/-- An accepted message: contact stands, or is restored (R386). -/
def acceptMsg (m : Bytes) (s : State) : State :=
  let now := s.now
  let was := s.tray.rmSilent
  let s := trayCount 8 1 (updTray (fun t => { t with rmSeq := some (msgSeq m), rmAt := now, rmSilent := false }) s)
  when was (raise 0x010F 0xFFFF []) s

/-- The message of a frame from MGMT_RX: the receiver has found the pair's polarity at link-up and corrects it (R458). -/
def frameMessage (f : MgmtFrame) : Bytes := if f.inverted then f.bytes.map (fun b => ~~~b) else f.bytes

/-- Judge a message of a type and act on it. Without a configuration image there is no key: nothing is received. -/
def rackMessage (typ : Nat) (m : Bytes) (f : State → State) (s : State) : State :=
  if !awake s then s
  else match s.boot.config with
  | none => s
  | some c =>
    if !rackMsgOk s c.rmKey m then trayCount 9 1 s
    else if msgType m = typ then f (acceptMsg m s) else s

/-- RM_HEARTBEAT (R384). -/
def execRmHeartbeat (frame : MgmtFrame) (s : State) : Res := .next (rackMessage 0x0001 (frameMessage frame) (fun s => s) s)

/-- `budget`, `slope` and `mode_ceiling` lie in their ranges (R392). -/
def policyHeadOk (b : Bytes) : Bool :=
  decide (430 ≤ leAt b 0 2 ∧ leAt b 0 2 ≤ 980) && slopeOk (leAt b 4 4) && decide (leAt b 8 1 ≤ 3)

/-- The entries that this device judges: the active controller's are all of them (R385). -/
def rackEntries (s : State) (b : Bytes) : List PolicyEntry :=
  let l := parseEntries ((b.drop 16).take (8 * leAt b 9 1))
  if s.tray.own = .active then l else l.filter (fun e => !isTrayEntry e)

/-- The status of an RM_POLICY, judged whole. -/
def rackPolicyStatus (s : State) (b : Bytes) : W16 :=
  if b.length < 16 || b.length ≠ 16 + 8 * leAt b 9 1 then stBadLength
  else if !policyHeadOk b || (policyFault s.policy (rackEntries s b)).isSome then stBadParam
  else stOk

/-- An accepted RM_POLICY acts, or is refused whole. -/
def rackPolicyActs (m : Bytes) (s : State) : State :=
  let b := msgBody m
  let st := rackPolicyStatus s b
  let l := rackEntries s b
  let s := updTray (fun t => { t with policySeq := msgSeq m, policyStatus := st }) s
  if st != stOk then when (st = stBadParam && !policyHeadOk b) (powerCount 11 1) s
  else
    let s := updTray (fun t => { t with rackPolicy := b }) s
    let s := updPower (fun p => { p with budgetTarget := leAt b 0 2, slope := leAt b 4 4, ceiling := leAt b 8 1 }) s
    settleMode 2 (applyPolicy l s)

/-- RM_POLICY (R385, R392). -/
def execRmPolicy (frame : MgmtFrame) (s : State) : Res :=
  .next (rackMessage 0x0002 (frameMessage frame) (rackPolicyActs (frameMessage frame)) s)

def contactLost (s : State) : State :=
  if awake s && !s.tray.rmSilent && decide (s.tray.rmAt + 3000000000 ≤ s.now) then
    raise 0x010E 0xFFFF [] (trayCount 10 1 (updTray (fun t => { t with rmSilent := true }) s))
  else s

/-- RM_LOST (R386): the last policy is held. -/
def execRmLost (s : State) : Res := .next (contactLost s)

end Sys2Proof.Machine
end

