-- ==== Sys2Proof/Machine/Reports.lean ====
section
/-! DEFINITION. FLAGS_READ_CLEAR, COUNTERS_READ and the telemetry window (R149, R264, R353, R354, R356). -/

namespace Sys2Proof.Machine

def flagsLength (b : Bytes) : Bool := cmdParamLen b = 0 || cmdParamLen b = 8

def flagsCmd (src : CmdSrc) (p : Bytes) (s : State) : State :=
  let palettes := maskList 32 (leAt p 0 4)
  let mask := BitVec.ofNat 4 (leAt p 4 1)
  finish src stOk (flagRecords s) (forEach palettes (fun n => clearFlags n mask) s)

/-- FLAGS_READ_CLEAR (R264): returns the records, then clears what the masks name; without parameters it clears nothing. -/
def execFlagsReadClear (src : CmdSrc) (s : State) : Res :=
  onUnit src.ok (command src (isOp 0x80) flagsLength (flagsCmd src)) s

/-- The range lies within the block, in whole words. -/
def counterRange (p : Bytes) : Bool :=
  let off := leAt p 4 4
  let len := leAt p 8 4
  match blockSize (leAt p 0 2) (leAt p 2 2) with
  | none => false
  | some n => decide (off % 8 = 0 ∧ len % 8 = 0 ∧ 8 ≤ len ∧ len ≤ 4080 ∧ off + len ≤ n)

def countersCmd (src : CmdSrc) (p : Bytes) (s : State) : State :=
  refuseIf src [(!counterRange p, stBadParam)] (fun s =>
    finish src stOk (blockRange s (leAt p 0 2) (leAt p 2 2) (leAt p 4 4) (leAt p 8 4)) s) s

/-- COUNTERS_READ (R354). -/
def execCountersRead (src : CmdSrc) (s : State) : Res :=
  onUnit src.ok (command src (isOp 0x90) (plen 16) (countersCmd src)) s

/-! ### The telemetry window (R149, R356) -/

def telemetryOk (h : Header) : Bool :=
  h.length = 0 ||
    decide (h.offset.toNat % 8 = 0 ∧ h.length.toNat % 8 = 0 ∧ h.offset.toNat + h.length.toNat ≤ 0x3000000)

def telemetryRead (id : Nat) (st : Stored) (s : State) : State :=
  let s := dropPacket id false s
  if !telemetryOk st.hdr then answerStatus st stBadParam s
  else
    let b := telemetryBytes s st.hdr.offset.toNat st.hdr.length.toNat
    let a := answerHeader st.hdr opGetResp (answerSrc s st.hdr) stOk
    originate { pkt := { hdr := { a with length := w16 b.length }, payload := b }, viaPort := answerVia s st } s

/-- TELEMETRY_GET (R356). -/
def execTelemetryGet (packet : Nat) (s : State) : Res :=
  .next (atWindow packet (fun h => h.window = 0x05) (telemetryRead packet) s)

end Sys2Proof.Machine
end

