-- ==== Sys2Proof/Machine/Streams.lean ====
section
/-! DEFINITION. The commands of the stream store (09): loading, sealing, table edits, subscriptions, tile reads, and writing
originated packets into the buffer (R191). -/

namespace Sys2Proof.Machine

/-! ### Loading (R271, R157) -/

def putSegment (h : Header) : Nat := bitsOf h.offset.toNat 26 18
def putByte (h : Header) : Nat := bitsOf h.offset.toNat 0 26

/-- The PUT may be written. -/
def putAllowed (s : State) (h : Header) : Bool :=
  let e := segAt s (putSegment h)
  decide (bitsOf h.offset.toNat 44 4 = 0) && sgLocal e && !sgReady e && decide (putByte h + h.length.toNat ≤ sgBytes e)

def loadPut (id : Nat) (st : Stored) (s : State) : State :=
  if !engineRuns s then updPacket id (fun x => { x with deferred := true, why := 1 }) s
  else if st.putAccepted then s
  else if !putAllowed s st.hdr then answerStatus st stBadParam (streamCount 1 1 (dropPacket id false s))
  else
    let a := sgStore (segAt s (putSegment st.hdr)) + putByte st.hdr
    let s := updStreams (fun x => { x with store := mwrite x.store a (payloadOf st.hdr st.data) }) s
    let s := rewriteWords a (payloadOf st.hdr st.data).length s
    updPacket id (fun x => { x with putAccepted := true, deferred := false }) (streamCount 0 1 s)

/-- SEGMENT_PUT (R271); deferred in P2 and P3 (R285). -/
def execSegmentPut (packet : Nat) (s : State) : Res :=
  .next (atWindow packet (fun h => h.window = 0x02 && h.opcode = opPut) (loadPut packet) s)

/-- An earlier PUT of the same flow to window 0x02 is not yet visible: a fence waits for it (R157). A PUT counts once it has
been looked up and terminated (assumption log 146). -/
def fenceWaits (s : State) (id : Nat) (st : Stored) : Bool :=
  st.hdr.length = 0 && s.switch.packets.any (fun e =>
    e.1 < id && e.2.stage = .terminated && e.2.hdr.opcode = opPut && e.2.hdr.window = 0x02 && flowOf e.2.hdr = flowOf st.hdr)

def putVisible (id : Nat) (s : State) : State :=
  match packetOf s id with
  | none => s
  | some st =>
    if !st.putAccepted || fenceWaits s id st then s
    else
      let s := dropPacket id false s
      if st.hdr.ackReq then answerStatus st stOk s else s

/-- SEGMENT_PUT_VISIBLE (R271). -/
def execSegmentPutVisible (packet : Nat) (s : State) : Res := .next (putVisible packet s)

/-! ### Subscriptions (R276, R277) -/

def subStream (h : Header) : W16 := w16 h.opA.toNat

def hasSub (s : State) (stream src : W16) : Bool := s.streams.subs.any (fun b => b.stream = stream && b.src = src)

/-- Bind a subscription: a new one goes last, one that replaces another keeps its place (R276, R280; assumption log 166). -/
def bindSub (b : Subscription) (s : State) : State :=
  let same := fun (c : Subscription) => c.stream = b.stream && c.src = b.src
  let put := fun (l : List Subscription) => if l.any same then l.map (fun c => if same c then b else c) else l ++ [b]
  updStreams (fun x => { x with subs := put x.subs }) s

/-- The status of a subscribe. -/
def subscribeStatus (s : State) (h : Header) : W16 :=
  if !stValid (streamAt s (subStream h).toNat) || h.opB = 0 || h.offset.toNat % 4096 != 0 ||
    decide (h.offset.toNat + h.opB.toNat * 65536 > 2 ^ 48) then stBadParam
  else if !hasSub s (subStream h) h.src && decide (s.streams.subs.length ≥ 262144) then stBusy
  else stOk

def subscribe (id : Nat) (st : Stored) (s : State) : State :=
  let h := st.hdr
  let status := subscribeStatus s h
  let s := dropPacket id false s
  let s := if status = stOk then
      streamCount 4 1 (bindSub { stream := subStream h, src := h.src, base := h.offset, size := h.opB } s)
    else streamCount 6 1 s
  answerStatus st status s

def isCancel (h : Header) : Bool := h.opA.getLsbD 16

/-- STREAM_SUBSCRIBE (R276). -/
def execStreamSubscribe (packet : Nat) (s : State) : Res :=
  .next (atWindow packet (fun h => h.window = 0x02 && h.opcode = opSubscribe && !isCancel h) (subscribe packet) s)

/-- A landing size of 0 is refused in a cancel too (R160, R276). -/
def cancelSub (id : Nat) (st : Stored) (s : State) : State :=
  let h := st.hdr
  let s := dropPacket id false s
  if h.opB = 0 then answerStatus st stBadParam (streamCount 6 1 s) else
  let s := if hasSub s (subStream h) h.src then
      streamCount 5 1 (updStreams (fun x => { x with subs := x.subs.filter (fun c => !(c.stream = subStream h && c.src = h.src)) }) s)
    else s
  answerStatus st stOk (sweepTiles s)

/-- STREAM_CANCEL (R277). -/
def execStreamCancel (packet : Nat) (s : State) : Res :=
  .next (atWindow packet (fun h => h.window = 0x02 && h.opcode = opSubscribe && isCancel h) (cancelSub packet) s)

/-! ### Table edits (R268 to R275, R351) -/

def routeOk (s : State) (d : Nat) : Bool := routeValid (routeOf s (w16 d))

/-- A write action: the content of what it writes (step 7), `BUSY` (step 8), and the capacity of the tables `t` as they would
stand after it (step 9, R275). -/
def writeTables (src : CmdSrc) (bad busy : Bool) (t : StreamTables) (f : State → State) (s : State) : State :=
  refuseIf src [(bad, stBadParam), (busy, stBusy),
    (!(capacityShort t s.sketch.plans (periodOf s)).none_, stStoreOvercommit)] (fun s => done src (f s)) s

/-- A table with entry `i` written: an entry with `valid` 0 is not listed. -/
def putEntry {n : Nat} (t : Table (BitVec n)) (i e : Nat) : Table (BitVec n) :=
  if bitOf e 0 then tset t i (BitVec.ofNat n e) else tdel t i

/-- A segment entry as a write leaves it: *Filling* when local, always *Ready* otherwise (R268, R270). -/
def freshSegment (e : Nat) : Nat := if sgRes e = 0 then (if bitOf e 3 then e - 8 else e) else (if bitOf e 3 then e else e + 8)

/-- A stream that a work item in force names holds the segment. -/
def segmentNamed (s : State) (g : Nat) : Bool :=
  (liveTables s).streams.any (fun e => streamNamed s e.1 && ((streamTables s).segsOf e.2.toNat).contains g)

/-- The tables as a written segment entry would leave them. -/
def withSegment (s : State) (n e : Nat) : StreamTables :=
  { liveTables s with segments := putEntry (liveTables s).segments n e }

/-- The tables as a written stream entry would leave them. -/
def withStream (s : State) (n e : Nat) : StreamTables :=
  { liveTables s with streams := putEntry (liveTables s).streams n e }

def writeSegmentCmd (src : CmdSrc) (p : Bytes) (s : State) : State :=
  let n := leAt p 4 4
  let e := freshSegment (leAt p 8 16)
  let t := withSegment s n e
  writeTables src (decide (n ≥ 262144) || !segOk t (routeOk s) (ownId s) n e) (segmentNamed s n) t (fun s =>
    entryWritten 7 n (updStreams (fun x => { x with segments := putEntry x.segments n e }) s)) s

/-- WRITE_SEGMENT (R275). -/
def execWriteSegment (src : CmdSrc) (s : State) : Res :=
  onUnit src.ok (command src (isSub 0x50 1) (plen 24) (writeSegmentCmd src)) s

def writeStreamCmd (src : CmdSrc) (p : Bytes) (s : State) : State :=
  let n := leAt p 4 4
  let e := leAt p 8 16
  let t := withStream s n e
  writeTables src (decide (n ≥ 65536) || !streamOk t e) (streamNamed s n) t (fun s =>
    entryWritten 8 n (updStreams (fun x => { x with
      streams := putEntry x.streams n e, rewinds := x.rewinds.filter (fun r => r.1 != n) }) s)) s

/-- WRITE_STREAM (R275). -/
def execWriteStream (src : CmdSrc) (s : State) : Res :=
  onUnit src.ok (command src (isSub 0x50 2) (plen 32) (writeStreamCmd src)) s

/-- A PUT to the segment has been accepted and is not yet readable. -/
def putPending (s : State) (g : Nat) : Bool := s.switch.packets.any (fun e => e.2.putAccepted && putSegment e.2.hdr = g)

def sealCmd (src : CmdSrc) (p : Bytes) (s : State) : State :=
  let n := leAt p 4 4
  refuseIf src [(!sgLocal (segAt s n), stBadParam), ((tget s.streams.sealing n).isSome || putPending s n, stBusy)]
    (updStreams (fun x => { x with sealing := tset x.sealing n src })) s

/-- SEAL_SEGMENT (R272). -/
def execSealSegment (src : CmdSrc) (s : State) : Res := onUnit src.ok (command src (isSub 0x50 3) (plen 8) (sealCmd src)) s

/-- CRC-32 over the bytes of a local segment. -/
def segmentCrc (s : State) (e : Nat) : Nat := (crc32 (mreadN s.streams.store (sgStore e) (sgBytes e))).toNat

/-- The CRC read of a seal ends: a word that it finds uncorrectable has no bytes, so that the CRC fails (R272, R407).
The entry in force now is judged (assumption log 168), and a segment that was *Ready* before stays so (log 167). -/
def sealCompletes (n : Nat) (reads : List (Nat × WordError)) (s : State) : State :=
  match tget s.streams.sealing n with
  | none => s
  | some src =>
    let e := segAt s n
    let l := if sgLocal e then storeErrors s (sgStore e) (sgBytes e) reads else []
    let good := sgLocal e && segmentCrc s e = sgCrc e && !anyBad l
    let s := forEach l (fun x => storeRead (sgStore e + x.1) x.2) s
    let s := updStreams (fun x => { x with sealing := tdel x.sealing n }) s
    if good then done src (streamCount 2 1 (setReady n true s)) else finish src stBadParam [] (streamCount 3 1 s)

/-- SEAL_CHECK_COMPLETE (R272): `reads` are the words in error, by their offset in the segment. -/
def execSealCheckComplete (segment : Nat) (reads : List (Nat × WordError)) (s : State) : Res :=
  .next (sealCompletes segment reads s)

/-- Some tile of the segment is in staging. -/
def segmentStaged (s : State) (n : Nat) : Bool := s.streams.tiles.any (fun e => e.2.segment = n && e.2.state != .waiting)

def reopenCmd (src : CmdSrc) (p : Bytes) (s : State) : State :=
  let n := leAt p 4 4
  let e := segAt s n
  refuseIf src [(!(sgLocal e && sgReady e), stBadParam), (segmentStaged s n, stBusy)]
    (fun s => done src (setReady n false s)) s

/-- REOPEN_SEGMENT (R272). -/
def execReopenSegment (src : CmdSrc) (s : State) : Res := onUnit src.ok (command src (isSub 0x50 4) (plen 8) (reopenCmd src)) s

def rewindCmd (src : CmdSrc) (p : Bytes) (s : State) : State :=
  let n := leAt p 4 4
  let t := leAt p 8 4
  let e := streamAt s n
  refuseIf src [(!stValid e || decide (t ≥ (streamTables s).tiles e), stBadParam)] (fun s =>
    done src (if s.tick.running then
      updStreams (fun x => { x with rewinds := x.rewinds ++ [(n, s.tick.number + 16, w32 t)] }) s
    else setCursor n t s)) s

/-- REWIND_STREAM (R275). -/
def execRewindStream (src : CmdSrc) (s : State) : Res := onUnit src.ok (command src (isSub 0x50 5) (plen 12) (rewindCmd src)) s

/-- The list with `n` entries of `b` written from entry `i`; an entry of 0 is not listed. -/
def putList (t : Table (BitVec 18)) (i : Nat) : Nat → Bytes → Table (BitVec 18)
  | 0, _ => t
  | n + 1, b =>
    let v := leAt b 0 4 % 2 ^ 18
    putList (if v = 0 then tdel t i else tset t i (BitVec.ofNat 18 v)) (i + 1) n (b.drop 4)

/-- A valid stream that a work item in force names has one of the list entries `i` to `i + n − 1` (R351). -/
def listNamed (s : State) (i n : Nat) : Bool :=
  (liveTables s).streams.any (fun e =>
    let x := e.2.toNat
    streamNamed s e.1 && stSegBase x < i + n && i < stSegBase x + stSegCount x)

/-- The tables as written list entries would leave them. -/
def withList (s : State) (i n : Nat) (b : Bytes) : StreamTables :=
  let t := liveTables s
  { t with segList := putList t.segList i n b, lost := t.lost.filter (fun j => !decide (i ≤ j ∧ j < i + n)) }

/-- A list is written before the stream that uses it (R351): the entries themselves are not judged. -/
def writeListCmd (src : CmdSrc) (p : Bytes) (s : State) : State :=
  let i := leAt p 4 4
  let n := leAt p 8 4
  let bad := !decide (1 ≤ n ∧ n ≤ 1011 ∧ i + n ≤ 262144)
  let t := if bad then liveTables s else withList s i n (p.drop 12)
  writeTables src bad (listNamed s i n) t (fun s => forEach (List.range n) (fun j => entryWritten 9 (i + j))
    (updStreams (fun x => { x with segList := putList x.segList i n (p.drop 12) }) s)) s

def listLength (b : Bytes) : Bool := cmdParamLen b = 12 + 4 * leAt b 40 4

/-- WRITE_LIST (R351). -/
def execWriteList (src : CmdSrc) (s : State) : Res :=
  onUnit src.ok (command src (isSub 0x50 6) listLength (writeListCmd src)) s

/-! ### Reading tiles (R280, R282, R284) -/

/-- The first tile that waits for staging, in order. -/
def nextWaiting (s : State) : Option Nat := (s.streams.tiles.find? (fun e => e.2.state = .waiting)).map (·.1)

def startRead (i : Nat) (s : State) : State :=
  match tget s.streams.tiles i with
  | none => s
  | some t =>
    if nextWaiting s != some i || !engineRuns s || decide (stagingUsed s + t.bytes > 536870912) then s
    else if t.host.isNone && !(sgLocal (segAt s t.segment) && sgReady (segAt s t.segment)) then
      unreadyTile t.segment (dropTile i s)
    else updTile i (fun x => { x with state := .reading }) s

/-- TILE_READ_START (R282). -/
def execTileReadStart (tile : Nat) (s : State) : Res := .next (startRead tile s)

/-- The words in error that a tile read brought. -/
def readErrors : ReadResult → List (Nat × WordError)
  | .words l => l
  | _ => []

def readCompletes (i : Nat) (hostBytes : Bytes) (r : ReadResult) (s : State) : State :=
  match tget s.streams.tiles i with
  | none => s
  | some t =>
    if t.state != .reading then s
    else match t.host with
      | some hp =>
        let bad := r = .hostError || !masters (fnOf s hp) || !(fnOf s hp).linkUp
        let s := streamCount 9 1 (when bad (fun s => streamCount 14 1 (streamCount 13 1 s)) s)
        sweepTiles (updTile i (fun x => { x with state := .staged, poisoned := bad, data := padTo t.bytes hostBytes }) s)
      | none =>
        let l := storeErrors s t.address t.bytes (readErrors r)
        let bad := anyBad l || r = .hostError
        let s := streamCount 8 1 (when bad (streamCount 13 1) (forEach l (fun x => storeRead (t.address + x.1) x.2) s))
        let d := mreadN s.streams.store t.address t.bytes
        sweepTiles (updTile i (fun x => { x with state := .staged, poisoned := bad, data := d }) s)

/-- TILE_READ_COMPLETE (R280): a local tile's bytes come from the store, a host-fed tile's with the command. -/
def execTileReadComplete (tile : Nat) (hostBytes : Bytes) (result : ReadResult) (s : State) : Res :=
  .next (readCompletes tile hostBytes result s)

/-! ### Writing originated packets (R191, R218, R281, R283) -/

def writeOriginated (i : Nat) (o : Originate) (s : State) : State :=
  if !originRoom s o then s
  else
    let s := createPacket o (updSwitch (fun w => { w with originate := w.originate.eraseIdx i }) s)
    match o.slot with
    | none => s
    | some k => slotWritten k s

/-- Write the next packet of a staged tile. -/
def writeTile (i : Nat) (t : Tile) (s : State) : State :=
  let o := tilePacket s t
  if !engineRuns s || !originRoom s o then s
  else sweepTiles (updTile i (fun x => { x with served := x.served ++ o.copies.map (·.dst) })
    (streamCount 10 1 (createPacket o s)))

def originatedWrite (i : Nat) (s : State) : State :=
  match s.switch.originate[i]? with
  | some o => writeOriginated i o s
  | none =>
    match (tilesReady s)[i - s.switch.originate.length]? with
    | some e => writeTile e.1 e.2 s
    | none => s

/-- ORIGINATED_PACKET_WRITE (R191): packet `i` of those that wait, the staged tiles that may leave after the others. -/
def execOriginatedPacketWrite (i : Nat) (s : State) : Res := .next (originatedWrite i s)

end Sys2Proof.Machine
end

