-- ==== Sys2Proof/Machine/Sync.lean ====
section
/-! DEFINITION. Synchronisation objects (R239 to R241). -/

namespace Sys2Proof.Machine

def syncOf (s : State) (i : Nat) : SyncObj := tgetD s.canvas.sync i {}

def setSync (i : Nat) (o : SyncObj) (s : State) : State :=
  updCanvas (fun c => { c with sync := if o = {} then tdel c.sync i else tset c.sync i o }) s

/-- The port set in force, or none when it is not defined. -/
def portSetOf (s : State) (i : Nat) : Option Nat :=
  if badEntry s 3 i then none else (tget s.switch.portSets i).map (·.toNat)

/-- A notification of object `i` (R241). -/
def notifyHeader (s : State) (i : Nat) (o : SyncObj) : Header :=
  { gen := 2, vc := 4, opcode := opSyncNotify, src := replySrc s, offset := o.notifyOffset, opA := w32 i, opB := o.counter }

/-- An arrival sent on to another chip. -/
def forwardHeader (s : State) (o : SyncObj) : Header :=
  { gen := 2, vc := 4, opcode := opSyncArrive, src := replySrc s, offset := o.fwdObj.setWidth 48, window := 0x03, opA := 1 }

/-- Notify the far endpoints of the admitted ports of a set; the others are counted. -/
def notifyPorts (h : Header) (mask : Nat) (s : State) : State :=
  let ps := maskList 96 mask
  let up := ps.filter (fun p => (portOf s p).admitted)
  let s := swCount 19 (ps.length - up.length) s
  if up.isEmpty then s
  else originate { pkt := { hdr := h }, multicast := true, copies := up.map (fun p =>
    { port := p, vc := 4, dst := (portOf s p).farEndpoint, offset := h.offset }) } s

/-- Send what a firing object sends to its target; nothing where its group is not valid, or has no such member. Before the
device has an identifier nothing leaves, since no `src` is its to send (R20; assumption log 115). -/
def sendFired (i : Nat) (o : SyncObj) (s : State) : State :=
  if !hasIdentity s then s
  else if o.targetKind = 0 then notifyPorts (notifyHeader s i o) ((portSetOf s o.target.toNat).getD 0) s
  else match groupOf s o.target.toNat with
    | none => s
    | some g =>
      if o.targetKind = 1 then sendMembers (notifyHeader s i o) [] none (endpointsOf g) s
      else if o.targetKind = 2 then
        (match parentOf g with
        | none => s
        | some m => sendParent (forwardHeader s o) [] m s)
      else sendMembers (forwardHeader s o) [] none (childrenOf g) s

/-- The object fires (R240). -/
def fireSync (i : Nat) (s : State) : State :=
  let o := syncOf s i
  let s := canvasCount 18 1 (sendFired i o s)
  setSync i (if o.auto then { o with counter := o.counter - o.threshold } else { o with state := 2 }) s

def fireIfDue (i : Nat) (s : State) : State :=
  let o := syncOf s i
  if o.state = 1 && decide (o.threshold.toNat ≤ o.counter.toNat) then fireSync i s else s

/-- An arrival of value `w`. -/
def addArrival (i : Nat) (w : W32) (s : State) : State :=
  let o := syncOf s i
  let sum := o.counter.toNat + w.toNat
  let s := when (decide (sum > 0xFFFFFFFF)) (canvasCount 19 1) s
  fireIfDue i (setSync i { o with counter := w32 (min sum 0xFFFFFFFF) } s)

def syncArrival (id : Nat) (st : Stored) (s : State) : State :=
  let s := dropPacket id false s
  let i := st.hdr.offset.toNat
  if i ≥ 65536 || badEntry s 0 i then canvasCount 20 1 s
  else if st.hdr.opA = 0 then s
  else addArrival i st.hdr.opA s

/-- SYNC_ARRIVE (R240). -/
def execSyncArrive (packet : Nat) (s : State) : Res :=
  .next (atWindow packet (fun h => h.window = 0x03) (syncArrival packet) s)

/-- The target that SYNC_ARM names exists (R350). -/
def targetOk (s : State) (kind target : Nat) : Bool :=
  decide (kind ≤ 3 ∧ target < 16384) &&
    (if kind = 0 then (portSetOf s target).isSome
    else match groupOf s target with
      | none => false
      | some g => (kind != 2 || (parentOf g).isSome) && (kind != 3 || !(childrenOf g).isEmpty))

def armSync (src : CmdSrc) (p : Bytes) (s : State) : State :=
  let i := leAt p 0 2
  let flags := leAt p 2 1
  let kind := leAt p 3 1
  let target := leAt p 8 2
  refuseIf src [(!targetOk s kind target, stBadParam)] (fun s =>
    let o := syncOf s i
    let o : SyncObj := {
      counter := if bitOf flags 0 || badEntry s 0 i then 0 else o.counter, threshold := w32 (leAt p 4 4), state := 1
      auto := bitOf flags 1, targetKind := BitVec.ofNat 2 kind, target := BitVec.ofNat 14 target, fwdObj := w16 (leAt p 10 2)
      notifyOffset := BitVec.ofNat 48 (leAt p 12 6) }
    done src (fireIfDue i (entryWritten 0 i (setSync i o s)))) s

/-- SYNC_ARM (R240). -/
def execSyncArm (src : CmdSrc) (s : State) : Res := onUnit src.ok (command src (isOp 0x60) (plen 24) (armSync src)) s

end Sys2Proof.Machine
end

