-- ==== Sys2Proof/Machine/TableCmds.lean ====
section
/-! DEFINITION. The table and policy commands: GROUP_DEFINE, GROUP_DELETE, PORTSET_DEFINE, ROUTE_WRITE and POLICY_SET (R166,
R195, R209, R210, R350, R352). -/

namespace Sys2Proof.Machine

/-! ### Groups (R209, R210) -/

/-- The header of a GROUP_DEFINE. -/
def defHeader (p : Bytes) : W64 := w64 (leAt p 8 8)

/-- It carries exactly the members and descriptors that its header counts. -/
def defineLength (b : Bytes) : Bool :=
  let h := defHeader (cmdParams b)
  decide (cmdParamLen b = 16 + 8 * gMembers h + 64 * gDescCount h)

def defGroup (p : Bytes) : Group :=
  { header := defHeader p
    members := (List.range (gMembers (defHeader p))).map (fun i => w64 (leAt p (16 + 8 * i) 8)) }

/-- The descriptors carried, by the index they are written at. -/
def defDescs (p : Bytes) : List (Nat × Bytes) :=
  let h := defHeader p
  (List.range (gDescCount h)).map (fun i =>
    (gDescBase h + i, (p.drop (16 + 8 * gMembers h + 64 * i)).take 64))

/-- Two groups cover a common descriptor; an empty range covers none. -/
def rangesMeet (g h : W64) : Bool :=
  decide (max (gDescBase g) (gDescBase h) < min (gDescBase g + gDescCount g) (gDescBase h + gDescCount h))

/-- Another valid group covers one of the descriptors; an uncorrectable entry is none (R408). -/
def rangeTaken (s : State) (n : Nat) (h : W64) : Bool :=
  s.canvas.groups.any (fun e => e.1 != n && gValid e.2.header && !badEntry s 5 e.1 && rangesMeet h e.2.header)

/-- Some slot of a group is not *Free*. -/
def hasSlots (s : State) (n : Nat) : Bool := s.canvas.slots.any (fun x => x.key.group = n)

/-- Every check of R209, R213, R214 and R260 on the group as it would stand. -/
def defineOk (s : State) (n : Nat) (p : Bytes) : Bool :=
  let h := defHeader p
  let lookGroup := fun i => if i = n then some h else (groupOf s i).map (·.header)
  let look := fun i => (defDescs p).find? (fun e => e.1 = i) |>.map (·.2)
  decide (n < 16384) && !rangeTaken s n h &&
    (if gValid h then groupOk s.sketch.roles (defGroup p) && groupDescsOk s.canvas.constBlocks look lookGroup h
    else (defDescs p).all (fun e => decide (e.1 < 32768) && descRecordOk s.canvas.constBlocks lookGroup e.2))

/-- Write a group and its descriptors. -/
def writeGroup (n : Nat) (p : Bytes) (s : State) : State :=
  let s := forEach (defDescs p) (fun e s =>
    entryWritten 4 e.1 (updCanvas (fun c => { c with descs := tset c.descs e.1 e.2 }) s)) s
  entryWritten 5 n (updCanvas (fun c => { c with
    groups := if gValid (defHeader p) then tset c.groups n (defGroup p) else tdel c.groups n }) s)

def groupDefineCmd (src : CmdSrc) (p : Bytes) (s : State) : State :=
  let n := leAt p 0 2
  refuseIf src [(!defineOk s n p, stBadParam), ((groupOf s n).isSome && hasSlots s n, stBusy)] (fun s =>
    done src (writeGroup n p s)) s

/-- GROUP_DEFINE (R209). -/
def execGroupDefine (src : CmdSrc) (s : State) : Res :=
  onUnit src.ok (command src (isOp 0x30) defineLength (groupDefineCmd src)) s

def removeGroup (n : Nat) (s : State) : State :=
  entryWritten 5 n (updCanvas (fun c => { c with groups := tdel c.groups n }) s)

/-- An entry that is not valid stays as it is (R210), one that R408 makes act as such too. -/
def groupDeleteCmd (src : CmdSrc) (p : Bytes) (s : State) : State :=
  let n := leAt p 0 2
  refuseIf src [(decide (n ≥ 16384), stBadParam), ((groupOf s n).isSome && hasSlots s n, stBusy)] (fun s =>
    done src (when (groupOf s n).isSome (removeGroup n) s)) s

/-- GROUP_DELETE (R210). -/
def execGroupDelete (src : CmdSrc) (s : State) : Res :=
  onUnit src.ok (command src (isOp 0x31) (plen 4) (groupDeleteCmd src)) s

/-! ### Port sets (R195, R350) -/

def portsetCmd (src : CmdSrc) (p : Bytes) (s : State) : State :=
  let n := leAt p 0 2
  let m := leAt p 4 12
  refuseIf src [(decide (n ≥ 16384) || !portSetOk s.sketch.roles m, stBadParam), (setNamed s n, stBusy)] (fun s =>
    done src (entryWritten 3 n (updSwitch (fun w => { w with portSets := tset w.portSets n (BitVec.ofNat 96 m) }) s))) s

/-- PORTSET_DEFINE (R350). -/
def execPortsetDefine (src : CmdSrc) (s : State) : Res :=
  onUnit src.ok (command src (isOp 0x32) (plen 16) (portsetCmd src)) s

/-! ### Routes (R165, R166) -/

def routeCount (p : Bytes) : Nat := leAt p 4 4

def routeLength (b : Bytes) : Bool :=
  decide (24 ≤ cmdParamLen b ∧ cmdParamLen b ≤ 4056 ∧ cmdParamLen b = 8 + 16 * routeCount (cmdParams b))

/-- The entries carried, by index. -/
def routeEntries (p : Bytes) : List (Nat × Nat) :=
  (List.range (routeCount p)).map (fun i => (leAt p 0 4 + i, leAt p (8 + 16 * i) 16))

def writeRoute (i e : Nat) (s : State) : State :=
  entryWritten 2 i (updSwitch (fun w => { w with
    routes := if routeValid e then tset w.routes i (BitVec.ofNat 128 e) else tdel w.routes i }) s)

/-- A valid entry is refused before the device has an identifier: until then the table holds none (R23; assumption log 117). -/
def routeWriteCmd (src : CmdSrc) (p : Bytes) (s : State) : State :=
  let l := routeEntries p
  refuseIf src [(!hasIdentity s && l.any (fun e => routeValid e.2), stNotReady), (decide (leAt p 0 4 + routeCount p > 65536) || !l.all (fun e => routeEntryOk s.sketch.roles e.1 e.2), stBadParam)]
    (fun s => done src (forEach l (fun e => writeRoute e.1 e.2) s)) s

/-- ROUTE_WRITE (R166). -/
def execRouteWrite (src : CmdSrc) (s : State) : Res :=
  onUnit src.ok (command src (isOp 0x40) routeLength (routeWriteCmd src)) s

/-! ### Policy (R352) -/

def policyLength (b : Bytes) : Bool := decide (8 ≤ cmdParamLen b ∧ cmdParamLen b ≤ 4064 ∧ cmdParamLen b % 8 = 0)

def policyCmd (src : CmdSrc) (p : Bytes) (s : State) : State :=
  let l := parseEntries p
  match policyFault s.policy l with
  | some i => finish src stBadParam (leBytes 4 i) s
  | none => done src (applyPolicy l s)

/-- POLICY_SET (R352). -/
def execPolicySet (src : CmdSrc) (s : State) : Res :=
  onUnit src.ok (command src (isOp 0x70) policyLength (policyCmd src)) s

end Sys2Proof.Machine
end

