-- ==== Sys2Proof/Machine/Dispatch.lean ====
section
/-! DEFINITION. What each command does: one arm per constructor of Instr, in the table's order. -/

namespace Sys2Proof.Machine

def exec (i : Instr) (s : State) : Host.Outcome State Fault Refusal :=
  match i with
  | .powerOn => Sys2Proof.Machine.execPowerOn s
  | .powerLoss => Sys2Proof.Machine.execPowerLoss s
  | .resetNAssert lowNs => Sys2Proof.Machine.execResetNAssert lowNs s
  | .coreRailFall rail => Sys2Proof.Machine.execCoreRailFall rail s
  | .refclkLoss => Sys2Proof.Machine.execRefclkLoss s
  | .refclkLock => Sys2Proof.Machine.execRefclkLock s
  | .chipResetRelease => Sys2Proof.Machine.execChipResetRelease s
  | .strapSample pins => Sys2Proof.Machine.execStrapSample pins s
  | .rootSecretComplete pattern flashReads => Sys2Proof.Machine.execRootSecretComplete pattern flashReads s
  | .pcieStageComplete linkA linkB => Sys2Proof.Machine.execPcieStageComplete linkA linkB s
  | .hbmTrainingComplete => Sys2Proof.Machine.execHbmTrainingComplete s
  | .bootFetchStart hp => Sys2Proof.Machine.execBootFetchStart hp s
  | .firmwareVerified fetched => Sys2Proof.Machine.execFirmwareVerified fetched s
  | .bootAttemptTimeout => Sys2Proof.Machine.execBootAttemptTimeout s
  | .configVerified => Sys2Proof.Machine.execConfigVerified s
  | .easelReady palettePass => Sys2Proof.Machine.execEaselReady palettePass s
  | .engineCalibrationComplete engine cal => Sys2Proof.Machine.execEngineCalibrationComplete engine cal s
  | .perstAssert hp => Sys2Proof.Machine.execPerstAssert hp s
  | .functionLevelReset hp => Sys2Proof.Machine.execFunctionLevelReset hp s
  | .busMasterEnableSet hp => Sys2Proof.Machine.execBusMasterEnableSet hp s
  | .thermTrip sensor tj => Sys2Proof.Machine.execThermTrip sensor tj s
  | .easelWatchdogExpire copyBad => Sys2Proof.Machine.execEaselWatchdogExpire copyBad s
  | .easelMemoryUncorrectable stack row word error copyBad => Sys2Proof.Machine.execEaselMemoryUncorrectable stack row word error copyBad s
  | .easelRestartComplete => Sys2Proof.Machine.execEaselRestartComplete s
  | .identify src => Sys2Proof.Machine.execIdentify src s
  | .getStatus src => Sys2Proof.Machine.execGetStatus src s
  | .sketchLoadBegin src => Sys2Proof.Machine.execSketchLoadBegin src s
  | .sketchLoadData src => Sys2Proof.Machine.execSketchLoadData src s
  | .sketchCommit src => Sys2Proof.Machine.execSketchCommit src s
  | .commitChecksComplete => Sys2Proof.Machine.execCommitChecksComplete s
  | .sketchActivate => Sys2Proof.Machine.execSketchActivate s
  | .planSwitch src => Sys2Proof.Machine.execPlanSwitch src s
  | .planSwitchTakeEffect => Sys2Proof.Machine.execPlanSwitchTakeEffect s
  | .portEnable src => Sys2Proof.Machine.execPortEnable src s
  | .portDisable src => Sys2Proof.Machine.execPortDisable src s
  | .portWash src => Sys2Proof.Machine.execPortWash src s
  | .washPortDrained port => Sys2Proof.Machine.execWashPortDrained port s
  | .washTimeout src => Sys2Proof.Machine.execWashTimeout src s
  | .portRetrain src => Sys2Proof.Machine.execPortRetrain src s
  | .portRetrainQuiesceEnd port => Sys2Proof.Machine.execPortRetrainQuiesceEnd port s
  | .portInfo src => Sys2Proof.Machine.execPortInfo src s
  | .groupDefine src => Sys2Proof.Machine.execGroupDefine src s
  | .groupDelete src => Sys2Proof.Machine.execGroupDelete src s
  | .portsetDefine src => Sys2Proof.Machine.execPortsetDefine src s
  | .routeWrite src => Sys2Proof.Machine.execRouteWrite src s
  | .writeSegment src => Sys2Proof.Machine.execWriteSegment src s
  | .writeStream src => Sys2Proof.Machine.execWriteStream src s
  | .sealSegment src => Sys2Proof.Machine.execSealSegment src s
  | .sealCheckComplete segment reads => Sys2Proof.Machine.execSealCheckComplete segment reads s
  | .reopenSegment src => Sys2Proof.Machine.execReopenSegment src s
  | .rewindStream src => Sys2Proof.Machine.execRewindStream src s
  | .writeList src => Sys2Proof.Machine.execWriteList src s
  | .syncArm src => Sys2Proof.Machine.execSyncArm src s
  | .policySet src => Sys2Proof.Machine.execPolicySet src s
  | .powerModeSet src => Sys2Proof.Machine.execPowerModeSet src s
  | .slopeLimitSet src => Sys2Proof.Machine.execSlopeLimitSet src s
  | .flagsReadClear src => Sys2Proof.Machine.execFlagsReadClear src s
  | .countersRead src => Sys2Proof.Machine.execCountersRead src s
  | .twinConfig src => Sys2Proof.Machine.execTwinConfig src s
  | .controlHandover src => Sys2Proof.Machine.execControlHandover src s
  | .handoverAckTimeout => Sys2Proof.Machine.execHandoverAckTimeout s
  | .fwUpdateBegin src => Sys2Proof.Machine.execFwUpdateBegin src s
  | .fwUpdateData src => Sys2Proof.Machine.execFwUpdateData src s
  | .fwUpdateCommit src => Sys2Proof.Machine.execFwUpdateCommit src s
  | .fwUpdateWriteComplete => Sys2Proof.Machine.execFwUpdateWriteComplete s
  | .attest src => Sys2Proof.Machine.execAttest src s
  | .selftestRun src => Sys2Proof.Machine.execSelftestRun src s
  | .chipResetChip src => Sys2Proof.Machine.execChipResetChip src s
  | .chipResetEasel src => Sys2Proof.Machine.execChipResetEasel src s
  | .chipResetDelayEnd => Sys2Proof.Machine.execChipResetDelayEnd s
  | .doorbellWrite hp r value => Sys2Proof.Machine.execDoorbellWrite hp r value s
  | .ringEntryFetch hp r fetch => Sys2Proof.Machine.execRingEntryFetch hp r fetch s
  | .completionPost hp r error => Sys2Proof.Machine.execCompletionPost hp r error s
  | .cqHeadWrite hp r value => Sys2Proof.Machine.execCqHeadWrite hp r value s
  | .ringEnableWrite hp r value => Sys2Proof.Machine.execRingEnableWrite hp r value s
  | .ringReset hp r => Sys2Proof.Machine.execRingReset hp r s
  | .eventRingEnableWrite hp value => Sys2Proof.Machine.execEventRingEnableWrite hp value s
  | .eventRingReset hp => Sys2Proof.Machine.execEventRingReset hp s
  | .erHeadWrite hp value => Sys2Proof.Machine.execErHeadWrite hp value s
  | .intCauseClear hp value raised => Sys2Proof.Machine.execIntCauseClear hp value raised s
  | .intMaskWrite hp value => Sys2Proof.Machine.execIntMaskWrite hp value s
  | .interruptCoalesceExpire hp => Sys2Proof.Machine.execInterruptCoalesceExpire hp s
  | .bar0BadAccess hp offset bytes write => Sys2Proof.Machine.execBar0BadAccess hp offset bytes write s
  | .registerWrite hp write => Sys2Proof.Machine.execRegisterWrite hp write s
  | .laserMonitorSample input lambdaA lambdaB => Sys2Proof.Machine.execLaserMonitorSample input lambdaA lambdaB s
  | .attenuatorRelease input => Sys2Proof.Machine.execAttenuatorRelease input s
  | .modulatorLockUpdate port lane aim => Sys2Proof.Machine.execModulatorLockUpdate port lane aim s
  | .dropLockUpdate port lane aim => Sys2Proof.Machine.execDropLockUpdate port lane aim s
  | .ringLockLoss port lane run => Sys2Proof.Machine.execRingLockLoss port lane run s
  | .transitionBlockEnd port lane block => Sys2Proof.Machine.execTransitionBlockEnd port lane block s
  | .lossOfSignalAssert port lane => Sys2Proof.Machine.execLossOfSignalAssert port lane s
  | .lossOfSignalDeassert port lane => Sys2Proof.Machine.execLossOfSignalDeassert port lane s
  | .lossOfLockAssert port lane => Sys2Proof.Machine.execLossOfLockAssert port lane s
  | .lossOfLockDeassert port lane => Sys2Proof.Machine.execLossOfLockDeassert port lane s
  | .fomWindowEnd port stats => Sys2Proof.Machine.execFomWindowEnd port stats s
  | .pairCrossed port pairs => Sys2Proof.Machine.execPairCrossed port pairs s
  | .miswiredProbeStart port => Sys2Proof.Machine.execMiswiredProbeStart port s
  | .probeStart port => Sys2Proof.Machine.execProbeStart port s
  | .probeExpire port => Sys2Proof.Machine.execProbeExpire port s
  | .attemptExpire port => Sys2Proof.Machine.execAttemptExpire port s
  | .identSetReceived port lane set => Sys2Proof.Machine.execIdentSetReceived port lane set s
  | .timeSetReceived port lane set arrival => Sys2Proof.Machine.execTimeSetReceived port lane set arrival s
  | .stepSetReceived port lane set => Sys2Proof.Machine.execStepSetReceived port lane set s
  | .rateStep port => Sys2Proof.Machine.execRateStep port s
  | .acquisitionEnd port => Sys2Proof.Machine.execAcquisitionEnd port s
  | .selftestWindowEnd port => Sys2Proof.Machine.execSelftestWindowEnd port s
  | .reportFrameReceived port lane frame check => Sys2Proof.Machine.execReportFrameReceived port lane frame check s
  | .reportPhaseEnd port => Sys2Proof.Machine.execReportPhaseEnd port s
  | .reportTimeout port => Sys2Proof.Machine.execReportTimeout port s
  | .slotStreamFramed port skews => Sys2Proof.Machine.execSlotStreamFramed port skews s
  | .resumeTimeout port => Sys2Proof.Machine.execResumeTimeout port s
  | .announceReceived port lane frame => Sys2Proof.Machine.execAnnounceReceived port lane frame s
  | .retestSelftestStart port => Sys2Proof.Machine.execRetestSelftestStart port s
  | .slotBoundary port reads replay => Sys2Proof.Machine.execSlotBoundary port reads replay s
  | .slotReceived port lanes arrival => Sys2Proof.Machine.execSlotReceived port lanes arrival s
  | .alignmentMarkerReceived port lane levels offset => Sys2Proof.Machine.execAlignmentMarkerReceived port lane levels offset s
  | .ackTimeout port stream => Sys2Proof.Machine.execAckTimeout port stream s
  | .retryRequestRepeat port stream => Sys2Proof.Machine.execRetryRequestRepeat port stream s
  | .creditRelease packet => Sys2Proof.Machine.execCreditRelease packet s
  | .graceExpire port => Sys2Proof.Machine.execGraceExpire port s
  | .lookup port cell copy => Sys2Proof.Machine.execLookup port cell copy s
  | .escapeTimerExpire packet => Sys2Proof.Machine.execEscapeTimerExpire packet s
  | .queueDepthSample => Sys2Proof.Machine.execQueueDepthSample s
  | .routeWeightUpdate => Sys2Proof.Machine.execRouteWeightUpdate s
  | .holdTimeout flow => Sys2Proof.Machine.execHoldTimeout flow s
  | .holdOwedEnd flow => Sys2Proof.Machine.execHoldOwedEnd flow s
  | .holdEntryIdle flow => Sys2Proof.Machine.execHoldEntryIdle flow s
  | .stallVoidExpire port vc => Sys2Proof.Machine.execStallVoidExpire port vc s
  | .originatedPacketWrite index => Sys2Proof.Machine.execOriginatedPacketWrite index s
  | .terminatedDiscard packet => Sys2Proof.Machine.execTerminatedDiscard packet s
  | .segmentPut packet => Sys2Proof.Machine.execSegmentPut packet s
  | .segmentPutVisible packet => Sys2Proof.Machine.execSegmentPutVisible packet s
  | .streamSubscribe packet => Sys2Proof.Machine.execStreamSubscribe packet s
  | .streamCancel packet => Sys2Proof.Machine.execStreamCancel packet s
  | .syncArrive packet => Sys2Proof.Machine.execSyncArrive packet s
  | .telemetryGet packet => Sys2Proof.Machine.execTelemetryGet packet s
  | .cmd packet => Sys2Proof.Machine.execCmd packet s
  | .reduceContrib packet ecc => Sys2Proof.Machine.execReduceContrib packet ecc s
  | .combineContrib packet ecc => Sys2Proof.Machine.execCombineContrib packet ecc s
  | .reduceResultReceived packet => Sys2Proof.Machine.execReduceResultReceived packet s
  | .deferredPartAccept packet ecc => Sys2Proof.Machine.execDeferredPartAccept packet ecc s
  | .schedSlotOpenResume packet ecc => Sys2Proof.Machine.execSchedSlotOpenResume packet ecc s
  | .openingRateResume packet ecc => Sys2Proof.Machine.execOpeningRateResume packet ecc s
  | .opTimeout key => Sys2Proof.Machine.execOpTimeout key s
  | .upTimeout key => Sys2Proof.Machine.execUpTimeout key s
  | .doneCacheExpire key => Sys2Proof.Machine.execDoneCacheExpire key s
  | .refusalCacheExpire key => Sys2Proof.Machine.execRefusalCacheExpire key s
  | .tickStart => Sys2Proof.Machine.execTickStart s
  | .tileReadStart tile => Sys2Proof.Machine.execTileReadStart tile s
  | .tileReadComplete tile hostBytes result => Sys2Proof.Machine.execTileReadComplete tile hostBytes result s
  | .tickInEdge high => Sys2Proof.Machine.execTickInEdge high s
  | .tickInMissing => Sys2Proof.Machine.execTickInMissing s
  | .tickPortLost => Sys2Proof.Machine.execTickPortLost s
  | .coolingLoopUpdate outlet inlet air => Sys2Proof.Machine.execCoolingLoopUpdate outlet inlet air s
  | .pumpAlarm n tach => Sys2Proof.Machine.execPumpAlarm n tach s
  | .flowSample flow0 flow1 => Sys2Proof.Machine.execFlowSample flow0 flow1 s
  | .coolantHot outlet => Sys2Proof.Machine.execCoolantHot outlet s
  | .fanFault n tach => Sys2Proof.Machine.execFanFault n tach s
  | .coolingAlarmEnd alarm tach => Sys2Proof.Machine.execCoolingAlarmEnd alarm tach s
  | .twinLaneTrained lane groups skew => Sys2Proof.Machine.execTwinLaneTrained lane groups skew s
  | .twinLinkDown lane => Sys2Proof.Machine.execTwinLinkDown lane s
  | .heartbeatSend pump0 pump1 flow0 flow1 => Sys2Proof.Machine.execHeartbeatSend pump0 pump1 flow0 flow1 s
  | .heartbeatReceived frame => Sys2Proof.Machine.execHeartbeatReceived frame s
  | .twinFrameCrcFail frame => Sys2Proof.Machine.execTwinFrameCrcFail frame s
  | .heartbeatLost => Sys2Proof.Machine.execHeartbeatLost s
  | .stateDataReceived frame => Sys2Proof.Machine.execStateDataReceived frame s
  | .stateEndReceived frame => Sys2Proof.Machine.execStateEndReceived frame s
  | .stateAckReceived frame => Sys2Proof.Machine.execStateAckReceived frame s
  | .stateRequestReceived frame => Sys2Proof.Machine.execStateRequestReceived frame s
  | .releaseReceived frame => Sys2Proof.Machine.execReleaseReceived frame s
  | .controlCycleEnd => Sys2Proof.Machine.execControlCycleEnd s
  | .snapshotInterval => Sys2Proof.Machine.execSnapshotInterval s
  | .claim => Sys2Proof.Machine.execClaim s
  | .claimListenEnd => Sys2Proof.Machine.execClaimListenEnd s
  | .claimingLineLow => Sys2Proof.Machine.execClaimingLineLow s
  | .lockstepMismatch => Sys2Proof.Machine.execLockstepMismatch s
  | .controlWatchdogExpire => Sys2Proof.Machine.execControlWatchdogExpire s
  | .controlMemoryFault => Sys2Proof.Machine.execControlMemoryFault s
  | .plausibilityCheck pump0 pump1 flow0 flow1 => Sys2Proof.Machine.execPlausibilityCheck pump0 pump1 flow0 flow1 s
  | .takeover => Sys2Proof.Machine.execTakeover s
  | .ownLineFault => Sys2Proof.Machine.execOwnLineFault s
  | .coreRestartComplete => Sys2Proof.Machine.execCoreRestartComplete s
  | .i3cBusTake bus answered => Sys2Proof.Machine.execI3cBusTake bus answered s
  | .rmHeartbeat frame => Sys2Proof.Machine.execRmHeartbeat frame s
  | .rmPolicy frame => Sys2Proof.Machine.execRmPolicy frame s
  | .devHeartbeat => Sys2Proof.Machine.execDevHeartbeat s
  | .devTelemetry => Sys2Proof.Machine.execDevTelemetry s
  | .rmLost => Sys2Proof.Machine.execRmLost s
  | .pwrAlertAssert => Sys2Proof.Machine.execPwrAlertAssert s
  | .pwrAlertRelease => Sys2Proof.Machine.execPwrAlertRelease s
  | .alertHoldEnd => Sys2Proof.Machine.execAlertHoldEnd s
  | .powerGovernorUpdate power draw => Sys2Proof.Machine.execPowerGovernorUpdate power draw s
  | .slopeGovernorUpdate draw => Sys2Proof.Machine.execSlopeGovernorUpdate draw s
  | .thermalSample sensors => Sys2Proof.Machine.execThermalSample sensors s
  | .railCurrentSample deciamps => Sys2Proof.Machine.execRailCurrentSample deciamps s
  | .overcurrentLift => Sys2Proof.Machine.execOvercurrentLift s
  | .patrolScrub site word => Sys2Proof.Machine.execPatrolScrub site word s
  | .tableRestore tbl index copyBad => Sys2Proof.Machine.execTableRestore tbl index copyBad s
  | .selftestStart res => Sys2Proof.Machine.execSelftestStart res s
  | .laneTestComplete port lane => Sys2Proof.Machine.execLaneTestComplete port lane s
  | .rowCopyComplete res => Sys2Proof.Machine.execRowCopyComplete res s
  | .rowTestComplete res failing duration => Sys2Proof.Machine.execRowTestComplete res failing duration s
  | .paletteTestComplete palette crc failing duration => Sys2Proof.Machine.execPaletteTestComplete palette crc failing duration s
  | .jtagInstructionUpdate instr scan => Sys2Proof.Machine.execJtagInstructionUpdate instr scan s
  | .jtagTestLogicReset => Sys2Proof.Machine.execJtagTestLogicReset s
  | .replyCacheExpire src ttag crc => Sys2Proof.Machine.execReplyCacheExpire src ttag crc s
  | .perstRelease hp link => Sys2Proof.Machine.execPerstRelease hp link s
  | .imageActivated => Sys2Proof.Machine.execImageActivated s

end Sys2Proof.Machine
end

