-- ==== Sys2Proof/Safety.lean ====
section
/-! DEFINITION. The terms that the claims use: sound states, commands that the first steps of the judgement let through, what
a chip reset leaves, and what an ordinary command cannot touch. -/

namespace Sys2Proof.Machine

/-- The byte memories of the device: the stream store, the constant blocks, the two load areas and the standby's
receiving buffer. -/
def memoriesWf (s : State) : Bool :=
  Memory.wf s.streams.store && Memory.wf s.canvas.constants && Memory.wf s.sketch.load.mem &&
  Memory.wf s.boot.upload.mem && Memory.wf s.tray.recv

/-- The device's units are all there. -/
def unitsOk (s : State) : Bool :=
  decide (s.ports.length = 96) && decide (s.lasers.length = 48)

/-- Sound: every unit is there and every byte memory has its canonical form. -/
def Sound (s : State) : Prop := unitsOk s = true ∧ memoriesWf s = true

/-- A command of a source that steps 1 to 3 of R339 let through, whole, at a running Easel, not begun before. -/
def Accepted (s : State) (src : CmdSrc) (b : Bytes) : Prop :=
  src.ok = true ∧ commandOf s src = some b ∧ s.boot.easelReady = true ∧ inProgress s src = false ∧
    earlyRefusal s src b = none ∧ bytesFit b = true ∧ isTray b = false

/-- An accepted command of an opcode with a parameter length. -/
def Given (s : State) (src : CmdSrc) (b : Bytes) (op n : Nat) : Prop :=
  Accepted s src b ∧ cmdOpcode b = op ∧ cmdParamLen b = n

/-- The same for a tray command at the active controller (step 5 of R339). -/
def AcceptedTray (s : State) (src : CmdSrc) (b : Bytes) : Prop :=
  src.ok = true ∧ commandOf s src = some b ∧ s.boot.easelReady = true ∧ inProgress s src = false ∧
    earlyRefusal s src b = none ∧ bytesFit b = true ∧ isTray b = true ∧ s.tray.own = .active

/-- An accepted tray command of an opcode with a parameter length. -/
def GivenTray (s : State) (src : CmdSrc) (b : Bytes) (op n : Nat) : Prop :=
  AcceptedTray s src b ∧ cmdOpcode b = op ∧ cmdParamLen b = n

/-! ### Exact values as rationals, for the claims about the arithmetic -/

/-- 2^`e`. -/
def pow2 (e : Int) : Rat := if 0 ≤ e then ((2 ^ e.toNat : Nat) : Rat) else 1 / ((2 ^ (-e).toNat : Nat) : Rat)

/-- The rational of a finite value; 0 for a NaN or an infinity. -/
def ratOf : Val → Rat
  | .fin neg m e => if neg then -((m : Rat) * pow2 e) else (m : Rat) * pow2 e
  | _ => 0

/-- Two values are the same NaN, infinity, or rational with its sign. -/
def sameVal (a b : Val) : Prop :=
  match a, b with
  | .nan, .nan => True
  | .inf x, .inf y => x = y
  | .fin x m e, .fin y n f => x = y ∧ ratOf (.fin x m e) = ratOf (.fin y n f)
  | _, _ => False

/-- `n` is the rounding of the rational `q` ≥ 0 to an integer in a direction, ties to the even integer (R250). -/
def rounds (d : RDir) (n : Nat) (q : Rat) : Prop :=
  match d with
  | .near => absRat (n - q) ≤ 1 / 2 ∧ (absRat (n - q) = 1 / 2 → n % 2 = 0)
  | .inward => (n : Rat) ≤ q ∧ q < n + 1
  | .outward => q ≤ n ∧ (n : Rat) < q + 1

/-- A magnitude reaches the overflow threshold of R250 for a direction. -/
def beyond (F : Fmt) (d : RDir) (a : Rat) : Bool :=
  match d with
  | .near => decide (F.maxSig * pow2 F.maxExp + pow2 F.maxExp / 2 ≤ a)
  | .inward => decide (F.maxSig * pow2 F.maxExp + pow2 F.maxExp ≤ a)
  | .outward => decide (F.maxSig * pow2 F.maxExp < a)

/-- The formats of R244 and F19. -/
def floatFormats : List Fmt := [fp64, fp32, bf16, fp16, e4m3, e5m2, f19]

/-- What a chip reset leaves: everything at its reset value but flash, the thermal trip pin and the pins of others (R440,
R442). -/
structure WasReset (s t : State) : Prop where
  held : t.boot.inReset = true
  easel : t.boot.easelReady = false
  config : t.boot.config = none
  ports : t.ports = List.replicate 96 {}
  switch : t.switch = {}
  canvas : t.canvas = {}
  streams : t.streams = {}
  sketch : t.sketch = {}
  tick : t.tick = {}
  tray : t.tray = {}
  linkA : t.host.fnA.linkUp = false
  linkB : t.host.fnB.linkUp = false
  counters : t.host.ctr = List.replicate 8 0
  trip : t.boot.thermTrip = s.boot.thermTrip
  floors : t.flash.fwFloor = s.flash.fwFloor ∧ t.flash.cfgFloor = s.flash.cfgFloor
  retired : t.flash.retired = s.flash.retired
  snapshots : t.flash.snapshots = s.flash.snapshots

/-- The device runs: powered and out of chip reset. -/
def Live (s : State) : Prop := s.boot.powered = true ∧ s.boot.inReset = false

/-! ### The commands that may change a part of the device; every other one leaves it alone -/

/-- Commands that may change a port: optics, bring-up, link, buffer and window functions, port commands, commits, the
configuration's route weights, a chip reset, the start of the firmware (R436). -/
def changesPorts : Instr → Bool
  | .powerOn | .powerLoss | .resetNAssert _ | .coreRailFall _ | .refclkLoss | .configVerified
  | .engineCalibrationComplete _ _ | .easelWatchdogExpire _ | .easelMemoryUncorrectable _ _ _ _ _ | .commitChecksComplete
  | .sketchActivate | .portEnable _
  | .portDisable _ | .portWash _ | .washPortDrained _ | .washTimeout _ | .portRetrain _ | .portRetrainQuiesceEnd _
  | .chipResetDelayEnd | .modulatorLockUpdate _ _ _ | .dropLockUpdate _ _ _ | .ringLockLoss _ _ _
  | .transitionBlockEnd _ _ _ | .lossOfSignalAssert _ _ | .lossOfSignalDeassert _ _ | .lossOfLockAssert _ _
  | .lossOfLockDeassert _ _ | .fomWindowEnd _ _ | .pairCrossed _ _ | .miswiredProbeStart _ | .probeStart _
  | .probeExpire _ | .attemptExpire _ | .identSetReceived _ _ _ | .timeSetReceived _ _ _ _ | .stepSetReceived _ _ _
  | .rateStep _ | .acquisitionEnd _ | .selftestWindowEnd _ | .reportFrameReceived _ _ _ _ | .reportPhaseEnd _
  | .reportTimeout _ | .slotStreamFramed _ _ | .resumeTimeout _ | .announceReceived _ _ _ | .retestSelftestStart _
  | .slotBoundary _ _ _ | .slotReceived _ _ _ | .alignmentMarkerReceived _ _ _ _ | .ackTimeout _ _
  | .retryRequestRepeat _ _ | .creditRelease _ | .graceExpire _ | .lookup _ _ _ | .escapeTimerExpire _
  | .queueDepthSample | .routeWeightUpdate | .stallVoidExpire _ _ | .originatedPacketWrite _ | .terminatedDiscard _
  | .segmentPut _ | .segmentPutVisible _ | .streamSubscribe _ | .streamCancel _ | .syncArrive _ | .telemetryGet _
  | .cmd _ | .reduceContrib _ _ | .combineContrib _ _ | .reduceResultReceived _ | .deferredPartAccept _ _
  | .schedSlotOpenResume _ _ | .openingRateResume _ _ | .opTimeout _ | .upTimeout _ | .tickStart | .tickInEdge _
  | .patrolScrub _ _ | .laneTestComplete _ _ | .rowTestComplete _ _ _ | .paletteTestComplete _ _ _ _
  | .firmwareVerified _ => true
  | _ => false

/-- Commands that may change a laser input. -/
def changesLasers : Instr → Bool
  | .powerOn | .powerLoss | .resetNAssert _ | .coreRailFall _ | .refclkLoss | .chipResetDelayEnd
  | .laserMonitorSample _ _ _ | .attenuatorRelease _ => true
  | _ => false

/-- Commands that may change the Canvas, its tables and synchronisation objects, or a palette, or its counters. -/
def changesCanvas : Instr → Bool
  | .powerOn | .powerLoss | .resetNAssert _ | .coreRailFall _ | .refclkLoss | .easelReady _ | .commitChecksComplete
  | .sketchActivate | .groupDefine _ | .groupDelete _ | .syncArm _ | .flagsReadClear _ | .chipResetDelayEnd
  | .originatedPacketWrite _ | .syncArrive _ | .reduceContrib _ _ | .combineContrib _ _ | .reduceResultReceived _
  | .deferredPartAccept _ _ | .schedSlotOpenResume _ _ | .openingRateResume _ _ | .opTimeout _ | .upTimeout _
  | .doneCacheExpire _ | .refusalCacheExpire _ | .tickStart | .tickInEdge _ | .patrolScrub _ _ | .selftestStart _
  | .laneTestComplete _ _ | .rowTestComplete _ _ _ | .paletteTestComplete _ _ _ _
  | .firmwareVerified _ => true
  | _ => false

/-- Commands that may change the stream store, its tables, its tiles, its subscriptions or its counters. -/
def changesStreams : Instr → Bool
  | .powerOn | .powerLoss | .resetNAssert _ | .coreRailFall _ | .refclkLoss | .easelWatchdogExpire _
  | .easelMemoryUncorrectable _ _ _ _ _ | .commitChecksComplete | .sketchActivate | .planSwitchTakeEffect | .writeSegment _
  | .writeStream _ | .sealSegment _ | .sealCheckComplete _ _ | .reopenSegment _ | .rewindStream _ | .writeList _
  | .chipResetDelayEnd | .originatedPacketWrite _ | .segmentPut _ | .streamSubscribe _ | .streamCancel _ | .tickStart
  | .tileReadStart _ | .tileReadComplete _ _ _ | .tickInEdge _ | .patrolScrub _ _
  | .firmwareVerified _ => true
  | _ => false

/-- Commands that may change the load area, the commit, the plans or the tick settings, or count for them. -/
def changesSketch : Instr → Bool
  | .powerOn | .powerLoss | .resetNAssert _ | .coreRailFall _ | .refclkLoss | .easelWatchdogExpire _
  | .easelMemoryUncorrectable _ _ _ _ _ | .sketchLoadBegin _ | .sketchLoadData _ | .sketchCommit _ | .commitChecksComplete
  | .sketchActivate | .planSwitch _ | .planSwitchTakeEffect | .chipResetDelayEnd | .slotBoundary _ _ _
  | .slotReceived _ _ _ | .reduceContrib _ _ | .combineContrib _ _ | .reduceResultReceived _ | .deferredPartAccept _ _
  | .schedSlotOpenResume _ _ | .openingRateResume _ _ | .tickStart | .tickInEdge _
  | .firmwareVerified _ | .patrolScrub _ _ => true
  | _ => false

/-- Commands that may change the tick: its events, received markers, the slots that count for a tick, a calibration, a commit. -/
def changesTick : Instr → Bool
  | .powerOn | .powerLoss | .resetNAssert _ | .coreRailFall _ | .refclkLoss | .engineCalibrationComplete _ _
  | .commitChecksComplete | .sketchActivate | .chipResetDelayEnd | .slotBoundary _ _ _ | .slotReceived _ _ _
  | .reduceContrib _ _ | .combineContrib _ _ | .reduceResultReceived _ | .deferredPartAccept _ _
  | .schedSlotOpenResume _ _ | .openingRateResume _ _ | .tickStart | .tickInEdge _ | .tickInMissing | .tickPortLost => true
  | _ => false

/-- Commands that may change a policy field. -/
def changesPolicy : Instr → Bool
  | .powerOn | .powerLoss | .resetNAssert _ | .coreRailFall _ | .refclkLoss | .configVerified
  | .commitChecksComplete | .sketchActivate | .policySet _ | .chipResetDelayEnd | .claimListenEnd | .rmPolicy _
  | .imageActivated => true
  | _ => false

/-- Commands that may change tray control: its own events, a change of ownership or of the mode in force, tray policy, an
Easel restart. -/
def changesTray : Instr → Bool
  | .powerOn | .powerLoss | .resetNAssert _ | .coreRailFall _ | .refclkLoss | .chipResetRelease | .configVerified
  | .easelReady _ | .thermTrip _ _ | .easelWatchdogExpire _ | .easelMemoryUncorrectable _ _ _ _ _ | .easelRestartComplete
  | .commitChecksComplete | .sketchActivate | .policySet _ | .powerModeSet _ | .twinConfig _ | .controlHandover _
  | .handoverAckTimeout | .chipResetDelayEnd | .coolingLoopUpdate _ _ _ | .pumpAlarm _ _ | .flowSample _ _
  | .coolantHot _ | .fanFault _ _ | .coolingAlarmEnd _ _ | .twinLaneTrained _ _ _ | .twinLinkDown _
  | .heartbeatSend _ _ _ _ | .heartbeatReceived _ | .twinFrameCrcFail _ | .heartbeatLost | .stateDataReceived _
  | .stateEndReceived _ | .stateAckReceived _ | .stateRequestReceived _ | .releaseReceived _ | .controlCycleEnd
  | .snapshotInterval | .claim | .claimListenEnd | .claimingLineLow | .lockstepMismatch | .controlWatchdogExpire
  | .controlMemoryFault | .plausibilityCheck _ _ _ _ | .takeover | .ownLineFault | .coreRestartComplete
  | .i3cBusTake _ _ | .rmHeartbeat _ | .rmPolicy _ | .devHeartbeat | .devTelemetry | .rmLost | .pwrAlertAssert
  | .alertHoldEnd | .slopeGovernorUpdate _ | .thermalSample _ | .railCurrentSample _ | .overcurrentLift
  | .imageActivated
  | .firmwareVerified _ | .bootAttemptTimeout | .patrolScrub _ _ => true
  | _ => false

/-- Commands that may change power: its own events, a gated tick, the budget or the mode asked for, the start of the
firmware. -/
def changesPower : Instr → Bool
  | .powerOn | .powerLoss | .resetNAssert _ | .coreRailFall _ | .refclkLoss | .chipResetRelease | .configVerified
  | .thermTrip _ _ | .commitChecksComplete | .sketchActivate | .powerModeSet _ | .slopeLimitSet _
  | .chipResetDelayEnd | .tickStart | .tickInEdge _ | .rmPolicy _ | .pwrAlertAssert | .pwrAlertRelease
  | .alertHoldEnd | .powerGovernorUpdate _ _ | .slopeGovernorUpdate _ | .thermalSample _ | .railCurrentSample _
  | .overcurrentLift
  | .firmwareVerified _ => true
  | _ => false

/-- Commands that may change start-up: reset, the stages, Easel restarts, the thermal trip, updates, a first claim, test access. -/
def changesBoot : Instr → Bool
  | .powerOn | .powerLoss | .resetNAssert _ | .coreRailFall _ | .refclkLoss | .refclkLock | .chipResetRelease
  | .strapSample _ | .rootSecretComplete _ _ | .pcieStageComplete _ _ | .hbmTrainingComplete | .bootFetchStart _
  | .firmwareVerified _ | .bootAttemptTimeout | .configVerified | .easelReady _ | .thermTrip _ _
  | .easelWatchdogExpire _ | .easelMemoryUncorrectable _ _ _ _ _ | .easelRestartComplete | .fwUpdateBegin _ | .fwUpdateData _
  | .fwUpdateCommit _ | .fwUpdateWriteComplete | .chipResetChip _ | .chipResetEasel _ | .chipResetDelayEnd
  | .registerWrite _ _ | .claim | .jtagInstructionUpdate _ _ | .jtagTestLogicReset
  | .patrolScrub _ _ => true
  | _ => false

/-- Commands that may change flash. -/
def changesFlash : Instr → Bool
  | .powerOn | .powerLoss | .resetNAssert _ | .coreRailFall _ | .refclkLoss | .rootSecretComplete _ _
  | .bootAttemptTimeout | .easelReady _ | .easelWatchdogExpire _ | .easelMemoryUncorrectable _ _ _ _ _ | .fwUpdateWriteComplete
  | .chipResetDelayEnd | .snapshotInterval | .laneTestComplete _ _ | .rowTestComplete _ _ _
  | .paletteTestComplete _ _ _ _
  | .patrolScrub _ _ => true
  | _ => false

/-! ### The commands that may change the switch core, the host interface or the health state -/

/-- A PCI Express function but for what an event or a cause may change in it: the causes and their messages, and the place
where the next event goes (R328, R334). -/
def fnCore (f : HostFn) : HostFn :=
  { f with intCause := 0, heldCauses := 0, posted := 0, firstHeld := none, msixPba := 0, erTail := 0, erPhase := true }

/-- The host interface but for what an event or a cause may change in it, and its counters. -/
def hostCore (h : HostState) : HostState := { h with fnA := fnCore h.fnA, fnB := fnCore h.fnB, ctr := [] }

/-- The health state but for the flight recorder, which every event and error may write (R418). -/
def healthCore (h : Health) : Health := { h with records := [], heldRecords := [], recSeq := 0 }

/-- Commands that may change the switch core (its packets and queues, routes, port sets, holds and counters): those that store,
route, send, end or answer packets, an in-band command's answer among them, and those that a port's loss of packets follows. -/
def changesSwitch : Instr → Bool
  | .powerOn | .powerLoss | .resetNAssert _ | .coreRailFall _ | .refclkLoss | .firmwareVerified _
  | .engineCalibrationComplete _ _ | .identify _ | .getStatus _ | .sketchLoadBegin _ | .sketchLoadData _
  | .sketchCommit _ | .commitChecksComplete | .sketchActivate | .planSwitch _ | .portEnable _ | .portDisable _
  | .portWash _ | .washPortDrained _ | .washTimeout _ | .portRetrain _ | .portRetrainQuiesceEnd _ | .portInfo _
  | .groupDefine _ | .groupDelete _ | .portsetDefine _ | .routeWrite _ | .writeSegment _ | .writeStream _
  | .sealSegment _ | .sealCheckComplete _ _ | .reopenSegment _ | .rewindStream _ | .writeList _ | .syncArm _
  | .policySet _ | .powerModeSet _ | .slopeLimitSet _ | .flagsReadClear _ | .countersRead _ | .twinConfig _
  | .controlHandover _ | .handoverAckTimeout | .fwUpdateBegin _ | .fwUpdateData _ | .fwUpdateCommit _
  | .fwUpdateWriteComplete | .attest _ | .selftestRun _ | .chipResetChip _ | .chipResetEasel _ | .chipResetDelayEnd
  | .ringEntryFetch _ _ _ | .ringLockLoss _ _ _ | .lossOfSignalAssert _ _ | .lossOfLockAssert _ _ | .fomWindowEnd _ _
  | .pairCrossed _ _ | .identSetReceived _ _ _ | .rateStep _ | .reportPhaseEnd _ | .slotStreamFramed _ _
  | .announceReceived _ _ _ | .slotBoundary _ _ _ | .slotReceived _ _ _ | .alignmentMarkerReceived _ _ _ _
  | .ackTimeout _ _ | .creditRelease _ | .graceExpire _ | .lookup _ _ _ | .escapeTimerExpire _ | .queueDepthSample
  | .holdTimeout _ | .holdOwedEnd _ | .holdEntryIdle _ | .stallVoidExpire _ _ | .originatedPacketWrite _
  | .terminatedDiscard _ | .segmentPut _ | .segmentPutVisible _ | .streamSubscribe _ | .streamCancel _
  | .syncArrive _ | .telemetryGet _ | .cmd _ | .reduceContrib _ _ | .combineContrib _ _ | .reduceResultReceived _
  | .deferredPartAccept _ _ | .schedSlotOpenResume _ _ | .openingRateResume _ _ | .opTimeout _ | .upTimeout _
  | .stateAckReceived _ | .patrolScrub _ _ | .selftestStart _ | .laneTestComplete _ _ | .rowTestComplete _ _ _
  | .paletteTestComplete _ _ _ _ => true
  | _ => false

/-- Commands that may change the host interface but for causes and event rings: its registers' own, those that answer a command of
a ring or the in-band queue, resets and Easel restarts. -/
def changesHost : Instr → Bool
  | .powerOn | .powerLoss | .resetNAssert _ | .coreRailFall _ | .refclkLoss | .pcieStageComplete _ _
  | .firmwareVerified _ | .engineCalibrationComplete _ _ | .perstAssert _ | .functionLevelReset _
  | .busMasterEnableSet _ | .easelWatchdogExpire _ | .easelMemoryUncorrectable _ _ _ _ _ | .identify _ | .getStatus _
  | .sketchLoadBegin _ | .sketchLoadData _ | .sketchCommit _ | .commitChecksComplete | .sketchActivate
  | .planSwitch _ | .portEnable _ | .portDisable _ | .portWash _ | .washPortDrained _ | .washTimeout _
  | .portRetrain _ | .portRetrainQuiesceEnd _ | .portInfo _ | .groupDefine _ | .groupDelete _ | .portsetDefine _
  | .routeWrite _ | .writeSegment _ | .writeStream _ | .sealSegment _ | .sealCheckComplete _ _ | .reopenSegment _
  | .rewindStream _ | .writeList _ | .syncArm _ | .policySet _ | .powerModeSet _ | .slopeLimitSet _
  | .flagsReadClear _ | .countersRead _ | .twinConfig _ | .controlHandover _ | .handoverAckTimeout
  | .fwUpdateBegin _ | .fwUpdateData _ | .fwUpdateCommit _ | .fwUpdateWriteComplete | .attest _ | .selftestRun _
  | .chipResetChip _ | .chipResetEasel _ | .chipResetDelayEnd | .doorbellWrite _ _ _ | .ringEntryFetch _ _ _
  | .completionPost _ _ _ | .cqHeadWrite _ _ _ | .ringEnableWrite _ _ _ | .ringReset _ _ | .eventRingEnableWrite _ _
  | .eventRingReset _ | .erHeadWrite _ _ | .intCauseClear _ _ _ | .intMaskWrite _ _ | .registerWrite _ _
  | .ringLockLoss _ _ _ | .lossOfSignalAssert _ _ | .lossOfLockAssert _ _ | .fomWindowEnd _ _ | .pairCrossed _ _
  | .identSetReceived _ _ _ | .announceReceived _ _ _ | .slotBoundary _ _ _ | .slotReceived _ _ _
  | .alignmentMarkerReceived _ _ _ _ | .ackTimeout _ _ | .cmd _ | .stateAckReceived _ | .patrolScrub _ _
  | .selftestStart _ | .laneTestComplete _ _ | .rowTestComplete _ _ _ | .paletteTestComplete _ _ _ _
  | .replyCacheExpire _ _ _ | .perstRelease _ _ => true
  | _ => false

/-- Commands that may change the health state but for the flight recorder: those that read a memory with ECC, write a table
entry, or bring a test about. -/
def changesHealth : Instr → Bool
  | .powerOn | .powerLoss | .resetNAssert _ | .coreRailFall _ | .refclkLoss | .hbmTrainingComplete
  | .firmwareVerified _ | .easelReady _ | .easelWatchdogExpire _ | .easelMemoryUncorrectable _ _ _ _ _
  | .easelRestartComplete | .commitChecksComplete | .sketchActivate | .groupDefine _ | .groupDelete _
  | .portsetDefine _ | .routeWrite _ | .writeSegment _ | .writeStream _ | .sealCheckComplete _ _ | .writeList _
  | .syncArm _ | .selftestRun _ | .chipResetDelayEnd | .slotBoundary _ _ _ | .slotReceived _ _ _ | .lookup _ _ _
  | .segmentPut _ | .reduceContrib _ _ | .combineContrib _ _ | .reduceResultReceived _ | .deferredPartAccept _ _
  | .schedSlotOpenResume _ _ | .openingRateResume _ _ | .tileReadComplete _ _ _ | .patrolScrub _ _
  | .tableRestore _ _ _ | .selftestStart _ | .laneTestComplete _ _ | .rowCopyComplete _ | .rowTestComplete _ _ _
  | .paletteTestComplete _ _ _ _ => true
  | _ => false

end Sys2Proof.Machine
end

