-- ==== Sys2Proof/Certificates/Slice0/Obligations.lean ====
section
/-! DEFINITION. The statements for the provers. Each docstring says what its parts state, in their order; where a part rests on a
choice of the model it names the assumption log's entry. -/

open Sys2Proof Sys2Proof.Machine

/-! ### The machine -/

/-- The front command of the queue acts on the state with the rest of the queue; an idle device lets 1 ns pass
(assumption log 2: the model's own clock). -/
def Obligations.StepRunsTheFrontCommand : Prop :=
  (∀ (s : State) (c : Instr) (rest : List Instr), s.pending = c :: rest → step s = exec c { s with pending := rest }) ∧
  (∀ s : State, s.pending = [] → step s = .next (passTime s))

/-- Every well-formed command completes and an ill-formed one is refused by name; none faults. No command changes the
queue or the clock. Where the spec leaves a point to the model it follows assumption logs 2 and 99. -/
def Obligations.CommandsCompleteAndKeepTheQueue : Prop :=
  (∀ (c : Instr) (s : State),
    (c.wf = true → ∃ t, exec c s = .next t) ∧ (c.wf = false → exec c s = .refused .noSuchUnit)) ∧
  (∀ (c : Instr) (s t : State), exec c s = .next t → t.pending = s.pending ∧ t.now = s.now)

/-- Soundness is kept by every step. Where the spec leaves a point to the model it follows assumption log 4. -/
def Obligations.StepKeepsSoundness : Prop :=
  ∀ s t : State, Sound s → step s = .next t → Sound t

/-- The state after reset is sound. -/
def Obligations.ResetIsSound : Prop :=
  Sound State.reset

/-- What the spec states for reset: the interrupt mask, the class mask, the vectors, rings off, ownership *Booting*, the
tick and counters at zero, no sketch, endpoint 0xFFFF, mode P0 and every palette in service. -/
def Obligations.ResetLeavesWhatTheSpecStates : Prop :=
  let f := State.reset.host.fnA
  f = State.reset.host.fnB ∧ f.intMask = 0x3FF ∧ f.intCause = 0 ∧ f.classMask = 0xFF ∧ f.erEnable = false ∧
    (∀ i, i < 10 → f.vec.getD i 0 = BitVec.ofNat 6 i) ∧
    (∀ r, r < 4 → f.rings.getD r {} = ({ phase := true } : Ring)) ∧
    State.reset.tray.own = .booting ∧ State.reset.tick.number = 0 ∧ State.reset.sketch.inForce = false ∧
    State.reset.sketch.endpoint = 0xFFFF ∧ State.reset.power.mode = 0 ∧ palettesOn State.reset = 32 ∧
    (∀ p, p < 96 → (portOf State.reset p).state = .disabled ∧ (portOf State.reset p).admitted = false)

/-- THERM_TRIP_N, once asserted, is released only by removing VDD_AUX (POWER_LOSS, and the POWER_ON that follows it): no
other command releases it, RESET_N neither, and while it stays asserted the device does not leave chip reset. -/
def Obligations.ThermalTripHoldsUntilPowerIsRemoved : Prop :=
  ∀ (c : Instr) (s t : State), c ≠ .powerLoss → c ≠ .powerOn → s.boot.thermTrip = true → exec c s = .next t →
    t.boot.thermTrip = true ∧ (s.boot.inReset = true → t.boot.inReset = true)

/-- The sampled straps change at STRAP_SAMPLE alone, or go with a chip reset, after which they are not valid and hold their
reset values; while they are not valid only STRAP_SAMPLE sets them. The switch core, the host interface but for causes and
event rings, and the health state but for the flight recorder: only the commands named beside each may change them. -/
def Obligations.StrapsSwitchHostAndHealthFrame : Prop :=
  (∀ (c : Instr) (s t : State), s.boot.strapsValid = true → exec c s = .next t →
    (t.boot.strapsValid = true ∧ t.boot.slotId = s.boot.slotId ∧ t.boot.pos = s.boot.pos ∧ t.boot.role = s.boot.role ∧
      t.boot.bootSrc = s.boot.bootSrc) ∨ (t.boot.inReset = true ∧ t.boot.strapsValid = false)) ∧
  (∀ (c : Instr) (s t : State), s.boot.strapsValid = false → (∀ x, c ≠ .strapSample x) → exec c s = .next t →
    t.boot.strapsValid = false ∧
      ((t.boot.slotId = s.boot.slotId ∧ t.boot.pos = s.boot.pos ∧ t.boot.role = s.boot.role ∧
          t.boot.bootSrc = s.boot.bootSrc) ∨
        (t.boot.inReset = true ∧ t.boot.slotId = 0 ∧ t.boot.pos = 0 ∧ t.boot.role = 2 ∧ t.boot.bootSrc = 0))) ∧
  (∀ (c : Instr) (s t : State), exec c s = .next t →
    (changesSwitch c = false → t.switch = s.switch) ∧
    (changesHost c = false → hostCore t.host = hostCore s.host) ∧
    (changesHealth c = false → healthCore t.health = healthCore s.health))

/-- A floor never falls; only the reading of a record whose tag fails, at ROOT_SECRET_COMPLETE, takes both as 0. -/
def Obligations.FloorsNeverFall : Prop :=
  ∀ (c : Instr) (s t : State), (∀ k b, c ≠ .rootSecretComplete k b) → s.flash.floorOk = true → exec c s = .next t →
    s.flash.fwFloor.toNat ≤ t.flash.fwFloor.toNat ∧ s.flash.cfgFloor.toNat ≤ t.flash.cfgFloor.toNat

/-- The stream store's bytes: a command but SEGMENT_PUT leaves every byte as it reads, unless it ends in chip reset.
Where the spec leaves a point to the model it follows assumption log 4. -/
def Obligations.OnlySegmentPutWritesTheStore : Prop :=
  ∀ (c : Instr) (s t : State), (∀ p, c ≠ .segmentPut p) → exec c s = .next t →
    t.boot.inReset = true ∨ ∀ a, mread t.streams.store a = mread s.streams.store a

/-- Ports and laser inputs: only the commands that R38 to R134 and the buffer's rules give a hand in them change them. -/
def Obligations.PortsAndLasersFrame : Prop :=
  ∀ (c : Instr) (s t : State), exec c s = .next t →
    (changesPorts c = false → t.ports = s.ports) ∧ (changesLasers c = false → t.lasers = s.lasers)

/-- The Canvas and the stream store's tables. -/
def Obligations.CanvasAndStreamsFrame : Prop :=
  ∀ (c : Instr) (s t : State), exec c s = .next t →
    (changesCanvas c = false → t.canvas = s.canvas) ∧ (changesStreams c = false → t.streams = s.streams)

/-- The sketch, the tick and the policy fields. -/
def Obligations.SketchTickAndPolicyFrame : Prop :=
  ∀ (c : Instr) (s t : State), exec c s = .next t →
    (changesSketch c = false → t.sketch = s.sketch) ∧ (changesTick c = false → t.tick = s.tick) ∧
    (changesPolicy c = false → t.policy = s.policy)

/-- Tray control, power, start-up and flash. -/
def Obligations.TrayPowerBootAndFlashFrame : Prop :=
  ∀ (c : Instr) (s t : State), exec c s = .next t →
    (changesTray c = false → t.tray = s.tray) ∧ (changesPower c = false → t.power = s.power) ∧
    (changesBoot c = false → t.boot = s.boot) ∧ (changesFlash c = false → t.flash = s.flash)

/-- What the device writes it reads back: packet headers, D-block and C-run headers, flits, control flits, the symbols of
a C-run under one scrambler state, symbols and bytes as PAM4 levels, inverted levels, bytes in the 8b/10b code, the
lanes of a twin frame and the frame's content. Where the spec leaves a point to the model it follows assumption logs 13, 14
and 101. -/
def Obligations.EncodingsReadBack : Prop :=
  (∀ h : Header, parseHeader (headerBytes h) = h) ∧
  (∀ h : DHeader, parseDHeader (dHeaderBytes h) = h) ∧
  (∀ (h : CHeader) (rest : Bytes), parseCHeader (cHeaderBytes h ++ cHeaderBytes h ++ rest) = some h) ∧
  (∀ f : Flit, f.content.length = 252 → parseFlit (flitBytes f) = some f) ∧
  (∀ (k : W16) (c : CFlit), c.content.length = 52 → parseCflit (cflitBytes k c) = some (c, k)) ∧
  (∀ (r : BitVec 31) (b : Bytes), b.length = 1360 → decodeC r (encodeC r b).2 = ((encodeC r b).1, b)) ∧
  (∀ l : List Sym, levelsToSymbols l.length (symbolsToLevels l) = l) ∧
  (∀ b : Bytes, levelsToBytes b.length (bytesToLevels b) = b) ∧
  (∀ (inv : Bool) (l : List Level), invertLevels inv (invertLevels inv l) = l) ∧
  (∀ (rd : Bool) (b : Bytes), decodeRun rd (encodeRun rd b).1 = b.map (fun x => some (.data x))) ∧
  (∀ (inv rd : Bool) (b : Bytes), receivedLane inv (invertGroups inv (frameLane rd b).1) = some b) ∧
  (∀ (typ : Nat) (q : W16) (p : Bytes), typ < 256 → p.length < 4294967296 →
    frameContent (twinFrame typ q p) = some (typ, p))

/-! ### Power, reset and start-up (15) -/

/-- RESET_N for at least 1 µs, a core-rail fall and the loss of REFCLK each start a chip reset; a shorter pulse on
RESET_N is ignored. Loss of power keeps flash alone; power-on enters chip reset with THERM_TRIP_N released; a lock
of REFCLK lets the device leave; the release of chip reset starts the stages at t0. Where the spec leaves a point to
the model it follows assumption log 84. -/
def Obligations.ResetCausesAndRelease : Prop :=
  (∀ (s : State) (n : Nat), s.boot.powered = true → 1000 ≤ n →
    ∃ t, exec (.resetNAssert n) s = .next t ∧ WasReset s t ∧ t.boot.resetLow = true ∧ t.health.records = s.health.records) ∧
  (∀ (s : State) (n : Nat), s.boot.powered = true → n < 1000 → exec (.resetNAssert n) s = .next s) ∧
  (∀ (s : State) (r : CoreRail), s.boot.powered = true →
    ∃ t, exec (.coreRailFall r) s = .next t ∧ WasReset s t ∧ r ∈ t.boot.railsLow ∧
      t.health.records = if r = .vddHbm ∨ r = .vddqHbm then [] else s.health.records) ∧
  (∀ s : State, s.boot.powered = true →
    ∃ t, exec .refclkLoss s = .next t ∧ WasReset s t ∧ t.boot.refclkLocked = false ∧ t.health.records = s.health.records) ∧
  (∀ s : State, ∃ t, exec .powerLoss s = .next t ∧ t.boot.powered = false ∧ t.ports = List.replicate 96 {} ∧
    t.sketch = {} ∧ t.streams = {} ∧ t.tray = {} ∧ t.health = {} ∧ t.flash.fwFloor = s.flash.fwFloor ∧
    t.flash.retired = s.flash.retired ∧ t.flash.snapshots = s.flash.snapshots) ∧
  (∀ s : State, s.boot.powered = false → ∃ t, exec .powerOn s = .next t ∧ t.boot.powered = true ∧ t.boot.inReset = true ∧
    t.boot.thermTrip = false ∧ t.boot.boots = 0 ∧ t.flash.fwFloor = s.flash.fwFloor ∧ t.health = {}) ∧
  (∀ s : State, s.boot.powered = true →
    exec .refclkLock s = .next { s with boot := { s.boot with refclkLocked := true } }) ∧
  (∀ s : State, s.boot.powered = true → s.boot.inReset = true →
    s.boot.refclkLocked = true → s.boot.thermTrip = false → s.boot.jtagHolds = false →
    ∃ t, exec .chipResetRelease s = .next t ∧ t.boot.inReset = false ∧ t.boot.resetEnd = s.now ∧
      t.boot.boots = s.boot.boots + 1 ∧ t.flash = s.flash ∧ t.ports = s.ports ∧ t.sketch = s.sketch) ∧
  (∀ s : State, s.boot.powered = true → s.boot.thermTrip = true →
    exec .chipResetRelease s = .next { s with boot := { s.boot with resetLow := false } })

/-- The straps, as the pins and their pulls read; the root secret, from the array's start-up pattern and either helper copy
where the flash pins carry them, the same at every start, with the identity and the check of the floor record, or `fatal`; the PCI Express stage; and HBM
training: each after the one before it. That a link is up at the PCI Express stage's end where PERST_N is released rests on
assumption log 75; what else the spec leaves to the model here follows logs 5, 12, 149 and 150. -/
def Obligations.EarlyStagesComplete : Prop :=
  (∀ (s : State) (x : StrapPins), s.boot.inReset = false → s.boot.strapsValid = false → s.boot.resetEnd + 10000 ≤ s.now →
    exec (.strapSample x) s = .next { s with boot := { s.boot with
      strapsValid := true, slotId := strapField 4 [] x.slotId, pos := strapField 2 [] x.pos
      role := strapField 2 [1] x.role, bootSrc := strapField 2 [] x.bootSrc } }) ∧
  (∀ (n i : Nat) (ups : List Nat) (l : List PinLevel), i < n → (strapField n ups l).getLsbD i =
    (match l.getD i .open with
      | .low => false
      | .high => true
      | .open => ups.contains i)) ∧
  (∀ (s : State) (x : Bytes) (r : Bool), s.boot.inReset = false → s.boot.strapsValid = true → s.boot.rootDone = false →
    ∃ t, exec (.rootSecretComplete x r) s = .next t ∧ t.boot.rootDone = true ∧ t.ports = s.ports ∧
      t.flash.fwFloor = s.flash.fwFloor ∧ t.flash.cfgFloor = s.flash.cfgFloor ∧
      (if r = true ∧ (Config.reconstructs x s.flash.helper1 = true ∨ Config.reconstructs x s.flash.helper2 = true)
       then t.boot.secret = some Config.deviceSecret ∧ t.boot.identity = identityDigest Config.deviceSecret ∧
        t.boot.chipTag = BitVec.ofNat 32 (leAt t.boot.identity 0 4) ∧ t.boot.fatal = s.boot.fatal ∧
        t.flash.floorOk = (s.flash.floorTag == floorTagOf Config.deviceSecret s.flash.fwFloor s.flash.cfgFloor)
       else t.boot.fatal = true ∧ t.boot.secret = s.boot.secret ∧ t.boot.chipTag = s.boot.chipTag ∧ t.flash = s.flash)) ∧
  (∀ k : BitVec 256, identityDigest k = leBytes 48 (Config.sha384 (leBytes 32 (Config.edPublic (edSeed k)).toNat ++
    leBytes 1952 (Config.mlPublic (mlSeed k)).toNat)).toNat) ∧
  (∀ (s : State) (a b : PcieLink), s.boot.inReset = false → s.boot.rootDone = true → s.boot.pcieUp = false →
    ∃ t, exec (.pcieStageComplete a b) s = .next t ∧ t.boot.pcieUp = true ∧
      t.host.fnA.linkUp = (!s.host.fnA.perst) ∧ t.host.fnB.linkUp = (!s.host.fnB.perst) ∧
      t.host.fnA.link = a ∧ t.host.fnB.link = b ∧ t.flash = s.flash ∧ t.ports = s.ports) ∧
  (∀ s : State, s.boot.inReset = false → s.boot.rootDone = true → s.boot.hbmTrained = false → s.health.heldRecords = [] →
    ∃ t, exec .hbmTrainingComplete s = .next t ∧ t.boot.hbmTrained = true ∧ t.health.records = s.health.records ∧
      t.health.recSeq = newestSeq s.health.records ∧ t.ports = s.ports)

/-- A host boot: the write to BOOT_CTRL starts the fetch or refuses a bad length, which a BOOT_STATUS that already is 3 goes on
showing; the image's judgement sets BOOT_STATUS to 2 or 3; each change sets the `boot` cause on the boot port. A boot from
flash tries the active bank, then the other, then waits with BOOT_STATUS 3; a restart from flash does the same whatever
`boot_src` names, and then waits for a new fetch. The firmware that starts finds every counter
zero, the commanded mode P0 and the slope governor's reference at the measured power. Where the spec leaves a point to the
model it follows assumption logs 5, 79 and, for the BOOT_LEN bytes that are judged, 83. -/
def Obligations.FirmwareBoots : Prop :=
  (∀ (s : State) (hp : HostPort), waitsForFetch s hp = true → 4096 ≤ s.boot.bootLen.toNat →
    s.boot.bootLen.toNat ≤ 67108864 →
    ∃ t, exec (.bootFetchStart hp) s = .next t ∧ t.boot.bootStatus = 1 ∧ (fnOf t hp).intCause.getLsbD 7 = true ∧
      t.flash = s.flash) ∧
  (∀ (s : State) (hp : HostPort), waitsForFetch s hp = true → s.boot.bootStatus = 0 →
    (s.boot.bootLen.toNat < 4096 ∨ 67108864 < s.boot.bootLen.toNat) →
    ∃ t, exec (.bootFetchStart hp) s = .next t ∧ t.boot.bootStatus = 3 ∧ (fnOf t hp).intCause.getLsbD 7 = true) ∧
  (∀ (s : State) (hp : HostPort), waitsForFetch s hp = true → s.boot.bootStatus = 3 →
    (s.boot.bootLen.toNat < 4096 ∨ 67108864 < s.boot.bootLen.toNat) → exec (.bootFetchStart hp) s = .next s) ∧
  (∀ (s : State) (hp : HostPort) (f : Bytes), bootPort s = some hp → s.boot.restarting = false → firmwareDue s = true →
    (let ok := imageAccepted s false (padTo s.boot.bootLen.toNat f)
     ∃ t, exec (.firmwareVerified f) s = .next t ∧ t.boot.fwAccepted = ok ∧ t.boot.bootStatus = (if ok then 2 else 3) ∧
      (fnOf t hp).intCause.getLsbD 7 = true ∧ (ok = true → t.boot.bootBank = if hp = .a then 2 else 3))) ∧
  (∀ (s : State) (f : Bytes), bootPort s = none → s.boot.restarting = false → firmwareDue s = true →
    s.boot.triedOther = false →
    (let b := bankImage s false s.flash.activeFw
     ∃ t, exec (.firmwareVerified f) s = .next t ∧
      (if imageAccepted s false b then t.boot.fwAccepted = true ∧ t.boot.bootStatus = 2 ∧ t.boot.fwVersion = imVersion b
       else t = { s with boot := { s.boot with triedOther := true } }))) ∧
  (∀ (s : State) (f : Bytes), bootPort s = none → s.boot.restarting = false → firmwareDue s = true →
    s.boot.triedOther = true →
    (let b := bankImage s false (!s.flash.activeFw)
     ∃ t, exec (.firmwareVerified f) s = .next t ∧ t.boot.fwAccepted = imageAccepted s false b ∧
      t.boot.bootStatus = (if imageAccepted s false b then 2 else 3) ∧
      (imageAccepted s false b = false → t.ports = s.ports) ∧ t.flash = s.flash)) ∧
  (∀ (s : State) (f : Bytes), s.boot.restarting = true → s.boot.bootStatus = 2 → firmwareDue s = true →
    imageAccepted s false (bankImage s false (s.flash.activeFw != s.boot.triedOther)) = false →
    ∃ t, exec (.firmwareVerified f) s = .next t ∧ t.boot.fwAccepted = false ∧ t.boot.restarting = true ∧
      t.boot.bootStatus = (if s.boot.triedOther then 3 else 2) ∧ t.boot.triedOther = true ∧ t.ports = s.ports ∧
      (∀ hp, s.boot.triedOther = true → s.boot.rootDone = true → bootPort s = some hp → barOk s hp = true →
        waitsForFetch t hp = true)) ∧
  (∀ (s : State) (b : Bytes), s.boot.restarting = false →
    let t := startFirmware b s
    t.boot.fwAccepted = true ∧ t.power.commanded = 0 ∧ t.power.ref = (s.power.power : Rat) / 1000 ∧
      t.ports = s.ports.map (fun q => { q with ctr := List.replicate q.ctr.length 0 }) ∧
      (∀ x ∈ t.switch.ctr ++ t.switch.pkt ++ t.canvas.ctr ++ t.streams.ctr ++ t.sketch.ctr ++ t.host.ctr ++ t.tray.ctr ++
        t.power.ctr ++ t.health.ctr, x = 0) ∧ t.flash = s.flash)

/-- The configuration image is taken where the boot chain accepts it, else the device runs with `config_version` 0; then
`easel_ready` moves the device to *Claiming* or *Passive*; a newly activated image that misses `easel_ready` for 5 s boots
again, counted, restarts of its firmware included; the third boots the other bank that meets the floor. An uncommanded Easel
restart sets `fatal` and clears `easel_ready`, and where the verified copy is bad too the firmware is verified again; a second
within 60 s leaves the Easel stopped; the restart's end clears `fatal`, sets `easel_ready`, counts
the restart and leaves no word of the Easel's memory marked (log 184). Where the
spec leaves a point to the model it follows assumption logs 80, 82, 83 and, for firmware that is not ready yet, 154. -/
def Obligations.LateStagesAndEaselRestarts : Prop :=
  (∀ s : State, s.boot.inReset = false → s.boot.fwAccepted = true → s.boot.cfgDone = false → s.boot.easelStopped = false →
    (let b := openBank s s.flash.activeCfg
     let c := Config.configContents b
     ∃ t, exec .configVerified s = .next t ∧
      (if imageAccepted s true b then t.boot.cfgDone = true ∧ t.boot.config = some c ∧ t.boot.configVersion = imVersion b ∧
          t.power.budgetTarget = c.budget ∧ t.policy = applyEntries (imageEntries s.policy c.policy) s.policy ∧
          ∀ p, p < s.ports.length → (portOf t p).rw = startWeight t.policy
       else t = { s with boot := { s.boot with cfgDone := true } }))) ∧
  (∀ (s : State) (pass : BitVec 32), s.boot.inReset = false → s.boot.fwAccepted = true → s.boot.cfgDone = true →
    s.boot.reached = false → s.boot.easelStopped = false → s.boot.restarting = false → s.flash.retired = [] → bootsNewFw s = false →
    s.flash.newCfg = false → s.tray.own = .booting → s.tray.lineFault = false →
    ∃ t, exec (.easelReady pass) s = .next t ∧ t.boot.easelReady = true ∧
      t.tray.own = (if s.boot.role.toNat ≤ 1 then .claiming else .passive) ∧ t.tray.readyAt = s.now ∧ t.ports = s.ports) ∧
  (∀ s : State, s.boot.inReset = false → (s.boot.fwAccepted = true ∨ s.boot.restarting = true) → s.boot.easelReady = false →
    bankBooted s = some s.flash.activeFw → s.flash.newFw = true →
    s.boot.bootAt + 5000000000 ≤ s.now → s.flash.attempts < 2 →
    ∃ t, exec .bootAttemptTimeout s = .next t ∧ t.boot.fwAccepted = false ∧ t.boot.restarting = false ∧ t.flash.attempts = s.flash.attempts + 1 ∧
      t.flash.activeFw = s.flash.activeFw) ∧
  (∀ s : State, s.boot.inReset = false → (s.boot.fwAccepted = true ∨ s.boot.restarting = true) → s.boot.easelReady = false →
    bankBooted s = some s.flash.activeFw → s.flash.newFw = true →
    s.boot.bootAt + 5000000000 ≤ s.now → s.flash.attempts = 2 →
    floorOf s false ≤ imSec (bankImage s false (!s.flash.activeFw)) →
    ∃ t, exec .bootAttemptTimeout s = .next t ∧ t.flash.activeFw = (!s.flash.activeFw) ∧ t.flash.newFw = false) ∧
  (∀ (s : State) (bad : Bool), Live s → s.boot.fwAccepted = true → s.boot.easelStopped = false → s.boot.lastRestart = none →
    ∃ t, exec (.easelWatchdogExpire bad) s = .next t ∧ t.boot.fatal = true ∧ t.boot.easelReady = false ∧
      t.boot.restarting = true ∧ t.boot.fwAccepted = !bad ∧ t.boot.easelStopped = false ∧ t.tray.own ≠ .active ∧ t.host.inband = [] ∧
      t.tick = s.tick ∧ t.canvas = s.canvas) ∧
  (∀ (s : State) (stack row word : Nat) (e : WordError) (bad : Bool), stack < 4 → row < 1048576 → word < 32 →
    eccOf e = .uncorrectable → Live s → s.boot.fwAccepted = true → s.boot.easelStopped = false → s.boot.lastRestart = none →
    ∃ t, exec (.easelMemoryUncorrectable stack row word e bad) s = .next t ∧ t.boot.fatal = true ∧ t.boot.easelReady = false ∧
      t.boot.restarting = true ∧ t.boot.fwAccepted = !bad ∧ t.tray.own ≠ .active ∧
      t.health.ctr = (hbmRead 6 stack (easelRow row) word e s).health.ctr) ∧
  (∀ (s : State) (stack row word : Nat) (e : WordError) (bad : Bool), stack < 4 → row < 1048576 → word < 32 →
    eccOf e ≠ .uncorrectable →
    exec (.easelMemoryUncorrectable stack row word e bad) s = .next (hbmRead 6 stack (easelRow row) word e s)) ∧
  (∀ (s : State) (bad : Bool) (u : Nat), Live s → s.boot.fwAccepted = true → s.boot.easelStopped = false →
    s.boot.lastRestart = some u → s.now < u + 60000000000 →
    ∃ t, exec (.easelWatchdogExpire bad) s = .next t ∧ t.boot.easelStopped = true ∧ t.boot.fatal = true) ∧
  (∀ s : State, Live s → s.boot.restarting = true → s.boot.reached = true → s.boot.fwAccepted = true → s.boot.easelStopped = false →
    s.boot.restartCause ≠ 0 → s.tray.lineFault = false → s.tray.own = .released → s.boot.role.toNat ≤ 1 →
    ∃ t, exec .easelRestartComplete s = .next t ∧ t.boot.fatal = false ∧ t.boot.easelReady = true ∧
      t.boot.restarting = false ∧ t.tray.own = .claiming ∧ t.health.ctr = bump 15 1 s.health.ctr ∧
      (∀ w ∈ t.health.badWords, 32 * w < 266287972352 ∨ 270582939648 ≤ 32 * w) ∧
      (∀ w ∈ s.health.badWords, 32 * w < 266287972352 → w ∈ t.health.badWords)) ∧
  (∀ k r w : Nat, k < 4 → r < 1048576 → w < 32 →
    266287972352 ≤ rowAddress k (easelRow r) w ∧ rowAddress k (easelRow r) w + 32 ≤ 270582939648)

/-- CHIP_RESET with a right `confirm` completes with OK and begins the reset of its kind, 1 for the chip and 2 for the
Easel, 1 ms later; any other kind is answered with BAD_PARAM as it is fetched or comes to the head of the in-band
queue, a wrong `confirm` too, a second command in that 1 ms with BUSY; RESET_N in that 1 ms begins the chip reset at
once and the commanded reset lapses. The 1 ms counted from the command rests on assumption log 84, the answer of another kind
at the fetch or at the head of the queue on log 91, and what a commanded Easel restart keeps on log 82. -/
def Obligations.CommandedResets : Prop :=
  (∀ (s : State) (src : CmdSrc) (b : Bytes), Accepted s src b → cmdOpcode b = 0xF0 → cmdParamLen b = 8 →
    leAt (cmdParams b) 4 4 = 0x05719600 → s.boot.pendingReset = none →
    (subCode b = 1 → exec (.chipResetChip src) s =
      .next (finish src stOk [] { s with boot := { s.boot with pendingReset := some (true, s.now + 1000000) } })) ∧
    (subCode b = 2 → exec (.chipResetEasel src) s =
      .next (finish src stOk [] { s with boot := { s.boot with pendingReset := some (false, s.now + 1000000) } }))) ∧
  (∀ (s : State) (hp : HostPort) (r : Nat) (f : RingFetch) (c : RingCmd), r < 4 → (fnOf s hp).rings.length = 4 →
    mayFetch s hp r = true → fetchedCmd (ringOf s hp r) f = some c → c.reply = none → cmdOpcode c.bytes = 0xF0 →
    cmdParamLen c.bytes = 8 → bytesFit c.bytes = true → cmdTarget c.bytes = 0xFFFF → subCode c.bytes ≠ 1 →
    subCode c.bytes ≠ 2 →
    ∃ t x, exec (.ringEntryFetch hp r f) s = .next t ∧ (ringOf t hp r).cmd = some x ∧
      x.reply = some { status := stBadParam, tag := cmdTag c.bytes, opcode := 0xF0, result := [] } ∧
      t.boot = s.boot) ∧
  (∀ (s : State) (src : CmdSrc) (b : Bytes), Accepted s src b → cmdOpcode b = 0xF0 → cmdParamLen b = 8 →
    leAt (cmdParams b) 4 4 ≠ 0x05719600 →
    (subCode b = 1 → exec (.chipResetChip src) s = .next (finish src stBadParam [] s)) ∧
    (subCode b = 2 → exec (.chipResetEasel src) s = .next (finish src stBadParam [] s))) ∧
  (∀ (s : State) (src : CmdSrc) (b : Bytes), Accepted s src b → cmdOpcode b = 0xF0 → cmdParamLen b = 8 →
    leAt (cmdParams b) 4 4 = 0x05719600 → s.boot.pendingReset ≠ none →
    (subCode b = 1 → exec (.chipResetChip src) s = .next (finish src stBusy [] s)) ∧
    (subCode b = 2 → exec (.chipResetEasel src) s = .next (finish src stBusy [] s))) ∧
  (∀ (s : State) (n : Nat), Live s → s.boot.pendingReset ≠ none → 1000 ≤ n →
    ∃ u, exec (.resetNAssert n) s = .next u ∧ WasReset s u ∧ u.boot.pendingReset = none) ∧
  (∀ (s : State) (t : Nat), s.boot.pendingReset = some (true, t) → t ≤ s.now →
    ∃ u, exec .chipResetDelayEnd s = .next u ∧ WasReset s u) ∧
  (∀ (s : State) (t : Nat), s.boot.pendingReset = some (false, t) → t ≤ s.now → s.boot.easelReady = true →
    ∃ u, exec .chipResetDelayEnd s = .next u ∧ u.boot.easelReady = false ∧ u.boot.restarting = true ∧
      u.boot.fatal = s.boot.fatal ∧ u.boot.lastRestart = s.boot.lastRestart ∧ u.tick = s.tick ∧ u.canvas = s.canvas) ∧
  (∀ (s : State) (c : InbandCmd) (rest : List InbandCmd) (n : Nat), s.host.inband = c :: rest →
    earlyRefusal s .inband c.bytes = none → cmdOpcode c.bytes = 0xF0 → cmdParamLen c.bytes = 8 →
    bytesFit c.bytes = true → subCode c.bytes ≠ 1 → subCode c.bytes ≠ 2 →
    settleInband (n + 1) s = settleInband n (answerHead
      { status := stBadParam, tag := cmdTag c.bytes, opcode := 0xF0, result := [] } s))

/-- PERST_N and the resets of one PCI Express function touch that function alone; its Bus Master Enable and power state
stay. A test instruction takes the pins while RESET_N is low and acts as BYPASS while it is high; the test logic's reset
gives the pins back; while it holds them the device stays in chip reset. A scan of the data register gives its bits on TDO.
Which instructions take the pins, and that the test logic's reset loads IDCODE, rest on assumption log 85; the other points
that the spec leaves to the model follow logs 75, 77 and 152. -/
def Obligations.FunctionResetsAndTestAccess : Prop :=
  (∀ (s : State) (hp : HostPort), ∃ t, exec (.functionLevelReset hp) s = .next t ∧ (fnOf t hp).intMask = 0x3FF ∧
    (fnOf t hp).intCause = 0 ∧ (fnOf t hp).erEnable = false ∧ (fnOf t hp).msixEnable = false ∧
    (∀ x ∈ (fnOf t hp).rings, x.enable = false ∧ x.crHead = 0 ∧ x.halted = false ∧
      (∀ c, x.cmd = some c → c.discard = true)) ∧
    (fnOf t hp).bme = (fnOf s hp).bme ∧ (fnOf t hp).linkUp = (fnOf s hp).linkUp ∧
    t = updFn hp (fun _ => fnOf t hp) s) ∧
  (∀ (s : State) (hp : HostPort), ∃ t, exec (.perstAssert hp) s = .next t ∧ (fnOf t hp).perst = true ∧
    (fnOf t hp).linkUp = false ∧ (fnOf t hp).intMask = 0x3FF ∧ t = updFn hp (fun _ => fnOf t hp) s) ∧
  (∀ (s : State) (hp : HostPort) (k : PcieLink), Live s → (fnOf s hp).perst = true → s.boot.pcieUp = true →
    exec (.perstRelease hp k) s = .next (updFn hp (fun f => { f with perst := false, link := k, linkUp := true }) s)) ∧
  (∀ (s : State) (hp : HostPort), linkOk s hp = true → (fnOf s hp).msixPba = 0 →
    exec (.busMasterEnableSet hp) s = .next (updFn hp (fun f => { f with bme := true }) s)) ∧
  (∀ (s : State) (i : JtagInstr), (i = .extest ∨ i = .extestPulse ∨ i = .extestTrain ∨ i = .clamp ∨ i = .highz) →
    exec (.jtagInstructionUpdate i none) s = .next { s with boot := { s.boot with
      jtag := if s.boot.resetLow then i else .bypass, jtagHolds := s.boot.resetLow } }) ∧
  (∀ (s : State) (i : JtagInstr), (i = .bypass ∨ i = .idcode ∨ i = .samplePreload) →
    exec (.jtagInstructionUpdate i none) s = .next { s with boot := { s.boot with jtag := i, jtagHolds := false } }) ∧
  (∀ s : State, exec .jtagTestLogicReset s = .next { s with boot := { s.boot with jtag := .idcode, jtagHolds := false } }) ∧
  (∀ s : State, s.boot.powered = true → s.boot.jtagHolds = true →
    exec .chipResetRelease s = .next { s with boot := { s.boot with resetLow := false } }) ∧ idcode = 0x1960078F ∧
  (∀ (s : State) (i : JtagInstr) (x : JtagScan), ∃ t u, exec (.jtagInstructionUpdate i none) s = .next u ∧
    exec (.jtagInstructionUpdate i (some x)) s = .next t ∧
    (let r := captured u.boot.jtag x.levels ++ x.tdi
     t.out = .tdo (r.take x.tdi.length) :: s.out ∧
      t.boot = if scansBoundary u.boot.jtag then { u.boot with boundary := r.drop x.tdi.length } else u.boot)) ∧
  (∀ (l : List Bool) (n : Nat), n < 32 → (captured .idcode l).getD n false = idcode.getLsbD n) ∧
  (∀ (l : List Bool) (n : Nat), n < 100 → (captured .samplePreload l).getD n false = l.getD n false) ∧
  (∀ l : List Bool, (captured .idcode l).length = 32 ∧ (captured .samplePreload l).length = 100 ∧ captured .bypass l = [false])

/-! ### The host interface (11) -/

/-- A command's answer: on a ring it waits for its completion with the command's `tag` and `opcode`, counted; the command at
the head of the in-band queue leaves as CMD_STATUS, its answer enters the reply cache for 1 s, it is counted, and the queue
moves on: the next command stands at the head, or, where it has no row of its own, is answered in its turn. The cache
holds 64 answers and loses its oldest. Where the spec leaves a point to the model it follows assumption log 91. -/
def Obligations.FinishedCommandsAreAnswered : Prop :=
  (∀ (s : State) (hp : HostPort) (r : Nat) (c : RingCmd) (st : W16) (res : Bytes), (ringOf s hp r).cmd = some c →
    c.reply = none → c.discard = false →
    let t := finish (.ring hp r) st res s
    (ringOf t hp r).cmd = some { c with reply := some { status := st, tag := cmdTag c.bytes
                                                        opcode := BitVec.ofNat 16 (cmdOpcode c.bytes), result := res } } ∧
      t.host.ctr = bump 0 1 (if st = 0 then s.host.ctr else bump 2 1 s.host.ctr) ∧
      t.ports = s.ports ∧ t.switch = s.switch ∧ t.canvas = s.canvas ∧ t.streams = s.streams ∧ t.sketch = s.sketch) ∧
  (∀ (s : State) (c : InbandCmd) (rest : List InbandCmd) (r : Reply), s.host.inband = c :: rest →
    let t := answerHead r s
    t.host.inband = rest ∧
      t.host.replyCache = cacheReply { src := c.hdr.src, ttag := c.hdr.ttag, crc := crc32 c.bytes, status := r.status
                                       payload := replyBytes (replySrc s) r, expiry := s.now + 1000000000 } s.host.replyCache ∧
      t.host.ctr = bump 1 1 (if r.status = 0 then s.host.ctr else bump 2 1 s.host.ctr) ∧
      t.switch.originate = s.switch.originate ++
        [{ pkt := cmdStatus s c.hdr r.status (replyBytes (replySrc s) r), viaPort := c.viaPort }] ∧
      t.ports = s.ports ∧ t.canvas = s.canvas ∧ t.streams = s.streams ∧ t.sketch = s.sketch) ∧
  (∀ (e : CachedReply) (l : List CachedReply), (l.length < 64 → cacheReply e l = l ++ [e]) ∧
    (l.length = 64 → cacheReply e l = l.tail ++ [e])) ∧
  (∀ (s : State) (c : InbandCmd) (rest : List InbandCmd) (st : W16) (res : Bytes), s.host.inband = c :: rest →
    (let r : Reply := { status := st, tag := cmdTag c.bytes, opcode := BitVec.ofNat 16 (cmdOpcode c.bytes), result := res }
     finish .inband st res s = settleInband 16 (answerHead r s) ∧
      (rest = [] → finish .inband st res s = answerHead r s) ∧
      (∀ x l, rest = x :: l → rowless s .inband x.bytes = none → finish .inband st res s = answerHead r s))) ∧
  (∀ (s : State) (c : InbandCmd) (rest : List InbandCmd) (st : W16) (n : Nat), s.host.inband = c :: rest →
    rowless s .inband c.bytes = some st →
    settleInband (n + 1) s = settleInband n (answerHead
      { status := st, tag := cmdTag c.bytes, opcode := BitVec.ofNat 16 (cmdOpcode c.bytes), result := [] } s))

/-- Writes to a ring's registers: the doorbell, the completion head, `enable` (0 and 1), `reset`, which acts first. A doorbell
at or above the ring size halts the ring, and so does an `enable` that finds such a tail; an `enable` that finds a size or base
unmet leaves it 0 and sets `ring_error`. The event ring's control register with any class mask, and its head register. Where the
spec leaves a point to the model it follows assumption log 76. -/
def Obligations.RingAndEventRingRegisters : Prop :=
  (∀ (s : State) (hp : HostPort) (r : Nat) (v : W32), r < 4 → barOk s hp = true → (ringOf s hp r).halted = false →
    (v.setWidth 12).toNat < 2 ^ (ringOf s hp r).crSize.toNat →
    exec (.doorbellWrite hp r v) s = .next (updRing hp r (fun x => { x with crTail := v.setWidth 12 }) s)) ∧
  (∀ (s : State) (hp : HostPort) (r : Nat) (v : W32), r < 4 → (fnOf s hp).rings.length = 4 → barOk s hp = true →
    (ringOf s hp r).enable = true → (ringOf s hp r).halted = false →
    2 ^ (ringOf s hp r).crSize.toNat ≤ (v.setWidth 12).toNat →
    ∃ t, exec (.doorbellWrite hp r v) s = .next t ∧ (ringOf t hp r).halted = true ∧
      (fnOf t hp).intCause.getLsbD 6 = true ∧ t.host.ctr = bump 7 1 s.host.ctr) ∧
  (∀ (s : State) (hp : HostPort) (r : Nat) (v : W32), r < 4 → barOk s hp = true →
    exec (.cqHeadWrite hp r v) s = .next (updRing hp r (fun x => { x with cqHead := v.setWidth 12 }) s)) ∧
  (∀ (s : State) (hp : HostPort) (r : Nat) (v : W32), r < 4 → (fnOf s hp).rings.length = 4 → barOk s hp = true →
    v.getLsbD 1 = false →
    (let x := ringOf s hp r
     (v.getLsbD 0 = false →
       exec (.ringEnableWrite hp r v) s = .next (updRing hp r (fun x => { x with enable := false }) s)) ∧
     (v.getLsbD 0 = true → ringFit x = true → (x.halted = true ∨ x.crTail.toNat < 2 ^ x.crSize.toNat) →
       exec (.ringEnableWrite hp r v) s = .next (updRing hp r (fun x => { x with enable := true }) s)) ∧
     (v.getLsbD 0 = true → ringFit x = true → x.halted = false → 2 ^ x.crSize.toNat ≤ x.crTail.toNat →
       ∃ t, exec (.ringEnableWrite hp r v) s = .next t ∧ (ringOf t hp r).enable = true ∧ (ringOf t hp r).halted = true ∧
         (fnOf t hp).intCause.getLsbD 6 = true ∧ t.host.ctr = bump 7 1 s.host.ctr) ∧
     (v.getLsbD 0 = true → ringFit x = false →
       ∃ t, exec (.ringEnableWrite hp r v) s = .next t ∧ (ringOf t hp r).enable = false ∧
         (fnOf t hp).intCause.getLsbD 6 = true ∧ t.host.ctr = s.host.ctr))) ∧
  (∀ (s : State) (hp : HostPort) (r : Nat) (v : W32), r < 4 → barOk s hp = true → v.getLsbD 1 = true →
    exec (.ringEnableWrite hp r v) s = exec (.ringEnableWrite hp r (v &&& ~~~2)) (updRing hp r (fun x => { x with
      crHead := 0, crTail := 0, cqHead := 0, cqTail := 0, halted := false, phase := true
      cmd := x.cmd.bind (fun c => if c.reply.isSome then none else some { c with discard := true }) }) s)) ∧
  (∀ (s : State) (hp : HostPort) (r : Nat), r < 4 → barOk s hp = true →
    exec (.ringReset hp r) s = .next (updRing hp r (fun x => { x with
      crHead := 0, crTail := 0, cqHead := 0, cqTail := 0, halted := false, phase := true
      cmd := x.cmd.bind (fun c => if c.reply.isSome then none else some { c with discard := true }) }) s)) ∧
  (∀ (s : State) (hp : HostPort) (v : W32), barOk s hp = true → v.getLsbD 1 = false →
    (v.getLsbD 0 = true → eventRingFit (fnOf s hp) = true → exec (.eventRingEnableWrite hp v) s =
      .next (updFn hp (fun f => { f with classMask := BitVec.ofNat 8 (v.toNat / 256), erEnable := true }) s)) ∧
    (v.getLsbD 0 = false → exec (.eventRingEnableWrite hp v) s =
      .next (updFn hp (fun f => { f with classMask := BitVec.ofNat 8 (v.toNat / 256), erEnable := false }) s)) ∧
    (v.getLsbD 0 = true → eventRingFit (fnOf s hp) = false →
      ∃ t, exec (.eventRingEnableWrite hp v) s = .next t ∧ (fnOf t hp).erEnable = false ∧
        (fnOf t hp).classMask = BitVec.ofNat 8 (v.toNat / 256) ∧ (fnOf t hp).intCause.getLsbD 6 = true ∧
        t.host.ctr = s.host.ctr)) ∧
  (∀ (s : State) (hp : HostPort) (v : W32), barOk s hp = true → v.getLsbD 1 = true →
    exec (.eventRingEnableWrite hp v) s = exec (.eventRingEnableWrite hp (v &&& ~~~2))
      (updFn hp (fun f => { f with erHead := 0, erTail := 0, erPhase := true }) s)) ∧
  (∀ (s : State) (hp : HostPort), barOk s hp = true →
    exec (.eventRingReset hp) s = .next (updFn hp (fun f => { f with erHead := 0, erTail := 0, erPhase := true }) s)) ∧
  (∀ (s : State) (hp : HostPort) (v : W32), barOk s hp = true →
    exec (.erHeadWrite hp v) s = .next (updFn hp (fun f => { f with erHead := v.setWidth 12 }) s))

/-- A ring fetches its next entry and command only when it is served, empty-handed, its head is behind its tail and its
completion ring has an empty entry; a
bad entry halts it. A finished command's results and completion entry are written, `cq_tail` advances and `cq` is
set; a full completion ring makes it wait. Where the spec leaves a point to the model it follows assumption log 76. -/
def Obligations.RingsFetchAndComplete : Prop :=
  (∀ (s : State) (hp : HostPort) (r : Nat) (f : RingFetch) (c : RingCmd), r < 4 → (fnOf s hp).rings.length = 4 →
    mayFetch s hp r = true → fetchedCmd (ringOf s hp r) f = some c → rowless s (.ring hp r) c.bytes = none →
    exec (.ringEntryFetch hp r f) s = .next (updRing hp r (fun x => { x with
      crHead := BitVec.ofNat 12 ((x.crHead.toNat + 1) % 2 ^ x.crSize.toNat), cmd := some c }) s)) ∧
  (∀ (s : State) (hp : HostPort) (r : Nat) (f : RingFetch), r < 4 → (fnOf s hp).rings.length = 4 →
    mayFetch s hp r = true →
    (f.error = true ∨ leAt (padTo 64 f.entry) 0 8 % 8 ≠ 0 ∨ leAt (padTo 64 f.entry) 16 8 % 8 ≠ 0 ∨
      leAt (padTo 64 f.entry) 8 4 < 32 ∨ 4096 < leAt (padTo 64 f.entry) 8 4 ∨ 4080 < leAt (padTo 64 f.entry) 24 4) →
    ∃ t, exec (.ringEntryFetch hp r f) s = .next t ∧ (ringOf t hp r).halted = true ∧
      (fnOf t hp).intCause.getLsbD 6 = true) ∧
  (∀ (s : State) (hp : HostPort) (r : Nat) (f : RingFetch), r < 4 →
    ((ringOf s hp r).cmd ≠ none ∨ (ringOf s hp r).crHead = (ringOf s hp r).crTail ∨ (fnOf s hp).bme = false ∨
      ((ringOf s hp r).cqTail.toNat + 1) % 2 ^ (ringOf s hp r).cqSize.toNat = (ringOf s hp r).cqHead.toNat) →
    exec (.ringEntryFetch hp r f) s = .next s) ∧
  (∀ (s : State) (hp : HostPort) (r : Nat) (c : RingCmd) (rep : Reply), r < 4 → (fnOf s hp).rings.length = 4 →
    (ringOf s hp r).cmd = some c → c.reply = some rep → (ringOf s hp r).enable = true → (ringOf s hp r).halted = false →
    (fnOf s hp).bme = true → barOk s hp = true →
    ((ringOf s hp r).cqTail.toNat + 1) % 2 ^ (ringOf s hp r).cqSize.toNat ≠ (ringOf s hp r).cqHead.toNat →
    ∃ t, exec (.completionPost hp r false) s = .next t ∧ (ringOf t hp r).cmd = none ∧
      (ringOf t hp r).cqTail = BitVec.ofNat 12 (((ringOf s hp r).cqTail.toNat + 1) % 2 ^ (ringOf s hp r).cqSize.toNat) ∧
      .hostWrite hp (ringAddr (ringOf s hp r).cqBaseLo (ringOf s hp r).cqBaseHi 32 (ringOf s hp r).cqTail.toNat)
        (completionBytes c rep (ringOf s hp r).phase) ∈ t.out ∧
      (rep.result.take c.resCap ≠ [] → .hostWrite hp c.resAddr (rep.result.take c.resCap) ∈ t.out) ∧
      (cmdNoIrq c.bytes = false → (fnOf t hp).intCause.getLsbD r = true) ∧ t.ports = s.ports ∧ t.host.inband = s.host.inband) ∧
  (∀ (s : State) (hp : HostPort) (r : Nat) (e : Bool), r < 4 → cqFull (ringOf s hp r) = true →
    exec (.completionPost hp r e) s = .next s)

/-- An event is written to an enabled event ring that admits its class and has room; without room, or without Bus Master
Enable, it is dropped, counted and sets `event_overflow`; a ring that is not enabled, or does not admit the class, sees
nothing of it. Where the spec leaves a point to the model it follows assumption logs 32 and 122. -/
def Obligations.EventsAreWrittenOrDropped : Prop :=
  (∀ (s : State) (hp : HostPort) (code : Nat) (ev : Bytes), (fnOf s hp).erEnable = true →
    (fnOf s hp).classMask.getLsbD (eventClass code) = true → masters (fnOf s hp) = true →
    ((fnOf s hp).erTail.toNat + 1) % 2 ^ (fnOf s hp).erSize.toNat ≠ (fnOf s hp).erHead.toNat →
    let t := eventTo code ev hp s
    .hostWrite hp (ringAddr (fnOf s hp).erBaseLo (fnOf s hp).erBaseHi 32 (fnOf s hp).erTail.toNat)
        (ev ++ [BitVec.ofNat 8 (boolNat (fnOf s hp).erPhase)]) ∈ t.out ∧
      (fnOf t hp).erTail = BitVec.ofNat 12 (((fnOf s hp).erTail.toNat + 1) % 2 ^ (fnOf s hp).erSize.toNat) ∧
      (fnOf t hp).intCause.getLsbD 4 = true ∧ t.host.ctr = s.host.ctr) ∧
  (∀ (s : State) (hp : HostPort) (code : Nat) (ev : Bytes), (fnOf s hp).erEnable = true →
    (fnOf s hp).classMask.getLsbD (eventClass code) = true →
    ((fnOf s hp).bme = false ∨
      ((fnOf s hp).erTail.toNat + 1) % 2 ^ (fnOf s hp).erSize.toNat = (fnOf s hp).erHead.toNat) →
    let t := eventTo code ev hp s
    (fnOf t hp).erTail = (fnOf s hp).erTail ∧ (fnOf t hp).intCause.getLsbD 5 = true ∧ t.host.ctr = bump 6 1 s.host.ctr) ∧
  (∀ (s : State) (hp : HostPort) (code : Nat) (ev : Bytes),
    ((fnOf s hp).erEnable = false ∨ (fnOf s hp).classMask.getLsbD (eventClass code) = false) → eventTo code ev hp s = s)

/-- INT_CAUSE_CLEAR: a cause bit that the device sets in the cycle of the write reads 1 afterwards, whether or not it read 1
before; every other bit that is written 1 reads 0, and the rest keep their value. Without a cause raised in that cycle
nothing else changes: a held message whose cause is cleared stays held. That the command brings the causes raised in its
cycle is the model's choice (assumption log 78), and that the held message stays its reading (log 17). -/
def Obligations.CausesAreNotLost : Prop :=
  (∀ (s : State) (hp : HostPort) (v : W32) (raised : BitVec 10), barOk s hp = true →
    ∃ t, exec (.intCauseClear hp v raised) s = .next t ∧
      (∀ i, i < 10 → (fnOf t hp).intCause.getLsbD i =
        (raised.getLsbD i || ((fnOf s hp).intCause.getLsbD i && !v.getLsbD i))) ∧
      t = { s with host := t.host, out := t.out }) ∧
  (∀ (s : State) (hp : HostPort) (v : W32), barOk s hp = true →
    exec (.intCauseClear hp v 0) s = .next (updFn hp (fun f => { f with
      intCause := f.intCause &&& ~~~(v.setWidth 10) }) s))

/-- Masks and messages: a mask bit cleared over a set cause sends its message at once, without coalescing, and for causes 0
to 4 the count and the time start anew; held messages go when `co_time` has passed since the first of them, and wait
before that while fewer than `co_count` were posted. Where the spec leaves a point to the model it follows assumption
log 17. -/
def Obligations.InterruptRegisters : Prop :=
  (∀ (s : State) (hp : HostPort), barOk s hp = true → (fnOf s hp).intCause = 0 →
    ∀ v : W32, exec (.intMaskWrite hp v) s = .next (updFn hp (fun f => { f with
      intMask := v.setWidth 10, heldCauses := f.heldCauses &&& ~~~(v.setWidth 10) }) s)) ∧
  (∀ (s : State) (hp : HostPort) (i : Nat), i < 10 → barOk s hp = true → (fnOf s hp).intCause = (1 : BitVec 10) <<< i →
    (fnOf s hp).intMask = 0x3FF → (fnOf s hp).heldCauses = 0 → (fnOf s hp).msixEnable = true →
    (fnOf s hp).msixMaskAll = false → (fnOf s hp).bme = true →
    vectorMasked (fnOf s hp) ((fnOf s hp).vec.getD i 0).toNat = false →
    ∃ t, exec (.intMaskWrite hp 0) s = .next t ∧ t.out = .msix hp ((fnOf s hp).vec.getD i 0) :: s.out ∧
      (fnOf t hp).intMask = 0 ∧ (fnOf t hp).intCause = (fnOf s hp).intCause ∧
      (i ≤ 4 → (fnOf t hp).posted = 0 ∧ (fnOf t hp).firstHeld = none)) ∧
  (∀ (s : State) (hp : HostPort) (i u : Nat), i ≤ 4 → (fnOf s hp).heldCauses = (1 : BitVec 10) <<< i →
    (fnOf s hp).firstHeld = some u →
    (fnOf s hp).coTime ≠ 0 → u + 1000 * (fnOf s hp).coTime.toNat ≤ s.now → (fnOf s hp).msixEnable = true →
    (fnOf s hp).msixMaskAll = false → masters (fnOf s hp) = true → (fnOf s hp).linkUp = true →
    vectorMasked (fnOf s hp) ((fnOf s hp).vec.getD i 0).toNat = false →
    ∃ t, exec (.interruptCoalesceExpire hp) s = .next t ∧ t.out = .msix hp ((fnOf s hp).vec.getD i 0) :: s.out ∧
      (fnOf t hp).heldCauses = 0 ∧ (fnOf t hp).posted = 0 ∧ (fnOf t hp).intCause = (fnOf s hp).intCause) ∧
  (∀ (s : State) (hp : HostPort) (u : Nat), (fnOf s hp).firstHeld = some u → (fnOf s hp).coCount ≠ 0 →
    (fnOf s hp).posted < (fnOf s hp).coCount.toNat →
    ((fnOf s hp).coTime = 0 ∨ s.now < u + 1000 * (fnOf s hp).coTime.toNat) →
    exec (.interruptCoalesceExpire hp) s = .next s)

/-- An access to BAR0 that is neither an aligned 32-bit nor an aligned 64-bit access counts in `ring_errors`, changes nothing
else, and reads zero; a write to `YG_SCRATCH` is read back; offsets without a register and read-only registers ignore
writes; a 64-bit access writes the lower register first. BAR0 reads: identity and revision of first silicon, `chip_tag`
and the tick, and all ones from a port whose BAR0 does not answer (the model's reading of a link that is down,
assumption log 81). -/
def Obligations.RegisterAccess : Prop :=
  (∀ (s : State) (hp : HostPort) (o n : Nat) (w : Bool), barOk s hp = true → (n ≠ 4 ∨ o % 4 ≠ 0) → (n ≠ 8 ∨ o % 8 ≠ 0) →
    exec (.bar0BadAccess hp o n w) s = .next { s with host := { s.host with ctr := bump 7 1 s.host.ctr } }) ∧
  (∀ (s : State) (hp : HostPort) (o : Nat) (v : W32), barOk s hp = true → o % 4 ≠ 0 →
    exec (.registerWrite hp (.bar0 o v)) s = .next { s with host := { s.host with ctr := bump 7 1 s.host.ctr } } ∧
      readBar0 s hp o = 0) ∧
  (∀ (s : State) (hp : HostPort) (o : Nat) (v : W64), barOk s hp = true → o % 8 ≠ 0 →
    exec (.registerWrite hp (.bar0Wide o v)) s = .next { s with host := { s.host with ctr := bump 7 1 s.host.ctr } }) ∧
  (∀ (s : State) (hp : HostPort) (v : W32), barOk s hp = true →
    ∃ t, exec (.registerWrite hp (.bar0 0x1C v)) s = .next t ∧ t = updFn hp (fun f => { f with scratch := v }) s ∧
      readBar0 t hp 0x1C = v) ∧
  (∀ (s : State) (hp : HostPort) (v : W32) (o : Nat), barOk s hp = true → o ∈ [0x00, 0x04, 0x08, 0x0C, 0x10, 0x14, 0x18, 0x34, 0x1000] →
    exec (.registerWrite hp (.bar0 o v)) s = .next s) ∧
  (∀ (s : State) (hp : HostPort) (v : W64), barOk s hp = true → (ringOf s hp 0).enable = false →
    exec (.registerWrite hp (.bar0Wide 0x200 v)) s = .next (updRing hp 0 (fun x => { x with crBaseHi := (v >>> 32).setWidth 32 })
      (updRing hp 0 (fun x => { x with crBaseLo := v.setWidth 32 }) s))) ∧
  (∀ (s : State) (hp : HostPort), barOk s hp = true → readBar0 s hp 0x00 = 0x05719600 ∧ readBar0 s hp 0x04 = 0x00000100 ∧
    readBar0 s hp 0x08 = s.boot.chipTag ∧ readBar0 s hp 0x18 = s.tick.number) ∧
  (∀ (s : State) (hp : HostPort) (o : Nat), barOk s hp = false → readBar0 s hp o = BitVec.allOnes 32)

/-- A CMD packet that R147 lets act: before `easel_ready` it is discarded and counted; one that matches a cached answer
is answered from the cache; one whose like still waits or runs is discarded; one that finds 16 commands queued is
answered BUSY; any other joins the queue. An expired answer leaves the cache. Where the spec leaves a point to the model
it follows assumption log 91. -/
def Obligations.InbandCommands : Prop :=
  (∀ (s : State) (id : Nat) (st : Stored), terminatedOf s id = some st → findingOf st = .act → st.hdr.window = 0x04 →
    s.boot.easelReady = false →
    exec (.cmd id) s = .next (hostCount 5 1 (dropPacket id false s))) ∧
  (∀ (s : State) (id : Nat) (st : Stored) (e : CachedReply), terminatedOf s id = some st → findingOf st = .act →
    st.hdr.window = 0x04 → s.boot.easelReady = true →
    cacheHit (dropPacket id false s) st.hdr (payloadOf st.hdr st.data) = some e →
    exec (.cmd id) s = .next (originate { pkt := cmdStatus (dropPacket id false s) st.hdr e.status e.payload
                                          viaPort := answerVia (dropPacket id false s) st }
      (hostCount 4 1 (dropPacket id false s)))) ∧
  (∀ (s : State) (id : Nat) (st : Stored), terminatedOf s id = some st → findingOf st = .act → st.hdr.window = 0x04 →
    s.boot.easelReady = true → cacheHit (dropPacket id false s) st.hdr (payloadOf st.hdr st.data) = none →
    alreadyQueued (dropPacket id false s) st.hdr (payloadOf st.hdr st.data) = true →
    exec (.cmd id) s = .next (dropPacket id false s)) ∧
  (∀ (s : State) (id : Nat) (st : Stored), terminatedOf s id = some st → findingOf st = .act → st.hdr.window = 0x04 →
    (dropPacket id false s).boot.easelReady = true → 16 ≤ (dropPacket id false s).host.inband.length →
    cacheHit (dropPacket id false s) st.hdr (payloadOf st.hdr st.data) = none →
    alreadyQueued (dropPacket id false s) st.hdr (payloadOf st.hdr st.data) = false →
    exec (.cmd id) s = .next (originate { pkt := cmdStatus (dropPacket id false s) st.hdr stBusy []
                                          viaPort := answerVia (dropPacket id false s) st }
      (hostCount 3 1 (dropPacket id false s)))) ∧
  (∀ (s : State) (id : Nat) (st : Stored), terminatedOf s id = some st → findingOf st = .act → st.hdr.window = 0x04 →
    (dropPacket id false s).boot.easelReady = true → (dropPacket id false s).host.inband.length < 16 →
    cacheHit (dropPacket id false s) st.hdr (payloadOf st.hdr st.data) = none →
    alreadyQueued (dropPacket id false s) st.hdr (payloadOf st.hdr st.data) = false →
    (let c : InbandCmd := { hdr := st.hdr, viaPort := answerVia (dropPacket id false s) st, bytes := payloadOf st.hdr st.data }
     (∀ x, ((dropPacket id false s).host.inband ++ [c]).head? = some x →
       rowless (dropPacket id false s) .inband x.bytes = none) →
     ∃ t, exec (.cmd id) s = .next t ∧ t.host.inband = (dropPacket id false s).host.inband ++ [c] ∧
      t.switch = (dropPacket id false s).switch ∧ t.canvas = s.canvas ∧ t.streams = s.streams)) ∧
  (∀ (s : State) (e : CachedReply), s.host.replyCache = [e] → e.expiry ≤ s.now →
    exec (.replyCacheExpire e.src e.ttag e.crc) s = .next { s with host := { s.host with replyCache := [] } })

/-! ### Commands (10, 11) -/

/-- IDENTIFY and GET_STATUS answer their records, PORT_INFO the record of a port up to 95, COUNTERS_READ a range that
lies in its block; PORT_INFO and COUNTERS_READ refuse others with BAD_PARAM. None changes anything else.
FLAGS_READ_CLEAR answers the records of all palettes as they stood, then clears the named flags of the named
palettes; without parameters it clears nothing. Where the spec leaves a point to the model it follows assumption
logs 59 and 63. -/
def Obligations.StatusAndFlagCommands : Prop :=
  (∀ (s : State) (src : CmdSrc) (b : Bytes), Given s src b 0x01 0 →
    exec (.identify src) s = .next (finish src stOk (identifyRecord s) s) ∧ (identifyRecord s).length = 64 ∧
      leAt (identifyRecord s) 0 4 = 0x05719600 ∧ leAt (identifyRecord s) 8 4 = s.boot.chipTag.toNat ∧
      leAt (identifyRecord s) 20 4 = s.tick.number.toNat ∧ leAt (identifyRecord s) 24 8 = s.sketch.sketchId.toNat) ∧
  (∀ (s : State) (src : CmdSrc) (b : Bytes), Given s src b 0x02 0 →
    exec (.getStatus src) s = .next (finish src stOk (statusRecord s) s) ∧ (statusRecord s).length = 64 ∧
      leAt (statusRecord s) 8 12 = maskOf (portsRunning s)) ∧
  (∀ (s : State) (src : CmdSrc) (b : Bytes), Given s src b 0x24 8 →
    exec (.portInfo src) s = .next (if leAt (cmdParams b) 0 1 ≤ 95
      then finish src stOk (portInfo (portOf s (leAt (cmdParams b) 0 1))) s else finish src stBadParam [] s)) ∧
  (∀ (s : State) (src : CmdSrc) (b : Bytes), Given s src b 0x90 16 →
    exec (.countersRead src) s = .next (if counterRange (cmdParams b)
      then finish src stOk (blockRange s (leAt (cmdParams b) 0 2) (leAt (cmdParams b) 2 2) (leAt (cmdParams b) 4 4)
        (leAt (cmdParams b) 8 4)) s
      else finish src stBadParam [] s)) ∧
  (∀ (s : State) (src : CmdSrc) (b : Bytes), Given s src b 0x80 0 → b.length = 32 →
    exec (.flagsReadClear src) s = .next (finish src stOk (flagRecords s) s)) ∧
  (∀ (s : State) (src : CmdSrc) (b : Bytes), Given s src b 0x80 8 → s.canvas.palettes.length = 32 →
    ∃ u : State, exec (.flagsReadClear src) s = .next (finish src stOk (flagRecords s) u) ∧
      u = { s with canvas := { s.canvas with palettes := u.canvas.palettes } } ∧ u.canvas.palettes.length = 32 ∧
      ∀ n, n < 32 → nth u.canvas.palettes n = { nth s.canvas.palettes n with
        flags := if bitOf (leAt (cmdParams b) 0 4) n
          then (nth s.canvas.palettes n).flags &&& ~~~(BitVec.ofNat 4 (leAt (cmdParams b) 4 1))
          else (nth s.canvas.palettes n).flags })

/-- The load area and the upload area: BEGIN empties the area and names the image, DATA writes at its offset; each
refusal by R299's status, a length out of range, bytes beyond `image_len`, no BEGIN before, a commit that checks, is armed
or writes. FW_UPDATE_COMMIT judges the upload, each failure by R429's status, and begins the write; the write's end puts the
image into the inactive bank of its kind, a configuration image with its secret section sealed, which opens to the image
again; ATTEST answers the signed report; SELFTEST_RUN queues its test, or is refused. Where the spec leaves a point to the
model it follows assumption logs 5, 79, 150 and 151. -/
def Obligations.LoadsUpdatesAndTests : Prop :=
  (∀ (s : State) (src : CmdSrc) (b : Bytes), Given s src b 0x10 16 → 4096 ≤ leAt (cmdParams b) 0 4 →
    leAt (cmdParams b) 0 4 ≤ 268435456 → s.sketch.commit = none →
    exec (.sketchLoadBegin src) s = .next (finish src stOk [] { s with sketch := { s.sketch with
      load := { begun := true, imageLen := leAt (cmdParams b) 0 4, sketchId := w64 (leAt (cmdParams b) 8 8) } } })) ∧
  (∀ (s : State) (src : CmdSrc) (b : Bytes), Given s src b 0x10 16 →
    (leAt (cmdParams b) 0 4 < 4096 ∨ 268435456 < leAt (cmdParams b) 0 4) →
    exec (.sketchLoadBegin src) s = .next (finish src stBadParam [] s)) ∧
  (∀ (s : State) (src : CmdSrc) (b : Bytes) (n : Nat), Given s src b 0x11 n → 9 ≤ n → n ≤ 4064 →
    s.sketch.load.begun = true → leAt (cmdParams b) 0 4 + (n - 8) ≤ s.sketch.load.imageLen → s.sketch.commit = none →
    exec (.sketchLoadData src) s = .next (finish src stOk [] { s with sketch := { s.sketch with
      load := loadWrite (leAt (cmdParams b) 0 4) ((cmdParams b).drop 8) s.sketch.load } })) ∧
  (∀ (s : State) (src : CmdSrc) (b : Bytes) (n : Nat), Given s src b 0x11 n → 9 ≤ n → n ≤ 4064 →
    s.sketch.load.begun = false → exec (.sketchLoadData src) s = .next (finish src stNotReady [] s)) ∧
  (∀ (s : State) (src : CmdSrc) (b : Bytes), Given s src b 0xB0 8 → 4096 ≤ leAt (cmdParams b) 0 4 →
    leAt (cmdParams b) 0 4 ≤ 67108864 → s.boot.writing = none →
    exec (.fwUpdateBegin src) s = .next (finish src stOk [] { s with boot := { s.boot with
      upload := { begun := true, imageLen := leAt (cmdParams b) 0 4 } } })) ∧
  (∀ (s : State) (src : CmdSrc) (b : Bytes) (n : Nat), Given s src b 0xB1 n → 9 ≤ n → n ≤ 4064 →
    s.boot.upload.begun = true → leAt (cmdParams b) 0 4 + (n - 8) ≤ s.boot.upload.imageLen → s.boot.writing = none →
    exec (.fwUpdateData src) s = .next (finish src stOk [] { s with boot := { s.boot with
      upload := loadWrite (leAt (cmdParams b) 0 4) ((cmdParams b).drop 8) s.boot.upload } })) ∧
  (∀ (s : State) (src : CmdSrc) (b : Bytes), Given s src b 0xB2 4 → s.boot.upload.begun = true →
    loadFull s.boot.upload = true → imageHeaderOk s.boot.upload.imageLen (loadBytes s.boot.upload) = true →
    tagFits s (loadBytes s.boot.upload) = true → s.boot.writing = none →
    (imKind (loadBytes s.boot.upload) = 1 ∨ imKind (loadBytes s.boot.upload) = 2) →
    partFits (loadBytes s.boot.upload) = true →
    floorMet s (decide (imKind (loadBytes s.boot.upload) = 2)) (loadBytes s.boot.upload) = true →
    exec (.fwUpdateCommit src) s = .next (
      if imageSigned (decide (imKind (loadBytes s.boot.upload) = 2)) (loadBytes s.boot.upload) then
        { s with boot := { s.boot with
          writing := some (src, decide (imKind (loadBytes s.boot.upload) = 2), bitOf (leAt (cmdParams b) 0 4) 0,
            bitOf (leAt (cmdParams b) 0 4) 1) } }
      else finish src stSigFail [] s)) ∧
  (∀ (s : State) (src : CmdSrc) (b : Bytes), Given s src b 0xB2 4 →
    (s.boot.upload.begun = false ∨ loadFull s.boot.upload = false) →
    exec (.fwUpdateCommit src) s = .next (finish src stNotReady [] s)) ∧
  (∀ (s : State) (src : CmdSrc) (act rf : Bool), s.boot.writing = some (src, false, act, rf) →
    ∃ u : State, exec .fwUpdateWriteComplete s = .next (finish src stOk [] u) ∧ u.boot.writing = none ∧
      u.flash.pendingFw = act ∧ u.flash.writtenFw = true ∧ u.flash.activeFw = s.flash.activeFw ∧
      u.flash.raiseFw = (if rf then some (w32 (imSec (loadBytes s.boot.upload))) else none) ∧
      bankImage u false (!s.flash.activeFw) = loadBytes s.boot.upload ∧
      bankImage u false s.flash.activeFw = bankImage s false s.flash.activeFw ∧
      u.flash.fwFloor = s.flash.fwFloor ∧ u.ports = s.ports) ∧
  (∀ (s : State) (src : CmdSrc) (b : Bytes), Given s src b 0x10 16 → 4096 ≤ leAt (cmdParams b) 0 4 →
    leAt (cmdParams b) 0 4 ≤ 268435456 → s.sketch.commit ≠ none →
    exec (.sketchLoadBegin src) s = .next (finish src stBusy [] s)) ∧
  (∀ (s : State) (src : CmdSrc) (b : Bytes) (n : Nat), Given s src b 0x11 n → 9 ≤ n → n ≤ 4064 →
    s.sketch.load.begun = true →
    (s.sketch.load.imageLen < leAt (cmdParams b) 0 4 + (n - 8) →
      exec (.sketchLoadData src) s = .next (finish src stBadParam [] s)) ∧
    (leAt (cmdParams b) 0 4 + (n - 8) ≤ s.sketch.load.imageLen → s.sketch.commit ≠ none →
      exec (.sketchLoadData src) s = .next (finish src stBusy [] s))) ∧
  (∀ (s : State) (src : CmdSrc) (b : Bytes), Given s src b 0xB0 8 →
    ((leAt (cmdParams b) 0 4 < 4096 ∨ 67108864 < leAt (cmdParams b) 0 4) →
      exec (.fwUpdateBegin src) s = .next (finish src stBadParam [] s)) ∧
    (4096 ≤ leAt (cmdParams b) 0 4 → leAt (cmdParams b) 0 4 ≤ 67108864 → s.boot.writing ≠ none →
      exec (.fwUpdateBegin src) s = .next (finish src stBusy [] s))) ∧
  (∀ (s : State) (src : CmdSrc) (b : Bytes) (n : Nat), Given s src b 0xB1 n → 9 ≤ n → n ≤ 4064 →
    (s.boot.upload.begun = false → exec (.fwUpdateData src) s = .next (finish src stNotReady [] s)) ∧
    (s.boot.upload.begun = true → s.boot.upload.imageLen < leAt (cmdParams b) 0 4 + (n - 8) →
      exec (.fwUpdateData src) s = .next (finish src stBadParam [] s)) ∧
    (s.boot.upload.begun = true → leAt (cmdParams b) 0 4 + (n - 8) ≤ s.boot.upload.imageLen → s.boot.writing ≠ none →
      exec (.fwUpdateData src) s = .next (finish src stBusy [] s))) ∧
  (∀ (s : State) (src : CmdSrc) (b : Bytes), Given s src b 0xB2 4 → s.boot.upload.begun = true →
    loadFull s.boot.upload = true →
    (let i := loadBytes s.boot.upload
     let cfg := decide (imKind i = 2)
     ((imageHeaderOk s.boot.upload.imageLen i = false ∨ tagFits s i = false) →
       exec (.fwUpdateCommit src) s = .next (finish src stBadParam [] s)) ∧
     (imageHeaderOk s.boot.upload.imageLen i = true → tagFits s i = true → s.boot.writing ≠ none →
       exec (.fwUpdateCommit src) s = .next (finish src stBusy [] s)) ∧
     (imageHeaderOk s.boot.upload.imageLen i = true → tagFits s i = true → s.boot.writing = none →
       (¬(imKind i = 1 ∨ imKind i = 2) ∨ partFits i = false ∨ floorMet s cfg i = false) →
       exec (.fwUpdateCommit src) s = .next (finish src (if imageSigned cfg i then stVersionMismatch else stSigFail) [] s)))) ∧
  (∀ (s : State) (src : CmdSrc) (act rf : Bool), s.boot.writing = some (src, true, act, rf) →
    ∃ u : State, exec .fwUpdateWriteComplete s = .next (finish src stOk [] u) ∧ u.boot.writing = none ∧
      u.flash.pendingCfg = act ∧ u.flash.writtenCfg = true ∧ u.flash.activeCfg = s.flash.activeCfg ∧
      u.flash.raiseCfg = (if rf then some (w32 (imSec (loadBytes s.boot.upload))) else none) ∧
      bankImage u true s.flash.activeCfg = bankImage s true s.flash.activeCfg ∧
      u.flash.cfgFloor = s.flash.cfgFloor ∧ u.ports = s.ports ∧
      (s.boot.secret = none → bankImage u true (!s.flash.activeCfg) = loadBytes s.boot.upload) ∧
      (∀ k, s.boot.secret = some k → ∃ n : BitVec 96,
        bankImage u true (!s.flash.activeCfg) = (sealImage (sealingKey k) n (loadBytes s.boot.upload)).1 ∧
        (if s.flash.activeCfg then u.flash.sealA else u.flash.sealB) =
          (sealImage (sealingKey k) n (loadBytes s.boot.upload)).2)) ∧
  (∀ (k : Bytes) (n : BitVec 96) (b : Bytes), openImage k (sealImage k n b).2 (sealImage k n b).1 = some b) ∧
  (∀ (s : State) (src : CmdSrc) (b : Bytes), Given s src b 0xB3 32 → s.boot.secret = none →
    exec (.attest src) s = .next (finish src stNotReady [] s)) ∧
  (∀ (s : State) (src : CmdSrc) (b : Bytes), Given s src b 0xC0 8 →
    (namedResource (cmdParams b) = none → exec (.selftestRun src) s = .next (finish src stBadParam [] s)) ∧
    (∀ r, namedResource (cmdParams b) = some r → isRetired s r = false → laneUnready s r = true →
      exec (.selftestRun src) s = .next (finish src stNotReady [] s)) ∧
    (∀ r, namedResource (cmdParams b) = some r → isRetired s r = false → laneUnready s r = false →
      (testOn s r = true ∨ 64 ≤ s.health.tests.length) → exec (.selftestRun src) s = .next (finish src stBusy [] s))) ∧
  (∀ (s : State) (src : CmdSrc) (b : Bytes) (k : BitVec 256), Given s src b 0xB3 32 → s.boot.secret = some k →
    exec (.attest src) s = .next (finish src stOk (attestReport s k ((cmdParams b).take 32)) s)) ∧
  (∀ (s : State) (src : CmdSrc) (b : Bytes) (r : TestRes), Given s src b 0xC0 8 → namedResource (cmdParams b) = some r →
    isRetired s r = false → laneUnready s r = false → testOn s r = false → s.health.tests.length < 64 →
    exec (.selftestRun src) s = .next { s with health := { s.health with
      tests := s.health.tests ++ [{ res := r, commanded := true, src := some src }] } }) ∧
  (∀ (s : State) (src : CmdSrc) (b : Bytes) (r : TestRes), Given s src b 0xC0 8 → namedResource (cmdParams b) = some r →
    isRetired s r = true → exec (.selftestRun src) s = .next (finish src stResourceRetired [] s))

/-- SKETCH_COMMIT begins the checks; a second one is BUSY. An image that is not fully written is answered NOT_READY without
a result; one that fails a later step of R300 is answered with that step's status and the 88-byte result and changes no
table, a stream's `cursor` not being taken: the header (BAD_PARAM), digest and signatures (SIG_FAIL), format, part and
revision (VERSION_MISMATCH), the target (BAD_PARAM); the sections, their pairs, the Identity section before an identity, the
records and then the content of each table as it would stand (BAD_PARAM with the failing section and item); a shortfall of
the stream checks (STORE_OVERCOMMIT), failing that of the Canvas checks (CANVAS_OVERCOMMIT), both records filled; the start
tick (BAD_PARAM). One that passes is armed for its start tick, at least 16 ticks ahead, or, where no plan runs, activated at
once with `now`. PLAN_SWITCH, in the order of R339 over R309's table, and the switch at its start tick: the named plan
starts at entry 0, 0xFF stops all plans, `plan_switches` counts. Where the spec leaves a point to the model it follows
assumption logs 51, 55, 60 and 61. -/
def Obligations.CommitsAndPlanSwitches : Prop :=
  (∀ (s : State) (src : CmdSrc) (b : Bytes), Given s src b 0x12 8 → s.sketch.load.begun = true → s.sketch.commit = none →
    exec (.sketchCommit src) s = .next (updSketch (fun k => { k with
      commit := some { src := src, start := w32 (leAt (cmdParams b) 0 4), now := bitOf (leAt (cmdParams b) 4 4) 0 } }) s)) ∧
  (∀ (s : State) (src : CmdSrc) (b : Bytes), Given s src b 0x12 8 → s.sketch.load.begun = true → s.sketch.commit ≠ none →
    exec (.sketchCommit src) s = .next (finish src stBusy [] s)) ∧
  (∀ (s : State) (src : CmdSrc) (b : Bytes), Given s src b 0x12 8 → s.sketch.load.begun = false →
    exec (.sketchCommit src) s = .next (finish src stNotReady [] s)) ∧
  (∀ (s : State) (c : Commit), s.sketch.commit = some c → c.armed = false → loadFull s.sketch.load = false →
    exec .commitChecksComplete s = .next (answerCommit c.src stNotReady [] s)) ∧
  (∀ (s : State) (c : Commit), s.sketch.commit = some c → c.armed = false → loadFull s.sketch.load = true →
    (let b := loadBytes s.sketch.load
     let j := judgeCommit s c b
     (commitBytes j.2.1).length = 88 ∧
     ∃ t, exec .commitChecksComplete s = .next t ∧ (j.2.2 = none → t = answerCommit c.src j.1 (commitBytes j.2.1) s) ∧
      (∀ p, j.2.2 = some p → c.now = true → t = activate c b j.2.1 p s) ∧
      (∀ p, j.2.2 = some p → c.now = false →
        t = { s with sketch := { s.sketch with commit := some { c with armed := true } } }))) ∧
  (∀ (s : State) (c : Commit) (b : Bytes),
    (headerOk s b = false → judgeCommit s c b = (stBadParam, { sketchId := leAt b 16 8 }, none)) ∧
    (headerOk s b = true → sketchSigned s b = false → judgeCommit s c b = (stSigFail, { sketchId := leAt b 16 8 }, none)) ∧
    (headerOk s b = true → ¬(leAt b 4 2 = 1 ∧ leAt b 24 2 = 0x9600 ∧ leAt b 26 2 ≤ revision) →
      judgeCommit s c b =
        (if sketchSigned s b then stVersionMismatch else stSigFail, { sketchId := leAt b 16 8 }, none)) ∧
    (headerOk s b = true → leAt b 4 2 = 1 → leAt b 24 2 = 0x9600 → leAt b 26 2 ≤ revision →
      leAt b 28 4 ≠ 0 → leAt b 28 4 ≠ s.boot.chipTag.toNat →
      judgeCommit s c b = (if sketchSigned s b then stBadParam else stSigFail, { sketchId := leAt b 16 8 }, none)) ∧
    ((judgeCommit s c b).1 = stOk ↔ (judgeCommit s c b).2.2.isSome = true) ∧
    (c.now = true → s.sketch.running ≠ none → (judgeCommit s c b).1 ≠ stOk) ∧
    (c.now = false → (s.tick.running = false ∨ farEnough s c.start = false) → (judgeCommit s c b).1 ≠ stOk)) ∧
  (∀ (s : State) (c : Commit) (b : Bytes), headerOk s b = true → leAt b 4 2 = 1 →
    leAt b 24 2 = 0x9600 → leAt b 26 2 ≤ revision → (leAt b 28 4 = 0 ∨ leAt b 28 4 = s.boot.chipTag.toNat) →
    (let l := sectionsOf b
     let failsAt := fun (typ i : Nat) => judgeCommit s c b = if sketchSigned s b
       then (stBadParam, { sketchId := leAt b 16 8, failSection := typ, failIndex := i }, none)
       else (stSigFail, { sketchId := leAt b 16 8 }, none)
     let lacksIdentity := hasIdentity s = false ∧ l.any (fun x => x.typ = 1) = false
     (∀ t, misplaced (leAt b 36 4) l = some t → failsAt t 0) ∧
     (misplaced (leAt b 36 4) l = none → ∀ t, unpaired l = some t → failsAt t 0) ∧
     (misplaced (leAt b 36 4) l = none → unpaired l = none → lacksIdentity → failsAt 1 0) ∧
     (misplaced (leAt b 36 4) l = none → unpaired l = none → ¬ lacksIdentity →
       (∀ e, recordFault b = some e → failsAt e.1 e.2) ∧
       (recordFault b = none → ∀ e, contentFault s b ((propose s b).judged s) = some e → failsAt e.1 e.2)))) ∧
  (∀ (s : State) (c : Commit) (b : Bytes), headerOk s b = true → leAt b 4 2 = 1 →
    leAt b 24 2 = 0x9600 → leAt b 26 2 ≤ revision → (leAt b 28 4 = 0 ∨ leAt b 28 4 = s.boot.chipTag.toNat) →
    misplaced (leAt b 36 4) (sectionsOf b) = none → unpaired (sectionsOf b) = none →
    (hasIdentity s = true ∨ (sectionsOf b).any (fun x => x.typ = 1) = true) → recordFault b = none →
    contentFault s b ((propose s b).judged s) = none →
    (let p := propose s b
     let sh := capacityShort (p.judged s).streams p.plans ((p.tickSet.map (·.period)).getD 4000)
     let cv := canvasShort p
     let r : CommitResult := { sketchId := leAt b 16 8, canvas := cv, stream := sh }
     let start := if c.now then s.sketch.running = none else s.tick.running = true ∧ farEnough s c.start = true
     let ends := fun (e : W16 × CommitResult × Option Proposed) => judgeCommit s c b =
       if sketchSigned s b then e else (stSigFail, { sketchId := leAt b 16 8 }, none)
     (sh.none_ = false → ends (stStoreOvercommit, r, none)) ∧
     (sh.none_ = true → (cv.1 ≠ 0 ∨ cv.2.1 ≠ 0) → ends (stCanvasOvercommit, r, none)) ∧
     (sh.none_ = true → cv.1 = 0 → cv.2.1 = 0 → ¬ start → ends (stBadParam, r, none)) ∧
     (sh.none_ = true → cv.1 = 0 → cv.2.1 = 0 → start →
       ends (stOk, { r with activeTick := if c.now then 0 else c.start.toNat }, some p)))) ∧
  (∀ (s : State) (b : Bytes) (p : Proposed),
    (let lookGroup := fun i => (tget p.groups i).map (·.header)
     contentFault s b p = none ↔
      (readSection b 1 none identityFault = none ∧ (∀ e ∈ p.routes, routeEntryOk p.roles e.1 e.2.toNat = true) ∧
        (∀ e ∈ p.portSets, portSetOk p.roles e.2.toNat = true) ∧
        (p.carried.contains 4 = true → ∀ e ∈ p.descs, descRecordOk p.constBlocks lookGroup e.2 = true) ∧
        (∀ e ∈ p.groups, groupOk p.roles e.2 = true ∧
          groupDescsOk p.constBlocks (tget p.descs) lookGroup e.2.header = true) ∧
        readSection b 6 false (fun x => x.length != 16 + 65536 * leAt x 0 4) = false ∧
        streamFault p.streams (fun d => routeValid (tgetD p.routes d 0).toNat) p.endpoint = none ∧
        readSection b 10 false (fun x => x.length != 32 || leAt x 5 1 > 4) = false ∧
        (∀ t, p.tickSet = some t → tickOk p.roles p.endpoint t = true) ∧
        readSection b 11 false (fun x => (parsePlans x).isNone) = false ∧
        (∀ pl, p.plans = some pl → ∀ es ∈ pl.entries, ∀ e ∈ es, entryOkIn p pl e = true) ∧
        readSection b 12 none (policySectionFault s) = none))) ∧
  (∀ (s : State) (b : Bytes), (propose s b).carried.contains 8 = true →
    ∀ e ∈ (propose s b).streams.streams, stCursor e.2.toNat = 0) ∧
  (∀ p : Proposed, (canvasShort p).1 = p.constBlocks + p.schedBlocks - 16384) ∧
  (∀ (s : State) (src : CmdSrc) (st : W16) (r : Bytes), st ≠ stOk →
    let t := answerCommit src st r s
    t.sketch.commit = none ∧ t.sketch.lastStatus = st ∧ t.sketch.inForce = s.sketch.inForce ∧
      t.sketch.plans = s.sketch.plans ∧ t.switch.routes = s.switch.routes ∧ t.canvas = s.canvas ∧ t.ports = s.ports ∧
      t.streams = s.streams) ∧
  (∀ (s : State) (src : CmdSrc) (b : Bytes), Given s src b 0x13 8 → s.tick.locked = false →
    exec (.planSwitch src) s = .next (finish src stNotReady [] s)) ∧
  (∀ (s : State) (src : CmdSrc) (b : Bytes), Given s src b 0x13 8 → s.tick.locked = true →
    (planPresent s (leAt (cmdParams b) 0 1) = false ∨ farEnough s (w32 (leAt (cmdParams b) 4 4)) = false) →
    exec (.planSwitch src) s = .next (finish src stBadParam [] s)) ∧
  (∀ (s : State) (src : CmdSrc) (b : Bytes), Given s src b 0x13 8 → s.tick.locked = true →
    planPresent s (leAt (cmdParams b) 0 1) = true → farEnough s (w32 (leAt (cmdParams b) 4 4)) = true →
    switchBusy s (w32 (leAt (cmdParams b) 4 4)) = true → exec (.planSwitch src) s = .next (finish src stBusy [] s)) ∧
  (∀ (s : State) (src : CmdSrc) (b : Bytes), Given s src b 0x13 8 → s.tick.locked = true →
    planPresent s (leAt (cmdParams b) 0 1) = true → farEnough s (w32 (leAt (cmdParams b) 4 4)) = true →
    switchBusy s (w32 (leAt (cmdParams b) 4 4)) = false →
    exec (.planSwitch src) s = .next (finish src stOk [] { s with sketch := { s.sketch with
      pending := some (leAt (cmdParams b) 0 1, w32 (leAt (cmdParams b) 4 4)) } })) ∧
  (∀ (s : State) (p : Nat) (n : W32), s.sketch.pending = some (p, n) → switchDue s = true → commitDue s = false →
    ∃ t, exec .planSwitchTakeEffect s = .next t ∧ t.sketch.pending = none ∧
      t.sketch.running = (if p = 0xFF then none else some (p, n)) ∧ t.sketch.ctr = bump 2 1 s.sketch.ctr ∧
      t.sketch.plans = s.sketch.plans ∧ t.ports = s.ports ∧ t.switch = s.switch)

/-- An activation puts the image in force with every table as proposed: identity, routes, port sets, groups, descriptors,
constant blocks and pool sizes, segments, streams and segment list, tick settings, plans and policy entries, where each is
carried; a local segment stays *Ready* only unchanged, an uncorrectable entry counting as none; the subscriptions of changed
streams, the rewinds and the staged tiles go, counted, and a pending switch is cancelled; no slot of a changed or removed
group is left; plan `primary` runs from the start tick, no plan with `now`; it is answered with OK. The armed commit
activates at its start tick and not before. Where the spec leaves a point to the model it follows assumption logs 50 and 61. -/
def Obligations.ActivationInstallsTheSketch : Prop :=
  (∀ (s : State) (c : Commit) (b : Bytes) (r : CommitResult) (p : Proposed),
    let t := activate c b r p s
    t.sketch.inForce = true ∧ t.sketch.commit = none ∧ t.sketch.sketchId = w64 (leAt b 16 8) ∧
      t.sketch.digest = statedDigest b ∧ t.sketch.plans = p.plans ∧
      t.sketch.running = (if c.now then none else p.plans.map (fun pl => (pl.primary, c.start))) ∧
      t.switch.routes = p.routes ∧ t.switch.portSets = p.portSets ∧ t.canvas.descs = p.descs ∧ t.canvas.groups = p.groups ∧
      (1 ∈ p.carried → t.sketch.endpoint = p.endpoint ∧ t.sketch.epValid = true ∧ t.sketch.roles = p.roles) ∧
      (1 ∉ p.carried → t.sketch.endpoint = s.sketch.endpoint ∧ t.sketch.roles = s.sketch.roles) ∧
      t.sketch.lastStatus = stOk) ∧
  (∀ (s : State) (c : Commit) (b : Bytes) (r : CommitResult) (p : Proposed),
    let run := if c.now then none else p.plans.map (fun pl => (pl.primary, c.start))
    let keeps := fun (x : Subscription) => stValid (streamAt s x.stream.toNat) &&
      stValid (p.streams.stream x.stream.toNat) &&
      stCode (streamAt s x.stream.toNat) = stCode (p.streams.stream x.stream.toNat)
    ∃ v : State, activate c b r p s =
        answerCommit c.src stOk (commitBytes r) (when run.isSome (prefetch true) (installTick p v)) ∧
      v.sketch.pending = none ∧ v.sketch.tickSet = s.sketch.tickSet ∧
      (1 ∈ p.carried → v.sketch.plane = BitVec.ofNat 4 p.plane) ∧ (1 ∉ p.carried → v.sketch.plane = s.sketch.plane) ∧
      (6 ∈ p.carried → v.canvas.constBlocks = p.constBlocks ∧ v.canvas.schedBlocks = p.schedBlocks ∧
        v.canvas.constants = constantMemory p.constants) ∧
      (6 ∉ p.carried → v.canvas.constBlocks = s.canvas.constBlocks ∧ v.canvas.schedBlocks = s.canvas.schedBlocks ∧
        v.canvas.constants = s.canvas.constants) ∧
      (7 ∈ p.carried → v.streams.segments = p.streams.segments.map (fun e =>
        (e.1, BitVec.ofNat 128 (carriedSegment (segAt s e.1) e.2.toNat)))) ∧
      (7 ∉ p.carried → v.streams.segments = s.streams.segments) ∧
      (8 ∈ p.carried → v.streams.streams = p.streams.streams ∧ v.streams.segList = p.streams.segList ∧
        v.streams.rewinds = [] ∧ v.streams.subs = s.streams.subs.filter keeps ∧
        v.streams.ctr = bump 7 (s.streams.subs.filter (fun x => !keeps x)).length
          (bump 16 s.streams.tiles.length s.streams.ctr)) ∧
      (8 ∉ p.carried → v.streams.streams = s.streams.streams ∧ v.streams.segList = s.streams.segList ∧
        v.streams.rewinds = s.streams.rewinds ∧ v.streams.subs = s.streams.subs ∧
        v.streams.ctr = bump 16 s.streams.tiles.length s.streams.ctr) ∧
      v.streams.tiles = [] ∧ v.streams.store = s.streams.store ∧
      v.policy = applyEntries (if s.tray.own = .active then p.policy else p.policy.filter (fun e => !isTrayEntry e)) s.policy ∧
      v.health.badTables = s.health.badTables.filter (fun e => !p.carried.contains e.1) ∧
      (∀ x ∈ v.canvas.slots, (∃ g, (x.key.group, g) ∈ s.canvas.groups) →
        groupView s.canvas.groups s.canvas.descs x.key.group = groupView p.groups p.descs x.key.group)) ∧
  (∀ (p : Proposed) (s : State), (10 ∉ p.carried → installTick p s = s) ∧
    (∀ ts, 10 ∈ p.carried → p.tickSet = some ts →
      installTick p s = retuneTick s.sketch.tickSet ts { s with sketch := { s.sketch with tickSet := some ts } })) ∧
  (∀ (s : State) (q : Nat) (n : W32), s.sketch.pending = some (q, n) →
    cancelSwitch s = raise 0x002D q (leBytes 4 n.toNat) { s with sketch := { s.sketch with pending := none } }) ∧
  (∀ (s : State) (c : Commit), s.sketch.commit = some c → commitDue s = true →
    exec .sketchActivate s = .next (activate c (loadBytes s.sketch.load)
      { sketchId := leAt (loadBytes s.sketch.load) 16 8, activeTick := c.start.toNat }
      (propose s (loadBytes s.sketch.load)) s)) ∧
  (∀ s : State, commitDue s = false → exec .sketchActivate s = .next s)

/-- PORT_ENABLE admits every named port that runs with a passing verdict; one already admitted stays so; it answers the
others in its mask, with NOT_READY when there is one; the state of a port does not change. PORT_DISABLE and PORT_RETRAIN
act on the named ports in increasing order: the first puts a port in *Disabled*, the second starts an attempt or, from
*Running*, first awaits what was sent: when all of it is acknowledged, 10 µs later at most, the port listens. PORT_WASH
ends when its ports are *Disabled*: OK when all were drained, TIMEOUT with the undrained ones otherwise; a port that is
not admitted is disabled at once. A bad mask, or a bad timeout, is BAD_PARAM. That a port drained which is not washing changes
nothing rests on assumption log 3; where the spec leaves another point to the model it follows logs 56, 57 and 58. -/
def Obligations.PortCommands : Prop :=
  (∀ (s : State) (src : CmdSrc) (b : Bytes),
    (Given s src b 0x20 16 → maskBad s (cmdParams b) = true → exec (.portEnable src) s = .next (finish src stBadParam [] s)) ∧
    (Given s src b 0x21 16 → maskBad s (cmdParams b) = true → exec (.portDisable src) s = .next (finish src stBadParam [] s)) ∧
    (Given s src b 0x23 16 → maskBad s (cmdParams b) = true → exec (.portRetrain src) s = .next (finish src stBadParam [] s)) ∧
    (Given s src b 0x22 16 → (maskBad s (cmdParams b) = true ∨ leAt (cmdParams b) 12 4 = 0 ∨
      100000 < leAt (cmdParams b) 12 4) → exec (.portWash src) s = .next (finish src stBadParam [] s))) ∧
  (∀ (s : State) (src : CmdSrc) (b : Bytes), Given s src b 0x20 16 → maskBad s (cmdParams b) = false →
    ∃ u : State, u = { s with ports := u.ports } ∧
      exec (.portEnable src) s = .next (finish src
        (if (maskPorts (cmdParams b)).all (fun i => (portOf s i).admitted || mayAdmit (portOf s i)) then stOk else stNotReady)
        (leBytes 12 (maskOf ((maskPorts (cmdParams b)).filter
          (fun i => !((portOf s i).admitted || mayAdmit (portOf s i))))) ++ zeros 4) u) ∧
      u.ports.length = s.ports.length ∧
      ∀ p, p < s.ports.length → (portOf u p).admitted = ((portOf s p).admitted ||
          ((maskPorts (cmdParams b)).contains p && mayAdmit (portOf s p))) ∧
        (portOf u p).state = (portOf s p).state ∧
        (p ∉ maskPorts (cmdParams b) → portOf u p = portOf s p)) ∧
  (∀ (s : State) (src : CmdSrc) (b : Bytes), maskBad s (cmdParams b) = false →
    (Given s src b 0x21 16 →
      exec (.portDisable src) s = .next (finish src stOk [] (forEach (maskPorts (cmdParams b)) disableNow s))) ∧
    (Given s src b 0x23 16 →
      exec (.portRetrain src) s = .next (finish src stOk [] (forEach (maskPorts (cmdParams b)) retrainPort s)))) ∧
  (∀ (s : State) (p : Nat), p < 96 → s.ports.length = 96 → (portOf (disableNow p s) p).state = .disabled ∧
    (portOf (disableNow p s) p).admitted = false ∧ (portOf (disableNow p s) p).grace = none ∧
    (disableNow p s).sketch = s.sketch ∧ (disableNow p s).tray = s.tray) ∧
  (∀ (s : State) (p : Nat), p < 96 → s.ports.length = 96 → (portOf s p).state ≠ .running →
    (portOf (retrainPort p s) p).state = .listen ∧ (portOf (retrainPort p s) p).failCount = 0 ∧
      (portOf (retrainPort p s) p).attempt = some (s.now + 10000000) ∧ (portOf (retrainPort p s) p).admitted = false) ∧
  (∀ (s : State) (p : Nat), p < 96 → s.ports.length = 96 → (portOf s p).state = .running → (portOf s p).quiesce = none →
    retrainPort p s = updPort p (fun q => { q with failCount := 0, probeWait := 0, quiesce := some (s.now + 10000) }) s) ∧
  (∀ (s : State) (p d : Nat), p < 96 → s.ports.length = 96 → (portOf s p).state = .running →
    (portOf s p).quiesce = some d → (allAcked (portOf s p) = true ∨ d ≤ s.now) → (portOf s p).washing = false →
    ∃ t, exec (.portRetrainQuiesceEnd p) s = .next t ∧ (portOf t p).state = .listen ∧ (portOf t p).admitted = false) ∧
  (∀ (s : State) (src : CmdSrc) (b : Bytes) (p : Nat), Given s src b 0x22 16 → maskPorts (cmdParams b) = [p] →
    (roleOf s p).role ≠ 0 → s.ports.length = 96 → s.host.washes = [] → 1 ≤ leAt (cmdParams b) 12 4 →
    leAt (cmdParams b) 12 4 ≤ 100000 → (portOf s p).state = .running → (portOf s p).admitted = true →
    exec (.portWash src) s = .next (updPort p (fun q => { q with washing := true }) (updHost (fun h => { h with
      washes := [{ src := src, ports := BitVec.ofNat 96 (leAt (cmdParams b) 0 12)
                   deadline := s.now + 1000 * leAt (cmdParams b) 12 4 }] }) s))) ∧
  (∀ (s : State) (src : CmdSrc) (b : Bytes), Given s src b 0x22 16 → maskBad s (cmdParams b) = false →
    1 ≤ leAt (cmdParams b) 12 4 → leAt (cmdParams b) 12 4 ≤ 100000 →
    exec (.portWash src) s = .next (finishWashes (forEach (maskPorts (cmdParams b)) washPort (updHost (fun h => { h with
      washes := h.washes ++ [{ src := src, ports := BitVec.ofNat 96 (leAt (cmdParams b) 0 12)
                               deadline := s.now + 1000 * leAt (cmdParams b) 12 4 }] }) s)))) ∧
  (∀ (s : State) (p : Nat), p < 96 → s.ports.length = 96 →
    ((portOf s p).state = .disabled → washPort p s = s) ∧
    ((portOf s p).admitted = false → (portOf (washPort p s) p).state = .disabled)) ∧
  (∀ (s : State) (p : Nat) (w : Wash), p < 96 → s.ports.length = 96 → s.host.washes = [w] →
    maskList 96 w.ports.toNat = [p] → w.undrained = 0 → (portOf s p).washing = true → drained s p = true →
    ∃ u : State, exec (.washPortDrained p) s = .next (finish w.src stOk (washResult w) u) ∧
      (portOf u p).state = .disabled ∧ u.host.washes = []) ∧
  (∀ (s : State) (p : Nat) (w : Wash), p < 96 → s.ports.length = 96 → w.src.ok = true → s.host.washes = [w] →
    maskList 96 w.ports.toNat = [p] → (portOf s p).washing = true → w.deadline ≤ s.now →
    ∃ (u : State) (res : Bytes), exec (.washTimeout w.src) s = .next (finish w.src stTimeout res u) ∧
      leAt res 0 12 = w.undrained.toNat ||| 2 ^ p ∧ (portOf u p).state = .disabled ∧ u.host.washes = []) ∧
  (∀ (s : State) (p : Nat), p < 96 → (portOf s p).washing = false → exec (.washPortDrained p) s = .next s)

/-- GROUP_DEFINE, with its descriptors, GROUP_DELETE, PORTSET_DEFINE and ROUTE_WRITE write their tables when every check passes
and nothing stands in the way, a deletion of an entry that is not valid changing nothing; refused, they change nothing: BAD_PARAM for a value or a range that passes the table's end,
BUSY for a group with slots or a set that a plan names, NOT_READY for a valid route before the device has an identifier (the
model's choice, assumption log 117). Each
table-writing command waits while a commit is in progress: nothing changes, and it keeps its place. Where the spec leaves
a point to the model it follows assumption logs 43, 49 and 64. -/
def Obligations.TableCommands : Prop :=
  (∀ (s : State) (src : CmdSrc) (b : Bytes) (n : Nat), Given s src b 0x30 n → s.sketch.commit = none →
    defineLength b = true → defineOk s (leAt (cmdParams b) 0 2) (cmdParams b) = true →
    ((groupOf s (leAt (cmdParams b) 0 2)).isSome && hasSlots s (leAt (cmdParams b) 0 2)) = false →
    ∃ u : State, exec (.groupDefine src) s = .next (finish src stOk [] u) ∧
      (gValid (defHeader (cmdParams b)) = true →
        tget u.canvas.groups (leAt (cmdParams b) 0 2) = some (defGroup (cmdParams b))) ∧
      (gValid (defHeader (cmdParams b)) = false → tget u.canvas.groups (leAt (cmdParams b) 0 2) = none) ∧
      (∀ g, g ≠ leAt (cmdParams b) 0 2 → tget u.canvas.groups g = tget s.canvas.groups g) ∧
      (∀ i, i < gDescCount (defHeader (cmdParams b)) →
        tget u.canvas.descs (gDescBase (defHeader (cmdParams b)) + i) =
          some (((cmdParams b).drop (16 + 8 * gMembers (defHeader (cmdParams b)) + 64 * i)).take 64)) ∧
      (∀ i, (i < gDescBase (defHeader (cmdParams b)) ∨
          gDescBase (defHeader (cmdParams b)) + gDescCount (defHeader (cmdParams b)) ≤ i) →
        tget u.canvas.descs i = tget s.canvas.descs i) ∧
      u.canvas.slots = s.canvas.slots ∧ u.switch = s.switch ∧ u.ports = s.ports ∧ u.sketch = s.sketch ∧
      u.streams = s.streams) ∧
  (∀ (s : State) (src : CmdSrc) (b : Bytes) (n : Nat), Given s src b 0x30 n → s.sketch.commit = none →
    defineLength b = true →
    (defineOk s (leAt (cmdParams b) 0 2) (cmdParams b) = false →
      exec (.groupDefine src) s = .next (finish src stBadParam [] s)) ∧
    (defineOk s (leAt (cmdParams b) 0 2) (cmdParams b) = true →
      ((groupOf s (leAt (cmdParams b) 0 2)).isSome && hasSlots s (leAt (cmdParams b) 0 2)) = true →
      exec (.groupDefine src) s = .next (finish src stBusy [] s))) ∧
  (∀ (s : State) (src : CmdSrc) (b : Bytes), Given s src b 0x31 4 → s.sketch.commit = none →
    leAt (cmdParams b) 0 2 < 16384 →
    (groupOf s (leAt (cmdParams b) 0 2) = none → exec (.groupDelete src) s = .next (finish src stOk [] s)) ∧
    (groupOf s (leAt (cmdParams b) 0 2) ≠ none → hasSlots s (leAt (cmdParams b) 0 2) = false →
      exec (.groupDelete src) s = .next (finish src stOk [] (entryWritten 5 (leAt (cmdParams b) 0 2)
        { s with canvas := { s.canvas with groups := tdel s.canvas.groups (leAt (cmdParams b) 0 2) } })))) ∧
  (∀ (s : State) (src : CmdSrc) (b : Bytes), Given s src b 0x31 4 → s.sketch.commit = none →
    (16384 ≤ leAt (cmdParams b) 0 2 → exec (.groupDelete src) s = .next (finish src stBadParam [] s)) ∧
    (leAt (cmdParams b) 0 2 < 16384 →
      ((groupOf s (leAt (cmdParams b) 0 2)).isSome && hasSlots s (leAt (cmdParams b) 0 2)) = true →
      exec (.groupDelete src) s = .next (finish src stBusy [] s))) ∧
  (∀ (s : State) (src : CmdSrc) (b : Bytes), Given s src b 0x32 16 → s.sketch.commit = none →
    leAt (cmdParams b) 0 2 < 16384 → portSetOk s.sketch.roles (leAt (cmdParams b) 4 12) = true →
    exec (.portsetDefine src) s = .next (if setNamed s (leAt (cmdParams b) 0 2) then finish src stBusy [] s
      else finish src stOk [] (entryWritten 3 (leAt (cmdParams b) 0 2)
      (updSwitch (fun w => { w with
        portSets := tset w.portSets (leAt (cmdParams b) 0 2) (BitVec.ofNat 96 (leAt (cmdParams b) 4 12)) }) s)))) ∧
  (∀ (s : State) (src : CmdSrc) (b : Bytes), Given s src b 0x32 16 → s.sketch.commit = none →
    (16384 ≤ leAt (cmdParams b) 0 2 ∨ portSetOk s.sketch.roles (leAt (cmdParams b) 4 12) = false) →
    exec (.portsetDefine src) s = .next (finish src stBadParam [] s)) ∧
  (∀ (s : State) (src : CmdSrc) (b : Bytes) (n : Nat), Given s src b 0x40 n → s.sketch.commit = none →
    routeLength b = true → leAt (cmdParams b) 0 4 + routeCount (cmdParams b) ≤ 65536 →
    (∀ e ∈ routeEntries (cmdParams b), routeEntryOk s.sketch.roles e.1 e.2 = true ∧
      (hasIdentity s = true ∨ routeValid e.2 = false)) →
    exec (.routeWrite src) s = .next (finish src stOk []
      (forEach (routeEntries (cmdParams b)) (fun e => writeRoute e.1 e.2) s))) ∧
  (∀ (s : State) (i e : Nat), tget (writeRoute i e s).switch.routes i =
      (if routeValid e then some (BitVec.ofNat 128 e) else none) ∧
    ∀ j, j ≠ i → tget (writeRoute i e s).switch.routes j = tget s.switch.routes j) ∧
  (∀ (s : State) (src : CmdSrc) (b : Bytes) (n : Nat) (e : Nat × Nat), Given s src b 0x40 n → s.sketch.commit = none →
    routeLength b = true → hasIdentity s = false → e ∈ routeEntries (cmdParams b) → routeValid e.2 = true →
    exec (.routeWrite src) s = .next (finish src stNotReady [] s)) ∧
  (∀ (s : State) (src : CmdSrc) (b : Bytes) (n : Nat), Given s src b 0x40 n → s.sketch.commit = none →
    routeLength b = true → (hasIdentity s = true ∨ ∀ e ∈ routeEntries (cmdParams b), routeValid e.2 = false) →
    (65536 < leAt (cmdParams b) 0 4 + routeCount (cmdParams b) ∨
      ∃ e ∈ routeEntries (cmdParams b), routeEntryOk s.sketch.roles e.1 e.2 = false) →
    exec (.routeWrite src) s = .next (finish src stBadParam [] s)) ∧
  (∀ (s : State) (src : CmdSrc) (b : Bytes), Accepted s src b → s.sketch.commit ≠ none →
    (cmdOpcode b = 0x30 → defineLength b = true → exec (.groupDefine src) s = .next s) ∧
    (cmdOpcode b = 0x31 → cmdParamLen b = 4 → exec (.groupDelete src) s = .next s) ∧
    (cmdOpcode b = 0x32 → cmdParamLen b = 16 → exec (.portsetDefine src) s = .next s) ∧
    (cmdOpcode b = 0x40 → routeLength b = true → exec (.routeWrite src) s = .next s) ∧
    (cmdOpcode b = 0x50 → subCode b = 1 → cmdParamLen b = 24 → exec (.writeSegment src) s = .next s) ∧
    (cmdOpcode b = 0x50 → subCode b = 2 → cmdParamLen b = 32 → exec (.writeStream src) s = .next s) ∧
    (cmdOpcode b = 0x50 → subCode b = 3 → cmdParamLen b = 8 → exec (.sealSegment src) s = .next s) ∧
    (cmdOpcode b = 0x50 → subCode b = 4 → cmdParamLen b = 8 → exec (.reopenSegment src) s = .next s) ∧
    (cmdOpcode b = 0x50 → subCode b = 5 → cmdParamLen b = 12 → exec (.rewindStream src) s = .next s) ∧
    (cmdOpcode b = 0x50 → subCode b = 6 → listLength b = true → exec (.writeList src) s = .next s) ∧
    (cmdOpcode b = 0x60 → cmdParamLen b = 24 → exec (.syncArm src) s = .next s))

/-- The STREAM_DEFINE actions that write an entry: what is written is judged for content (BAD_PARAM), then the work items
that name the entry (BUSY), then the capacity of the tables as they would stand (STORE_OVERCOMMIT), and only then is it
installed; of a list the range alone is judged, and an uncorrectable entry counts as one that is not valid. Rewinding,
sealing and reopening: a rewind waits for the tick 16 ticks on, and acts at once while no tick runs; a seal, BUSY while one
runs or a PUT is not yet readable, checks the CRC-32 over the segment's bytes, fails where a word of them is uncorrectable,
and makes it *Ready*; a reopened segment, BUSY while a tile of it is staged, is *Filling* again. Where the spec leaves a
point to the model it follows assumption logs 46 and 89. -/
def Obligations.StreamDefineActions : Prop :=
  (∀ (s : State) (src : CmdSrc) (b : Bytes), Given s src b 0x50 24 → subCode b = 1 → s.sketch.commit = none →
    (let n := leAt (cmdParams b) 4 4
     let e := freshSegment (leAt (cmdParams b) 8 16)
     let t := withSegment s n e
     n < 262144 → segOk t (routeOk s) (ownId s) n e = true → segmentNamed s n = false →
      (capacityShort t s.sketch.plans (periodOf s)).none_ = true →
      exec (.writeSegment src) s = .next (finish src stOk [] (entryWritten 7 n
        { s with streams := { s.streams with segments := putEntry s.streams.segments n e } })))) ∧
  (∀ (s : State) (src : CmdSrc) (b : Bytes), Given s src b 0x50 32 → subCode b = 2 → s.sketch.commit = none →
    (let n := leAt (cmdParams b) 4 4
     let e := leAt (cmdParams b) 8 16
     let t := withStream s n e
     n < 65536 → streamOk t e = true → streamNamed s n = false →
      (capacityShort t s.sketch.plans (periodOf s)).none_ = true →
      exec (.writeStream src) s = .next (finish src stOk [] (entryWritten 8 n { s with streams := { s.streams with
        streams := putEntry s.streams.streams n e, rewinds := s.streams.rewinds.filter (fun r => r.1 != n) } })))) ∧
  (∀ (s : State) (src : CmdSrc) (b : Bytes) (k : Nat), Given s src b 0x50 (12 + 4 * k) → subCode b = 6 →
    s.sketch.commit = none → leAt (cmdParams b) 8 4 = k → 1 ≤ k → k ≤ 1011 →
    (let n := leAt (cmdParams b) 4 4
     let t := withList s n k ((cmdParams b).drop 12)
     n + k ≤ 262144 → listNamed s n k = false → (capacityShort t s.sketch.plans (periodOf s)).none_ = true →
      exec (.writeList src) s = .next (finish src stOk [] (forEach (List.range k) (fun j => entryWritten 9 (n + j))
        { s with streams := { s.streams with segList := putList s.streams.segList n k ((cmdParams b).drop 12) } })))) ∧
  (∀ (s : State) (src : CmdSrc) (b : Bytes), Given s src b 0x50 24 → subCode b = 1 → s.sketch.commit = none →
    (let n := leAt (cmdParams b) 4 4
     let e := freshSegment (leAt (cmdParams b) 8 16)
     let t := withSegment s n e
     ((262144 ≤ n ∨ segOk t (routeOk s) (ownId s) n e = false) →
       exec (.writeSegment src) s = .next (finish src stBadParam [] s)) ∧
     (n < 262144 → segOk t (routeOk s) (ownId s) n e = true → segmentNamed s n = true →
       exec (.writeSegment src) s = .next (finish src stBusy [] s)) ∧
     (n < 262144 → segOk t (routeOk s) (ownId s) n e = true → segmentNamed s n = false →
       (capacityShort t s.sketch.plans (periodOf s)).none_ = false →
       exec (.writeSegment src) s = .next (finish src stStoreOvercommit [] s)))) ∧
  (∀ (s : State) (src : CmdSrc) (b : Bytes), Given s src b 0x50 32 → subCode b = 2 → s.sketch.commit = none →
    (let n := leAt (cmdParams b) 4 4
     let e := leAt (cmdParams b) 8 16
     let t := withStream s n e
     ((65536 ≤ n ∨ streamOk t e = false) → exec (.writeStream src) s = .next (finish src stBadParam [] s)) ∧
     (n < 65536 → streamOk t e = true → streamNamed s n = true →
       exec (.writeStream src) s = .next (finish src stBusy [] s)) ∧
     (n < 65536 → streamOk t e = true → streamNamed s n = false →
       (capacityShort t s.sketch.plans (periodOf s)).none_ = false →
       exec (.writeStream src) s = .next (finish src stStoreOvercommit [] s)))) ∧
  (∀ (s : State) (src : CmdSrc) (b : Bytes) (k : Nat), Given s src b 0x50 (12 + 4 * k) → subCode b = 6 →
    s.sketch.commit = none → leAt (cmdParams b) 8 4 = k → 1 ≤ k → k ≤ 1011 →
    (let n := leAt (cmdParams b) 4 4
     let t := withList s n k ((cmdParams b).drop 12)
     (262144 < n + k → exec (.writeList src) s = .next (finish src stBadParam [] s)) ∧
     (n + k ≤ 262144 → listNamed s n k = true → exec (.writeList src) s = .next (finish src stBusy [] s)) ∧
     (n + k ≤ 262144 → listNamed s n k = false → (capacityShort t s.sketch.plans (periodOf s)).none_ = false →
       exec (.writeList src) s = .next (finish src stStoreOvercommit [] s)))) ∧
  (∀ (s : State) (n k : Nat), listNamed s n k = true ↔ ∃ e ∈ s.streams.streams, badEntry s 8 e.1 = false ∧
    streamNamed s e.1 = true ∧ stSegBase e.2.toNat < n + k ∧ n < stSegBase e.2.toNat + stSegCount e.2.toNat) ∧
  (∀ (s : State) (src : CmdSrc) (b : Bytes), Given s src b 0x50 12 → subCode b = 5 → s.sketch.commit = none →
    stValid (streamAt s (leAt (cmdParams b) 4 4)) = true →
    leAt (cmdParams b) 8 4 < (streamTables s).tiles (streamAt s (leAt (cmdParams b) 4 4)) → s.tick.running = true →
    exec (.rewindStream src) s = .next (finish src stOk [] { s with streams := { s.streams with
      rewinds := s.streams.rewinds ++ [(leAt (cmdParams b) 4 4, s.tick.number + 16, w32 (leAt (cmdParams b) 8 4))] } })) ∧
  (∀ (s : State) (src : CmdSrc) (b : Bytes), Given s src b 0x50 12 → subCode b = 5 → s.sketch.commit = none →
    stValid (streamAt s (leAt (cmdParams b) 4 4)) = true →
    leAt (cmdParams b) 8 4 < (streamTables s).tiles (streamAt s (leAt (cmdParams b) 4 4)) → s.tick.running = false →
    exec (.rewindStream src) s = .next (finish src stOk []
      (setCursor (leAt (cmdParams b) 4 4) (leAt (cmdParams b) 8 4) s))) ∧
  (∀ (s : State) (src : CmdSrc) (b : Bytes), Given s src b 0x50 12 → subCode b = 5 → s.sketch.commit = none →
    (streamTables s).tiles (streamAt s (leAt (cmdParams b) 4 4)) ≤ leAt (cmdParams b) 8 4 →
    exec (.rewindStream src) s = .next (finish src stBadParam [] s)) ∧
  (∀ (s : State) (src : CmdSrc) (b : Bytes), Given s src b 0x50 8 → subCode b = 3 → s.sketch.commit = none →
    sgLocal (segAt s (leAt (cmdParams b) 4 4)) = true → tget s.streams.sealing (leAt (cmdParams b) 4 4) = none →
    putPending s (leAt (cmdParams b) 4 4) = false →
    exec (.sealSegment src) s = .next { s with streams := { s.streams with
      sealing := tset s.streams.sealing (leAt (cmdParams b) 4 4) src } }) ∧
  (∀ (s : State) (src : CmdSrc) (b : Bytes), Given s src b 0x50 8 → subCode b = 3 → s.sketch.commit = none →
    sgLocal (segAt s (leAt (cmdParams b) 4 4)) = true →
    ((tget s.streams.sealing (leAt (cmdParams b) 4 4)).isSome = true ∨ putPending s (leAt (cmdParams b) 4 4) = true) →
    exec (.sealSegment src) s = .next (finish src stBusy [] s)) ∧
  (∀ (s : State) (g : Nat) (src : CmdSrc) (l : List (Nat × WordError)), s.streams.sealing = [(g, src)] →
    sgLocal (segAt s g) = true → segmentCrc s (segAt s g) = sgCrc (segAt s g) →
    anyBad (storeErrors s (sgStore (segAt s g)) (sgBytes (segAt s g)) l) = false →
    ∃ u : State, exec (.sealCheckComplete g l) s = .next (finish src stOk [] u) ∧ u.streams.sealing = [] ∧
      sgReady (segAt u g) = true ∧ u.streams.ctr = bump 2 1 s.streams.ctr ∧ u.streams.store = s.streams.store ∧
      u.switch = s.switch ∧ u.ports = s.ports) ∧
  (∀ (s : State) (g : Nat) (src : CmdSrc) (l : List (Nat × WordError)), s.streams.sealing = [(g, src)] →
    sgLocal (segAt s g) = true → (segmentCrc s (segAt s g) ≠ sgCrc (segAt s g) ∨
      anyBad (storeErrors s (sgStore (segAt s g)) (sgBytes (segAt s g)) l) = true) →
    ∃ u : State, exec (.sealCheckComplete g l) s = .next (finish src stBadParam [] u) ∧ u.streams.sealing = [] ∧
      u.streams.segments = s.streams.segments ∧ u.streams.ctr = bump 3 1 s.streams.ctr) ∧
  (∀ (s : State) (src : CmdSrc) (b : Bytes), Given s src b 0x50 8 → subCode b = 4 → s.sketch.commit = none →
    sgLocal (segAt s (leAt (cmdParams b) 4 4)) = true → sgReady (segAt s (leAt (cmdParams b) 4 4)) = true →
    segmentStaged s (leAt (cmdParams b) 4 4) = false →
    exec (.reopenSegment src) s = .next (finish src stOk [] (setReady (leAt (cmdParams b) 4 4) false s))) ∧
  (∀ (s : State) (src : CmdSrc) (b : Bytes), Given s src b 0x50 8 → subCode b = 4 → s.sketch.commit = none →
    exec (.reopenSegment src) s = .next (
      if (sgLocal (segAt s (leAt (cmdParams b) 4 4)) && sgReady (segAt s (leAt (cmdParams b) 4 4))) = false
      then finish src stBadParam [] s
      else if segmentStaged s (leAt (cmdParams b) 4 4) then finish src stBusy [] s
      else finish src stOk [] (setReady (leAt (cmdParams b) 4 4) false s)))

/-- Synchronisation objects: arming writes the object, resets or keeps the counter, and fires it at once where the counter
reaches the threshold, as threshold 0 always does; an arrival adds its value, saturating at 2^32 − 1, and the object
fires when the counter reaches the threshold: *Fired*, or, with `auto`, armed still with the threshold taken off; an
object that is not armed only counts. A value of 0 does nothing; an offset without an object is counted. Where the spec leaves
a point to the model it follows assumption logs 45 and 115. -/
def Obligations.SyncObjectsFire : Prop :=
  (∀ (s : State) (src : CmdSrc) (b : Bytes), Given s src b 0x60 24 → s.sketch.commit = none →
    targetOk s (leAt (cmdParams b) 3 1) (leAt (cmdParams b) 8 2) = true → bitOf (leAt (cmdParams b) 2 1) 0 = true →
    0 < leAt (cmdParams b) 4 4 →
    ∃ u : State, exec (.syncArm src) s = .next (finish src stOk [] u) ∧
      (syncOf u (leAt (cmdParams b) 0 2)).state = 1 ∧ (syncOf u (leAt (cmdParams b) 0 2)).counter = 0 ∧
      (syncOf u (leAt (cmdParams b) 0 2)).threshold = w32 (leAt (cmdParams b) 4 4) ∧
      u.switch = s.switch ∧ u.ports = s.ports ∧ u.canvas.ctr = s.canvas.ctr) ∧
  (∀ (s : State) (src : CmdSrc) (b : Bytes), Given s src b 0x60 24 → s.sketch.commit = none →
    targetOk s (leAt (cmdParams b) 3 1) (leAt (cmdParams b) 8 2) = true → bitOf (leAt (cmdParams b) 2 1) 0 = false →
    badEntry s 0 (leAt (cmdParams b) 0 2) = false →
    (syncOf s (leAt (cmdParams b) 0 2)).counter.toNat < leAt (cmdParams b) 4 4 →
    ∃ u : State, exec (.syncArm src) s = .next (finish src stOk [] u) ∧
      (syncOf u (leAt (cmdParams b) 0 2)).state = 1 ∧
      (syncOf u (leAt (cmdParams b) 0 2)).counter = (syncOf s (leAt (cmdParams b) 0 2)).counter ∧
      u.switch = s.switch ∧ u.canvas.ctr = s.canvas.ctr) ∧
  (∀ (s : State) (src : CmdSrc) (b : Bytes), Given s src b 0x60 24 → s.sketch.commit = none →
    targetOk s (leAt (cmdParams b) 3 1) (leAt (cmdParams b) 8 2) = true → bitOf (leAt (cmdParams b) 2 1) 0 = false →
    badEntry s 0 (leAt (cmdParams b) 0 2) = false → 0 < leAt (cmdParams b) 4 4 →
    leAt (cmdParams b) 4 4 ≤ (syncOf s (leAt (cmdParams b) 0 2)).counter.toNat →
    ∃ u : State, exec (.syncArm src) s = .next (finish src stOk [] u) ∧ u.canvas.ctr = bump 18 1 s.canvas.ctr ∧
      (bitOf (leAt (cmdParams b) 2 1) 1 = true → (syncOf u (leAt (cmdParams b) 0 2)).state = 1 ∧
        (syncOf u (leAt (cmdParams b) 0 2)).counter =
          (syncOf s (leAt (cmdParams b) 0 2)).counter - w32 (leAt (cmdParams b) 4 4)) ∧
      (bitOf (leAt (cmdParams b) 2 1) 1 = false → (syncOf u (leAt (cmdParams b) 0 2)).state = 2 ∧
        (syncOf u (leAt (cmdParams b) 0 2)).counter = (syncOf s (leAt (cmdParams b) 0 2)).counter)) ∧
  (∀ (s : State) (src : CmdSrc) (b : Bytes), Given s src b 0x60 24 → s.sketch.commit = none →
    targetOk s (leAt (cmdParams b) 3 1) (leAt (cmdParams b) 8 2) = true → leAt (cmdParams b) 4 4 = 0 →
    ∃ u : State, exec (.syncArm src) s = .next (finish src stOk [] u) ∧ u.canvas.ctr = bump 18 1 s.canvas.ctr ∧
      (syncOf u (leAt (cmdParams b) 0 2)).state = (if bitOf (leAt (cmdParams b) 2 1) 1 then 1 else 2)) ∧
  (∀ (s : State) (src : CmdSrc) (b : Bytes), Given s src b 0x60 24 → s.sketch.commit = none →
    targetOk s (leAt (cmdParams b) 3 1) (leAt (cmdParams b) 8 2) = false →
    exec (.syncArm src) s = .next (finish src stBadParam [] s)) ∧
  (∀ (s : State) (id : Nat) (st : Stored), terminatedOf s id = some st → findingOf st = .act → st.hdr.window = 0x03 →
    st.hdr.offset.toNat < 65536 → badEntry s 0 st.hdr.offset.toNat = false → st.hdr.opA ≠ 0 →
    exec (.syncArrive id) s = .next (addArrival st.hdr.offset.toNat st.hdr.opA (dropPacket id false s))) ∧
  (∀ (s : State) (id : Nat) (st : Stored), terminatedOf s id = some st → findingOf st = .act → st.hdr.window = 0x03 →
    (65536 ≤ st.hdr.offset.toNat →
      exec (.syncArrive id) s = .next (canvasCount 20 1 (dropPacket id false s))) ∧
    (st.hdr.offset.toNat < 65536 → badEntry s 0 st.hdr.offset.toNat = false → st.hdr.opA = 0 →
      exec (.syncArrive id) s = .next (dropPacket id false s))) ∧
  (∀ (s : State) (i : Nat) (w : W32),
    (syncOf s i).counter.toNat + w.toNat < (syncOf s i).threshold.toNat → (syncOf s i).state = 1 →
    addArrival i w s = setSync i { syncOf s i with counter := (syncOf s i).counter + w } s) ∧
  (∀ (s : State) (i : Nat) (w : W32), (syncOf s i).state ≠ 1 →
    syncOf (addArrival i w s) i = { syncOf s i with
      counter := w32 (min ((syncOf s i).counter.toNat + w.toNat) 0xFFFFFFFF) }) ∧
  (∀ (s : State) (i : Nat) (w : W32), (syncOf s i).state = 1 → (syncOf s i).auto = true →
    (syncOf s i).threshold.toNat ≤ min ((syncOf s i).counter.toNat + w.toNat) 0xFFFFFFFF →
    (syncOf (addArrival i w s) i).state = 1 ∧
      (syncOf (addArrival i w s) i).counter =
        w32 (min ((syncOf s i).counter.toNat + w.toNat) 0xFFFFFFFF) - (syncOf s i).threshold) ∧
  (∀ (s : State) (i : Nat) (w : W32), (syncOf s i).state = 1 → (syncOf s i).auto = false →
    (syncOf s i).threshold.toNat ≤ (syncOf s i).counter.toNat + w.toNat →
    (syncOf (addArrival i w s) i).state = 2 ∧
      (addArrival i w s).canvas.ctr = bump 18 1 (if 0xFFFFFFFF < (syncOf s i).counter.toNat + w.toNat
        then bump 19 1 s.canvas.ctr else s.canvas.ctr))

/-- POLICY_SET applies every entry or none, answering the first that fails; tray fields are the active controller's
alone, and an epoch becomes due with them; POWER_MODE_SET, whose mode is in force with the command (assumption log 66), and
SLOPE_LIMIT_SET. CONTROL_HANDOVER needs a synchronised twin and waits for its acknowledge, 2 ms at most; only the active
controller takes it. Where the spec leaves another point to the model it follows assumption log 48. -/
def Obligations.PolicyPowerAndHandoverCommands : Prop :=
  (∀ (s : State) (src : CmdSrc) (b : Bytes) (n i : Nat), Given s src b 0x70 n → 8 ≤ n → n ≤ 4064 → n % 8 = 0 →
    policyFault s.policy (parseEntries (cmdParams b)) = some i →
    exec (.policySet src) s = .next (finish src stBadParam (leBytes 4 i) s)) ∧
  (∀ (s : State) (src : CmdSrc) (b : Bytes) (n : Nat), Given s src b 0x70 n → 8 ≤ n → n ≤ 4064 → n % 8 = 0 →
    policyFault s.policy (parseEntries (cmdParams b)) = none →
    exec (.policySet src) s = .next (finish src stOk []
      { s with policy := applyEntries (parseEntries (cmdParams b)) s.policy })) ∧
  (∀ (s : State) (src : CmdSrc) (b : Bytes) (n : Nat), GivenTray s src b 0x70 n → 8 ≤ n → n ≤ 4064 → n % 8 = 0 →
    policyFault s.policy (parseEntries (cmdParams b)) = none →
    ∃ u : State, exec (.policySet src) s = .next (finish src stOk [] u) ∧
      u.policy = applyEntries (parseEntries (cmdParams b)) s.policy ∧ u.tray.sendDue = true ∧ u.tray.own = .active ∧
      u.tray.policyAt = s.now ∧ u.tray.lasers = u.policy.laserSet ∧ u.tray.modules = u.policy.railLimit ∧
      u.ports = s.ports ∧ u.power = s.power) ∧
  (∀ (s : State) (src : CmdSrc) (b : Bytes) (n : Nat), src.ok = true → commandOf s src = some b →
    s.boot.easelReady = true → inProgress s src = false → earlyRefusal s src b = none → bytesFit b = true →
    cmdOpcode b = 0x70 → cmdParamLen b = n → 8 ≤ n → n ≤ 4064 → n % 8 = 0 → isTray b = true → s.tray.own ≠ .active →
    exec (.policySet src) s = .next (finish src stNotOwner [] s)) ∧
  (∀ (s : State) (src : CmdSrc) (b : Bytes), Given s src b 0x71 4 → leAt (cmdParams b) 0 1 ≤ 3 →
    ∃ u : State, exec (.powerModeSet src) s = .next (finish src stOk ([BitVec.ofNat 8 u.power.mode] ++ zeros 3) u) ∧
      u.power.commanded = leAt (cmdParams b) 0 1 ∧ leAt (cmdParams b) 0 1 ≤ u.power.mode ∧ u.ports = s.ports ∧
      u.canvas = s.canvas ∧ u.switch = s.switch) ∧
  (∀ (s : State) (src : CmdSrc) (b : Bytes), Given s src b 0x71 4 → 3 < leAt (cmdParams b) 0 1 →
    exec (.powerModeSet src) s = .next (finish src stBadParam [] s)) ∧
  (∀ (s : State) (src : CmdSrc) (b : Bytes), Given s src b 0x72 4 →
    exec (.slopeLimitSet src) s = .next (if 10 ≤ leAt (cmdParams b) 0 4 ∧ leAt (cmdParams b) 0 4 ≤ 2000
      then finish src stOk [] { s with power := { s.power with slope := leAt (cmdParams b) 0 4 } }
      else finish src stBadParam [] s)) ∧
  (∀ (s : State) (src : CmdSrc) (b : Bytes), GivenTray s src b 0xA1 0 → twinReady s = true → s.tray.handover = none →
    ∃ t, exec (.controlHandover src) s = .next t ∧ t.tray.epoch = s.tray.epoch + 1 ∧
      t.tray.handover = some (src, s.tray.epoch + 1, s.now + 2000000) ∧ t.tray.own = .active ∧ t.ports = s.ports) ∧
  (∀ (s : State) (src : CmdSrc) (b : Bytes), GivenTray s src b 0xA1 0 → twinReady s = false →
    exec (.controlHandover src) s = .next (finish src stNotReady [] s)) ∧
  (∀ (s : State) (src : CmdSrc) (b : Bytes), GivenTray s src b 0xA1 0 → twinReady s = true → s.tray.handover.isSome = true →
    exec (.controlHandover src) s = .next (finish src stBusy [] s)) ∧
  (∀ (s : State) (src : CmdSrc) (e : W32) (d : Nat), s.tray.handover = some (src, e, d) → d ≤ s.now →
    exec .handoverAckTimeout s = .next (finish src stTimeout [] { s with tray := { s.tray with handover := none } })) ∧
  (∀ (s : State) (src : CmdSrc) (b : Bytes), src.ok = true → commandOf s src = some b → s.boot.easelReady = true →
    inProgress s src = false → earlyRefusal s src b = none → bytesFit b = true → cmdOpcode b = 0xA1 → cmdParamLen b = 0 →
    s.tray.own ≠ .active → exec (.controlHandover src) s = .next (finish src stNotOwner [] s))

/-- `probe_period` is set per port by POLICY_SET: 1 s by default, 20 ms to 60 s, another value refused with BAD_PARAM. -/
def Obligations.ProbePeriodIsSetPerPort : Prop :=
  (∀ p, p < 96 → nth State.reset.policy.probePeriod p = 1000) ∧
  (∀ (s : State) (src : CmdSrc) (b : Bytes), Given s src b 0x70 8 → leAt (cmdParams b) 0 2 = 0x0C →
    leAt (cmdParams b) 2 2 < 96 →
    exec (.policySet src) s = .next (if 20 ≤ leAt (cmdParams b) 4 4 ∧ leAt (cmdParams b) 4 4 ≤ 60000
      then finish src stOk [] { s with policy := { s.policy with
        probePeriod := s.policy.probePeriod.set (leAt (cmdParams b) 2 2) (leAt (cmdParams b) 4 4) } }
      else finish src stBadParam (leBytes 4 0) s))

/-- TWIN_CONFIG sets `copy_mode` and `cycle_ticks` from the next control cycle; it is refused when `copy_mode` is above
1 or the cycle at the current tick period lies outside 0.5 ms to 100 ms; the settings travel in the image, whose header
carries those in force and whose section 7, where the format is the device's own, gives them to the device that commits it
(assumption logs 70 and 137); settings that wait lapse when control is released (log 70); the default is warm copy with 250
ticks. -/
def Obligations.TwinConfigSetsTheCopy : Prop :=
  (State.reset.tray.copyMode = 0 ∧ State.reset.tray.cycleTicks = 250) ∧
  (∀ (s : State) (src : CmdSrc) (b : Bytes), GivenTray s src b 0xA0 8 →
    (let m := leAt (cmdParams b) 0 1
     let ns := leAt (cmdParams b) 4 4 * (if s.tick.running then periodOf s else 4000)
     exec (.twinConfig src) s = .next (if m ≤ 1 ∧ 500000 ≤ ns ∧ ns ≤ 100000000
      then finish src stOk [] { s with tray := { s.tray with
        nextCopyMode := some (BitVec.ofNat 8 m), nextCycle := some (w32 (leAt (cmdParams b) 4 4)), sendDue := true } }
      else finish src stBadParam [] s))) ∧
  (∀ (s : State) (m : Byte) (n : W32), awake s = true → s.tray.own = .active → s.tray.cycleAt + cycleNs s ≤ s.now →
    s.tray.nextCopyMode = some m → s.tray.nextCycle = some n →
    ∃ t, exec .controlCycleEnd s = .next t ∧ t.tray.copyMode = m ∧ t.tray.cycleTicks = n ∧ t.tray.nextCopyMode = none ∧
      t.tray.nextCycle = none) ∧
  (∀ (s : State) (e : W32), leAt (imageOf s e) 28 1 = s.tray.copyMode.toNat ∧
    (cycleInForce s < 4294967296 → leAt (imageOf s e) 24 4 = cycleInForce s)) ∧
  (∀ s : State, ∃ l, sectionBody (trayContents s) 7 =
    [s.tray.nextCopyMode.getD s.tray.copyMode] ++ leBytes 4 (s.tray.nextCycle.getD s.tray.cycleTicks).toNat ++ l) ∧
  (∀ (b p : Bytes), imageFormatOf b = Config.imageFormat → bodyOf (imageSections (leAt b 29 1) (b.drop 64)) 7 = p →
    (imageContents b).copyMode.toNat = leAt p 0 1 ∧ (imageContents b).cycleTicks = w32 (leAt p 1 4)) ∧
  (∀ (s : State) (e : W32) (b : Bytes), (commitEpoch e b s).tray.copyMode = (imageContents b).copyMode ∧
    (commitEpoch e b s).tray.cycleTicks = (imageContents b).cycleTicks ∧ (commitEpoch e b s).tray.committed = some b) ∧
  (∀ (s : State) (c : Instr), (c = .lockstepMismatch ∨ c = .controlWatchdogExpire ∨ c = .controlMemoryFault) →
    awake s = true → s.tray.own = .active →
    ∃ t, exec c s = .next t ∧ t.tray.nextCopyMode = none ∧ t.tray.nextCycle = none ∧
      t.tray.copyMode = s.tray.copyMode ∧ t.tray.cycleTicks = s.tray.cycleTicks)

/-! ### Optics and bring-up (02, 03) -/

/-- A laser sample judges both wavelengths at the source's level; the attenuator inserts 6 dB at the second sample above +20
dBm, closes above +26 dBm at once, and lets go after 1 ms of calm. The two heater loops move by at most 8 codes and stay
within their bounds, or go to the nearer one from outside; they stand still on a dark transmitter, behind a closed
attenuator, after a thermal trip, and the drop loop on a lane whose last block was not rich; a monitor that stays outside
±0.15 of `mod_bias` for 4 µs on any lane of a running port starts a retest, and a shorter excursion or a dark port's does
not. Where the spec leaves a point to the model it follows assumption logs 3, 86, 102 and 136. -/
def Obligations.LasersAndRingLocks : Prop :=
  (∀ (s : State) (i : Nat) (a b : Int), i < 48 → s.lasers.length = 48 →
    ∃ t, exec (.laserMonitorSample i a b) s = .next t ∧
      (laserOf t i).powerA = a ∧ (laserOf t i).powerB = b ∧
      (laserOf t i).lossA = decide (a - (laserOf s i).atten < 50) ∧
      (laserOf t i).lossB = decide (b - (laserOf s i).atten < 50) ∧
      (a > 260 ∨ b > 260 → (laserOf t i).atten = 300) ∧
      (a ≤ 260 → b ≤ 260 → ((200 < a ∧ 1 ≤ (laserOf s i).overRunA) ∨ (200 < b ∧ 1 ≤ (laserOf s i).overRunB)) →
        (laserOf t i).atten = max (laserOf s i).atten 60) ∧
      (a ≤ 200 → b ≤ 200 → (laserOf t i).atten = (laserOf s i).atten) ∧
      (∀ j, j ≠ i → laserOf t j = laserOf s j) ∧ t.ports = s.ports ∧ t.sketch = s.sketch ∧ t.tray = s.tray) ∧
  (∀ (s : State) (i u : Nat), i < 48 → (laserOf s i).calmSince = some u → u + 1000000 ≤ s.now →
    exec (.attenuatorRelease i) s = .next (updLaser i (fun l => { l with atten := 0 }) s)) ∧
  (∀ (s : State) (i : Nat), i < 48 →
    ((laserOf s i).calmSince = none ∨ ∃ u, (laserOf s i).calmSince = some u ∧ s.now < u + 1000000) →
    exec (.attenuatorRelease i) s = .next s) ∧
  (∀ (s : State) (p l : Nat) (aim : Int), p < 96 → l < 8 → s.ports.length = 96 → (portOf s p).lanes.length = 8 →
    transmits s p = true → laserClosed s p = false → nth s.policy.heaterLo (engineOf p) ≤ (laneOf s p l).txHeater.toNat →
    (laneOf s p l).txHeater.toNat ≤ nth s.policy.heaterHi (engineOf p) → nth s.policy.heaterHi (engineOf p) ≤ 4095 →
    ∃ t, exec (.modulatorLockUpdate p l aim) s = .next t ∧
      ((laneOf t p l).txHeater.toNat : Int) = (laneOf s p l).txHeater.toNat + clampInt (-8) 8
        (clampInt (nth s.policy.heaterLo (engineOf p) : Nat) (nth s.policy.heaterHi (engineOf p) : Nat) aim -
          (laneOf s p l).txHeater.toNat) ∧
      nth s.policy.heaterLo (engineOf p) ≤ (laneOf t p l).txHeater.toNat ∧
      (laneOf t p l).txHeater.toNat ≤ nth s.policy.heaterHi (engineOf p) ∧
      (laneOf t p l).rxHeater = (laneOf s p l).rxHeater ∧ (∀ q, q ≠ p → portOf t q = portOf s q)) ∧
  (∀ (s : State) (p l : Nat) (aim : Int), p < 96 → l < 8 → s.ports.length = 96 → (portOf s p).lanes.length = 8 →
    transmits s p = true → laserClosed s p = false → (laneOf s p l).txHeater.toNat < nth s.policy.heaterLo (engineOf p) →
    nth s.policy.heaterLo (engineOf p) ≤ nth s.policy.heaterHi (engineOf p) →
    nth s.policy.heaterHi (engineOf p) ≤ 4095 →
    ∃ t, exec (.modulatorLockUpdate p l aim) s = .next t ∧
      (laneOf t p l).txHeater.toNat = min ((laneOf s p l).txHeater.toNat + 8) (nth s.policy.heaterLo (engineOf p))) ∧
  (∀ (s : State) (p l : Nat) (aim : Int), p < 96 → l < 8 → s.ports.length = 96 → (portOf s p).lanes.length = 8 →
    loopsRun s = true → atFullRate (portOf s p) = true → (laneOf s p l).rich = true →
    nth s.policy.heaterLo (engineOf p) ≤ (laneOf s p l).rxHeater.toNat →
    (laneOf s p l).rxHeater.toNat ≤ nth s.policy.heaterHi (engineOf p) → nth s.policy.heaterHi (engineOf p) ≤ 4095 →
    ∃ t, exec (.dropLockUpdate p l aim) s = .next t ∧
      ((laneOf t p l).rxHeater.toNat : Int) = (laneOf s p l).rxHeater.toNat + clampInt (-8) 8
        (clampInt (nth s.policy.heaterLo (engineOf p) : Nat) (nth s.policy.heaterHi (engineOf p) : Nat) aim -
          (laneOf s p l).rxHeater.toNat) ∧
      nth s.policy.heaterLo (engineOf p) ≤ (laneOf t p l).rxHeater.toNat ∧
      (laneOf t p l).rxHeater.toNat ≤ nth s.policy.heaterHi (engineOf p) ∧
      (laneOf t p l).txHeater = (laneOf s p l).txHeater ∧ (∀ q, q ≠ p → portOf t q = portOf s q)) ∧
  (∀ (s : State) (p l : Nat) (aim : Int), p < 96 → l < 8 → (transmits s p = false ∨ laserClosed s p = true) →
    exec (.modulatorLockUpdate p l aim) s = .next s) ∧
  (∀ (s : State) (p l : Nat) (aim : Int), p < 96 → l < 8 →
    ((laneOf s p l).rich = false ∨ atFullRate (portOf s p) = false ∨ s.boot.thermTrip = true) →
    exec (.dropLockUpdate p l aim) s = .next s) ∧
  (∀ (s : State) (p : Nat), s.boot.thermTrip = true → transmits s p = false) ∧
  (∀ (s : State) (p l : Nat) (x : MonitorRun), p < 96 → l < 8 → s.ports.length = 96 → (portOf s p).state = .running →
    (portOf s p).washing = false → nth s.policy.grace p ≠ 0 → 4000 ≤ x.span → x.readings ≠ [] →
    (∀ r ∈ x.readings, 64 * r + 9600 < 1000 * nth s.policy.modBias (engineOf p) ∨
      1000 * nth s.policy.modBias (engineOf p) + 9600 < 64 * r) →
    ∃ t, exec (.ringLockLoss p l x) s = .next t ∧ (portOf t p).state = .retest ∧ (portOf t p).cause = caRingLock) ∧
  (∀ (s : State) (p l : Nat) (x : MonitorRun), p < 96 → l < 8 →
    ((portOf s p).state ≠ .running ∨ x.span < 4000 ∨ x.readings = [] ∨ (∃ r ∈ x.readings,
      1000 * nth s.policy.modBias (engineOf p) ≤ 64 * r + 9600 ∧ 64 * r ≤ 1000 * nth s.policy.modBias (engineOf p) + 9600)) →
    exec (.ringLockLoss p l x) s = .next s)

/-- The detectors of a lane: a lane in use that loses signal or lock sends a running port into *Retest* with cause
`SIGNAL`; a lane outside the set only counts and reports; what is asserted already changes nothing. A deassertion clears
the detector; of loss of lock at a dark *Absent* port it starts a probe, and of loss of signal at a crossed port it
returns the port to *Listen*. Where the spec leaves a point to the model it follows assumption logs 3 and 20. -/
def Obligations.DetectorsActOnTheLane : Prop :=
  (∀ (s : State) (p l : Nat), p < 96 → l < 8 → (laneOf s p l).los = true → exec (.lossOfSignalAssert p l) s = .next s) ∧
  (∀ (s : State) (p l : Nat), p < 96 → l < 8 → (laneOf s p l).lol = true → exec (.lossOfLockAssert p l) s = .next s) ∧
  (∀ (s : State) (p l : Nat), p < 96 → l < 8 → s.ports.length = 96 → (portOf s p).lanes.length = 8 →
    (portOf s p).state = .running → (portOf s p).washing = false → nth s.policy.grace p ≠ 0 →
    inSet (portOf s p).laneSet l = true →
    (laneOf s p l).los = false →
    ∃ t, exec (.lossOfSignalAssert p l) s = .next t ∧ (laneOf t p l).los = true ∧ (portOf t p).state = .retest ∧
      (portOf t p).cause = caSignal) ∧
  (∀ (s : State) (p l : Nat), p < 96 → l < 8 → s.ports.length = 96 → (portOf s p).lanes.length = 8 →
    (portOf s p).state = .running → (portOf s p).washing = false → nth s.policy.grace p ≠ 0 →
    inSet (portOf s p).laneSet l = true →
    (laneOf s p l).lol = false →
    ∃ t, exec (.lossOfLockAssert p l) s = .next t ∧ (laneOf t p l).lol = true ∧ (portOf t p).state = .retest ∧
      (portOf t p).cause = caSignal) ∧
  (∀ (s : State) (p l : Nat), p < 96 → l < 8 → s.ports.length = 96 → (portOf s p).lanes.length = 8 →
    (portOf s p).state = .running → inSet (portOf s p).laneSet l = false → (laneOf s p l).los = false →
    ∃ t, exec (.lossOfSignalAssert p l) s = .next t ∧ (laneOf t p l).los = true ∧ (laneOf t p l).aligned = false ∧
      (laneOf t p l).losses = (laneOf s p l).losses + 1 ∧ (portOf t p).state = .running ∧
      (portOf t p).admitted = (portOf s p).admitted ∧ (portOf t p).link = (portOf s p).link) ∧
  (∀ (s : State) (p l : Nat), p < 96 → l < 8 → s.ports.length = 96 → (portOf s p).lanes.length = 8 →
    (portOf s p).state = .running → inSet (portOf s p).laneSet l = false → (laneOf s p l).lol = false →
    ∃ t, exec (.lossOfLockAssert p l) s = .next t ∧ (laneOf t p l).lol = true ∧ (laneOf t p l).aligned = false ∧
      (laneOf t p l).losses = (laneOf s p l).losses + 1 ∧ (portOf t p).state = .running ∧
      (portOf t p).admitted = (portOf s p).admitted ∧ (portOf t p).link = (portOf s p).link) ∧
  (∀ (s : State) (p l : Nat), p < 96 → l < 8 → s.ports.length = 96 → (portOf s p).lanes.length = 8 →
    (portOf s p).state ≠ .running → (portOf s p).state ≠ .retest →
    ((portOf s p).state ≠ .miswired ∨ (portOf s p).cause ≠ caCrossed) → (laneOf s p l).los = true →
    exec (.lossOfSignalDeassert p l) s = .next (updLane p l (fun x => { x with los := false, crossed := false }) s)) ∧
  (∀ (s : State) (p l : Nat), p < 96 → l < 8 → s.ports.length = 96 → (portOf s p).lanes.length = 8 →
    (portOf s p).state = .miswired → (portOf s p).cause = caCrossed → (laneOf s p l).los = true →
    ∃ t, exec (.lossOfSignalDeassert p l) s = .next t ∧ (laneOf t p l).los = false ∧ (portOf t p).state = .listen ∧
      (portOf t p).attempt = some (s.now + 10000000)) ∧
  (∀ (s : State) (p l : Nat), p < 96 → l < 8 → s.ports.length = 96 → (portOf s p).lanes.length = 8 →
    (portOf s p).state = .absent →
    (portOf s p).cause ≠ caUnused → (portOf s p).probing = false → (laneOf s p l).lol = true →
    ∃ t, exec (.lossOfLockDeassert p l) s = .next t ∧ (laneOf t p l).lol = false ∧ (portOf t p).probing = true ∧
      (portOf t p).attempt = some (s.now + 10000000) ∧ (portOf t p).state = .absent)

/-- A block of 65,536 symbols is rich or not; only a rich one lets the equalisers move, to their aims within the bounds, and
none moves after a thermal trip. At a window's end each lane in use takes its figure of merit, a loss of signal or lock in the
window coming before it (R55); then the rows of R54 over the port's: protected control begins below `fom_warn` in a window that
is not idle and ends at `fom_good`; a retest starts below `fom_warn` in an idle window, and on the second window below
`fom_retrain`, the first of which is counted. That a window's end at a port that does not run, and a block's end on a lane that
is not at full rate or has no signal, change nothing rests on assumption log 3, and which windows count as idle on log 113. -/
def Obligations.BlocksAndWindowsAdapt : Prop :=
  (∀ (s : State) (p l : Nat) (b : BlockStats), p < 96 → l < 8 → atFullRate (portOf s p) = true →
    (laneOf s p l).los = false → (laneOf s p l).lol = false → (blockRich b = false ∨ s.boot.thermTrip = true) →
    exec (.transitionBlockEnd p l b) s = .next (updLane p l (fun x => { x with rich := blockRich b }) s)) ∧
  (∀ (s : State) (p l : Nat) (b : BlockStats), p < 96 → l < 8 → s.ports.length = 96 → (portOf s p).lanes.length = 8 →
    atFullRate (portOf s p) = true → (laneOf s p l).los = false → (laneOf s p l).lol = false → blockRich b = true →
    s.boot.thermTrip = false →
    ∃ t, exec (.transitionBlockEnd p l b) s = .next t ∧ (laneOf t p l).rich = true ∧
      (laneOf t p l).ctle = BitVec.ofInt 5 (loopGoal (nth s.policy.ctleLo (engineOf p) : Nat)
        (nth s.policy.ctleHi (engineOf p) : Nat) (laneOf s p l).ctle.toNat b.ctleAim) ∧
      (laneOf t p l).dfe = loopGoal (-(nth s.policy.dfeLimit (engineOf p) : Nat) : Int)
        (nth s.policy.dfeLimit (engineOf p) : Nat) (laneOf s p l).dfe b.dfeAim ∧
      (laneOf t p l).slicers = b.slicers ∧ (laneOf t p l).txHeater = (laneOf s p l).txHeater ∧
      (∀ q, q ≠ p → portOf t q = portOf s q)) ∧
  (∀ (s : State) (p l : Nat) (b : BlockStats), p < 96 → l < 8 →
    (atFullRate (portOf s p) = false ∨ (laneOf s p l).los = true ∨ (laneOf s p l).lol = true) →
    exec (.transitionBlockEnd p l b) s = .next s) ∧
  (∀ (s : State) (p : Nat) (st : List FomStats), p < 96 → (portOf s p).state ≠ .running →
    exec (.fomWindowEnd p st) s = .next s) ∧
  (∀ (s : State) (p : Nat) (st : List FomStats), p < 96 → s.ports.length = 96 → (portOf s p).state = .running →
    (let u := storeFoms p st (updPort p (fun q => { q with busyWindow := false }) s)
     exec (.fomWindowEnd p st) s = .next (if laneLost s p then u else judgeFom p (!(portOf s p).busyWindow) u))) ∧
  (∀ (s : State) (p : Nat) (x : FomStats), p < 96 → x.lane < 8 → s.ports.length = 96 → (portOf s p).lanes.length = 8 →
    inSet (portOf s p).laneSet x.lane = true → (laneOf s p x.lane).los = false → (laneOf s p x.lane).lol = false →
    (laneOf (storeFoms p [x] s) p x.lane).fom = BitVec.ofNat 8 (laneFom x.mu x.sigma)) ∧
  (∀ (s : State) (p : Nat), p < 96 → s.ports.length = 96 → (portOf s p).state = .running →
    s.policy.fomRetrain ≤ portFom (portOf s p) → s.policy.fomWarn ≤ portFom (portOf s p) →
    s.policy.fomGood ≤ portFom (portOf s p) → (portOf s p).link.pcReq = true → ∀ i : Bool,
    (portOf (judgeFom p i s) p).link.pcReq = false ∧ (portOf (judgeFom p i s) p).state = .running ∧
      (portOf (judgeFom p i s) p).lowWindows = 0) ∧
  (∀ (s : State) (p : Nat), p < 96 → s.ports.length = 96 → (portOf s p).state = .running →
    s.policy.fomRetrain ≤ portFom (portOf s p) → portFom (portOf s p) < s.policy.fomWarn →
    portFom (portOf s p) < s.policy.fomGood → (portOf s p).link.pcReq = false →
    (portOf (judgeFom p false s) p).link.pcReq = true ∧ (portOf (judgeFom p false s) p).state = .running) ∧
  (∀ (s : State) (p : Nat) (i : Bool), p < 96 → s.ports.length = 96 → (portOf s p).state = .running →
    s.policy.fomRetrain ≤ portFom (portOf s p) → s.policy.fomWarn ≤ portFom (portOf s p) →
    (portFom (portOf s p) < s.policy.fomGood ∨ (portOf s p).link.pcReq = false) →
    judgeFom p i s = updPort p (fun q => { q with lowWindows := 0 }) s) ∧
  (∀ (s : State) (p : Nat), p < 96 → s.ports.length = 96 → (portOf s p).state = .running → (portOf s p).washing = false →
    nth s.policy.grace p ≠ 0 → portFom (portOf s p) < s.policy.fomWarn →
    (portOf (judgeFom p true s) p).state = .retest ∧ (portOf (judgeFom p true s) p).cause = caFom) ∧
  (∀ (s : State) (p : Nat) (i : Bool), p < 96 → s.ports.length = 96 → (portOf s p).state = .running →
    (portOf s p).washing = false → nth s.policy.grace p ≠ 0 → portFom (portOf s p) < s.policy.fomRetrain → 1 ≤ (portOf s p).lowWindows →
    (portOf (judgeFom p i s) p).state = .retest ∧ (portOf (judgeFom p i s) p).cause = caFom) ∧
  (∀ (s : State) (p : Nat), p < 96 → s.ports.length = 96 → (portOf s p).state = .running →
    portFom (portOf s p) < s.policy.fomRetrain → (portOf s p).lowWindows = 0 →
    (portOf (judgeFom p false s) p).state = .running ∧
      (portOf (judgeFom p false s) p).fomDips = (portOf s p).fomDips + 1)

/-- Crossed pairs, probes and attempts: a port whose every pair is crossed and dark is *Miswired*; of some pairs only the
lanes are marked; waits end in probes, which send primer sets; a failed attempt, counted, starts again at once twice, then
the port is *Absent* and waits 20 ms at first. Retest by the far end's ANNOUNCE, its self-test, which sends PRBS31, and with
a grace period of 0 a cold retrain at once; the end of engine calibration, after which the engine's ports listen or, without
a role, stay dark. Calibration puts a drop ring at its resonance and a modulator ring at the lowest code within its bounds
that stands at `mod_bias`, inverted where that lies beyond the resonance; a ring whose resonance is not found within them is
not found. Where the spec leaves a point to the model it follows assumption logs 3, 20, 58, 104 and 110. -/
def Obligations.ProbesAttemptsAndRetests : Prop :=
  (∀ (s : State) (p : Nat), p < 96 → s.ports.length = 96 → (∀ l, l < 8 → (laneOf s p l).los = true) →
    ((portOf s p).state = .listen ∨ ((portOf s p).state = .absent ∧ (portOf s p).cause ≠ caUnused)) →
    (portOf s p).washing = false →
    ∃ t, exec (.pairCrossed p 15) s = .next t ∧ (portOf t p).state = .miswired ∧ (portOf t p).cause = caCrossed ∧
      (portOf t p).wait = some (s.now + 1000000 * nth s.policy.probePeriod p)) ∧
  (∀ (s : State) (p f : Nat) (pairs : BitVec 4), p < 96 → s.ports.length = 96 → (portOf s p).lanes.length = 8 →
    darkPairs (portOf s p) pairs = [f] →
    ∃ t, exec (.pairCrossed p pairs) s = .next t ∧ (laneOf t p (2 * f)).crossed = true ∧
      (laneOf t p (2 * f + 1)).crossed = true ∧ (portOf t p).state = (portOf s p).state) ∧
  (∀ (s : State) (p : Nat) (pairs : BitVec 4), p < 96 → darkPairs (portOf s p) pairs = [] →
    exec (.pairCrossed p pairs) s = .next s) ∧
  (∀ (s : State) (p u : Nat), p < 96 → (portOf s p).state = .miswired → (portOf s p).cause = caCrossed →
    (portOf s p).wait = some u → u ≤ s.now →
    exec (.miswiredProbeStart p) s = .next (sendPrimers p true (updPort p (fun q => { q with
      probing := true, attempt := some (s.now + 10000000), wait := none }) s))) ∧
  (∀ (s : State) (p u : Nat), p < 96 → (portOf s p).state = .absent → (portOf s p).cause ≠ caUnused →
    (portOf s p).wait = some u → u ≤ s.now →
    exec (.probeStart p) s = .next (sendPrimers p true (updPort p (fun q => { q with
      probing := true, attempt := some (s.now + 10000000), wait := none }) s))) ∧
  (∀ (s : State) (p u : Nat), p < 96 → (portOf s p).state = .miswired → (portOf s p).probing = true →
    (portOf s p).attempt = some u → u ≤ s.now →
    exec (.probeExpire p) s = .next (updPort p (fun q => { q with
      probing := false, attempt := none, wait := some (s.now + 1000000 * nth s.policy.probePeriod p) }) s)) ∧
  (∀ (s : State) (p u : Nat), p < 96 → s.ports.length = 96 → (portOf s p).state = .absent → (portOf s p).probing = true →
    (portOf s p).attempt = some u → u ≤ s.now → 2 ≤ (portOf s p).failCount.toNat →
    ∃ t, exec (.probeExpire p) s = .next t ∧ (portOf t p).state = .absent ∧ (portOf t p).probing = false ∧
      (portOf t p).cause = caAttemptTimeout ∧ (portOf t p).wait.isSome = true ∧
      (portOf t p).attempts = (portOf s p).attempts + 1) ∧
  (∀ (s : State) (p u : Nat), p < 96 → s.ports.length = 96 →
    ((portOf s p).state = .listen ∨ (portOf s p).state = .primer ∨ (portOf s p).state = .step) →
    (portOf s p).attempt = some u → u ≤ s.now → (portOf s p).failCount.toNat < 2 →
    ∃ t, exec (.attemptExpire p) s = .next t ∧ (portOf t p).state = .listen ∧
      (portOf t p).failCount.toNat = (portOf s p).failCount.toNat + 1 ∧
      (portOf t p).attempts = (portOf s p).attempts + 1 ∧ (portOf t p).attempt = some (s.now + 10000000)) ∧
  (∀ (s : State) (p u : Nat), p < 96 → s.ports.length = 96 →
    ((portOf s p).state = .listen ∨ (portOf s p).state = .primer ∨ (portOf s p).state = .step) →
    (portOf s p).attempt = some u → u ≤ s.now → (portOf s p).failCount = 2 →
    ∃ t, exec (.attemptExpire p) s = .next t ∧ (portOf t p).state = .absent ∧ (portOf t p).cause = caAttemptTimeout ∧
      (portOf t p).failCount = 3 ∧ (portOf t p).wait = some (s.now + 1000000 * min 20 (nth s.policy.probePeriod p))) ∧
  (∀ (s : State) (p l : Nat) (f : List Level), p < 96 → l < 8 → s.ports.length = 96 → (portOf s p).state = .running →
    (portOf s p).washing = false → nth s.policy.grace p ≠ 0 →
    (let b := frameBytes (laneOf s p l) f
     frameOk b = true → leAt b 8 1 = 2 →
    ∃ t, exec (.announceReceived p l f) s = .next t ∧ (portOf t p).state = .retest ∧
      (portOf t p).cause = caFarAnnounce ∧ (portOf t p).phase = .announce ∧
      (portOf t p).testStart = s.now + 10 * leAt b 12 2 ∧ (portOf t p).underTest = (portOf s p).laneSet)) ∧
  (∀ (s : State) (p l : Nat) (f : List Level), p < 96 → l < 8 → s.ports.length = 96 → (portOf s p).state = .running →
    (portOf s p).washing = false → nth s.policy.grace p = 0 →
    (let b := frameBytes (laneOf s p l) f
     frameOk b = true → leAt b 8 1 = 2 →
    ∃ t, exec (.announceReceived p l f) s = .next t ∧ (portOf t p).state = .listen ∧
      (portOf t p).cause = caGraceExpired ∧ (portOf t p).admitted = false)) ∧
  (∀ (s : State) (p l : Nat) (f : List Level), p < 96 → l < 8 →
    (frameOk (frameBytes (laneOf s p l) f) = false ∨ (portOf s p).state ≠ .running) →
    exec (.announceReceived p l f) s = .next s) ∧
  (∀ (s : State) (p : Nat), p < 96 → (portOf s p).phase = .announce → (portOf s p).testStart ≤ s.now →
    exec (.retestSelftestStart p) s = .next (forEach (maskList 8 (portOf s p).underTest.toNat) (sendPrbs p)
      (updPort p (fun q => { q with phase := .selftest, phaseAt := s.now }) s))) ∧
  (∀ (s : State) (e : Nat) (c : EngineCal), e < 12 → c.tickInOk = true → s.ports.length = 96 → s.boot.easelReady = true →
    calibrated s e = false → (∀ k, k < 8 → (portOf s (8 * e + k)).state ≠ .running ∧
      (portOf s (8 * e + k)).washing = false) →
    ∃ t, exec (.engineCalibrationComplete e c) s = .next t ∧
      (∀ k, k < 8 → (portOf t (8 * e + k)).calibrated = true ∧
        (portOf t (8 * e + k)).state = if (roleOf s (8 * e + k)).role = 0 then .absent else .listen) ∧
      (∀ p, p < 96 → p / 8 ≠ e → portOf t p = portOf s p) ∧ t.tick.inputDelay = c.tickIn) ∧
  (∀ (s : State) (e : Nat) (c : EngineCal), e < 12 → c.tickInOk = true → s.boot.easelReady = false →
    exec (.engineCalibrationComplete e c) s = .next s) ∧
  (∀ (lo hi bias cl ch pk : Nat) (tx rx : RingSweep) (a : Lane), hi ≤ 4095 →
    (let b := calibrateLane lo hi bias cl ch tx rx pk a
     (∀ r, tx.resonance = some r → lo ≤ r → r ≤ hi →
       (∀ c, reachesBias bias lo (tx.light.take (hi + 1 - lo)) = some c →
         b.txFound = true ∧ b.txHeater.toNat = c ∧ b.txShort = decide (r < c) ∧ lo ≤ c ∧ c ≤ hi)) ∧
     ((tx.resonance = none ∨ ∃ r, tx.resonance = some r ∧ (r < lo ∨ hi < r)) → b.txFound = false) ∧
     (∀ r, rx.resonance = some r → lo ≤ r → r ≤ hi → b.rxFound = true ∧ b.rxHeater.toNat = r) ∧
     ((rx.resonance = none ∨ ∃ r, rx.resonance = some r ∧ (r < lo ∨ hi < r)) → b.rxFound = false))) ∧
  (∀ (bias lo c : Nat) (l : List Nat), reachesBias bias lo l = some c →
    ∃ i, i < l.length ∧ c = lo + i ∧ (∀ j, j < i → 64 * l.getD j 0 ≠ 1000 * bias) ∧
      (64 * l.getD i 0 = 1000 * bias ∨ (1 ≤ i ∧
        ((64 * l.getD (i - 1) 0 < 1000 * bias ∧ 1000 * bias < 64 * l.getD i 0) ∨
          (1000 * bias < 64 * l.getD (i - 1) 0 ∧ 64 * l.getD i 0 < 1000 * bias)))))

/-- A primer set is decoded and judged on its lane: one that fails its CRC is counted and ignored, and one that passes on an
aligned lane acts by its type: IDENT, which sets the verdict, fails the attempt where it is a bad offer in *Primer* (log
170), whose wiring faults, and failing those whose wrong peer, lead to *Miswired* (log 155), which a later one leaves or
gives its cause, and whose terms are agreed; TIME, whose 64 samples give the link delay, of times modulo 2^48; STEP, which
the follower answers on all eight lanes with the same `count`. The port's own next set leaves after it, and on the lowest
aligned lane the measurement lane's where that receives nothing. That a port which hears no primer ignores a set rests on
assumption log 3; where the spec leaves another point to the model it follows logs 18, 22 and 101. -/
def Obligations.PrimerSetsAct : Prop :=
  (∀ (s : State) (p l : Nat) (x : PrimerSet) (arrival : Nat), p < 96 → l < 8 →
    (hearsPrimer (portOf s p) = false ∨ (laneOf s p l).los = true ∨ (laneOf s p l).lol = true) →
    exec (.identSetReceived p l x) s = .next s ∧ exec (.timeSetReceived p l x arrival) s = .next s ∧
      exec (.stepSetReceived p l x) s = .next s) ∧
  (∀ (s : State) (p l : Nat) (x : PrimerSet), p < 96 → l < 8 → hearsPrimer (portOf s p) = true →
    (laneOf s p l).los = false → (laneOf s p l).lol = false → (laneOf s p l).aligned = false →
    (let d := decodeSet (laneOf s p l).polarityInv x
     let n := alignStep (laneOf s p l) d
     setPasses d = false → n.aligned = false →
     exec (.identSetReceived p l x) s =
      .next (updPort p (fun q => { q with setErrors := q.setErrors + 1 }) (updLane p l (fun _ => n) s)))) ∧
  (∀ (s : State) (p l : Nat) (x : PrimerSet), p < 96 → l < 8 → hearsPrimer (portOf s p) = true →
    (laneOf s p l).los = false → (laneOf s p l).lol = false →
    (let d := decodeSet (laneOf s p l).polarityInv x
     let n := alignStep (laneOf s p l) d
     let u := takeIdent p l (setContent d) (laneAligned p (updLane p l (fun _ => n) s))
     n.aligned = true → setPasses d = true → setType d = 1 →
     exec (.identSetReceived p l x) s = .next (when (sendsPrimer u p) (sendNext p l) u))) ∧
  (∀ (s : State) (p : Nat) (c : Bytes) (cause : W16), s.ports.length = 96 → p < 96 → (portOf s p).state = .primer →
    (portOf s p).washing = false → badOffer c = false → wiringFault s p (identsOf (portOf s p)) = some cause →
    (portOf (judgeIdent p c s) p).state = .miswired ∧ (portOf (judgeIdent p c s) p).cause = cause ∧
      (portOf (judgeIdent p c s) p).admitted = false ∧ (portOf (judgeIdent p c s) p).verdict = verdictOf s p) ∧
  (∀ (s : State) (p : Nat) (c : Bytes), s.ports.length = 96 → p < 96 → (portOf s p).state = .primer →
    (portOf s p).washing = false → badOffer c = false → wiringFault s p (identsOf (portOf s p)) = none →
    verdictOf s p = .fail →
    (portOf (judgeIdent p c s) p).state = .miswired ∧ (portOf (judgeIdent p c s) p).cause = caWrongPeer ∧
      (portOf (judgeIdent p c s) p).admitted = false ∧ (portOf (judgeIdent p c s) p).verdict = .fail) ∧
  (∀ (s : State) (p : Nat) (c : Bytes), s.ports.length = 96 → p < 96 → (portOf s p).state = .miswired →
    (let f := wiringFault s p (identsOf (portOf s p))
     let t := judgeIdent p c s
     (portOf t p).verdict = verdictOf s p ∧
      (∀ cause, f = some cause → (portOf t p).state = .miswired ∧ (portOf t p).cause = cause) ∧
      (f = none → verdictOf s p = .fail → (portOf t p).state = .miswired ∧ (portOf t p).cause = caWrongPeer) ∧
      (f = none → verdictOf s p ≠ .fail → (portOf t p).state = .primer ∧ (portOf t p).mapValid = true))) ∧
  (∀ (s : State) (p : Nat) (c : Bytes), (portOf s p).state = .primer → badOffer c = true →
    judgeIdent p c s = failAttempt p caBadOffer (updPort p (fun q => { q with verdict := verdictOf s p }) s)) ∧
  (∀ (s : State) (p : Nat) (c : Bytes), s.ports.length = 96 → p < 96 → (portOf s p).state = .primer →
    badOffer c = false → wiringFault s p (identsOf (portOf s p)) = none → mapStraight (identsOf (portOf s p)) = true →
    verdictOf s p ≠ .fail →
    (let t := judgeIdent p c s
     (portOf t p).state = .primer ∧ (portOf t p).mapValid = true ∧ (portOf t p).verdict = verdictOf s p ∧
      (portOf t p).gen = BitVec.ofNat 2 (min 2 (portOf s p).farGenMax.toNat) ∧
      (portOf t p).effWidth = max (nth s.policy.minWidth p) (portOf s p).farMinWidth.toNat ∧
      (portOf t p).lanes = (portOf s p).lanes)) ∧
  (∀ (s : State) (p l : Nat) (x : PrimerSet) (arrival : Nat), p < 96 → l < 8 → s.ports.length = 96 →
    (portOf s p).state = .primer → (portOf s p).calibrated = true → (portOf s p).samples < 64 →
    (laneOf s p l).los = false → (laneOf s p l).lol = false →
    (let d := decodeSet (laneOf s p l).polarityInv x
     (alignStep (laneOf s p l) d).aligned = true → setPasses d = true → setType d = 2 → leAt (setContent d) 6 6 ≠ 0 →
    ∃ t, exec (.timeSetReceived p l x arrival) s = .next t ∧ (portOf t p).samples = (portOf s p).samples + 1 ∧
      (portOf t p).delaySum = (portOf s p).delaySum +
        ((arrival : Int) - leAt (setContent d) 6 6 - leAt (setContent d) 12 4).bmod (2 ^ 48) ∧
      ((portOf s p).samples = 63 →
        (portOf t p).linkDelay = w16 (min 65534 (delayOf (portOf t p).delaySum))) ∧
      (portOf t p).lastTxAt = arrival ∧ (portOf t p).state = .primer)) ∧
  (∀ (s : State) (p l : Nat) (x : PrimerSet), p < 96 → l < 8 → s.ports.length = 96 →
    (portOf s p).state = .primer → (portOf s p).calibrated = true → s.boot.thermTrip = false → isLeader s p = false →
    (laneOf s p l).los = false → (laneOf s p l).lol = false →
    (let d := decodeSet (laneOf s p l).polarityInv x
     (alignStep (laneOf s p l) d).aligned = true → setPasses d = true → setType d = 3 →
     exec (.stepSetReceived p l x) s = .next (updPort p (fun q => { q with stepCount := some (leAt (setContent d) 0 1) })
      (sendStep p (leAt (setContent d) 0 1) (updLane p l (fun _ => alignStep (laneOf s p l) d) s))))) ∧
  (∀ (s : State) (p n : Nat), sendStep p n s = forEach (List.range 8) (fun l => sendSet p l 0x03
    [BitVec.ofNat 8 n, BitVec.ofNat 8 (portOf s p).gen.toNat, BitVec.ofNat 8 l]) s ∧
    (transmits s p = true → (sendStep p n s).out.length = s.out.length + 8))

/-- The rate step and its phases: the leader, when ready at both ends, sends STEP sets of `count` 63 down to 0, and each end
enters *Step*: acquisition, testing the lanes in use where the retrain is warm and all eight where it is cold; after
100 µs the self-test, then the report; the first lane set of R58 that is usable is taken and the slot stream starts; the
far stream, framed within the skew limit, makes the port run: cold with its sequences and credits anew, warm as it was.
The ways a phase fails: no report, no usable set, no resume: a failed attempt in *Step*, a return to *Listen* from
*Retest*. A good report frame judges its lane. Where the spec leaves a point to the model it follows assumption logs
3, 20, 22 and 108. -/
def Obligations.StepPhases : Prop :=
  (∀ (s : State) (p : Nat), p < 96 → (portOf s p).state = .primer →
    (isLeader s p = false → (portOf s p).stepCount = some 0 → exec (.rateStep p) s = .next (enterStep p s)) ∧
    (isLeader s p = true → (portOf s p).ready = true → (portOf s p).farReady = true →
      exec (.rateStep p) s = .next (enterStep p (forEach (List.range 64) (fun i => sendStep p (63 - i)) s))) ∧
    (isLeader s p = true → ((portOf s p).ready = false ∨ (portOf s p).farReady = false) →
      exec (.rateStep p) s = .next s) ∧
    (isLeader s p = false → (portOf s p).stepCount ≠ some 0 → exec (.rateStep p) s = .next s)) ∧
  (∀ (s : State) (p : Nat), p < 96 → s.ports.length = 96 → (portOf (enterStep p s) p).state = .step ∧
    (portOf (enterStep p s) p).phase = .acquisition ∧ (portOf (enterStep p s) p).phaseAt = s.now ∧
    (portOf (enterStep p s) p).underTest = (if warmOk (portOf s p) then (portOf s p).laneSet else 0xFF) ∧
    (portOf (enterStep p s) p).effWidth = ownWidth s p) ∧
  (∀ (s : State) (p : Nat), p < 96 → (portOf s p).phase = .acquisition → (portOf s p).phaseAt + 100000 ≤ s.now →
    exec (.acquisitionEnd p) s = .next (updPort p (fun q => { q with phase := .selftest, phaseAt := s.now }) s)) ∧
  (∀ (s : State) (p : Nat), p < 96 → s.ports.length = 96 → (portOf s p).phase = .selftest →
    (portOf s p).phaseAt + windowNs (portOf s p).gen ≤ s.now →
    ∃ t, exec (.selftestWindowEnd p) s = .next t ∧ (portOf t p).phase = .report ∧ (portOf t p).phaseAt = s.now ∧
      (portOf t p).state = (portOf s p).state) ∧
  (∀ (s : State) (p : Nat) (m : BitVec 8), p < 96 → s.ports.length = 96 → (portOf s p).phase = .report →
    (portOf s p).phaseAt + 640 ≤ s.now → (portOf s p).finalSent = true → (portOf s p).finalSeen = true →
    ((portOf s p).warm = false ∨ warmOk (portOf s p) = true) →
    chooseSet (usableSet (portOf s p)) (portOf s p).effWidth ((portOf s p).features.getLsbD 0)
      ((portOf s p).features.getLsbD 1) = some m →
    ∃ t, exec (.reportPhaseEnd p) s = .next t ∧ (portOf t p).laneSet = m ∧ (portOf t p).phase = .resume ∧
      (portOf t p).phaseAt = s.now ∧ (portOf t p).state = (portOf s p).state ∧ (portOf t p).link.resumeRun = true) ∧
  (∀ (s : State) (p : Nat) (k : List Int), p < 96 → s.ports.length = 96 → (portOf s p).phase = .resume →
    skewOk (portOf s p) k = true → warmOk (portOf s p) = false →
    ∃ t, exec (.slotStreamFramed p k) s = .next t ∧ (portOf t p).state = .running ∧ (portOf t p).admitted = false ∧
      (portOf t p).seqHeld = true ∧ (portOf t p).failCount = 0 ∧ (portOf t p).link.credCum = coldCredits s p ∧
      (portOf t p).link.nxtB = 0 ∧ (portOf t p).link.retryB = []) ∧
  (∀ (s : State) (p : Nat) (k : List Int), p < 96 → s.ports.length = 96 → (portOf s p).phase = .resume →
    skewOk (portOf s p) k = true → warmOk (portOf s p) = true →
    ∃ t, exec (.slotStreamFramed p k) s = .next t ∧ (portOf t p).state = .running ∧
      (portOf t p).admitted = (portOf s p).admitted ∧ (portOf t p).link.nxtB = (portOf s p).link.nxtB ∧
      (portOf t p).link.expB = (portOf s p).link.expB ∧ (portOf t p).link.retryB = (portOf s p).link.retryB ∧
      (portOf t p).link.resumeB = true ∧ ((portOf s p).admitted = true → (portOf t p).grace = none)) ∧
  (∀ (s : State) (p : Nat) (k : List Int), p < 96 → ((portOf s p).phase ≠ .resume ∨ skewOk (portOf s p) k = false) →
    exec (.slotStreamFramed p k) s = .next s) ∧
  (∀ (s : State) (p : Nat), p < 96 → s.ports.length = 96 → (portOf s p).phase = .report →
    (portOf s p).phaseAt + 5000 ≤ s.now → ((portOf s p).finalSent = false ∨ (portOf s p).finalSeen = false) →
    (portOf s p).state = .retest →
    ∃ t, exec (.reportTimeout p) s = .next t ∧ (portOf t p).state = .listen ∧ (portOf t p).cause = caNoReport ∧
      (portOf t p).failCount = (portOf s p).failCount) ∧
  (∀ (s : State) (p : Nat), p < 96 → s.ports.length = 96 → (portOf s p).phase = .resume →
    (portOf s p).phaseAt + 2000 ≤ s.now → (portOf s p).state = .step → (portOf s p).failCount = 0 →
    ∃ t, exec (.resumeTimeout p) s = .next t ∧ (portOf t p).state = .listen ∧ (portOf t p).cause = caNoResume ∧
      (portOf t p).failCount = 1) ∧
  (∀ (s : State) (p : Nat), p < 96 → s.ports.length = 96 → (portOf s p).phase = .report →
    (portOf s p).phaseAt + 640 ≤ s.now → (portOf s p).finalSent = true → (portOf s p).finalSeen = true →
    ((portOf s p).warm = false ∨ warmOk (portOf s p) = true) → (portOf s p).state = .retest →
    chooseSet (usableSet (portOf s p)) (portOf s p).effWidth ((portOf s p).features.getLsbD 0)
      ((portOf s p).features.getLsbD 1) = none →
    ∃ t, exec (.reportPhaseEnd p) s = .next t ∧ (portOf t p).state = .listen ∧ (portOf t p).cause = caLanesExhausted) ∧
  (∀ (s : State) (p l : Nat) (f : List Level) (c : LaneCheck), p < 96 → l < 8 → s.ports.length = 96 →
    (portOf s p).lanes.length = 8 → ((portOf s p).phase = .selftest ∨ (portOf s p).phase = .report) →
    inSet (portOf s p).underTest l = true → (laneOf s p l).judged = false →
    (let b := frameBytes (laneOf s p l) f
     frameOk b = true → leAt b 8 1 = 1 →
    ∃ t, exec (.reportFrameReceived p l f [c]) s = .next t ∧ (laneOf t p l).judged = true ∧
      (laneOf t p l).rxPass = lanePasses s (laneOf s p l) (some c) ∧ (portOf t p).linkTag = w32 (leAt b 14 4) ∧
      (bitOf (leAt b 11 1) 0 = true → (portOf t p).finalSeen = true ∧
        (portOf t p).farRxPass = BitVec.ofNat 8 (leAt b 9 1)) ∧
      (portOf t p).farChipTag = (portOf s p).farChipTag ∧ (portOf t p).state = (portOf s p).state)) ∧
  (∀ (s : State) (p l : Nat) (f : List Level) (c : List LaneCheck), p < 96 → l < 8 →
    frameOk (frameBytes (laneOf s p l) f) = false →
    exec (.reportFrameReceived p l f c) s = .next s)

/-! ### The link and the switch (04, 06) -/

/-- A slot leaves a port that streams: markers before slot 0, then a C-run or a D-block by R116. An idle D-block takes no
number, one that carries flits takes the next and is kept, a replay leaves under its own; a C-run carries every credit
count. A slot received: a port that does not run ignores it; its type follows from its distance; a decoded D-block is judged
by its number: the next one is accepted, an old one is discarded, counted as an errored slot and acknowledged again, a later
one asks for a retry, as one that cannot be decoded does; an undecided slot asks for both retries. An entry to replay that
reads uncorrectable forces a cold retrain. As a cell is read to leave, a header that its lookup record cannot mend ends the
packet, a bad payload word acts on it, a unicast packet under way ending at that cell unless it has left, and a word found
uncorrectable reads so again. That the time of a slot on a port that does not stream, and a slot at a port that does not
run, change nothing rests on assumption log 3, that the multicast copies under way of a lost header end VOID on log 156;
where the spec leaves another point to the model it follows logs 22, 33, 34, 111 and 112. -/
def Obligations.SlotsLeaveAndArrive : Prop :=
  (∀ (s : State) (p : Nat) (l : List (Nat × CellRead)) (e : WordError), p < 96 →
    (streams (portOf s p) = false ∨ s.boot.thermTrip = true) → exec (.slotBoundary p l e) s = .next s) ∧
  (∀ (s : State) (p : Nat) (l : List (Nat × CellRead)) (e : WordError), p < 96 → streams (portOf s p) = true →
    s.boot.thermTrip = false → replayingB (portOf s p) = false → replayingC (portOf s p) = false →
    exec (.slotBoundary p l e) s = .next (noteReplayed p
      (if chooseC (sendMarkers p s) p then sendC l p (sendMarkers p s) else sendD l p (sendMarkers p s)))) ∧
  (∀ (s : State) (p : Nat) (l : List (Nat × CellRead)) (e : WordError), p < 96 → streams (portOf s p) = true →
    s.boot.thermTrip = false → (replayingB (portOf s p) = true ∨ replayingC (portOf s p) = true) → replayMarked s p = false →
    (let u := sramRead 3 e s
     (eccOf e ≠ .uncorrectable → exec (.slotBoundary p l e) s = .next (noteReplayed p
       (if chooseC (sendMarkers p u) p then sendC l p (sendMarkers p u) else sendD l p (sendMarkers p u)))) ∧
     (eccOf e = .uncorrectable → exec (.slotBoundary p l e) s = .next (coldRetrain p caSelftest u)))) ∧
  (∀ (s : State) (p : Nat) (bad : List (Nat × CellRead)), p < 96 → s.ports.length = 96 → replayingB (portOf s p) = false →
    canNewB (portOf s p) = false →
    (portOf (sendD bad p s) p).link.nxtB = (portOf s p).link.nxtB ∧
      (portOf (sendD bad p s) p).link.retryB = (portOf s p).link.retryB ∧
      (portOf (sendD bad p s) p).link.txSlots = ((portOf s p).link.txSlots + 1) % 16384 ∧
      (∃ l, (sendD bad p s).out = .slot p l :: s.out) ∧ (sendD bad p s).switch = s.switch) ∧
  (∀ (s : State) (p : Nat) (bad : List (Nat × CellRead)), p < 96 → s.ports.length = 96 → replayingB (portOf s p) = false →
    canNewB (portOf s p) = true → (fillFlits bad p 5 s).2.all (fun f => f.kind = 0) = false →
    (portOf (sendD bad p s) p).link.nxtB = (portOf s p).link.nxtB + 1 ∧
      (portOf (sendD bad p s) p).link.retryB =
        (portOf (fillFlits bad p 5 s).1 p).link.retryB ++ [((portOf s p).link.nxtB, (fillFlits bad p 5 s).2)]) ∧
  (∀ (s : State) (p : Nat) (bad : List (Nat × CellRead)) (n : W16), p < 96 → s.ports.length = 96 → replayingB (portOf s p) = true →
    (portOf s p).link.replayB = some n →
    (portOf (sendD bad p s) p).link.nxtB = (portOf s p).link.nxtB ∧
      (portOf (sendD bad p s) p).link.retryB = (portOf s p).link.retryB ∧
      (portOf (sendD bad p s) p).link.replayB = nextSeq n (portOf s p).link.nxtB ∧
      (∃ l, (sendD bad p s).out = .slot p l :: s.out)) ∧
  (∀ (s : State) (p : Nat) (bad : List (Nat × CellRead)), p < 96 → s.ports.length = 96 →
    (portOf (sendC bad p s) p).link.sentCred = (portOf (sendC bad p s) p).link.credCum ∧
      (portOf (sendC bad p s) p).link.nakB = false ∧ (portOf (sendC bad p s) p).link.nakC = false ∧
      (portOf (sendC bad p s) p).link.ackDueB = false ∧ (portOf (sendC bad p s) p).link.ackDueC = false ∧
      (portOf (sendC bad p s) p).link.lastCrun = s.now ∧ (portOf (sendC bad p s) p).link.resumeRun = false ∧
      ((portOf s p).link.pcOn = true → (∃ l, (sendC bad p s).out = .slot p l :: s.out) ∧
        (sendC bad p s).switch = s.switch)) ∧
  (∀ (s : State) (p n : Nat) (l : List (List Level)), p < 96 → (portOf s p).state ≠ .running →
    exec (.slotReceived p l n) s = .next s) ∧
  (∀ (s : State) (p n : Nat) (l : List (List Level)), p < 96 → s.ports.length = 96 → (portOf s p).state = .running →
    typeDistance (slotSymbols (portOf s p) l) = 10 →
    ∃ t, exec (.slotReceived p l n) s = .next t ∧ (portOf t p).link.wantB = true ∧ (portOf t p).link.wantC = true ∧
      (portOf t p).link.rxSymbol = (portOf s p).link.rxSymbol + 1090 ∧ (portOf t p).link.expB = (portOf s p).link.expB ∧
      t.switch = s.switch) ∧
  (∀ (s : State) (p n : Nat) (l : List (List Level)), p < 96 → (portOf s p).state = .running →
    (let x := slotSymbols (portOf s p) l
     let k := (portOf s p).link
     let scr := if k.rxSymbol / 1090 % 16384 = 0 then BitVec.allOnes 31 else k.rxScr
     let r := decodeD scr x
     let u := countCorrected p k.rxSymbol r.2.2 (updLink p (fun k => { k with rxScr := r.1 })
       (updLink p (fun k => { k with rxSymbol := k.rxSymbol + 1090 }) s))
     let v := updLink p (fun k => { k with rxScr := (decodeC scr x).1 })
       (updLink p (fun k => { k with rxSymbol := k.rxSymbol + 1090 }) s)
     (typeDistance x ≤ 9 → r.2.1 = none → exec (.slotReceived p l n) s = .next (discardBlock p u)) ∧
     (∀ b, typeDistance x ≤ 9 → r.2.1 = some b →
       exec (.slotReceived p l n) s = .next (noteReplayed p (receiveD p n b
         (observeIdle p k.rxSymbol (scramble scr ((x.drop 2).take 1028)).2 b u)))) ∧
     (11 ≤ typeDistance x → exec (.slotReceived p l n) s = .next (noteReplayed p (receiveC p n (decodeC scr x).2 v))))) ∧
  (∀ (s : State) (p n : Nat) (b : Bytes) (fl : List Flit), parseFlits (chunks 256 5 (b.drop 5)) = some fl →
    s.ports.length = 96 → p < 96 →
    (let h := parseDHeader b
     let u := takeReturn p h.retKind h.retValue (takeCarriage p h.pcReq h.pcOn s)
     let e := (portOf s p).link.expB
     let r := acceptFlits p n fl (linkCount p 2 1 (updLink p (fun k => { k with
       expB := k.expB + 1, ackDueB := true, wantB := false, nakB := false }) (noteBusy p u)))
     (fl.all (fun f => f.kind = 0) = true → receiveD p n b s = u) ∧
     (fl.all (fun f => f.kind = 0) = false → h.bseq = e → receiveD p n b s = when r.2 (noteErrored p) r.1) ∧
     (fl.all (fun f => f.kind = 0) = false → 1 ≤ (e - h.bseq).toNat → (e - h.bseq).toNat ≤ 32767 →
       receiveD p n b s = noteErrored p (updLink p (fun k => { k with ackDueB := true }) (noteBusy p u))) ∧
     (fl.all (fun f => f.kind = 0) = false → 32767 < (e - h.bseq).toNat →
       receiveD p n b s = noteErrored p (requestB p (noteBusy p u))))) ∧
  (∀ (s : State) (p n : Nat) (b : Bytes), parseFlits (chunks 256 5 (b.drop 5)) = none → s.ports.length = 96 → p < 96 →
    (portOf (receiveD p n b s) p).link.wantB = true ∧ (portOf (receiveD p n b s) p).link.expB = (portOf s p).link.expB ∧
      (receiveD p n b s).switch = s.switch) ∧
  (∀ (s : State) (p v id : Nat) (st : Stored) (c : Copy) (r : CellRead) (l : List (Nat × CellRead)),
    readyCell s p v = some (id, st, c) → copyEnds st c = false → l.find? (fun x => x.1 = id) = some (id, r) →
    (let e := cellWord s id c.sent r.cell
     (c.sent = 0 → headerLost e r.record = false → readAhead l p v s = readHeader id e r.record s) ∧
     (c.sent = 0 → headerLost e r.record = true → readAhead l p v s = headerGone id (readHeader id e r.record s)) ∧
     (c.sent ≠ 0 → eccOf e ≠ .uncorrectable → readAhead l p v s = readCell id c.sent e s) ∧
     (c.sent ≠ 0 → eccOf e = .uncorrectable → e.marked = false →
       readAhead l p v s = badPayload id c.sent (readCell id c.sent e s)))) ∧
  (∀ (st : Stored) (c : Copy), copyEnds st c = true ↔ (c.cut = true ∧ c.endAt ≤ c.sent) ∨ st.cells ≤ c.sent) ∧
  (∀ (s : State) (id n : Nat) (st : Stored) (c : Copy), packetOf s id = some st → st.multicast = false → st.copies = [c] →
    0 < c.sent → n < st.cells → st.voided = false →
    (let t := badPayload id n s
     (c.sent ≤ n → (packetOf t id).map (fun x => (x.cells, x.cut, x.complete, x.copies)) = some (n, true, true, [c]) ∧
       t.switch.ctr = bump 21 1 s.switch.ctr) ∧
     (n < c.sent → packetOf t id = some st ∧ t.switch.ctr = s.switch.ctr))) ∧
  (∀ (s : State) (id n : Nat) (e : WordError), eccOf e = .uncorrectable → inMemory e = true →
    cellWord (readCell id n e s) id n {} = { marked := true }) ∧
  (∀ (s : State) (id : Nat) (st : Stored), packetOf s id = some st →
    (st.copies.all (fun c => c.sent = 0) = true → headerGone id s = discardCounted id 22 s) ∧
    (st.copies.all (fun c => c.sent = 0) = false → ∀ u, packetOf (headerGone id s) id = some u →
      u.copies.all (fun c => c.cut && decide (c.sent ≠ 0)) = true))

/-- Alignment markers and the link's timers: a right marker is counted, the second bad one in a row on a lane starts a
retest; the oldest item without progress for `ack_timeout` is replayed, and the third time a retest starts. One credit of
a stored packet is released when its queue is below its threshold, a free cell is there, no earlier cell of its queue that
could go is owed one and the port's backlog is short; a queue at its threshold defers it, and so does a long backlog, each
counted. The grace period's end withdraws what it kept, and a retest in progress becomes a cold retrain. Where the spec
leaves a point to the model it follows assumption logs 3, 19, 108 and, for the marker that must be right symbol by symbol,
143. -/
def Obligations.MarkersTimersAndCredits : Prop :=
  (∀ (s : State) (p l : Nat) (m : List Level) (o : Int), p < 96 → l < 8 → (portOf s p).state = .running →
    inSet (portOf s p).laneSet l = true → o.natAbs ≤ 2 →
    levelsToSymbols 8 (invertLevels (laneOf s p l).polarityInv m) =
      markerSymbols (logicalLane (portOf s p).laneSet l) (widthOf (portOf s p).laneSet) (nth (portOf s p).link.rxMarkers l) →
    exec (.alignmentMarkerReceived p l m o) s = .next (updLane p l (fun a => { a with markerBad := false })
      (updLink p (fun k => { k with rxMarkers := k.rxMarkers.modify l (· + 1) }) s))) ∧
  (∀ (s : State) (p l : Nat) (m : List Level) (o : Int), p < 96 → l < 8 → s.ports.length = 96 →
    (portOf s p).lanes.length = 8 →
    (portOf s p).state = .running → inSet (portOf s p).laneSet l = true →
    (2 < o.natAbs ∨ levelsToSymbols 8 (invertLevels (laneOf s p l).polarityInv m) ≠
      markerSymbols (logicalLane (portOf s p).laneSet l) (widthOf (portOf s p).laneSet) (nth (portOf s p).link.rxMarkers l)) →
    (laneOf s p l).markerBad = false →
    ∃ t, exec (.alignmentMarkerReceived p l m o) s = .next t ∧ (laneOf t p l).markerBad = true ∧
      (portOf t p).state = .running ∧ (portOf t p).ctr = bump 15 1 (portOf s p).ctr) ∧
  (∀ (s : State) (p l : Nat) (m : List Level) (o : Int), p < 96 → l < 8 → s.ports.length = 96 →
    (portOf s p).state = .running → (portOf s p).washing = false → nth s.policy.grace p ≠ 0 →
    inSet (portOf s p).laneSet l = true →
    (2 < o.natAbs ∨ levelsToSymbols 8 (invertLevels (laneOf s p l).polarityInv m) ≠
      markerSymbols (logicalLane (portOf s p).laneSet l) (widthOf (portOf s p).laneSet) (nth (portOf s p).link.rxMarkers l)) →
    (laneOf s p l).markerBad = true →
    ∃ t, exec (.alignmentMarkerReceived p l m o) s = .next t ∧ (portOf t p).state = .retest ∧
      (portOf t p).cause = caSignal) ∧
  (∀ (s : State) (p : Nat), p < 96 → (portOf s p).state = .running →
    ((portOf s p).link.retryB ≠ [] → (portOf s p).link.progressB + 1000 * s.policy.ackTimeout ≤ s.now →
      (portOf s p).link.timeoutsB < 2 →
      exec (.ackTimeout p .d) s = .next (linkCount p 11 1 (updLink p (fun k => { k with
        replayB := some k.unaB, timeoutsB := k.timeoutsB + 1, progressB := s.now }) s))) ∧
    ((portOf s p).link.retryC ≠ [] → (portOf s p).link.progressC + 1000 * s.policy.ackTimeout ≤ s.now →
      (portOf s p).link.timeoutsC < 2 →
      exec (.ackTimeout p .c) s = .next (linkCount p 11 1 (updLink p (fun k => { k with
        replayC := some k.unaC, timeoutsC := k.timeoutsC + 1, progressC := s.now }) s)))) ∧
  (∀ (s : State) (p : Nat), p < 96 → s.ports.length = 96 → (portOf s p).state = .running → (portOf s p).washing = false →
    nth s.policy.grace p ≠ 0 →
    (portOf s p).link.retryC ≠ [] → (portOf s p).link.progressC + 1000 * s.policy.ackTimeout ≤ s.now →
    (portOf s p).link.timeoutsC = 2 →
    ∃ t, exec (.ackTimeout p .c) s = .next t ∧ (portOf t p).state = .retest ∧ (portOf t p).cause = caSignal) ∧
  (∀ (s : State) (p : Nat), p < 96 → (portOf s p).link.retryB = [] → exec (.ackTimeout p .d) s = .next s) ∧
  (∀ (s : State) (p : Nat), p < 96 → (portOf s p).state = .running →
    exec (.retryRequestRepeat p .d) s = .next (updLink p (fun k =>
      if k.wantB && decide (k.nakAtB + 1000 ≤ s.now) then { k with nakB := true, nakAtB := s.now } else k) s) ∧
    exec (.retryRequestRepeat p .c) s = .next (updLink p (fun k =>
      if k.wantC && decide (k.nakAtC + 1000 ≤ s.now) then { k with nakC := true, nakAtC := s.now } else k) s)) ∧
  (∀ (s : State) (id p : Nat) (st : Stored), packetOf s id = some st → st.ingress = some p → st.released < st.cells →
    (portOf s p).washing = false → (portOf s p).backlog.length ≤ 32 → releaseAllowed s st = true →
    1 ≤ freeCells s → earlierWithheld s id st = false →
    exec (.creditRelease id) s = .next (updPacket id (fun x => { x with released := x.released + 1 })
      (updLink p (fun k => { k with credCum := k.credCum.modify st.vcIn (fun c => c + 1) }) s))) ∧
  (∀ (s : State) (id p : Nat) (st : Stored), packetOf s id = some st → st.ingress = some p → st.released < st.cells →
    (portOf s p).washing = false → (portOf s p).backlog.length ≤ 32 → st.stage = .queued → releaseAllowed s st = false →
    st.withheld ≤ st.released →
    exec (.creditRelease id) s = .next (swCount 6 (st.cells - st.released)
      (updPacket id (fun x => { x with withheld := st.cells }) s))) ∧
  (∀ (s : State) (id p : Nat) (st : Stored), packetOf s id = some st → st.ingress = some p → st.released < st.cells →
    (portOf s p).washing = false → 32 < (portOf s p).backlog.length →
    exec (.creditRelease id) s = .next (if st.backlogged then s
      else swCount 4 1 (updPacket id (fun x => { x with backlogged := true }) s))) ∧
  (∀ (s : State) (id p : Nat) (st : Stored), packetOf s id = some st → st.ingress = some p →
    (st.cells ≤ st.released ∨ (portOf s p).washing = true ∨ (releaseAllowed s st = true ∧
      (portOf s p).backlog.length ≤ 32 ∧ (freeCells s < 1 ∨ earlierWithheld s id st = true))) →
    exec (.creditRelease id) s = .next s) ∧
  (∀ (s : State) (p : Nat), p < 96 →
    ((portOf s p).grace = none ∨ ∃ u, (portOf s p).grace = some u ∧ s.now < u) → exec (.graceExpire p) s = .next s) ∧
  (∀ (s : State) (p u : Nat), p < 96 → s.ports.length = 96 → (portOf s p).grace = some u → u ≤ s.now →
    ((portOf s p).state = .listen ∨ (portOf s p).state = .primer ∨ (portOf s p).state = .retest) →
    ∃ t, exec (.graceExpire p) s = .next t ∧ (portOf t p).grace = none ∧ (portOf t p).admitted = false ∧
      (portOf t p).seqHeld = false ∧ (portOf t p).link.retryB = [] ∧
      ((portOf s p).state = .retest ∨ (portOf s p).seqHeld = true → (portOf t p).cause = caGraceExpired) ∧
      (portOf t p).state = (if (portOf s p).state = .retest then .listen else (portOf s p).state))

/-- The lookup of a group's next port in rotation takes that port's oldest packet: a packet to this device terminates, one
that R31 does not let through is dropped, another is routed; without a valid route, or with an uncorrectable header, it
is discarded and counted; a port out of turn waits. Where the backlog comes down to 32 packets, cells whose queue keeps them
back are counted then. Route weights stay in their bounds and move by one; the depth
samples they rest on. A packet that has waited too long at the head of VC 1 or VC 2 of an up or down port moves to the
escape queue of its deterministic port, or at an edge port to its VC 1 or VC 2 queue by way of the last-hop hold. That a
lookup out of turn and an escape timer before its time change nothing rests on assumption log 3; where the spec leaves
another point to the model it follows logs 37 and 38. -/
def Obligations.LookupWeightsAndEscape : Prop :=
  (∀ (s : State) (p : Nat) (x y : WordError), p < 96 → nextLookup s (p / 8) ≠ some p → exec (.lookup p x y) s = .next s) ∧
  (∀ (s : State) (p : Nat), p < 96 → (portOf s p).backlog = [] → nextLookup s (p / 8) ≠ some p) ∧
  (∀ (s : State) (g p : Nat), nextLookup s g = some p → p / 8 = g ∧ (portOf s p).backlog ≠ []) ∧
  (∀ (s : State) (p id : Nat) (rest : List Nat) (st : Stored) (x y : WordError), p < 96 → (portOf s p).backlog = id :: rest →
    nextLookup s (p / 8) = some p → packetOf s id = some st →
    (let w := updPort p (fun q => { q with backlog := rest })
       (updSwitch (fun w => { w with turn := w.turn.set (p / 8) ((p % 8 + 1) % 8) }) s)
     let e := cellWord s id 0 x
     let u := readHeader id e y w
     let lost := headerLost e y = true
     (¬ lost → fateOf s st = .terminate →
       exec (.lookup p x y) s = .next (deferralOver p (updPacket id (fun x => { x with stage := .terminated }) u))) ∧
     (¬ lost → fateOf s st = .forward → routeValid (routeOf s st.hdr.dst) = true →
       exec (.lookup p x y) s = .next (deferralOver p (routePacket id (portOf s p).rot
         (if adaptive st.hdr st.vcIn then updPort p (fun q => { q with rot := q.rot + 1 }) u else u)))) ∧
     (¬ lost → fateOf s st = .forward → routeValid (routeOf s st.hdr.dst) = false →
       ∃ t, exec (.lookup p x y) s = .next (deferralOver p t) ∧ packetOf t id = none ∧ t.switch.ctr = bump 0 1 s.switch.ctr ∧
         t.switch.turn = w.switch.turn ∧ t.canvas = s.canvas ∧ t.streams = s.streams) ∧
     (¬ lost → fateOf s st = .drop →
       ∃ t, exec (.lookup p x y) s = .next (deferralOver p t) ∧ packetOf t id = none ∧ t.switch.preAdmit = s.switch.preAdmit + 1 ∧
         t.switch.ctr = s.switch.ctr ∧ t.switch.turn = w.switch.turn ∧ t.sketch = s.sketch ∧ t.canvas = s.canvas) ∧
     (lost →
       ∃ t, exec (.lookup p x y) s = .next (deferralOver p t) ∧ packetOf t id = none ∧ t.switch.ctr = bump 22 1 s.switch.ctr ∧
         t.switch.turn = w.switch.turn ∧ t.sketch = s.sketch ∧ t.canvas = s.canvas))) ∧
  (∀ (s : State) (p : Nat), (∃ n, (deferralOver p s).switch.ctr = bump 6 n s.switch.ctr) ∧
    (deferralOver p s).ports = s.ports ∧ (deferralOver p s).canvas = s.canvas ∧
    ((portOf s p).backlog.length ≠ 32 → deferralOver p s = s) ∧
    ((portOf s p).backlog.length = 32 → ∀ (id : Nat) (st : Stored), packetOf s id = some st → st.ingress = some p →
      (portOf s p).washing = false → st.stage = .queued →
      st.copies.all (fun c => belowThreshold s c.port c.vc) = false →
      ∃ u, packetOf (deferralOver p s) id = some u ∧ u.cells ≤ max u.released u.withheld)) ∧
  (∀ s : State, exec .queueDepthSample s = .next (sampleDepths s) ∧
    ∀ p, p < s.ports.length → (portOf (sampleDepths s) p).depthSum = (portOf s p).depthSum + losslessDepth s p ∧
      (portOf (sampleDepths s) p).depthSamples = (portOf s p).depthSamples + 1) ∧
  (∀ s : State, s.policy.rwLo ≤ s.policy.rwHi →
    (∀ p, p < 96 → s.policy.rwLo ≤ (portOf s p).rw ∧ (portOf s p).rw ≤ s.policy.rwHi) → s.ports.length = 96 →
    ∃ t, exec .routeWeightUpdate s = .next t ∧
      ∀ p, p < 96 → s.policy.rwLo ≤ (portOf t p).rw ∧ (portOf t p).rw ≤ s.policy.rwHi ∧
        (portOf t p).rw ≤ (portOf s p).rw + 1 ∧ (portOf s p).rw ≤ (portOf t p).rw + 1 ∧
        (roleIs s p 2 = false → roleIs s p 3 = false → (portOf t p).rw = (portOf s p).rw) ∧
        (portOf t p).depthSum = 0 ∧ (portOf t p).depthSamples = 0) ∧
  (∀ (s : State) (id : Nat) (st : Stored) (c : Copy), packetOf s id = some st → st.copies = [c] → headWaits st = true →
    (c.vc = 1 ∨ c.vc = 2) → (roleIs s c.port 2 || roleIs s c.port 3) = true →
    st.queuedAt + s.policy.escapeTimer ≤ s.now → routeValid (routeOf s st.hdr.dst) = true → st.hdr.ord = false →
    exec (.escapeTimerExpire id) s = .next (escapeMove id c.port c.vc 2 s)) ∧
  (∀ (s : State) (id p v : Nat) (st : Stored), packetOf s id = some st → routeValid (routeOf s st.hdr.dst) = true →
    (isDown st.hdr && roleIs s (escPort (routeOf s st.hdr.dst)) 2) = false → (v = 1 ∨ v = 2) →
    (portOf s (escPort (routeOf s st.hdr.dst))).admitted = true → p ≠ escPort (routeOf s st.hdr.dst) →
    (let e := escPort (routeOf s st.hdr.dst)
     let t := escapeMove id p v 2 s
     (isEdge s e = false →
       queueOf t e (v + 5) = queueOf s e (v + 5) ++ [id] ∧ (∃ n, t.switch.ctr = bump 6 n (bump 2 1 s.switch.ctr)) ∧
         t.ports = s.ports) ∧
     (isEdge s e = true → holdApplies s st e = false →
       queueOf t e v = queueOf s e v ++ [id] ∧ (∃ n, t.switch.ctr = bump 6 n (bump 2 1 s.switch.ctr)) ∧
         t.ports = s.ports) ∧
     (isEdge s e = true → holdApplies s st e = true → holdOf s (flowOf st.hdr) = none → holdFull s = false →
       putLength st.hdr < msgLen st.hdr →
       ((packetOf t id).map (·.stage) = some .held ∧ queueOf t e v = queueOf s e v ∧
         ∃ h, holdOf t (flowOf st.hdr) = some h ∧ h.held = some id)))) ∧
  (∀ (s : State) (id p v : Nat) (st : Stored), packetOf s id = some st → routeValid (routeOf s st.hdr.dst) = true →
    (isDown st.hdr && roleIs s (escPort (routeOf s st.hdr.dst)) 2) = false →
    (portOf s (escPort (routeOf s st.hdr.dst))).admitted = false →
    (portOf s (escPort (routeOf s st.hdr.dst))).grace = none →
    packetOf (escapeMove id p v 2 s) id = none ∧ (escapeMove id p v 2 s).switch.ctr = s.switch.ctr) ∧
  (∀ (s : State) (id : Nat) (st : Stored) (c : Copy), packetOf s id = some st → st.copies = [c] →
    s.now < st.queuedAt + s.policy.escapeTimer → exec (.escapeTimerExpire id) s = .next s)

/-- The last-hop hold's timers: a time-out releases the held packet with an order fault and owes the rest; the owed time
and the idle time end the entry. A stalled packet ends VOID. An originated packet enters the buffer when every queue
of its own admits it; a terminated packet that R147 does not pass is discarded, counted and answered by its step.
Where the spec leaves a point to the model it follows assumption logs 3, 24, 26 and 47. -/
def Obligations.HoldsStallsAndTermination : Prop :=
  (∀ (s : State) (f : Flow) (h : Hold) (id : Nat) (st : Stored) (u : Nat), holdOf s f = some h → h.held = some id →
    packetOf s id = some st → h.timer = some u → u ≤ s.now →
    ∃ t, exec (.holdTimeout f) s = .next t ∧ t.switch.ctr = bump 13 1 s.switch.ctr ∧
      (packetOf t id).map (fun x => (x.stage, x.hdr.ordFault, x.queuedAt)) = some (.queued, true, s.now) ∧
      holdOf t f = some { h with owed := msgLen st.hdr - h.count - putLength st.hdr, count := 0, held := none
                                 timer := none, owedSince := some s.now }) ∧
  (∀ (s : State) (f : Flow) (h : Hold) (u : Nat), holdOf s f = some h → h.timer = some u → s.now < u →
    exec (.holdTimeout f) s = .next s) ∧
  (∀ (s : State) (f : Flow) (h : Hold) (u : Nat), holdOf s f = some h → h.held = none → h.owedSince = some u →
    (u + 1000 * s.policy.holdTimeout ≤ s.now → exec (.holdOwedEnd f) s = .next (freeHold f s)) ∧
    (s.now < u + 1000 * s.policy.holdTimeout → exec (.holdOwedEnd f) s = .next s)) ∧
  (∀ (s : State) (f : Flow) (h : Hold), holdOf s f = some h → h.held = none →
    h.idleSince + 4000 * s.policy.holdTimeout ≤ s.now → exec (.holdEntryIdle f) s = .next (freeHold f s)) ∧
  (∀ (s : State) (f : Flow), holdOf (freeHold f s) f = none) ∧
  (∀ (s : State) (p v id : Nat) (st : Stored) (c : Copy), p < 96 → v < 8 → tget (portOf s p).fetching v = some id →
    packetOf s id = some st → copyOn st p v = some c → st.complete = false → st.cells ≤ c.sent →
    st.lastCell + 1000 * s.policy.stallVoid ≤ s.now →
    exec (.stallVoidExpire p v) s = .next (swCount 23 1 (cutPacket id true s))) ∧
  (∀ (s : State) (p v : Nat), p < 96 → v < 8 → tget (portOf s p).fetching v = none →
    exec (.stallVoidExpire p v) s = .next s) ∧
  (∀ (s : State) (i : Nat) (o : Originate), s.switch.originate[i]? = some o → originRoom s o = true → o.slot = none →
    exec (.originatedPacketWrite i) s =
      .next (createPacket o { s with switch := { s.switch with originate := s.switch.originate.eraseIdx i } })) ∧
  (∀ (s : State) (i : Nat) (o : Originate) (k : SlotKey), s.switch.originate[i]? = some o → originRoom s o = true →
    o.slot = some k →
    exec (.originatedPacketWrite i) s = .next (slotWritten k
      (createPacket o { s with switch := { s.switch with originate := s.switch.originate.eraseIdx i } }))) ∧
  (∀ (s : State) (i : Nat) (o : Originate), s.switch.originate[i]? = some o → originRoom s o = false →
    exec (.originatedPacketWrite i) s = .next s) ∧
  (∀ (s : State) (o : Originate), o.multicast = false → o.viaPort = none → toDevice s o.pkt.hdr.dst = true →
    createPacket o s = addStored { originStored s o .terminated with hdr := sealHeader o.pkt.hdr } s) ∧
  (∀ (s : State) (id c : Nat) (st : Stored), terminatedOf s id = some st → findingOf st = .discard c →
    exec (.terminatedDiscard id) s = .next (pktCount c 1 (dropPacket id false s))) ∧
  (∀ (s : State) (id c : Nat) (st : Stored) (x : W16), terminatedOf s id = some st → findingOf st = .answer c x →
    exec (.terminatedDiscard id) s = .next (answerStatus st x (pktCount c 1 (dropPacket id false s))))

/-! ### Streams, Canvas and arithmetic (07, 08, 09) -/

/-- SEGMENT_PUT writes its bytes at its place in the store and nowhere else, refuses what does not fit, and waits in P2 and P3;
the PUT is answered once it is visible, after earlier ones of its flow for a fence. Subscriptions are bound and cancelled by
their packets, each answered, with BAD_PARAM for a landing size of 0 in either form; a read of the telemetry window is answered
with the window's bytes. A waiting tile is read when it is the first, staging has room and its segment is *Ready*, and dropped
and counted when it is *Filling*; the read's end stages its bytes, poisoned and counted after an uncorrectable word or an error
of the host port. Where the spec leaves a point to the model it follows assumption logs 44, 45 and 92. -/
def Obligations.SegmentsSubscriptionsAndTiles : Prop :=
  (∀ (s : State) (id : Nat) (st : Stored), terminatedOf s id = some st → findingOf st = .act → st.hdr.window = 0x02 →
    st.hdr.opcode = opPut → engineRuns s = true → st.putAccepted = false → putAllowed s st.hdr = true →
    ∃ t, exec (.segmentPut id) s = .next t ∧
      (let a := sgStore (segAt s (putSegment st.hdr)) + putByte st.hdr
       let b := payloadOf st.hdr st.data
       (∀ x, x < a ∨ a + b.length ≤ x → mread t.streams.store x = mread s.streams.store x) ∧
       (∀ i, i < b.length → mread t.streams.store (a + i) = b.getD i 0)) ∧
      t.streams.ctr = bump 0 1 s.streams.ctr ∧ t.streams.segments = s.streams.segments ∧ t.ports = s.ports ∧
      t.canvas = s.canvas ∧ t.sketch = s.sketch) ∧
  (∀ (s : State) (id : Nat) (st : Stored), terminatedOf s id = some st → findingOf st = .act → st.hdr.window = 0x02 →
    st.hdr.opcode = opPut → engineRuns s = true → st.putAccepted = false → putAllowed s st.hdr = false →
    exec (.segmentPut id) s = .next (answerStatus st stBadParam (streamCount 1 1 (dropPacket id false s)))) ∧
  (∀ (s : State) (id : Nat) (st : Stored), terminatedOf s id = some st → findingOf st = .act → st.hdr.window = 0x02 →
    st.hdr.opcode = opPut → engineRuns s = false →
    exec (.segmentPut id) s = .next (updPacket id (fun x => { x with deferred := true, why := 1 }) s)) ∧
  (∀ (s : State) (id : Nat) (st : Stored), packetOf s id = some st → st.putAccepted = true → fenceWaits s id st = false →
    exec (.segmentPutVisible id) s = .next (if st.hdr.ackReq then answerStatus st stOk (dropPacket id false s)
      else dropPacket id false s)) ∧
  (∀ (s : State) (id : Nat) (st : Stored), packetOf s id = some st → st.putAccepted = true → fenceWaits s id st = true →
    exec (.segmentPutVisible id) s = .next s) ∧
  (∀ (s : State) (id : Nat) (st : Stored), terminatedOf s id = some st → findingOf st = .act → st.hdr.window = 0x02 →
    st.hdr.opcode = opSubscribe → isCancel st.hdr = false → subscribeStatus s st.hdr = stOk →
    exec (.streamSubscribe id) s = .next (answerStatus st stOk (streamCount 4 1 (bindSub
      { stream := subStream st.hdr, src := st.hdr.src, base := st.hdr.offset, size := st.hdr.opB } (dropPacket id false s))))) ∧
  (∀ (s : State) (id : Nat) (st : Stored), terminatedOf s id = some st → findingOf st = .act → st.hdr.window = 0x02 →
    st.hdr.opcode = opSubscribe → isCancel st.hdr = false → subscribeStatus s st.hdr ≠ stOk →
    exec (.streamSubscribe id) s =
      .next (answerStatus st (subscribeStatus s st.hdr) (streamCount 6 1 (dropPacket id false s)))) ∧
  (∀ (s : State) (id : Nat) (st : Stored), terminatedOf s id = some st → findingOf st = .act → st.hdr.window = 0x02 →
    st.hdr.opcode = opSubscribe → isCancel st.hdr = true → st.hdr.opB ≠ 0 →
    ∃ t u, exec (.streamCancel id) s = .next t ∧ t = answerStatus st stOk u ∧
      hasSub t (subStream st.hdr) st.hdr.src = false ∧
      (∀ b ∈ s.streams.subs, (b.stream ≠ subStream st.hdr ∨ b.src ≠ st.hdr.src) → b ∈ t.streams.subs)) ∧
  (∀ (s : State) (id : Nat) (st : Stored), terminatedOf s id = some st → findingOf st = .act → st.hdr.window = 0x02 →
    st.hdr.opcode = opSubscribe → isCancel st.hdr = true → st.hdr.opB = 0 →
    exec (.streamCancel id) s = .next (answerStatus st stBadParam (streamCount 6 1 (dropPacket id false s)))) ∧
  (∀ (s : State) (id : Nat) (st : Stored), terminatedOf s id = some st → findingOf st = .act → st.hdr.window = 0x05 →
    telemetryOk st.hdr = false →
    exec (.telemetryGet id) s = .next (answerStatus st stBadParam (dropPacket id false s))) ∧
  (∀ (s : State) (id : Nat) (st : Stored), terminatedOf s id = some st → findingOf st = .act → st.hdr.window = 0x05 →
    telemetryOk st.hdr = true →
    (let u := dropPacket id false s
     let b := telemetryBytes u st.hdr.offset.toNat st.hdr.length.toNat
     exec (.telemetryGet id) s = .next (originate { viaPort := answerVia u st, pkt := {
       hdr := { answerHeader st.hdr opGetResp (answerSrc u st.hdr) stOk with length := w16 b.length }, payload := b } } u))) ∧
  (∀ (s : State) (i : Nat) (t : Tile), tget s.streams.tiles i = some t → nextWaiting s = some i → engineRuns s = true →
    stagingUsed s + t.bytes ≤ 536870912 → t.host = none → sgLocal (segAt s t.segment) = true →
    sgReady (segAt s t.segment) = true →
    exec (.tileReadStart i) s = .next (updTile i (fun x => { x with state := .reading }) s)) ∧
  (∀ (s : State) (i : Nat) (t : Tile), tget s.streams.tiles i = some t → nextWaiting s = some i →
    (engineRuns s = false ∨ 536870912 < stagingUsed s + t.bytes) → exec (.tileReadStart i) s = .next s) ∧
  (∀ (s : State) (i : Nat) (t : Tile), tget s.streams.tiles i = some t → nextWaiting s = some i → engineRuns s = true →
    stagingUsed s + t.bytes ≤ 536870912 → t.host = none →
    (sgLocal (segAt s t.segment) = false ∨ sgReady (segAt s t.segment) = false) →
    exec (.tileReadStart i) s = .next (unreadyTile t.segment (dropTile i s)) ∧
      (unreadyTile t.segment (dropTile i s)).streams.ctr = bump 12 1 s.streams.ctr) ∧
  (∀ (s : State) (i : Nat) (t : Tile) (b : Bytes), tget s.streams.tiles i = some t → t.state = .reading → t.host = none →
    wordsBad s t.address t.bytes = false →
    exec (.tileReadComplete i b .ok) s = .next (sweepTiles (updTile i (fun x => { x with
      state := .staged, poisoned := false, data := mreadN s.streams.store t.address t.bytes }) (streamCount 8 1 s)))) ∧
  (∀ (s : State) (i : Nat) (t : Tile) (b : Bytes) (hp : HostPort), tget s.streams.tiles i = some t → t.state = .reading →
    t.host = some hp → masters (fnOf s hp) = true → (fnOf s hp).linkUp = true →
    exec (.tileReadComplete i b .ok) s = .next (sweepTiles (updTile i (fun x => { x with
      state := .staged, poisoned := false, data := padTo t.bytes b }) (streamCount 9 1 s)))) ∧
  (∀ (s : State) (i : Nat) (t : Tile) (b : Bytes) (l : List (Nat × WordError)), tget s.streams.tiles i = some t →
    t.state = .reading → t.host = none → wordsBad s t.address t.bytes = false → (∀ x ∈ l, x.1 < t.bytes) →
    exec (.tileReadComplete i b (.words l)) s = .next (sweepTiles (updTile i (fun x => { x with
      state := .staged, poisoned := anyBad l, data := mreadN s.streams.store t.address t.bytes })
      (streamCount 8 1 (when (anyBad l) (streamCount 13 1) (forEach l (fun x => storeRead (t.address + x.1) x.2) s)))))) ∧
  (∀ (s : State) (a : Nat) (e : WordError), eccOf e = .uncorrectable → e.path = false →
    a / 32 ∈ (storeRead a e s).health.badWords ∧ (storeRead a e s).health.ctr.getD 3 0 = (bump 3 1 s.health.ctr).getD 3 0 ∧
      (storeRead a e s).streams = s.streams) ∧
  (∀ (s : State) (i : Nat) (t : Tile) (b : Bytes) (hp : HostPort), tget s.streams.tiles i = some t → t.state = .reading →
    t.host = some hp →
    exec (.tileReadComplete i b .hostError) s = .next (sweepTiles (updTile i (fun x => { x with
      state := .staged, poisoned := true, data := padTo t.bytes b })
      (streamCount 9 1 (streamCount 14 1 (streamCount 13 1 s))))))

/-- Packets to window 0x01: judged by R217 while the Canvas runs, deferred in P2 and P3; a deferred one is judged again by
its own event, by R147 too, and counted once for each kind of wait; a contribution to no valid group, or to a slot
that has ended, is refused or counted. A slot opens on a block of the group's pool, else of the unscheduled one; without a
block a scheduled opening waits, an unscheduled one is answered BUSY and enters the refusal cache, which answers the chunk's
later parts, and a child's status is discarded (for a scheduled group log 165). In *Open* a part folded or parked before is
a duplicate; one whose stripes all wait for its position is folded, the parked ones that follow then too, so that every
element folds in member order whatever order the parts came in; another parks in a piece of the own pool, for a scheduled
group then of the unscheduled one, then in the packet buffer, unless its acceptance is deferred; one that is lost by the
time it is folded counts as not arrived (log 181). Slots end: a slot whose operation timer expires, an instant after its
deadline (log 180), sends its failure to its parent and waits *Up*; one that waits *Up* too long is freed with MEMBER_LOST;
cache entries end at their expiry and not before. Where the spec leaves a point to the model it follows assumption logs 3,
42 and 93. -/
def Obligations.CanvasPacketsAndTimeouts : Prop :=
  (∀ (s : State) (id : Nat) (e : CanvasEcc) (st : Stored), terminatedOf s id = some st → findingOf st = .act →
    st.hdr.window = 0x01 → st.deferred = false → engineRuns s = true →
    (st.hdr.opcode = opReduceContrib → exec (.reduceContrib id e) s = .next (judgeContribution id e st s)) ∧
    (st.hdr.opcode = opCombineContrib → exec (.combineContrib id e) s = .next (judgeContribution id e st s)) ∧
    (st.hdr.opcode = opReduceResult → exec (.reduceResultReceived id) s = .next (judgeResult id st s))) ∧
  (∀ (s : State) (id : Nat) (e : CanvasEcc) (st : Stored), terminatedOf s id = some st → findingOf st = .act →
    st.hdr.window = 0x01 → st.deferred = false → engineRuns s = false → st.hdr.opcode = opReduceContrib →
    exec (.reduceContrib id e) s = .next (updPacket id (fun x => { x with
      deferred := true, why := 1, waited := x.waited.erase 9 ++ [9] })
      (if st.waited.contains 9 then s else canvasCount 9 1 s))) ∧
  (∀ (s : State) (id why c : Nat) (st : Stored), packetOf s id = some st →
    (packetOf (deferPacket id why c s) id).any (fun x => x.waited.contains c) = true ∧
    (st.waited.contains c = true → (deferPacket id why c s).canvas = s.canvas)) ∧
  (∀ (s : State) (id : Nat) (e : CanvasEcc) (st : Stored), terminatedOf s id = some st → st.deferred = true →
    st.hdr.window = 0x01 → findingOf st ≠ .act →
    (st.why = 1 → exec (.deferredPartAccept id e) s = .next (applyFinding id st s)) ∧
    (st.why = 2 → exec (.schedSlotOpenResume id e) s = .next (applyFinding id st s)) ∧
    (st.why = 3 → exec (.openingRateResume id e) s = .next (applyFinding id st s))) ∧
  (∀ (s : State) (id : Nat) (e : CanvasEcc) (st : Stored), terminatedOf s id = some st → st.deferred = true →
    engineRuns s = true → st.hdr.window = 0x01 → findingOf st = .act → st.hdr.opcode = opReduceContrib →
    (st.why = 1 → exec (.deferredPartAccept id e) s = .next (judgeContribution id e st s)) ∧
    (st.why = 2 → exec (.schedSlotOpenResume id e) s = .next (judgeContribution id e st s)) ∧
    (st.why = 3 → exec (.openingRateResume id e) s = .next (judgeContribution id e st s)) ∧
    (st.why ≠ 1 → exec (.deferredPartAccept id e) s = .next s) ∧
    (st.why ≠ 2 → exec (.schedSlotOpenResume id e) s = .next s) ∧
    (st.why ≠ 3 → exec (.openingRateResume id e) s = .next s)) ∧
  (∀ (s : State) (id : Nat) (e : CanvasEcc) (st : Stored), groupOf s (keyOf st.hdr).group = none →
    judgeContribution id e st s = answerStatus st stBadParam (canvasCount 15 1 (dropPacket id false s))) ∧
  (∀ (s : State) (g : Group) (id pos : Nat) (c : Bool) (e : CanvasEcc) (st : Stored) (x : Slot),
    slotOf s (keyOf st.hdr) = some x → (x.state = .up ∨ x.state = .out) →
    partInSlot g (keyOf st.hdr) id pos c e st s = canvasCount 10 1 (dropPacket id false s)) ∧
  (∀ (s : State) (k : SlotKey) (x : Slot) (m : W64), slotOf s k = some x → parentOf x.group = some m →
    engineRuns s = true → (x.state = .open_ ∨ x.state = .failed) → x.opDeadline < s.canvas.clock →
    ∃ t, exec (.opTimeout k) s = .next t ∧ (slotOf t k).map (·.state) = some .up ∧
      (slotOf t k).map (·.upDeadline) = some (s.canvas.clock + 2 * timeoutNs x.group) ∧ t.canvas.groups = s.canvas.groups) ∧
  (∀ (s : State) (k : SlotKey) (x : Slot), slotOf s k = some x → s.canvas.clock ≤ x.opDeadline →
    exec (.opTimeout k) s = .next s) ∧
  (∀ (s : State) (k : SlotKey) (x : Slot), slotOf s k = some x → engineRuns s = true → x.state = .up → x.upDeadline ≤ s.canvas.clock → x.counted = false →
    ∃ t, exec (.upTimeout k) s = .next t ∧ slotOf t k = none ∧ t.canvas.ctr = bump 4 1 s.canvas.ctr) ∧
  (∀ (s : State) (k : SlotKey), ∃ t, exec (.doneCacheExpire k) s = .next t ∧
    t = { s with canvas := { s.canvas with doneCache := t.canvas.doneCache } } ∧
    ∀ e, e ∈ t.canvas.doneCache ↔ e ∈ s.canvas.doneCache ∧ ¬ (e.1 = k ∧ e.2 ≤ s.canvas.clock)) ∧
  (∀ (s : State) (k : SlotKey), ∃ t, exec (.refusalCacheExpire k) s = .next t ∧
    t = { s with canvas := { s.canvas with refusals := t.canvas.refusals } } ∧
    ∀ e, e ∈ t.canvas.refusals ↔ e ∈ s.canvas.refusals ∧ ¬ (e.1 = k ∧ e.2 ≤ s.canvas.clock)) ∧
  (∀ (s : State) (g : Group) (k : SlotKey) (id pos : Nat) (c : Bool) (st : Stored) (x : Slot) (d : Desc),
    slotOf s k = some x → x.state = .open_ → x.digest = some st.hdr.opA → slotDesc x = some d →
    partFault d c st.hdr = none →
    (let n := min (if c then fitStripes d.accFmt else d.partStripes) (stripeCount d st.hdr.offset.toNat - st.hdr.ftag.toNat)
     let p := partOf d pos c n st.hdr.ftag.toNat st.hdr (payloadOf st.hdr st.data)
     let again := (covers p x.frontier.length).any (fun i => nth x.frontier i > pos) = true ∨
       x.parked.any (fun y => y.pos = pos && y.first = p.first) = true
     let u := foldParked d k (x.parked.length + 1) {} (foldPart d k p (updSlot k (arrive pos) (dropPacket id false s)))
     (again → partInSlot g k id pos c .clean st s = canvasCount 10 1 (dropPacket id false s)) ∧
     (¬ again → inOrder x p = false → partInSlot g k id pos c .clean st s = parkPart g k id p s) ∧
     (¬ again → inOrder x p = true → ∀ y, slotOf u k = some y →
       partInSlot g k id pos c .clean st s = if isComplete y then completeSlot k u else u))) ∧
  (∀ (x : Slot) (p : Part), inOrder x p = true ↔
    (∀ i, i < x.frontier.length → p.first ≤ i → i < p.first + p.stripes → nth x.frontier i = p.pos)) ∧
  (∀ (s : State) (k : SlotKey) (d : Desc) (x y : Slot) (p : Part), slotOf s k = some x → slotOf (foldPart d k p s) k = some y →
    (∀ i, i < x.frontier.length →
      nth y.frontier i = if p.first ≤ i ∧ i < p.first + p.stripes then p.pos + 1 else nth x.frontier i) ∧
    (∀ j, (j < 256 * p.first ∨ 256 * p.first + p.values.length ≤ j) → y.acc.getD j 0 = x.acc.getD j 0) ∧
    (∀ j, j < p.values.length → 256 * p.first + j < x.acc.length → y.acc.getD (256 * p.first + j) 0 =
      (foldElem (foldSet d) (dRne d) d.wFmt (p.pos = 0) (x.acc.getD (256 * p.first + j) 0) p.fmt (p.values.getD j 0)
        (weightAt d k.chunk p j)).2) ∧ y.parked = x.parked) ∧
  (∀ (s : State) (k : SlotKey) (d : Desc) (x : Slot) (a b : Part), slotOf s k = some x → x.parked = [] → b.first = a.first →
    b.stripes = a.stripes → b.pos = a.pos + 1 → partLost s b {} = false →
    (let u := foldParked d k 2 {} (foldPart d k a (updSlot k (fun y => { y with parked := [b] }) s))
     let v := foldPart d k b (foldPart d k a s)
     (slotOf u k).map (fun y => (y.acc, y.flags, y.frontier, y.parked)) =
       (slotOf v k).map (fun y => (y.acc, y.flags, y.frontier, y.parked)))) ∧
  (∀ (s : State) (p : Part) (e : WordError), partLost s p e = true ↔ eccOf e = .uncorrectable ∨
    (∃ id st, p.place = .buffer id ∧ packetOf s id = some st ∧ poisoned st = true)) ∧
  (∀ (s : State) (k : SlotKey) (d : Desc) (x : Slot) (b : Part) (e : WordError), slotOf s k = some x → x.parked = [b] →
    inOrder x b = true → partLost s b e = true →
    (slotOf (foldParked d k 2 e s) k).map (fun y => (y.acc, y.frontier, y.parked)) = some (x.acc, x.frontier, [])) ∧
  (∀ (s : State) (k : SlotKey) (d : Desc) (n : Nat) (x y : Slot), slotOf s k = some x → x.parked.length < n →
    slotOf (foldParked d k n {} s) k = some y → ∀ p ∈ y.parked, inOrder y p = false) ∧
  (∀ (s u : State) (g : Group) (k : SlotKey) (id b : Nat) (p : Part) (x : Slot) (st : Stored), slotOf s k = some x →
    packetOf s id = some st →
    (let own := takePiece (gSched g.header) s
     let other := if gSched g.header then takePiece false s else none
     ((own = some (b, u) ∨ (own = none ∧ other = some (b, u))) →
       (slotOf (parkPart g k id p s) k).map (·.parked) = some (x.parked ++ [{ p with place := .staging b }]) ∧
         packetOf (parkPart g k id p s) id = none ∧ (parkPart g k id p s).canvas.staging = u.canvas.staging ∧
         (parkPart g k id p s).canvas.ctr = bump 7 1 s.canvas.ctr) ∧
     (own = none → other = none →
       (s.policy.parkCells < s.canvas.parkedCells + st.cells → mayDefer s st = true →
         parkPart g k id p s = deferPacket id 1 9 s) ∧
       ((s.canvas.parkedCells + st.cells ≤ s.policy.parkCells ∨ mayDefer s st = false) →
         (slotOf (parkPart g k id p s) k).map (·.parked) = some (x.parked ++ [{ p with place := .buffer id }]) ∧
           (packetOf (parkPart g k id p s) id).map (·.stage) = some .parked ∧
           (parkPart g k id p s).canvas.parkedCells = s.canvas.parkedCells + st.cells ∧
           (parkPart g k id p s).canvas.ctr = bump 8 1 s.canvas.ctr)))) ∧
  (∀ (s : State) (g : Group) (id pos : Nat) (e : CanvasEcc) (st : Stored) (d : Desc), groupOf s (keyOf st.hdr).group = some g →
    positionOf g st.hdr.src = some pos → vcFits g st = true → slotOf s (keyOf st.hdr) = none →
    descByDigest s g st.hdr.opA = some d → d.op ≠ opGather → d.elemCount ≠ 0 →
    (let k := keyOf st.hdr
     let c := (childrenOf g).any (fun m => mEndpoint m = st.hdr.src)
     st.hdr.opcode = namedOpcode d c →
     (∀ exp, cached s.canvas.refusals k s.canvas.clock = some exp →
       judgeContribution id e st s = answerBusy st exp (canvasCount 12 1 (dropPacket id false s))) ∧
     (cached s.canvas.refusals k s.canvas.clock = none → (cached s.canvas.doneCache k s.canvas.clock).isSome = true →
       judgeContribution id e st s = canvasCount 11 1 (dropPacket id false s)) ∧
     (cached s.canvas.refusals k s.canvas.clock = none → cached s.canvas.doneCache k s.canvas.clock = none →
       judgeContribution id e st s = openByPart g k id pos c e st s))) ∧
  (∀ (s : State) (g : Group) (k : SlotKey) (id pos : Nat) (c : Bool) (e : CanvasEcc) (st : Stored),
    (gSched g.header = false → (poolFree s false = 0 ∨ refusalsFull s = true) →
      openByPart g k id pos c e st s = refuseOpening g k id st s) ∧
    (gSched g.header = true → poolFree s true = 0 → poolFree s false = 0 →
      openByPart g k id pos c e st s = deferPacket id 2 14 s) ∧
    ((gSched g.header = true ∨ refusalsFull s = false) → ∀ pool, blockFor s (gSched g.header) = some pool →
      openByPart g k id pos c e st s = if rateAllows s
        then partInSlot g k id pos c e st (openSlot g k pool (some st.hdr.opA) s) else deferPacket id 3 9 s)) ∧
  (∀ (s : State) (sched : Bool), blockFor s sched = if sched = true ∧ 0 < poolFree s true then some true
    else if 0 < poolFree s false then some false else none) ∧
  (∀ (s : State) (g : Group) (k : SlotKey) (pool : Bool) (w : W32), slotOf s k = none →
    ∃ y, slotOf (openSlot g k pool (some w) s) k = some y ∧ y.digest = some w ∧ y.scheduled = pool ∧ y.group = g ∧
      y.state = (if (descByDigest s g w).isNone || (palettesIn s).isEmpty then .failed else .open_) ∧
      y.opDeadline = s.canvas.clock + timeoutNs g ∧ y.arrived = [] ∧ y.parked = [] ∧ (∀ f ∈ y.frontier, f = 0) ∧
      (openSlot g k pool (some w) s).canvas.ctr = bump 0 1 s.canvas.ctr) ∧
  (∀ (s : State) (g : Group) (k : SlotKey) (id : Nat) (st : Stored),
    (let l := alive s.canvas.refusals s.canvas.clock
     let u := canvasCount 12 1 (dropPacket id false s)
     let exp := s.canvas.clock + timeoutNs g
     (l.length < 4096 → refuseOpening g k id st s =
       answerBusy st exp (updCanvas (fun c => { c with refusals := l ++ [(k, exp)] }) u)) ∧
     (4096 ≤ l.length → refuseOpening g k id st s =
       answerBusy st ((l.head?.map (·.2)).getD s.canvas.clock) (canvasCount 13 1 u)))) ∧
  (∀ (s : State) (g : Group) (k : SlotKey) (id pos : Nat) (status : W16),
    (blockFor s (gSched g.header) = none ∨ (gSched g.header = false ∧ refusalsFull s = true)) →
    openByStatus g k id pos status s = canvasCount 16 1 (dropPacket id false s))

/-- The reduction arithmetic on exact values. MIN and MAX answer the canonical NaN when an operand is a NaN, else an
operand that none is below, or above, in the order of the rationals with −0 below +0 and the infinities at the ends; a
fold stores the code of that value. Conversion to a format: the overflow results past the thresholds, zero for a tiny
value where the format flushes, else the rounding on the format's grid, inexact and underflow as the rounding says; the
code of a result decodes to it. Addition and the multiplier path: the exact sum, and the exact product cut to 17
significant bits, converted once; the special operands. The F19 entry. The Varnish stage: one conversion of
scale × acc, or of scale × acc + bias; a floating-point value into an integer format; the clip bounds, which are the
nearest codes of the format inside the clip values, and the clip step. -/
def Obligations.ArithmeticRoundsAndOrders : Prop :=
  (∀ a b : Val, a = .nan ∨ b = .nan → minVal a b = .nan ∧ maxOfVal a b = .nan) ∧
  (∀ a b : Val, a ≠ .nan → b ≠ .nan →
    (minVal a b = a ∨ minVal a b = b) ∧ valLt a (minVal a b) = false ∧ valLt b (minVal a b) = false ∧
    (maxOfVal a b = a ∨ maxOfVal a b = b) ∧ valLt (maxOfVal a b) a = false ∧ valLt (maxOfVal a b) b = false) ∧
  (∀ e f : Int, valLt (.fin true 0 e) (.fin false 0 f) = true ∧ valLt (.fin false 0 f) (.fin true 0 e) = false) ∧
  (∀ (x y : Bool) (m n : Nat) (e f : Int), m ≠ 0 ∨ n ≠ 0 →
    (valLt (.fin x m e) (.fin y n f) = true ↔ ratOf (.fin x m e) < ratOf (.fin y n f))) ∧
  (∀ (x y : Bool) (m : Nat) (e : Int), valLt (.inf x) (.fin y m e) = x ∧ valLt (.fin y m e) (.inf x) = !x ∧
    valLt (.inf x) (.inf y) = (x && !y)) ∧
  (∀ (k : FoldSet) (acc : Nat) (x : Val), k.op = opMin → foldFloat k false acc x =
    (0, encodeFloat (fmtOf k.accFmt) (minVal (decodeFloat (fmtOf k.accFmt) acc).2 x))) ∧
  (∀ (k : FoldSet) (acc : Nat) (x : Val), k.op = opMax → foldFloat k false acc x =
    (0, encodeFloat (fmtOf k.accFmt) (maxOfVal (decodeFloat (fmtOf k.accFmt) acc).2 x))) ∧
  (∀ (k : FoldSet) (acc : Nat) (x : Int), k.op = opMin →
    foldInt k false acc x = (0, wrapInt (8 * fmtBytes k.accFmt) (min (signedOf (8 * fmtBytes k.accFmt) acc) x))) ∧
  (∀ (k : FoldSet) (acc : Nat) (x : Int), k.op = opMax →
    foldInt k false acc x = (0, wrapInt (8 * fmtBytes k.accFmt) (max (signedOf (8 * fmtBytes k.accFmt) acc) x))) ∧
  (∀ (F : Fmt) (mode : Nat) (c : RCtx) (neg : Bool) (m : Nat) (e : Int), F ∈ floatFormats → m ≠ 0 →
    beyond F (dirOf mode neg) (ratOf (.fin false m e)) = true →
    convert F mode c (.fin neg m e) = (flagOF ||| flagNX, overflowResult F (dirOf mode neg) neg c)) ∧
  (∀ (F : Fmt) (mode : Nat) (c : RCtx) (neg : Bool) (m : Nat) (e : Int), F ∈ floatFormats → m ≠ 0 →
    ratOf (.fin false m e) < pow2 F.eMin → F.flush = true →
    convert F mode c (.fin neg m e) = (flagUF ||| flagNX, zero neg)) ∧
  (∀ (F : Fmt) (mode : Nat) (c : RCtx) (neg : Bool) (m : Nat) (e : Int), F ∈ floatFormats → m ≠ 0 →
    beyond F (dirOf mode neg) (ratOf (.fin false m e)) = false →
    (F.flush = true → pow2 F.eMin ≤ ratOf (.fin false m e)) →
    ∃ (n : Nat) (g : Int), F.eMin - F.frac ≤ g ∧ (g = F.eMin - F.frac ∨ pow2 (g + F.frac) ≤ ratOf (.fin false m e)) ∧
      ratOf (.fin false m e) < pow2 (g + F.frac + 1) ∧ rounds (dirOf mode neg) n (ratOf (.fin false m e) / pow2 g) ∧
      convert F mode c (.fin neg m e) =
        (flagIf (decide (ratOf (.fin false n g) ≠ ratOf (.fin false m e))) flagNX |||
          flagIf (decide (ratOf (.fin false n g) ≠ ratOf (.fin false m e) ∧ ratOf (.fin false m e) < pow2 F.eMin)) flagUF,
         .fin neg n g)) ∧
  (∀ (F : Fmt) (mode : Nat) (c : RCtx) (neg : Bool) (e : Int), convert F mode c .nan = (0, .nan) ∧
    convert F mode c (.fin neg 0 e) = (0, zero neg) ∧
    convert F mode c (.inf neg) = (if F.hasInf then (0, .inf neg) else convert F mode c (.fin neg (2 * F.maxSig) F.maxExp))) ∧
  (∀ (F : Fmt) (mode : Nat) (c : RCtx) (x : Val), F ∈ floatFormats → F.hasInf = true ∨ mode ≤ 1 →
    sameVal (decodeFloat F (encodeFloat F (convert F mode c x).2)).2 (convert F mode c x).2) ∧
  (∀ (F : Fmt) (neg sat : Bool) (c : RCtx), overflowResult F .inward neg c = maxVal F neg ∧
    overflowResult F .outward neg c = .inf neg ∧ overflowResult F .near neg (.varnish true) = maxVal F neg ∧
    (F.hasInf = true → overflowResult F .near neg .accumulator = .inf neg ∧ overflowResult F .near neg .entry = .inf neg ∧
      overflowResult F .near neg (.varnish false) = .inf neg) ∧
    overflowResult e4m3 .near neg (.varnish false) = .nan) ∧
  (∀ (F : Fmt) (mode : Nat) (c : RCtx) (x y : Bool) (m n : Nat) (e f : Int),
    ratOf (.fin x m e) + ratOf (.fin y n f) ≠ 0 →
    ∃ (z : Bool) (k : Nat) (g : Int), ratOf (.fin z k g) = ratOf (.fin x m e) + ratOf (.fin y n f) ∧
      addVal F mode c (.fin x m e) (.fin y n f) = convert F mode c (.fin z k g)) ∧
  (∀ (F : Fmt) (mode : Nat) (c : RCtx) (x y : Bool) (m n : Nat) (e f : Int),
    ratOf (.fin x m e) + ratOf (.fin y n f) = 0 → (m ≠ 0 ∨ n ≠ 0 ∨ x ≠ y) →
    addVal F mode c (.fin x m e) (.fin y n f) = (0, zero (mode = 3))) ∧
  (∀ (F : Fmt) (mode : Nat) (c : RCtx) (x y : Bool) (m : Nat) (e f : Int) (a : Val),
    addVal F mode c (.fin x 0 e) (.fin x 0 f) = (0, .fin x 0 e) ∧
    addVal F mode c .nan a = (0, .nan) ∧ addVal F mode c a .nan = (0, .nan) ∧
    addVal F mode c (.inf x) (.inf (!x)) = (flagNV, .nan) ∧ addVal F mode c (.inf x) (.inf x) = (0, .inf x) ∧
    addVal F mode c (.inf x) (.fin y m e) = (0, .inf x) ∧ addVal F mode c (.fin y m e) (.inf x) = (0, .inf x)) ∧
  (∀ (mode : Nat) (x y : Bool) (m n : Nat) (e f : Int), 1 ≤ m → m ≤ 2048 → 1 ≤ n → n ≤ 2048 →
    ∃ (j k : Nat) (g h : Int), 2 ^ 16 ≤ j ∧ j < 2 ^ 17 ∧ ratOf (.fin false k g) = (j : Rat) * pow2 h ∧
      (j : Rat) * pow2 h ≤ ratOf (.fin false m e) * ratOf (.fin false n f) ∧
      ratOf (.fin false m e) * ratOf (.fin false n f) < ((j : Rat) + 1) * pow2 h ∧
      mulVal mode (.fin x m e) (.fin y n f) = convert fp32 mode .accumulator (.fin (x != y) k g)) ∧
  (∀ (mode : Nat) (x y : Bool) (m : Nat) (e f : Int) (a : Val), mulVal mode .nan a = (0, .nan) ∧ mulVal mode a .nan = (0, .nan) ∧
    mulVal mode (.inf x) (.fin y 0 e) = (flagNV, .nan) ∧ mulVal mode (.fin y 0 e) (.inf x) = (flagNV, .nan) ∧
    mulVal mode (.inf x) (.inf y) = (0, .inf (x != y)) ∧ mulVal mode (.fin x 0 e) (.fin y m f) = (0, zero (x != y)) ∧
    mulVal mode (.fin x m e) (.fin y 0 f) = (0, zero (x != y)) ∧
    (m ≠ 0 → mulVal mode (.inf x) (.fin y m e) = (0, .inf (x != y)) ∧ mulVal mode (.fin x m e) (.inf y) = (0, .inf (x != y)))) ∧
  (∀ (rne : Bool) (v : Flagged Val),
    toF19 rne v = (v.1 ||| (convert f19 (if rne then 0 else 1) .entry v.2).1, (convert f19 (if rne then 0 else 1) .entry v.2).2)) ∧
  (∀ (rne : Bool) (f code : Nat), 3 ≤ f → f ≤ 6 →
    (toF19 rne (decodeAny f code)).1 = (decodeAny f code).1 ∧ sameVal (toF19 rne (decodeAny f code)).2 (decodeAny f code).2) ∧
  (∀ (k : FoldSet) (acc : Nat) (x : Val), foldFloat k true acc x = (0, encodeFloat (fmtOf k.accFmt) x) ∧
    (k.op = opSum ∨ k.op = opCombine → foldFloat k false acc x =
      ((addVal (fmtOf k.accFmt) k.mode .accumulator (decodeFloat (fmtOf k.accFmt) acc).2 x).1,
        encodeFloat (fmtOf k.accFmt) (addVal (fmtOf k.accFmt) k.mode .accumulator (decodeFloat (fmtOf k.accFmt) acc).2 x).2))) ∧
  (∀ (v : VarnishSet) (bias acc : Nat), isInteger v.accFmt = true → isInteger v.outFmt = true → isIdentity v = true →
    varnish v bias acc = intToInt v.outFmt v.sat (decodeInt v.accFmt acc)) ∧
  (∀ (v : VarnishSet) (bias acc : Nat) (x y : Bool) (m n : Nat) (e f : Int), isFloat v.accFmt = true → v.biasMode = 0 →
    (decodeFloat fp32 v.scale).2 = .fin x m e → decodeFloat (fmtOf v.accFmt) acc = (0, .fin y n f) →
    ∃ (z : Bool) (k : Nat) (g : Int), ratOf (.fin z k g) = ratOf (.fin x m e) * ratOf (.fin y n f) ∧ z = (x != y) ∧
      varnish v bias acc = andThen (convert (fmtOf v.accFmt) (boolNat v.rtz) (.varnish v.sat) (.fin z k g)) (outVal v)) ∧
  (∀ (v : VarnishSet) (bias acc : Nat) (x y w : Bool) (m n p : Nat) (e f q : Int), isFloat v.accFmt = true → v.biasMode ≠ 0 →
    (decodeFloat fp32 v.scale).2 = .fin x m e → decodeFloat (fmtOf v.accFmt) acc = (0, .fin y n f) →
    decodeFloat fp32 bias = (0, .fin w p q) →
    ratOf (.fin x m e) * ratOf (.fin y n f) + ratOf (.fin w p q) ≠ 0 →
    ∃ (z : Bool) (k : Nat) (g : Int),
      ratOf (.fin z k g) = ratOf (.fin x m e) * ratOf (.fin y n f) + ratOf (.fin w p q) ∧
      varnish v bias acc = andThen (convert (fmtOf v.accFmt) (boolNat v.rtz) (.varnish v.sat) (.fin z k g)) (outVal v)) ∧
  (∀ (v : VarnishSet) (y : Val), isFloat v.outFmt = true → outVal v y =
    ((convert (fmtOf v.outFmt) (boolNat v.rtz) (.varnish v.sat) y).1, clipFloat (fmtOf v.outFmt) v.clip
      (encodeFloat (fmtOf v.outFmt) (convert (fmtOf v.outFmt) (boolNat v.rtz) (.varnish v.sat) y).2))) ∧
  (∀ (fmt mode : Nat), isInteger fmt = true → floatToInt fmt mode .nan = (flagNV, 0) ∧
    floatToInt fmt mode (.inf false) = (flagNV, 2 ^ (8 * fmtBytes fmt - 1) - 1) ∧
    floatToInt fmt mode (.inf true) = (flagNV, 2 ^ (8 * fmtBytes fmt - 1))) ∧
  (∀ (fmt mode : Nat) (neg : Bool) (m : Nat) (e : Int), isInteger fmt = true → ∃ n : Nat,
    rounds (dirOf mode neg) n (ratOf (.fin false m e)) ∧
    (if neg then
      (if n ≤ 2 ^ (8 * fmtBytes fmt - 1) then
        (floatToInt fmt mode (.fin neg m e)).1 = flagIf (decide ((n : Rat) ≠ ratOf (.fin false m e))) flagNX ∧
          signedOf (8 * fmtBytes fmt) (floatToInt fmt mode (.fin neg m e)).2 = -(n : Int)
      else floatToInt fmt mode (.fin neg m e) = (flagNV, 2 ^ (8 * fmtBytes fmt - 1)))
    else
      (if n < 2 ^ (8 * fmtBytes fmt - 1) then
        floatToInt fmt mode (.fin neg m e) = (flagIf (decide ((n : Rat) ≠ ratOf (.fin false m e))) flagNX, n)
      else floatToInt fmt mode (.fin neg m e) = (flagNV, 2 ^ (8 * fmtBytes fmt - 1) - 1)))) ∧
  (∀ (F : Fmt) (x : Val), F ∈ floatFormats → x ≠ .nan →
    sameVal (decodeFloat F (encodeFloat F (boundLow F x))).2 (boundLow F x) ∧
    sameVal (decodeFloat F (encodeFloat F (boundHigh F x))).2 (boundHigh F x) ∧
    (F.hasInf = true → ieeeLt (boundLow F x) x = false ∧ ieeeLt x (boundHigh F x) = false) ∧
    (∀ code : Nat, (decodeFloat F code).2 ≠ .nan →
      (ieeeLt (decodeFloat F code).2 x = false → ieeeLt (decodeFloat F code).2 (boundLow F x) = false) ∧
      (ieeeLt x (decodeFloat F code).2 = false → ieeeLt (boundHigh F x) (decodeFloat F code).2 = false))) ∧
  (∀ x : Val, x ≠ .nan → (ieeeLt (maxVal e4m3 false) x = false → ieeeLt (boundLow e4m3 x) x = false) ∧
    (ieeeLt (maxVal e4m3 false) x = true → boundLow e4m3 x = maxVal e4m3 false)) ∧
  (∀ (F : Fmt) (l h code : Nat), (decodeFloat F code).2 ≠ .nan →
    (ieeeLt (decodeFloat F code).2 (boundLow F (decodeFloat fp32 l).2) = false →
      ieeeLt (boundHigh F (decodeFloat fp32 h).2) (decodeFloat F code).2 = false → clipFloat F (some (l, h)) code = code) ∧
    (ieeeLt (decodeFloat F code).2 (boundLow F (decodeFloat fp32 l).2) = true →
      ieeeLt (boundHigh F (decodeFloat fp32 h).2) (boundLow F (decodeFloat fp32 l).2) = false →
      clipFloat F (some (l, h)) code = encodeFloat F (boundLow F (decodeFloat fp32 l).2)) ∧
    (ieeeLt (decodeFloat F code).2 (boundLow F (decodeFloat fp32 l).2) = false →
      ieeeLt (boundHigh F (decodeFloat fp32 h).2) (decodeFloat F code).2 = true →
      clipFloat F (some (l, h)) code = encodeFloat F (boundHigh F (decodeFloat fp32 h).2))) ∧
  (∀ (F : Fmt) (l h code : Nat), F ∈ floatFormats → (decodeFloat F code).2 ≠ .nan →
    (decodeFloat fp32 l).2 ≠ .nan → (decodeFloat fp32 h).2 ≠ .nan →
    ieeeLt (boundHigh F (decodeFloat fp32 h).2) (boundLow F (decodeFloat fp32 l).2) = true →
    clipFloat F (some (l, h)) code = encodeFloat F (boundHigh F (decodeFloat fp32 h).2)) ∧
  (∀ (F : Fmt) (clip : Option (Nat × Nat)) (code : Nat), (decodeFloat F code).2 = .nan → clipFloat F clip code = code)

/-- An integer sum, and an integer into a narrower format, raise OF exactly outside the range: with `sat` the nearer end
of the range results, without it the value modulo 2^w in the range; inside the range the value stands and no flag is
raised. -/
def Obligations.IntegersSaturateOrWrap : Prop :=
  (∀ (w : Nat) (sat : Bool) (a b : Int), 1 ≤ w → -(2 ^ (w - 1)) ≤ a + b → a + b < 2 ^ (w - 1) → addInt w sat a b = (0, a + b)) ∧
  (∀ (w : Nat) (a b : Int), 1 ≤ w → 2 ^ (w - 1) ≤ a + b → addInt w true a b = (flagOF, 2 ^ (w - 1) - 1)) ∧
  (∀ (w : Nat) (a b : Int), 1 ≤ w → a + b < -(2 ^ (w - 1)) → addInt w true a b = (flagOF, -(2 ^ (w - 1)))) ∧
  (∀ (w : Nat) (a b : Int), 1 ≤ w → (a + b < -(2 ^ (w - 1)) ∨ 2 ^ (w - 1) ≤ a + b) →
    (addInt w false a b).1 = flagOF ∧ -(2 ^ (w - 1)) ≤ (addInt w false a b).2 ∧ (addInt w false a b).2 < 2 ^ (w - 1) ∧
      (2 ^ w : Int) ∣ (a + b) - (addInt w false a b).2) ∧
  (∀ (f : Nat) (sat : Bool) (x : Int), 1 ≤ fmtBytes f → -(2 ^ (8 * fmtBytes f - 1)) ≤ x → x < 2 ^ (8 * fmtBytes f - 1) →
    (intToInt f sat x).1 = 0 ∧ signedOf (8 * fmtBytes f) (intToInt f sat x).2 = x) ∧
  (∀ (f : Nat) (x : Int), 1 ≤ fmtBytes f → 2 ^ (8 * fmtBytes f - 1) ≤ x →
    (intToInt f true x).1 = flagOF ∧ signedOf (8 * fmtBytes f) (intToInt f true x).2 = 2 ^ (8 * fmtBytes f - 1) - 1) ∧
  (∀ (f : Nat) (x : Int), 1 ≤ fmtBytes f → x < -(2 ^ (8 * fmtBytes f - 1)) →
    (intToInt f true x).1 = flagOF ∧ signedOf (8 * fmtBytes f) (intToInt f true x).2 = -(2 ^ (8 * fmtBytes f - 1))) ∧
  (∀ (f : Nat) (x : Int), 1 ≤ fmtBytes f → (x < -(2 ^ (8 * fmtBytes f - 1)) ∨ 2 ^ (8 * fmtBytes f - 1) ≤ x) →
    (intToInt f false x).1 = flagOF ∧ (2 ^ (8 * fmtBytes f) : Int) ∣ x - signedOf (8 * fmtBytes f) (intToInt f false x).2)

/-! ### The tick (10) -/

/-- A tick starts by the own count when its time has come, unless an activation or a switch of the current tick is due;
its number is one more, modulo 2^32. What a tick start holds: late tiles and spans that have ended are judged, each tick and
kind once in the log and its counter; due rewinds are made; a source lengthens the tick before a gated entry; the tick after
next is announced; the items whose lead reaches a tick ahead schedule their tiles and move the cursor on, in P2 and P3 only
counted. TICK_OUT's pulse is high for 25, 50 or 75% of the period, and an edge is taken within 5% of one of them. The
TICK_IN source: an edge near the expected time starts the next tick, one elsewhere is counted and ignored, a missing one
puts the source in holdover. A follower uses a marker: beyond 1 us, or before lock, it steps to the estimated start, else it
lengthens the tick before by e / 8 within 10 ns and tracks e / 256; another number renumbers; 16 markers in a row within
25 ns lock it. One whose port falls silent takes the next port that carries markers, else holdover. Where the spec leaves a
point to the model it follows assumption logs 3, 29, 50, 52, 90, 120, 121 and, for a pulse of no legal width, 157. -/
def Obligations.TicksAndTheirSources : Prop :=
  (∀ s : State, s.tick.running = true → boundaryWork s = false → tickMode s ≠ some 2 → s.tick.next ≤ (s.now : Rat) →
    ∃ t, exec .tickStart s = .next t ∧ t.tick.number = s.tick.number + 1 ∧ t.tick.running = true ∧
      t.tick.start = s.tick.next ∧ .tickOut (s.tick.number + 1) (pulseHigh s (pulseOf (s.tick.number + 1))) ∈ t.out ∧
      t.switch.routes = s.switch.routes ∧ t.sketch.plans = s.sketch.plans) ∧
  (∀ s : State, (s.tick.running = false ∨ (s.now : Rat) < s.tick.next) → exec .tickStart s = .next s) ∧
  (∀ (s : State) (w : Nat), tickMode s ≠ some 2 → exec (.tickInEdge w) s = .next s) ∧
  (∀ (s : State) (w : Nat), tickMode s = some 2 → boundaryWork s = false → s.tick.running = true → s.tick.framePos = none →
    absRat ((s.now : Rat) - (s.tick.inputDelay : Rat) / 10 - s.tick.next) ≤ (periodOf s : Rat) / 20 →
    ∃ t, exec (.tickInEdge w) s = .next t ∧ t.tick.number = s.tick.number + 1 ∧
      t.tick.start = (s.now : Rat) - (s.tick.inputDelay : Rat) / 10 ∧ t.tick.holdover = false) ∧
  (∀ (s : State) (w : Nat), tickMode s = some 2 → boundaryWork s = false → s.tick.running = true →
    s.tick.holdover = false → s.tick.badEdges < 3 →
    (periodOf s : Rat) / 20 < absRat ((s.now : Rat) - (s.tick.inputDelay : Rat) / 10 - s.tick.next) →
    exec (.tickInEdge w) s = .next (sketchCount 8 1 (updTick (fun t => { t with badEdges := t.badEdges + 1 }) s))) ∧
  (∀ s : State, tickMode s = some 2 → s.tick.running = true → s.tick.holdover = false →
    s.tick.next + (periodOf s : Rat) / 20 < (s.now : Rat) →
    ∃ t, exec .tickInMissing s = .next t ∧ t.tick.holdover = true ∧ t.tick.number = s.tick.number ∧
      t.sketch = s.sketch) ∧
  (∀ (s : State) (ts : TickSettings) (p q : Nat), s.sketch.tickSet = some ts → s.tick.port = some p → ts.mode = 0 →
    4 ≤ s.tick.silent → (searchOrder ts.ports p).find? (fun x => (markerPorts s).contains x) = some q →
    exec .tickPortLost s = .next { s with tick := { s.tick with port := some q, silent := 0 } }) ∧
  (∀ (s : State) (ts : TickSettings) (p : Nat), s.sketch.tickSet = some ts → s.tick.port = some p → ts.mode = 0 →
    4 ≤ s.tick.silent → (searchOrder ts.ports p).find? (fun x => (markerPorts s).contains x) = none →
    s.tick.holdover = false →
    ∃ t, exec .tickPortLost s = .next t ∧ t.tick.holdover = true ∧ t.tick.port = none ∧
      t.tick.number = s.tick.number ∧ t.sketch = s.sketch) ∧
  (∀ s : State, s.tick.running = true → boundaryWork s = false → tickMode s ≠ some 2 → s.tick.next ≤ (s.now : Rat) →
    (let n := s.tick.number + 1
     let u := rewindsDue n (reduceOverruns (streamOverruns (advanceTick s.tick.next n s)))
     let v := sweepTiles (raiseOverruns (announceTick (gateTick u)))
     exec .tickStart s = .next (if boundaryWork v then v else prefetch false v))) ∧
  (∀ s : State,
    (let late := (s.streams.tiles.map (·.2)).filter (fun t => !t.late && laterTick s.tick.number t.tick)
     let t := streamOverruns s
     t.streams.tiles = s.streams.tiles.map (fun e =>
        (e.1, { e.2 with late := e.2.late || laterTick s.tick.number e.2.tick })) ∧
      t.streams.ctr = bump 11 late.length s.streams.ctr ∧
      (∀ n : W32, tgetD t.tick.lateStream n.toNat 0 =
        tgetD s.tick.lateStream n.toNat 0 + (late.filter (fun x => !x.exempt && decide (x.tick = n))).length) ∧
      t.tick.lateReduce = s.tick.lateReduce ∧ t.canvas = s.canvas ∧ t.ports = s.ports)) ∧
  (∀ s : State,
    (let t := reduceOverruns s
     t.canvas.slots = s.canvas.slots.map (fun x =>
        if (spanOver s.tick.number x).isSome then { x with item := none } else x) ∧
      (engineRuns s = false → t.sketch = s.sketch ∧ t.tick = s.tick) ∧
      (engineRuns s = true → ∀ n : W32, tgetD t.tick.lateReduce n.toNat 0 = tgetD s.tick.lateReduce n.toNat 0 +
        (s.canvas.slots.filter (fun x => (spanOver s.tick.number x).any (fun i => decide (i.1 = n)))).length) ∧
      t.tick.lateStream = s.tick.lateStream ∧ t.streams = s.streams ∧ t.ports = s.ports)) ∧
  (∀ (s : State) (n : W32) (plan kind entry object more : Nat),
    (let old := tgetD (lateTable s.tick kind) n.toNat 0
     let t := noteOverrun n plan kind entry object more s
     tgetD (lateTable t.tick kind) n.toNat 0 = old + more ∧
      (old = 0 → t.sketch.ctr = bump (8 + kind) 1 s.sketch.ctr ∧
        t.sketch.overruns = (overrunBytes n plan kind entry object more :: s.sketch.overruns).take 256) ∧
      (0 < old → t.sketch.ctr = s.sketch.ctr ∧ t.sketch.overruns = growFirst n kind (old + more) s.sketch.overruns))) ∧
  (∀ (s : State) (u : Nat), s.sketch.overrunAt = some u → s.now < u + 1000000 → raiseOverruns s = s) ∧
  (∀ (s : State) (r : Bytes) (l : List Bytes), s.sketch.overrunPending = r :: l →
    (∀ u, s.sketch.overrunAt = some u → u + 1000000 ≤ s.now) →
    (raiseOverruns s).sketch.overrunPending = [] ∧ (raiseOverruns s).sketch.overrunAt = some s.now) ∧
  (∀ (s : State) (n : W32) (w : Option (Nat × Nat)),
    (s.tick.running = false ∨ laterTick s.tick.number (n + 1) = false → judgeEgress n w s = s) ∧
    (s.tick.running = true → laterTick s.tick.number (n + 1) = true →
      tgetD (judgeEgress n w s).tick.lateEgress n.toNat 0 = tgetD s.tick.lateEgress n.toNat 0 + 1)) ∧
  (∀ (s : State) (n : W32), (rewindsDue n s).streams.rewinds = s.streams.rewinds.filter (fun r => laterTick r.2.1 n)) ∧
  (∀ (s : State) (n c v : W32) (i : Nat), s.streams.rewinds = [(i, c, v)] → laterTick c n = false →
    (rewindsDue n s).streams.streams = (setCursor i v.toNat s).streams.streams) ∧
  (∀ (s : State) (e : W64) (ts : TickSettings), gateEntry s (s.tick.number + 2) = some e →
    settingsAt s (s.tick.number + 1) = some ts →
    (isSource s = true → sourceSet ts = true → bitOf e.toNat 28 = true → engineRuns s = true →
      (gateTick s).tick.gated = s.tick.gated ++ [s.tick.number + 2] ∧
        tickLength (gateTick s) (s.tick.number + 1) = tickLength s (s.tick.number + 1) + (ts.gateMax : Rat) ∧
        (gateTick s).power.ctr = bump 8 1 s.power.ctr ∧ (gateTick s).tick.next = s.tick.next) ∧
    (isSource s = false ∨ sourceSet ts = false ∨ bitOf e.toNat 28 = false ∨ engineRuns s = false → gateTick s = s)) ∧
  (∀ s : State, gateEntry s (s.tick.number + 2) = none → gateTick s = s) ∧
  (∀ (s : State) (p : Nat), p < 96 → s.ports.length = 96 →
    (portOf (announceTick s) p).link.waitingTick = (portOf s p).link.waitingTick ++
      (if p ∈ markerPorts s then
        [markerFlit s (s.tick.number + 2) (s.tick.gated.contains (s.tick.number + 2))] else [])) ∧
  (∀ s : State, prefetch false s = forEach ((List.range 16).flatMap (fun d =>
      match entryFor s (s.tick.number + w32 d) with
      | none => []
      | some (p, i, e) => ((streamItems s e).filter (fun x => d = stLead (streamAt s (itStream x)) && decide (1 ≤ d))).map
          (fun x => (d, p, i, x))))
    (fun w u => runItem (s.tick.number + w32 w.1) w.2.1 w.2.2.1 w.2.2.2 u) s) ∧
  (∀ (s : State) (n : W32) (p i : Nat) (x : W64), engineRuns s = false → runItem n p i x s = streamCount 15 1 s) ∧
  (∀ (s : State) (n : W32) (p i : Nat) (x : W64), engineRuns s = true → s.streams.rewinds = [] →
    (let e := streamAt s (itStream x)
     let total := (streamTables s).tiles e
     (stValid e = false ∨ total = 0 → runItem n p i x s = s) ∧
     (stValid e = true → total ≠ 0 → total ≤ 2 ^ 32 →
       stCursor (streamAt (runItem n p i x s) (itStream x)) = (stCursor e + itCount x) % total ∧
       (runItem n p i x s).streams.tiles = (forEach (List.range (itCount x))
         (fun j => scheduleTile n p i x ((stCursor e + j) % total)) s).streams.tiles))) ∧
  (∀ (s : State) (n : W32) (p i t : Nat) (x : W64) (k g off : Nat),
    tilePlace s (streamAt s (itStream x)) t = some (k, g, off) → badEntry s 9 k = false →
    (let sg := segAt s g
     (sgValid sg = true → sgRes sg = 2 → scheduleTile n p i x t s = s) ∧
     (sgLocal sg = true → sgReady sg = false → scheduleTile n p i x t s = unreadyTile g s) ∧
     (sgLocal sg = true → sgReady sg = true →
       tget (scheduleTile n p i x t s).streams.tiles s.streams.nextTile = some {
         stream := itStream x, number := t, tick := n, entry := i, plan := p, portSet := itSet x, segment := g
         address := sgStore sg + off, bytes := tileBytes (streamAt s (itStream x)), host := none } ∧
       (scheduleTile n p i x t s).streams.nextTile = s.streams.nextTile + 1))) ∧
  (∀ s : State, pulseHigh s .zero = (periodOf s : Rat) / 4 ∧ pulseHigh s .one = (periodOf s : Rat) / 2 ∧
    pulseHigh s .mark = (periodOf s : Rat) * 3 / 4) ∧
  (∀ (s : State) (h : Rat) (x : Pulse), 0 < periodOf s →
    (pulseFrom s h = some x ↔ absRat (h - pulseHigh s x) ≤ (periodOf s : Rat) / 20)) ∧
  (∀ (s : State) (p a : Nat) (b : Bytes) (inBlock : Bool) (ts : TickSettings), s.sketch.tickSet = some ts →
    (let usable := ts.mode = 0 ∧ (portOf s p).features.getLsbD 2 = true ∧ leAt b 12 2 = ts.source.toNat ∧
      (s.tick.port = some p ∨ (s.tick.port = none ∧ ts.ports.contains p = true))
     let arrived : Rat := ((a : Rat) - ((portOf s p).rxPath : Rat) - (if inBlock then 1400 else 0)) / 10
     let start := arrived - ((portOf s p).linkDelay.toNat : Rat) / 10 + (signedOf 32 (leAt b 4 4) : Rat) / 10
     (¬ usable → tickMarker p b inBlock a s = sketchCount 4 1 s) ∧
     (usable → bitOf (leAt b 15 1) 1 = false → tickMarker p b inBlock a s =
       useMarker p { tick := w32 (leAt b 0 4), start := start, depth := leAt b 14 1 } s))) ∧
  (∀ (s : State) (p : Nat) (k : Marker), s.tick.running = true →
    (let e := k.start - localStart s k.tick
     let t := useMarker p k s
     let g := if absRat e ≤ 25 then s.tick.good + 1 else 0
     let step := s.tick.locked = false ∨ 1000 < absRat e
     t.tick.good = g ∧ (t.tick.locked = true ↔ (16 ≤ g ∨ ¬ step)) ∧ t.tick.port = some p ∧ t.tick.silent = 0 ∧
      t.tick.holdover = false ∧ t.tick.depth = min 255 (k.depth + 1) ∧
      t.sketch.ctr = (let x := bump 3 1 s.sketch.ctr
                      let y := if s.tick.locked = false ∨ 1000 < absRat e then bump 5 1 x else x
                      if nearestTick s k.start ≠ k.tick then bump 6 1 y else y) ∧
      (step → s.tick.lengthen.wf = true → (∀ x ∈ s.tick.lengthen, x.1 < 2 ^ 32) →
        localStart t k.tick = k.start ∧ t.tick.number = s.tick.number + (k.tick - nearestTick s k.start)) ∧
      (¬ step → t.tick.number = s.tick.number ∧ t.tick.rate = s.tick.rate + e / 256 ∧
        (1 ≤ tickDiff k.tick s.tick.number →
          localStart t k.tick = localStart s k.tick + max (-10) (min 10 (e / 8))))))

/-! ### The tray (12) -/

/-- The cooling loops move a duty toward its target by at most 2.0 points and keep it from 1.0% to 99.0%; only the active device
with its outputs on drives the tray. Cooling alarms: a condition raises its alarm once and holds pumps or fans at 99.0%, and a
pump alarm overrides the pump loop; it ends after 10 s without it, and not before, with an event that carries its tach, the flow
or the outlet temperature. A tach counts pulses of 10 µs and more. Where the spec leaves a point to the model it follows
assumption logs 3, 68, 69, 124, 125, 130 and 135. -/
def Obligations.CoolingLoopsAndAlarms : Prop :=
  (∀ (s : State) (o i : TempReading) (air : List TempReading), runsTray s = true → pumpsHeld s = false →
    10 ≤ s.tray.pumpDuty → s.tray.pumpDuty ≤ 990 → 10 ≤ s.tray.fanDuty → s.tray.fanDuty ≤ 990 →
    ∃ t, exec (.coolingLoopUpdate o i air) s = .next t ∧ 10 ≤ t.tray.pumpDuty ∧ t.tray.pumpDuty ≤ 990 ∧
      t.tray.pumpDuty ≤ s.tray.pumpDuty + 20 ∧ s.tray.pumpDuty ≤ t.tray.pumpDuty + 20 ∧
      10 ≤ t.tray.fanDuty ∧ t.tray.fanDuty ≤ 990 ∧ t.tray.fanDuty ≤ s.tray.fanDuty + 20 ∧
      s.tray.fanDuty ≤ t.tray.fanDuty + 20 ∧ t.tray.coolOut = (if o.plausible then o.value else s.tray.coolOut) ∧
      (o.plausible = false → t.tray.pumpDuty = s.tray.pumpDuty) ∧
      (hottestAir air = none → t.tray.fanDuty = s.tray.fanDuty) ∧
      t.tray.own = s.tray.own ∧ t.ports = s.ports) ∧
  (∀ (s : State) (o i : TempReading) (air : List TempReading), runsTray s = true → pumpsHeld s = false →
    o.plausible = true → 10 ≤ s.policy.pumpLo → s.policy.pumpLo ≤ s.tray.pumpDuty → s.tray.pumpDuty ≤ s.policy.pumpHi →
    s.policy.pumpHi ≤ 990 →
    ∃ t, exec (.coolingLoopUpdate o i air) s = .next t ∧ s.policy.pumpLo ≤ t.tray.pumpDuty ∧
      t.tray.pumpDuty ≤ s.policy.pumpHi ∧
      ((s.policy.coolTarget : Int) < o.value → s.tray.pumpDuty ≤ t.tray.pumpDuty) ∧
      (o.value < (s.policy.coolTarget : Int) → t.tray.pumpDuty ≤ s.tray.pumpDuty)) ∧
  (∀ (s : State) (o i : TempReading) (air : List TempReading) (a : Int), runsTray s = true → s.tray.coolantHot = false →
    hottestAir air = some a → 10 ≤ s.policy.fanLo → s.policy.fanLo ≤ s.tray.fanDuty → s.tray.fanDuty ≤ s.policy.fanHi →
    s.policy.fanHi ≤ 990 →
    ∃ t, exec (.coolingLoopUpdate o i air) s = .next t ∧ s.policy.fanLo ≤ t.tray.fanDuty ∧
      t.tray.fanDuty ≤ s.policy.fanHi ∧
      ((s.policy.airTarget : Int) < a → s.tray.fanDuty ≤ t.tray.fanDuty) ∧
      (a < (s.policy.airTarget : Int) → t.tray.fanDuty ≤ s.tray.fanDuty)) ∧
  (∀ (s : State) (o i : TempReading) (air : List TempReading), runsTray s = false →
    exec (.coolingLoopUpdate o i air) s = .next s) ∧
  (∀ (s : State) (o i : TempReading) (air : List TempReading), runsTray s = true → s.tray.pumpAlarm ≠ 0 →
    ∃ t, exec (.coolingLoopUpdate o i air) s = .next t ∧ t.tray.pumpDuty = s.tray.pumpDuty ∧
      t.tray.pumpPinned = s.tray.pumpPinned) ∧
  (∀ t : PulseTrain, tachMilliHz t =
    min 1000000 ((t.widths.filter (fun w => decide (10000 ≤ w))).length * 1000000000000 / t.span)) ∧
  (∀ (s : State) (n : Nat) (tach : PulseTrain), n < 2 → runsTray s = true → tachRpm tach < nth s.policy.pumpTachMin n →
    200 ≤ nth s.tray.pumpDrive n → alarmOn s (.pump n) = false →
    ∃ t, exec (.pumpAlarm n tach) s = .next t ∧ alarmOn t (.pump n) = true ∧ t.tray.ctr = bump 11 1 s.tray.ctr ∧
      nth t.tray.pumpDrive (1 - n) = 990 ∧ t.tray.own = s.tray.own) ∧
  (∀ (s : State) (n : Nat) (tach : PulseTrain), n < 2 → runsTray s = true →
    (nth s.policy.pumpTachMin n ≤ tachRpm tach ∨ nth s.tray.pumpDrive n < 200) → exec (.pumpAlarm n tach) s = .next s) ∧
  (∀ (s : State) (a b : Reading) (x : Nat), awake s = true → s.boot.role.toNat ≤ 1 → lowerPlausible a b = some x →
    s.policy.flowMin ≤ flowRate s x →
    exec (.flowSample a b) s = .next { s with tray := { s.tray with flowNow := flowRate s x, flowLow := 0 } }) ∧
  (∀ (s : State) (a b : Reading) (x : Nat), runsTray s = true → s.boot.role.toNat ≤ 1 → lowerPlausible a b = some x →
    flowRate s x < s.policy.flowMin → s.tray.flowLow = 4 → s.tray.flowAlarm = false →
    ∃ t, exec (.flowSample a b) s = .next t ∧ t.tray.flowAlarm = true ∧ t.tray.pumpDuty = 990 ∧
      t.tray.pumpDrive = [990, 990] ∧ t.tray.flowNow = flowRate s x ∧ t.tray.ctr = bump 11 1 s.tray.ctr) ∧
  (∀ a b : Reading, (a.plausible = true → b.plausible = true → lowerPlausible a b = some (min a.value b.value)) ∧
    (a.plausible = false → b.plausible = false → lowerPlausible a b = none)) ∧
  (∀ (s : State) (o : Int), runsTray s = true → (s.policy.coolTarget : Int) + 100 < o → s.tray.coolantHot = false →
    ∃ t, exec (.coolantHot o) s = .next t ∧ t.tray.coolantHot = true ∧ t.tray.pumpDuty = 990 ∧ t.tray.fanDuty = 990) ∧
  (∀ (s : State) (o : Int), o ≤ (s.policy.coolTarget : Int) + 100 → exec (.coolantHot o) s = .next s) ∧
  (∀ (s : State) (n : Nat) (tach : PulseTrain), n < 8 → runsTray s = true → s.tray.coolantHot = false →
    tachRpm tach < nth s.policy.fanTachMin n →
    ∃ t, exec (.fanFault n tach) s = .next t ∧ alarmOn t (.fan n) = true ∧ t.tray.fanDuty = s.tray.fanDuty ∧
      t.tray.own = s.tray.own) ∧
  (∀ (s : State) (n : Nat) (tach : PulseTrain), n < 8 → nth s.policy.fanTachMin n ≤ tachRpm tach → exec (.fanFault n tach) s = .next s) ∧
  (∀ (s : State) (a : Alarm) (tach : PulseTrain), a.ok = true → awake s = true → s.tray.own = .active → alarmOn s a = true →
    tgetD s.tray.alarmSeen (alarmNumber a) 0 + 10000000000 ≤ s.now →
    ∃ t u, exec (.coolingAlarmEnd a tach) s = .next t ∧ alarmOn t a = false ∧ t.tray.pumpDuty = s.tray.pumpDuty ∧
      t.tray.own = s.tray.own ∧ u.tray.alarmSeen = tdel s.tray.alarmSeen (alarmNumber a) ∧
      t = raiseWith (alarmCode a) (alarmSource a) (match a with
        | .pump _ => leBytes 2 (tachRpm tach)
        | .fan _ => leBytes 2 (tachRpm tach)
        | .flow => leBytes 2 s.tray.flowNow
        | .coolant => leBytes 2 (wrapInt 16 s.tray.coolOut)) true u) ∧
  (∀ (s : State) (a : Alarm) (tach : PulseTrain), a.ok = true → (s.tray.own ≠ .active ∨ alarmOn s a = false ∨
    s.now < tgetD s.tray.alarmSeen (alarmNumber a) 0 + 10000000000) → exec (.coolingAlarmEnd a tach) s = .next s)

/-- The twin link: its lanes, its frames and its heartbeats. Three valid heartbeats in a row are heard; 500 µs of silence is
a loss; a released twin is noted. Epochs: a standby gathers the data of the newest epoch and commits it when every byte of
the image has come, right and later than the last; the active device sends one each cycle in warm mode, keeps acknowledges,
and answers a request; snapshots go to flash. Where the spec leaves a point to the model it follows assumption logs 3, 70,
126 to 129 and 137. -/
def Obligations.TwinLinkAndEpochs : Prop :=
  (∀ (s : State) (l n : Nat) (g : List CodeGroup) (k : Int) (inv : Bool), l < 4 → hasTwin s = true →
    readLaneSet g = some (n, inv) →
    ∃ t, exec (.twinLaneTrained l g k) s = .next t ∧ t.tray.twin.lanes = tset s.tray.twin.lanes l n ∧
      t.tray.twin.inverted.getLsbD l = inv ∧ t.tray.own = s.tray.own ∧
      t.tray.twin.up = (if (tset s.tray.twin.lanes l n).length < 4 then s.tray.twin.up
        else lanesPermuted (tset s.tray.twin.lanes l n) && lanesDeskewed (tset s.tray.twin.skews l k))) ∧
  (∀ (s : State) (l : Nat) (g : List CodeGroup) (k : Int), l < 4 → readLaneSet g = none →
    exec (.twinLaneTrained l g k) s = .next s) ∧
  (∀ (s : State) (l n : Nat), l < 4 → hasTwin s = true → tget s.tray.twin.lanes l = some n →
    exec (.twinLinkDown l) s = .next (trainTwin s) ∧ (trainTwin s).tray.twin.up = false ∧
      (trainTwin s).tray.twin.lanes = []) ∧
  (∀ (s : State) (a b : TachReading) (c d : Reading), hasTwin s = true → s.tray.twin.up = true →
    ∃ t, exec (.heartbeatSend a b c d) s = .next t ∧
      t.out = .twin ((frameLanes s.tray.twin.txRd
        (twinFrame 0x01 s.tray.twin.fseq (heartbeatPayload (trayInputs s a b c d) s))).map (·.1)) ::
        .twinIdle (s.tray.twin.txRd.map idlePair) :: s.out ∧
      t.tray.twin.fseq = s.tray.twin.fseq + 1 ∧ t.tray.own = s.tray.own) ∧
  (∀ (s : State) (f : List (List CodeGroup)) (b : Bytes), hasTwin s = true → s.tray.twin.up = true →
    receivedFrame s.tray.twin f = some (1, b) → b.length = 32 → s.tray.twin.heard = false → s.tray.twin.run = 2 →
    s.tray.own = .isolated →
    ∃ t, exec (.heartbeatReceived f) s = .next t ∧ t.tray.twin.heard = true ∧ t.tray.twin.lastHeard = s.now ∧
      t.tray.own = .standby) ∧
  (∀ (s : State) (f : List (List CodeGroup)) (b : Bytes), hasTwin s = true → s.tray.twin.up = true →
    receivedFrame s.tray.twin f = some (1, b) → b.length = 32 → s.tray.twin.heard = false → s.tray.twin.run < 2 →
    s.tray.own ≠ .active →
    exec (.heartbeatReceived f) s = .next (noteLine (updTwin (takeHeartbeat b s.now (rankOf (rankByte s))) s))) ∧
  (∀ (s : State) (f : List (List CodeGroup)), hasTwin s = true → s.tray.twin.up = true →
    receivedFrame s.tray.twin f = none →
    ∃ t, exec (.twinFrameCrcFail f) s = .next t ∧ t.tray.twin.run = (if s.tray.twin.heard then s.tray.twin.run else 0) ∧
      t.tray.ctr = bump 6 1 s.tray.ctr ∧ exec (.heartbeatReceived f) s = .next t) ∧
  (∀ s : State, hasTwin s = true → s.tray.twin.heard = true → s.tray.twin.lastHeard + 500000 ≤ s.now →
    s.tray.own = .standby → s.tray.lineLow = true → s.tray.recvEpoch = none →
    ∃ t, exec .heartbeatLost s = .next t ∧ t.tray.twin.heard = false ∧ t.tray.own = .isolated ∧
      t.tray.ctr = bump 7 1 s.tray.ctr) ∧
  (∀ s : State, s.now < s.tray.twin.lastHeard + 500000 → exec .heartbeatLost s = .next s) ∧
  (∀ (s : State) (f : List (List CodeGroup)) (p : Bytes), hasTwin s = true → s.tray.twin.up = true →
    receivedFrame s.tray.twin f = some (6, p) →
    exec (.releaseReceived f) s = .next { s with tray := { s.tray with
      lineLow := s.tray.drives, twin := { s.tray.twin with release := some (w16 (leAt p 0 2)) } } }) ∧
  (∀ (s : State) (f : List (List CodeGroup)) (p : Bytes), hasTwin s = true → s.tray.twin.up = true →
    receivedFrame s.tray.twin f = some (2, p) → s.tray.own = .standby → 8 ≤ p.length → p.length ≤ 65544 →
    leAt p 4 4 + (p.length - 8) ≤ 4194304 →
    (s.tray.recvEpoch = none ∨ s.tray.recvEpoch = some (w32 (leAt p 0 4))) →
    exec (.stateDataReceived f) s = .next { s with tray := { s.tray with
      recvEpoch := some (w32 (leAt p 0 4)), recv := mwrite s.tray.recv (leAt p 4 4) (p.drop 8)
      recvCovered := addRange (leAt p 4 4) (leAt p 4 4 + (p.drop 8).length) s.tray.recvCovered } }) ∧
  (∀ (s : State) (f : List (List CodeGroup)) (p : Bytes), hasTwin s = true → s.tray.twin.up = true →
    receivedFrame s.tray.twin f = some (3, p) → s.tray.own = .standby → p.length = 16 →
    (let e := w32 (leAt p 0 4)
     let n := leAt p 4 4
     let b := mreadN s.tray.recv 0 n
     s.tray.recvEpoch = some e → n ≤ 4194304 → (n = 0 ∨ ∃ r ∈ s.tray.recvCovered, r.1 = 0 ∧ n ≤ r.2) → imageEpoch b = e →
     w32 (leAt p 8 4) = crc32 b → (s.tray.committed = none ∨ laterTick e s.tray.committedEpoch = true) →
     ∃ t, exec (.stateEndReceived f) s = .next t ∧ t.tray.recvEpoch = none ∧ t.tray.own = .standby ∧
       (if readsFormat (imageFormatOf b) then
         t.tray.committed = some b ∧ t.tray.committedEpoch = e ∧ t.tray.committedAt = s.now ∧
           t.tray.freshCommit = true ∧ t.tray.ctr = bump 4 1 s.tray.ctr
        else t.tray.committed = s.tray.committed ∧ t.tray.committedEpoch = s.tray.committedEpoch ∧
           t.tray.ctr = bump 5 1 s.tray.ctr))) ∧
  (∀ (s : State) (f : List (List CodeGroup)) (p : Bytes), hasTwin s = true → s.tray.twin.up = true →
    receivedFrame s.tray.twin f = some (3, p) → s.tray.own = .standby → p.length = 16 →
    (s.tray.recvEpoch = none ∨ (s.tray.recvEpoch = some (w32 (leAt p 0 4)) ∧
      (imageEpoch (mreadN s.tray.recv 0 (min (leAt p 4 4) 4194304)) ≠ w32 (leAt p 0 4) ∨
        crc32 (mreadN s.tray.recv 0 (min (leAt p 4 4) 4194304)) ≠ w32 (leAt p 8 4) ∨
        (leAt p 4 4 ≠ 0 ∧ ∀ r ∈ s.tray.recvCovered, r.1 = 0 → r.2 < leAt p 4 4)))) →
    ∃ t, exec (.stateEndReceived f) s = .next t ∧ t.tray.recvEpoch = none ∧ t.tray.committed = s.tray.committed ∧
      t.tray.ctr = bump 5 1 s.tray.ctr) ∧
  (∀ (s : State) (f : List (List CodeGroup)) (p : Bytes), hasTwin s = true → s.tray.twin.up = true →
    receivedFrame s.tray.twin f = some (4, p) → s.tray.own = .active → p.length = 8 → s.tray.handover = none →
    exec (.stateAckReceived f) s = .next { s with tray := { s.tray with
      acked := some (w32 (leAt p 0 4)), unacked := 0, ackSeen := true, unsyncRaised := false
      awaits := s.tray.awaits && !decide (w32 (leAt p 0 4) = s.tray.epoch) } }) ∧
  (∀ (s : State) (f : List (List CodeGroup)) (p : Bytes) (src : CmdSrc) (d : Nat), hasTwin s = true →
    s.tray.twin.up = true → receivedFrame s.tray.twin f = some (4, p) → s.tray.own = .active → p.length = 8 →
    s.tray.handover = some (src, w32 (leAt p 0 4), d) →
    ∃ t, exec (.stateAckReceived f) s = .next t ∧ t.tray.own = .standby ∧ t.tray.handover = none ∧
      t.tray.drives = false ∧ t.tray.outputs = false ∧ t.tray.noTakeUntil = s.now + 20000000) ∧
  (∀ (s : State) (f : List (List CodeGroup)) (p : Bytes), hasTwin s = true → s.tray.twin.up = true →
    receivedFrame s.tray.twin f = some (5, p) → s.tray.own = .active →
    exec (.stateRequestReceived f) s = .next { s with tray := { s.tray with sendDue := true } }) ∧
  (∀ s : State, awake s = true → s.tray.own = .active → s.tray.cycleAt + cycleNs s ≤ s.now → s.tray.nextCopyMode = none →
    ∃ t, exec .controlCycleEnd s = .next t ∧ t.tray.cycleAt = s.now ∧ t.tray.own = .active ∧ t.tray.ackSeen = false ∧
      t.tray.epoch = (if s.tray.copyMode = 0 ∨ s.tray.sendDue = true then s.tray.epoch + 1 else s.tray.epoch) ∧
      (s.tray.copyMode = 0 →
        t.tray.unacked = (if s.tray.ackSeen = true ∨ s.tray.twin.heard = false then 0 else s.tray.unacked + 1) ∧
        (s.tray.ackSeen = false → s.tray.twin.heard = true → 2 ≤ s.tray.unacked → t.tray.unsyncRaised = true))) ∧
  (∀ s : State, (s.tray.own ≠ .active ∨ s.now < s.tray.cycleAt + cycleNs s) → exec .controlCycleEnd s = .next s) ∧
  (∀ (s : State) (b : Bytes), hasTwin s = true → snapshotDue s = true → s.tray.own ≠ .active → s.tray.newest = some b →
    exec .snapshotInterval s = .next { s with
      flash := { s.flash with snapshots := (b :: s.flash.snapshots).take 8 }
      tray := { s.tray with snapAt := s.now, snapshot := some b } })

/-- Claim and takeover: the waiting device claims when its rank's wait has passed with the line high and no heartbeat of a
better-ranked device, *Claiming* or *Active*, has come within 500 µs; after 1 ms it starts its outputs from the snapshot or
from the configuration image, and from the snapshot it writes every rail limit to its module (log 183); a standby that finds
the line high takes over from the best state it holds. Self-checks: each that fails makes the active device let go of every
output and of the line; without twin heartbeats implausible inputs only raise SENSOR_FAULT; after the cores' restart it
claims again, unless its own line is faulty. Where the spec leaves a point to the model it follows assumption logs 3, 65,
68, 70, 71, 131, 132 and 137. -/
def Obligations.ControlIsTakenAndReleased : Prop :=
  (∀ s : State, mayClaim s = true →
    ∃ t, exec .claim s = .next t ∧ t.tray.own = .active ∧ t.tray.drives = true ∧ t.tray.outputs = false ∧
      t.tray.claimUntil = some (s.now + 1000000) ∧ t.tray.restore = s.tray.snapshot ∧
      t.tray.assigns = !s.boot.claimed ∧ t.boot.claimed = true) ∧
  (∀ s : State, mayClaim s = false → exec .claim s = .next s) ∧
  (∀ s : State, mayClaim s = true ↔ hasTwin s = true ∧ s.tray.own = .claiming ∧ s.tray.lineLow = false ∧
    s.tray.lineFault = false ∧ (∀ b, s.tray.twin.lastBetter = some b → b + 500000 < s.now) ∧
    s.tray.readyAt + 1000000 * rankOf (rankByte s) ≤ s.now) ∧
  (∀ (b : Bytes) (now me : Nat) (w : Twin), (takeHeartbeat b now me w).lastBetter =
    (if (leAt b 0 1 = 2 ∨ leAt b 0 1 = 3) ∧ rankOf (BitVec.ofNat 8 (leAt b 1 1)) < me then some now else w.lastBetter)) ∧
  (∀ (s : State) (u : Nat) (c : ConfigContents), s.tray.claimUntil = some u → u ≤ s.now → awake s = true →
    s.tray.own = .active → s.tray.restore = none → s.boot.config = some c →
    ∃ t, exec .claimListenEnd s = .next t ∧ t.tray.outputs = true ∧ t.tray.pumpDuty = legalDuty c.pumpDuty ∧
      t.tray.fanDuty = legalDuty c.fanDuty ∧ t.tray.claimUntil = none ∧ pumpsHeld t = false) ∧
  (∀ (s : State) (u : Nat) (b : Bytes), s.tray.claimUntil = some u → u ≤ s.now → awake s = true →
    s.tray.own = .active → s.tray.restore = some b →
    ∃ t, exec .claimListenEnd s = .next t ∧ t.tray.outputs = true ∧ t.tray.activated = true ∧ t.tray.restore = none ∧
      t.tray.claimUntil = none ∧ t.tray.copyMode = (imageContents b).copyMode ∧ t.tray.cycleTicks = (imageContents b).cycleTicks ∧
      t.tray.rackPolicy = (imageContents b).rackPolicy ∧ t.tray.modules = t.policy.railLimit ∧
      (∀ i, i < 32 → i % 8 ≤ 5 → .railModule i (nth t.policy.railLimit i) ∈ t.out) ∧
      (if (imageContents b).alarms = [] then t.tray.pumpDuty = legalDuty (imageContents b).pumpDuty ∧
        t.tray.fanDuty = legalDuty (imageContents b).fanDuty else True)) ∧
  (∀ s : State, hasTwin s = true → s.tray.own = .claiming →
    ∃ t, exec .claimingLineLow s = .next t ∧ t.tray.own = .standby ∧ t.tray.lineLow = true) ∧
  (∀ s : State, mayTakeOver s = true → s.tray.recvEpoch = none →
    ∃ t, exec .takeover s = .next t ∧ t.tray.own = .active ∧ t.tray.drives = true ∧ t.tray.outputs = false ∧
      t.tray.restore = (bestState s).2.1 ∧ t.tray.epoch = (bestState s).2.2 ∧ t.tray.ctr = bump 0 1 s.tray.ctr) ∧
  (∀ s : State, mayTakeOver s = false → exec .takeover s = .next s) ∧
  (∀ (s : State) (c : ConfigContents), awake s = true → s.tray.own = .active → s.tray.claimUntil = none →
    s.tray.activated = false → s.tray.restore = none → s.boot.config = some c →
    ∃ t, exec .imageActivated s = .next t ∧ t.tray.outputs = true ∧ t.tray.activated = true ∧
      t.tray.pumpDuty = legalDuty c.pumpDuty) ∧
  (∀ (s : State) (n : Nat) (l : List (BitVec 7)), n < 4 → runsTray s = true →
    ∃ t, exec (.i3cBusTake n l) s = .next t ∧ t.tray.busesHeld = s.tray.busesHeld ||| (1 : BitVec 4) <<< n ∧
      (s.tray.assigns = true → s.tray.busesHeld.getLsbD n = false → tget t.tray.addresses n = some l) ∧
      (s.tray.assigns = false → t.tray.addresses = s.tray.addresses)) ∧
  (∀ (s : State) (c : Instr), (c = .lockstepMismatch ∨ c = .controlWatchdogExpire ∨ c = .controlMemoryFault) →
    awake s = true → s.tray.own = .active →
    ∃ t, exec c s = .next t ∧ t.tray.own = .released ∧ t.tray.drives = false ∧ t.tray.outputs = false ∧
      t.tray.busesHeld = 0 ∧ t.tray.coresDown = true ∧ t.tray.ctr = bump 1 1 s.tray.ctr) ∧
  (∀ (s : State) (c : Instr), (c = .lockstepMismatch ∨ c = .controlWatchdogExpire ∨ c = .controlMemoryFault) →
    s.tray.own ≠ .active → exec c s = .next s) ∧
  (∀ s : State, awake s = true → s.tray.own = .active → s.tray.drives = true →
    ∃ t, exec .ownLineFault s = .next t ∧ t.tray.own = .released ∧ t.tray.lineFault = true ∧ t.tray.drives = false ∧
      t.tray.outputs = false) ∧
  (∀ s : State, awake s = true → s.tray.own = .released → s.tray.lineFault = false →
    ∃ t, exec .coreRestartComplete s = .next t ∧ t.tray.own = .claiming ∧ t.tray.coresDown = false) ∧
  (∀ s : State, awake s = true → s.tray.own = .released → s.tray.lineFault = true →
    ∃ t, exec .coreRestartComplete s = .next t ∧ t.tray.own = .released ∧ t.tray.coresDown = false) ∧
  (∀ (s : State) (a b : TachReading) (c d : Reading), awake s = true → s.tray.own = .active →
    ((s.tray.twin.heard = false ∧ a.plausible = true ∧ b.plausible = true ∧ c.plausible = true ∧ d.plausible = true) ∨
      (s.tray.twin.heard = true ∧ bitOf s.tray.twin.diag.toNat 3 = false)) →
    exec (.plausibilityCheck a b c d) s = .next { s with tray := { s.tray with plausBad := 0 } }) ∧
  (∀ (s : State) (a b : TachReading) (c d : Reading), awake s = true → s.tray.own = .active →
    (s.tray.twin.heard = false ∨ bitOf s.tray.twin.diag.toNat 3 = true) → a.plausible = false →
    (s.tray.plausBad < 9 →
      exec (.plausibilityCheck a b c d) s = .next { s with tray := { s.tray with plausBad := s.tray.plausBad + 1 } }) ∧
    (9 ≤ s.tray.plausBad → s.tray.twin.heard = true →
      ∃ t, exec (.plausibilityCheck a b c d) s = .next t ∧ t.tray.own = .released ∧ t.tray.outputs = false ∧
        t.tray.failedCheck = 4) ∧
    (9 ≤ s.tray.plausBad → s.tray.twin.heard = false →
      ∃ t, exec (.plausibilityCheck a b c d) s = .next t ∧ t.tray.own = .active ∧ t.tray.outputs = s.tray.outputs))

/-- Rack messages: one that fails its checks is counted and does nothing else; a good one keeps or restores contact; a
policy is applied whole or refused whole; 3 s of silence is a loss of contact; the device sends its own messages to the
configured address, each with its number and tag. A policy's entries, mode ceiling, budget target and slope stand with
the command, tray entries only at the active controller. A swapped pair is read right. Where the spec leaves a point to
the model it follows assumption logs 3, 66 and 72. -/
def Obligations.RackMessages : Prop :=
  (∀ (s : State) (f : MgmtFrame) (m : Bytes) (c : ConfigContents), m = frameMessage f → awake s = true → s.boot.config = some c → rackMsgOk s c.rmKey m = false →
    exec (.rmHeartbeat f) s = .next (trayCount 9 1 s) ∧ exec (.rmPolicy f) s = .next (trayCount 9 1 s)) ∧
  (∀ (s : State) (key m : Bytes), rackMsgOk s key m = true →
    32 ≤ m.length ∧ m.length ≤ 1024 ∧ leAt m 8 4 = s.boot.chipTag.toNat ∧
      m.drop (m.length - 16) = rackTag key (m.take (m.length - 16)) ∧
      ∀ q, s.tray.rmSeq = some q → laterTick (msgSeq m) q = true) ∧
  (∀ (s : State) (f : MgmtFrame) (m : Bytes) (c : ConfigContents), m = frameMessage f → awake s = true → s.boot.config = some c → rackMsgOk s c.rmKey m = true →
    msgType m = 1 → s.tray.rmSilent = false →
    exec (.rmHeartbeat f) s = .next (trayCount 8 1 { s with tray := { s.tray with
      rmSeq := some (msgSeq m), rmAt := s.now, rmSilent := false } })) ∧
  (∀ (s : State) (f : MgmtFrame) (m : Bytes) (c : ConfigContents), m = frameMessage f → awake s = true → s.boot.config = some c → rackMsgOk s c.rmKey m = true →
    msgType m = 1 → s.tray.rmSilent = true →
    ∃ t, exec (.rmHeartbeat f) s = .next t ∧ t.tray.rmSilent = false ∧ t.tray.rmAt = s.now) ∧
  (∀ (s : State) (f : MgmtFrame) (m : Bytes) (c : ConfigContents), m = frameMessage f → awake s = true → s.boot.config = some c → rackMsgOk s c.rmKey m = true →
    msgType m = 2 → rackPolicyStatus (acceptMsg m s) (msgBody m) = stOk →
    ∃ t, exec (.rmPolicy f) s = .next t ∧ t.power.budgetTarget = leAt (msgBody m) 0 2 ∧
      t.power.slope = leAt (msgBody m) 4 4 ∧ t.power.ceiling = leAt (msgBody m) 8 1 ∧ t.tray.policyStatus = stOk ∧
      t.tray.policySeq = msgSeq m ∧ leAt (msgBody m) 8 1 ≤ t.power.mode ∧ t.tray.rackPolicy = msgBody m ∧
      t.policy = applyEntries (rackEntries s (msgBody m)) s.policy ∧
      (s.tray.own = .active → (rackEntries s (msgBody m)).any isTrayEntry = true →
        t.tray.policyAt = s.now ∧ t.tray.sendDue = true)) ∧
  (∀ (s : State) (f : MgmtFrame) (m : Bytes) (c : ConfigContents), m = frameMessage f → awake s = true → s.boot.config = some c → rackMsgOk s c.rmKey m = true →
    msgType m = 2 → rackPolicyStatus (acceptMsg m s) (msgBody m) ≠ stOk →
    ∃ t, exec (.rmPolicy f) s = .next t ∧ t.policy = s.policy ∧ t.power.budgetTarget = s.power.budgetTarget ∧
      t.power.mode = s.power.mode ∧ t.tray.policySeq = msgSeq m ∧
      t.tray.policyStatus = rackPolicyStatus (acceptMsg m s) (msgBody m)) ∧
  (∀ m : Bytes, frameMessage { inverted := false, bytes := m } = m ∧
    frameMessage { inverted := true, bytes := m.map (fun b => ~~~b) } = m) ∧
  (∀ s : State, awake s = true → s.tray.rmSilent = false → s.tray.rmAt + 3000000000 ≤ s.now →
    ∃ t, exec .rmLost s = .next t ∧ t.tray.rmSilent = true ∧ t.tray.ctr = bump 10 1 s.tray.ctr ∧
      t.power = s.power ∧ t.policy = s.policy) ∧
  (∀ s : State, s.now < s.tray.rmAt + 3000000000 → exec .rmLost s = .next s) ∧
  (∀ (s : State) (c : ConfigContents), awake s = true → s.boot.config = some c →
    ∃ t u b d, exec .devHeartbeat s = .next t ∧ exec .devTelemetry s = .next u ∧
      t.tray.devSeq = s.tray.devSeq + 1 ∧ u.tray.devSeq = s.tray.devSeq + 1 ∧
      t.out = .rack (c.netAddress, c.netPort) c.rmAddress c.rmPort (b ++ rackTag c.rmKey b) :: s.out ∧
      b = leBytes 2 0x0101 ++ leBytes 2 56 ++ leBytes 4 (s.tray.devSeq + 1).toNat ++ leBytes 4 s.boot.chipTag.toNat ++
        zeros 4 ++ heartbeatBody s ∧
      u.out = .rack (c.netAddress, c.netPort) c.rmAddress c.rmPort (d ++ rackTag c.rmKey d) :: s.out ∧
      d = leBytes 2 0x0102 ++ leBytes 2 128 ++ leBytes 4 (s.tray.devSeq + 1).toNat ++ leBytes 4 s.boot.chipTag.toNat ++
        zeros 4 ++ (statusRecord s ++ trayRecord s))

/-! ### Power and reliability (13, 14) -/

/-- PWR_ALERT_N puts P3 in force at once and holds it until 1 ms after its release. The governors: a package power within
the cap leaves θ to the slope; above it θ falls to the largest fraction that fits, not below `gov_floor`; the slope governor
settles θ by its pseudocode. Junction temperature and rails: 95.0 °C asks for P1, 100.0 °C for P2, 100 ms below 97.0 °C
steps back from P2 and 100 ms below 92.0 °C from P1; above 105.0 °C the samples of 0.1 ms are counted in ms and an event
goes once per second; 115.0 °C trips, a protective fall in every mode; two samples of any rail above 110% of its
rating ask for P3, each rail counted, until 10 ms below 90%. Where the spec leaves a point to the model it follows
assumption logs 3, 66, 67, 87, 133 and 141. -/
def Obligations.PowerIsGoverned : Prop :=
  (∀ s : State, Live s → s.power.alert = false → s.power.mode ≤ 3 → s.power.commanded ≤ 3 → s.power.ceiling ≤ 3 →
    s.power.thermal ≤ 3 →
    ∃ t, exec .pwrAlertAssert s = .next t ∧ t.power.mode = 3 ∧ t.power.alert = true ∧
      t.power.commanded = s.power.commanded ∧ t.ports = s.ports ∧ t.canvas = s.canvas ∧ t.switch = s.switch) ∧
  (∀ s : State, Live s → s.power.alert = true →
    ∃ t, exec .pwrAlertRelease s = .next t ∧ t.power.alert = false ∧ t.power.alertHold = some (s.now + 1000000) ∧
      t.power.mode = s.power.mode) ∧
  (∀ (s : State) (u : Nat), s.power.alertHold = some u → u ≤ s.now →
    ∃ t, exec .alertHoldEnd s = .next t ∧ t.power.alertHold = none ∧
      t.power.mode = modeAsked { s with power := { s.power with alertHold := none } }) ∧
  (∀ (s : State) (u : Nat), s.power.alertHold = some u → s.now < u → exec .alertHoldEnd s = .next s) ∧
  (∀ (s : State) (w : Nat) (d : List Nat), Live s → ((w : Rat) / 1000 ≤ powerCap s) →
    ∃ t, exec (.powerGovernorUpdate w d) s = .next t ∧ t.power.power = w ∧ t.power.govTheta = 64 ∧
      t.power.govPinned = false ∧ t.power.theta = min s.power.theta 64 ∧ t.power.mode = s.power.mode) ∧
  (∀ (s : State) (w : Nat) (d : List Nat), Live s → powerCap s < (w : Rat) / 1000 → govFloor s < s.power.theta →
    ∃ t, exec (.powerGovernorUpdate w d) s = .next t ∧
      t.power.govTheta = max (govFloor s) (largestFit d (powerCap s) s.power.theta) ∧
      t.power.theta ≤ s.power.theta ∧ govFloor s ≤ t.power.govTheta) ∧
  (∀ (s : State) (d : List Nat), Live s → s.power.refSet = true →
    ∃ t, exec (.slopeGovernorUpdate d) s = .next t ∧
      t.power.theta = (slopeStep d s.power.ref (powerCap s) s.power.slope
        (min (thetaCap s.power.mode) s.power.govTheta) (govFloor s) (ballastMax s) s.power.protect).theta ∧
      t.power.slope = s.power.slope ∧ t.ports = s.ports) ∧
  (∀ (s : State) (d : List Nat), s.power.refSet = false → exec (.slopeGovernorUpdate d) s = .next s) ∧
  (∀ (s : State) (l : List Int), Live s → 1000 ≤ (hottest l).2 → (hottest l).2 ≤ 1050 → s.power.thermal < 2 →
    ∃ t, exec (.thermalSample l) s = .next t ∧ t.power.thermal = 2 ∧ t.power.tjMax = (hottest l).2 ∧ 2 ≤ t.power.mode) ∧
  (∀ (s : State) (l : List Int), Live s → 950 ≤ (hottest l).2 → (hottest l).2 < 1000 → s.power.thermal = 0 →
    ∃ t, exec (.thermalSample l) s = .next t ∧ t.power.thermal = 1 ∧ t.power.tjMax = (hottest l).2 ∧ 1 ≤ t.power.mode) ∧
  (∀ (s : State) (l : List Int) (u : Nat), Live s → (hottest l).2 < 970 → s.power.thermal = 2 →
    s.power.coolSince = some u → u + 100000000 ≤ s.now →
    ∃ t, exec (.thermalSample l) s = .next t ∧ t.power.thermal = 1 ∧ t.power.coolSince = none) ∧
  (∀ (s : State) (l : List Int), Live s → s.power.thermal = 1 → (hottest l).2 < 1000 →
    ∃ t, exec (.thermalSample l) s = .next t ∧ t.power.tjMax = (hottest l).2 ∧
      (920 ≤ (hottest l).2 → t.power.thermal = 1 ∧ t.power.coolSince = none) ∧
      ((hottest l).2 < 920 → ∀ u, s.power.coolSince.getD s.now = u →
        (u + 100000000 ≤ s.now → t.power.thermal = 0 ∧ t.power.coolSince = none) ∧
        (s.now < u + 100000000 → t.power.thermal = 1 ∧ t.power.coolSince = some u))) ∧
  (∀ (s : State) (l : List Int), Live s → s.power.thermal = 2 → 1050 < (hottest l).2 →
    ∃ t, exec (.thermalSample l) s = .next t ∧ t.power.thermal = 2 ∧ t.power.mode = s.power.mode ∧
      t.power.ctr = bump 10 ((s.power.overMaxRun + 1) / 10) s.power.ctr ∧
      t.power.overMaxRun = (s.power.overMaxRun + 1) % 10 ∧
      (∀ u, s.power.overMaxAt = some u → s.now < u + 1000000000 → t.power.overMaxAt = some u ∧ t.host = s.host) ∧
      ((∀ u, s.power.overMaxAt = some u → u + 1000000000 ≤ s.now) → t.power.overMaxAt = some s.now)) ∧
  (∀ (s : State) (l : List Int), Live s → (hottest l).2 < 950 → s.power.thermal = 0 →
    exec (.thermalSample l) s = .next { s with power := { s.power with tjMax := (hottest l).2, coolSince := none } }) ∧
  (∀ (s : State) (l : List Nat), Live s → (∀ n, n < 6 → overRated n (nth l n) = false) →
    ∃ t, exec (.railCurrentSample l) s = .next t ∧ t.power.overcurrent = s.power.overcurrent ∧ t.power.mode = s.power.mode ∧
      t.power.railHigh = [0, 0, 0, 0, 0, 0] ∧ t.power.ctr = s.power.ctr) ∧
  (∀ (s : State) (l : List Nat) (n : Nat), Live s → n < 6 → overRated n (nth l n) = true → 1 ≤ nth s.power.railHigh n →
    s.power.ocRails.contains n = false →
    ∃ t, exec (.railCurrentSample l) s = .next t ∧ t.power.overcurrent = true ∧ t.power.ocRails.contains n = true ∧
      3 ≤ t.power.mode ∧
      ((∀ m, m < 6 → m ≠ n → overRated m (nth l m) = false) → t.power.ocRails = s.power.ocRails ++ [n] ∧
        t.power.ctr = (if s.power.mode = modeAsked { s with power := { s.power with overcurrent := true } }
          then bump 3 1 s.power.ctr else bump 0 1 (bump 3 1 s.power.ctr)))) ∧
  (∀ (s : State) (u : Nat), s.power.overcurrent = true → s.power.calmSince = some u → u + 10000000 ≤ s.now →
    ∃ t, exec .overcurrentLift s = .next t ∧ t.power.overcurrent = false ∧ t.power.ocRails = []) ∧
  (∀ (s : State) (n : Nat) (tj : Int), Live s → s.boot.thermTrip = false → 1150 ≤ tj →
    ∃ t, exec (.thermTrip n tj) s = .next t ∧ t.boot.thermTrip = true ∧ t.power.tripped = true ∧ 3 ≤ t.power.mode ∧
      t.power.protect = true ∧ t.power.protectCause = 5 ∧ t.power.tjMax = max s.power.tjMax tj) ∧
  (∀ (s : State) (n : Nat) (tj : Int), tj < 1150 → exec (.thermTrip n tj) s = .next s)

/-- The patrol scrubber and the tables: a clean word changes nothing, and a marked one reads uncorrectable; a corrected one
is counted, recorded and its row queued for test, an uncorrectable one marked, and one that arose on a data path queues no
test; one symbol in error is corrected, two are detected; an entry of a table that is uncorrectable acts as invalid until it
is restored. Targeted self-tests: a test starts when the limits allow it, a palette leaves service first, a row is copied to
a spare first; a lane with 2^21 observed bits passes by its bit errors and figure of merit, one with fewer goes to Retest; a
verdict ends the test, and a failing one retires the resource; a row that passes frees the spare of its test. A test that
SELFTEST_RUN asked for answers its command then, with verdict, errors and duration, and adds no transient verdict, also
where an Easel restart ended the command; without a free spare it answers that it did not run. Where the spec leaves a point
to the model it follows assumption logs 3, 73, 74, 134 and 153. -/
def Obligations.ScrubbingAndSelfTests : Prop :=
  (∀ (s : State) (x : ScrubSite) (e : WordError), x.ok = true → siteMarked s x = false → eccOf e = .clean →
    exec (.patrolScrub x e) s = .next s) ∧
  (∀ (s : State) (x : ScrubSite) (e : WordError), x.ok = true → siteMarked s x = true →
    exec (.patrolScrub x e) s = exec (.patrolScrub x { marked := true }) s) ∧
  (∀ (s : State) (k r w : Nat) (e : WordError), (ScrubSite.hbm k r w).ok = true → siteMarked s (.hbm k r w) = false →
    eccOf e = .corrected → e.path = false → s.health.tests = [] →
    ∃ t, exec (.patrolScrub (.hbm k r w) e) s = .next t ∧ t.health.ctr = bump 2 1 s.health.ctr ∧
      t.health.tests = [{ res := .hbmRow k r }] ∧ t.health.badWords = s.health.badWords ∧
      t.streams.store = s.streams.store) ∧
  (∀ (s : State) (k r w : Nat) (e : WordError), (ScrubSite.hbm k r w).ok = true → eccOf e = .uncorrectable → e.path = false →
    s.health.tests = [] →
    ∃ t, exec (.patrolScrub (.hbm k r w) e) s = .next t ∧ t.health.ctr = bump 3 1 s.health.ctr ∧
      t.health.tests = [{ res := .hbmRow k r }] ∧ rowAddress k r w / 32 ∈ t.health.badWords) ∧
  (∀ (s : State) (k r w : Nat) (e : WordError), (ScrubSite.hbm k r w).ok = true → siteMarked s (.hbm k r w) = false →
    eccOf e = .corrected → e.path = true → e.marked = false →
    ∃ t, exec (.patrolScrub (.hbm k r w) e) s = .next t ∧ t.health.ctr = s.health.ctr ∧ t.health.tests = s.health.tests) ∧
  (∀ (s : State) (tbl i : Nat) (e : WordError), (ScrubSite.table tbl i).ok = true → eccOf e = .uncorrectable →
    e.path = false →
    ∃ t, exec (.patrolScrub (.table tbl i) e) s = .next t ∧ badEntry t tbl i = true ∧
      (s.health.tests.length < 64 → t.health.ctr = bump 1 1 s.health.ctr)) ∧
  (∀ (p : Nat) (d : Byte), p < 35 → d ≠ 0 → eccOf { errors := [(p, d)] } = .corrected) ∧
  (∀ (p q : Nat) (c d : Byte), p < q → q < 35 → c ≠ 0 → d ≠ 0 → eccOf { errors := [(p, c), (q, d)] } = .uncorrectable) ∧
  (∀ (s : State) (tbl i : Nat), badEntry s tbl i = true → (tbl, i) ∉ s.health.lostTables →
    ∃ t, exec (.tableRestore tbl i false) s = .next t ∧ badEntry t tbl i = false ∧
      t.health.ctr = bump 14 1 s.health.ctr) ∧
  (∀ (s : State) (tbl i : Nat), badEntry s tbl i = true → (tbl, i) ∉ s.health.lostTables →
    ∃ t, exec (.tableRestore tbl i true) s = .next t ∧ badEntry t tbl i = true ∧ (tbl, i) ∈ t.health.lostTables) ∧
  (∀ (s : State) (tbl i : Nat) (b : Bool), badEntry s tbl i = false → exec (.tableRestore tbl i b) s = .next s) ∧
  (∀ (s : State) (n : Nat) (t : Test), n < 32 → s.canvas.palettes.length = 32 → findTest s (.palette n) = some t →
    t.stage = .queued → roomToTest s (.palette n) = true → awake s = true →
    ∃ u, exec (.selftestStart (.palette n)) s = .next u ∧ (nth u.canvas.palettes n).inService = false ∧
      findTest u (.palette n) = some { t with stage := .running, began := s.now }) ∧
  (∀ (s : State) (r : TestRes), r.ok = true → findTest s r = none → exec (.selftestStart r) s = .next s) ∧
  (∀ (s : State) (r : TestRes) (t : Test), r.ok = true → isRow r = true → findTest s r = some t → t.stage = .running →
    ∃ u, exec (.rowCopyComplete r) s = .next u ∧ r ∈ u.health.remapped ∧
      findTest u r = some { t with stage := .copied }) ∧
  (∀ (s : State) (r : TestRes) (t : Test) (d : W32), r.ok = true → isRow r = true → findTest s r = some t →
    t.stage = .copied → t.src = none → s.flash.retired = [] → s.health.retiredNow = [] →
    ∃ u, exec (.rowTestComplete r 1 d) s = .next u ∧ findTest u r = none ∧ r ∈ u.health.retiredNow ∧
      u.flash.retired = [{ res := r }]) ∧
  (∀ (s : State) (n : Nat) (t : Test) (d : W32), n < 32 → s.canvas.palettes.length = 32 →
    findTest s (.palette n) = some t → t.stage = .running → t.src = none → t.commanded = false → s.health.transients = [] →
    ∃ u, exec (.paletteTestComplete n Config.goldenCrc 0 d) s = .next u ∧ findTest u (.palette n) = none ∧
      (nth u.canvas.palettes n).inService = true ∧ u.health.transients = [(.palette n, s.now)]) ∧
  (∀ (s : State) (p l : Nat) (t : Test), p < 96 → l < 8 → findTest s (.lane p l) = some t →
    t.stage = .running → t.src = none → (portOf s p).state = .running → (portOf s p).leftRunning = t.left →
    2097152 ≤ t.bits →
    (t.flips ≤ 20 → s.policy.fomWarn ≤ (laneOf s p l).fom.toNat → t.commanded = false → s.health.transients = [] →
      ∃ u, exec (.laneTestComplete p l) s = .next u ∧ findTest u (.lane p l) = none ∧
        u.health.transients = [(.lane p l, s.now)] ∧ u.ports = s.ports) ∧
    ((20 < t.flips ∨ (laneOf s p l).fom.toNat < s.policy.fomWarn) → s.ports.length = 96 →
      (portOf s p).lanes.length = 8 →
      ∃ u, exec (.laneTestComplete p l) s = .next u ∧ findTest u (.lane p l) = none ∧
        (laneOf u p l).retired = true)) ∧
  (∀ (s : State) (p l : Nat) (t : Test), p < 96 → l < 8 → findTest s (.lane p l) = some t →
    t.stage = .running → (portOf s p).state = .running → (portOf s p).leftRunning = t.left → t.bits < 2097152 →
    (t.began + 1000000 ≤ s.now → exec (.laneTestComplete p l) s = .next (retest p caSelftest s)) ∧
    (s.now < t.began + 1000000 → exec (.laneTestComplete p l) s = .next s)) ∧
  (∀ (s : State) (p l : Nat) (t : Test), p < 96 → l < 8 → findTest s (.lane p l) = some t →
    t.stage = .running → t.src = none → (portOf s p).state = .running → (portOf s p).leftRunning ≠ t.left →
    (laneOf s p l).rxPass = true → t.commanded = false → s.health.transients = [] →
    ∃ u, exec (.laneTestComplete p l) s = .next u ∧ findTest u (.lane p l) = none ∧
      u.health.transients = [(.lane p l, s.now)]) ∧
  (∀ (s : State) (p l : Nat), p < 96 → l < 8 → findTest s (.lane p l) = none →
    exec (.laneTestComplete p l) s = .next s) ∧
  (∀ v e d : Nat, (testResult v e d).length = 8 ∧ leAt (testResult v e d) 0 1 = v % 256 ∧ leAt (testResult v e d) 1 1 = 0 ∧
    leAt (testResult v e d) 2 2 = min e 65535 ∧ leAt (testResult v e d) 4 4 = d % 2 ^ 32) ∧
  (∀ (s : State) (n k : Nat) (crc d : W32) (t : Test) (src : CmdSrc), n < 32 → s.canvas.palettes.length = 32 →
    findTest s (.palette n) = some t → t.stage = .running → t.src = some src → t.commanded = true →
    (let good := crc = Config.goldenCrc
     ∃ w, exec (.paletteTestComplete n crc k d) s =
        .next (finish src stOk (testResult (if good then 0 else 1) k d.toNat) w) ∧ findTest w (.palette n) = none ∧
      (good → (nth w.canvas.palettes n).inService = true ∧ w.health.transients = s.health.transients) ∧
      (¬ good → (nth w.canvas.palettes n).inService = false ∧ .palette n ∈ w.health.retiredNow))) ∧
  (∀ (s : State) (r : TestRes) (k : Nat) (d : W32) (t : Test) (src : CmdSrc), r.ok = true → isRow r = true →
    findTest s r = some t → t.stage = .copied → t.src = some src → t.commanded = true →
    ∃ w, exec (.rowTestComplete r k d) s =
        .next (if k = 0 then freeSpare r (finish src stOk (testResult 0 k d.toNat) w)
          else finish src stOk (testResult 1 k d.toNat) w) ∧ findTest w r = none ∧
      (k = 0 → w.health.transients = s.health.transients ∧ w.health.retiredNow = s.health.retiredNow) ∧
      (k ≠ 0 → r ∈ w.health.retiredNow)) ∧
  (∀ (s : State) (p l : Nat) (t : Test) (src : CmdSrc), p < 96 → l < 8 → findTest s (.lane p l) = some t →
    t.stage = .running → t.src = some src → t.commanded = true → (portOf s p).state = .running →
    ((portOf s p).leftRunning ≠ t.left ∨ 2097152 ≤ t.bits) →
    (let retrained := (portOf s p).leftRunning ≠ t.left
     let good := if retrained then (laneOf s p l).rxPass = true else t.flips ≤ 20 ∧ s.policy.fomWarn ≤ (laneOf s p l).fom.toNat
     ∃ w, exec (.laneTestComplete p l) s = .next (finish src stOk (testResult (if good then 0 else 1)
        (if retrained then (laneOf s p l).testErrors else t.flips) ((s.now - t.began) / 1000)) w) ∧
      findTest w (.lane p l) = none ∧ (good → w.health.transients = s.health.transients ∧ w.ports = s.ports) ∧
      (¬ good → .lane p l ∈ w.health.retiredNow))) ∧
  (∀ (s : State) (r : TestRes), freeSpare r s = { s with health := { s.health with remapped := s.health.remapped.erase r } }) ∧
  (∀ (s : State) (t : Test) (e d : Nat), t.commanded = true →
    (giveVerdict t true e d s).health.transients = s.health.transients) ∧
  (∀ (s : State) (r : TestRes) (t : Test) (src : CmdSrc), r.ok = true → findTest s r = some t → t.stage = .queued →
    t.src = some src → roomToTest s r = true → awake s = true →
    (isRow r = true → sparesFree s r = 0 → ∃ w, exec (.selftestStart r) s = .next (finish src stOk (testResult 2 0 0) w) ∧
      findTest w r = none ∧ w.health.retiredNow = s.health.retiredNow) ∧
    (∀ p l, r = .lane p l → laneTestable s p l = false →
      exec (.selftestStart r) s = .next (finish src stNotReady [] (dropTest r s))))
end

