-- ==== Sys2Proof/Laws/Commands.lean ====
section
/-! SUPPORT. An accepted command reaches its own checks: the shared frame of the command rows, cited instead of unfolded. -/

namespace Sys2Proof.Machine

/-- An accepted command whose row it is, with a length that the row takes, is judged by the row's own checks. -/
theorem command_accepted {s : State} {src : CmdSrc} {b : Bytes} {mine lenOk : Bytes → Bool} {f : Bytes → State → State}
    (h : Accepted s src b) (hm : mine b = true) (hl : lenOk b = true)
    (hc : cmdClass (cmdOpcode b) ≠ some 2 ∨ s.sketch.commit = none) :
    command src mine lenOk f s = f (cmdParams b) s := by
  obtain ⟨_, hcmd, hready, hprog, hearly, hfit, htray⟩ := h
  unfold command
  rw [hcmd]
  rcases hc with hc | hc <;> simp [hready, hprog, hm, hearly, hl, hfit, htray, hc]

/-- The same of a tray command at the active controller. -/
theorem command_acceptedTray {s : State} {src : CmdSrc} {b : Bytes} {mine lenOk : Bytes → Bool} {f : Bytes → State → State}
    (h : AcceptedTray s src b) (hm : mine b = true) (hl : lenOk b = true)
    (hc : cmdClass (cmdOpcode b) ≠ some 2 ∨ s.sketch.commit = none) :
    command src mine lenOk f s = f (cmdParams b) s := by
  obtain ⟨_, hcmd, hready, hprog, hearly, hfit, htray, hown⟩ := h
  unfold command
  rw [hcmd]
  rcases hc with hc | hc <;> simp [hready, hprog, hm, hearly, hl, hfit, htray, hown, hc]

/-- An accepted command with the row's opcode. -/
theorem command_given {s : State} {src : CmdSrc} {b : Bytes} {op n : Nat} {lenOk : Bytes → Bool} {f : Bytes → State → State}
    (h : Given s src b op n) (hl : lenOk b = true) (hc : cmdClass op ≠ some 2 ∨ s.sketch.commit = none) :
    command src (isOp op) lenOk f s = f (cmdParams b) s :=
  command_accepted h.1 (by simp [isOp, h.2.1]) hl (by rw [h.2.1]; exact hc)

/-- An accepted command with the row's opcode and action. -/
theorem command_givenSub {s : State} {src : CmdSrc} {b : Bytes} {op n k : Nat} {lenOk : Bytes → Bool}
    {f : Bytes → State → State} (h : Given s src b op n) (hk : subCode b = k) (hl : lenOk b = true)
    (hc : cmdClass op ≠ some 2 ∨ s.sketch.commit = none) :
    command src (isSub op k) lenOk f s = f (cmdParams b) s :=
  command_accepted h.1 (by simp [isSub, h.2.1, hk]) hl (by rw [h.2.1]; exact hc)

/-- An accepted tray command with the row's opcode. -/
theorem command_givenTray {s : State} {src : CmdSrc} {b : Bytes} {op n : Nat} {lenOk : Bytes → Bool}
    {f : Bytes → State → State} (h : GivenTray s src b op n) (hl : lenOk b = true)
    (hc : cmdClass op ≠ some 2 ∨ s.sketch.commit = none) :
    command src (isOp op) lenOk f s = f (cmdParams b) s :=
  command_acceptedTray h.1 (by simp [isOp, h.2.1]) hl (by rw [h.2.1]; exact hc)

/-- The source of an accepted command is one the device has. -/
theorem Given.ok {s : State} {src : CmdSrc} {b : Bytes} {op n : Nat} (h : Given s src b op n) : src.ok = true := h.1.1
theorem GivenTray.ok {s : State} {src : CmdSrc} {b : Bytes} {op n : Nat} (h : GivenTray s src b op n) : src.ok = true := h.1.1
theorem Given.len {s : State} {src : CmdSrc} {b : Bytes} {op n : Nat} (h : Given s src b op n) : plen n b = true := by
  simp [plen, h.2.2]
theorem GivenTray.len {s : State} {src : CmdSrc} {b : Bytes} {op n : Nat} (h : GivenTray s src b op n) : plen n b = true := by
  simp [plen, h.2.2]

/-- A check list without a hit goes on. -/
theorem refuseIf_none {src : CmdSrc} {checks : List (Bool × W16)} {f : State → State} {s : State}
    (h : ∀ c ∈ checks, c.1 = false) : refuseIf src checks f s = f s := by
  have : checks.find? (·.1) = none := by
    rw [List.find?_eq_none]
    intro c hc
    simp [h c hc]
  simp [refuseIf, this]

/-- The first hit of a check list is the answer. -/
theorem refuseIf_hit {src : CmdSrc} {st : W16} {checks : List (Bool × W16)} {f : State → State} {s : State} :
    refuseIf src ((true, st) :: checks) f s = finish src st [] s := rfl

theorem refuseIf_skip {src : CmdSrc} {st : W16} {checks : List (Bool × W16)} {f : State → State} {s : State} :
    refuseIf src ((false, st) :: checks) f s = refuseIf src checks f s := rfl

end Sys2Proof.Machine
end

