-- ==== Sys2Proof/Laws/State.lean ====
section
/-! SUPPORT. What each named update of the state does to each of its parts, true by unfolding: so no later proof unfolds a
record update. -/

namespace Sys2Proof.Machine

/-! `updPort` changes `ports` and nothing else. -/

@[simp] theorem updPort_pending (p : Nat) (f : Port → Port) (s : State) : (updPort p f s).pending = s.pending := (rfl)
@[simp] theorem updPort_now (p : Nat) (f : Port → Port) (s : State) : (updPort p f s).now = s.now := (rfl)
@[simp] theorem updPort_free (p : Nat) (f : Port → Port) (s : State) : (updPort p f s).free = s.free := (rfl)
@[simp] theorem updPort_out (p : Nat) (f : Port → Port) (s : State) : (updPort p f s).out = s.out := (rfl)
@[simp] theorem updPort_boot (p : Nat) (f : Port → Port) (s : State) : (updPort p f s).boot = s.boot := (rfl)
@[simp] theorem updPort_flash (p : Nat) (f : Port → Port) (s : State) : (updPort p f s).flash = s.flash := (rfl)
@[simp] theorem updPort_host (p : Nat) (f : Port → Port) (s : State) : (updPort p f s).host = s.host := (rfl)
@[simp] theorem updPort_policy (p : Nat) (f : Port → Port) (s : State) : (updPort p f s).policy = s.policy := (rfl)
@[simp] theorem updPort_lasers (p : Nat) (f : Port → Port) (s : State) : (updPort p f s).lasers = s.lasers := (rfl)
@[simp] theorem updPort_ports (p : Nat) (f : Port → Port) (s : State) : (updPort p f s).ports = s.ports.modify p f := (rfl)
@[simp] theorem updPort_switch (p : Nat) (f : Port → Port) (s : State) : (updPort p f s).switch = s.switch := (rfl)
@[simp] theorem updPort_canvas (p : Nat) (f : Port → Port) (s : State) : (updPort p f s).canvas = s.canvas := (rfl)
@[simp] theorem updPort_streams (p : Nat) (f : Port → Port) (s : State) : (updPort p f s).streams = s.streams := (rfl)
@[simp] theorem updPort_sketch (p : Nat) (f : Port → Port) (s : State) : (updPort p f s).sketch = s.sketch := (rfl)
@[simp] theorem updPort_tick (p : Nat) (f : Port → Port) (s : State) : (updPort p f s).tick = s.tick := (rfl)
@[simp] theorem updPort_tray (p : Nat) (f : Port → Port) (s : State) : (updPort p f s).tray = s.tray := (rfl)
@[simp] theorem updPort_power (p : Nat) (f : Port → Port) (s : State) : (updPort p f s).power = s.power := (rfl)
@[simp] theorem updPort_health (p : Nat) (f : Port → Port) (s : State) : (updPort p f s).health = s.health := (rfl)

/-! `updLane` changes `ports` and nothing else. -/

@[simp] theorem updLane_pending (p l : Nat) (f : Lane → Lane) (s : State) : (updLane p l f s).pending = s.pending := (rfl)
@[simp] theorem updLane_now (p l : Nat) (f : Lane → Lane) (s : State) : (updLane p l f s).now = s.now := (rfl)
@[simp] theorem updLane_free (p l : Nat) (f : Lane → Lane) (s : State) : (updLane p l f s).free = s.free := (rfl)
@[simp] theorem updLane_out (p l : Nat) (f : Lane → Lane) (s : State) : (updLane p l f s).out = s.out := (rfl)
@[simp] theorem updLane_boot (p l : Nat) (f : Lane → Lane) (s : State) : (updLane p l f s).boot = s.boot := (rfl)
@[simp] theorem updLane_flash (p l : Nat) (f : Lane → Lane) (s : State) : (updLane p l f s).flash = s.flash := (rfl)
@[simp] theorem updLane_host (p l : Nat) (f : Lane → Lane) (s : State) : (updLane p l f s).host = s.host := (rfl)
@[simp] theorem updLane_policy (p l : Nat) (f : Lane → Lane) (s : State) : (updLane p l f s).policy = s.policy := (rfl)
@[simp] theorem updLane_lasers (p l : Nat) (f : Lane → Lane) (s : State) : (updLane p l f s).lasers = s.lasers := (rfl)
@[simp] theorem updLane_switch (p l : Nat) (f : Lane → Lane) (s : State) : (updLane p l f s).switch = s.switch := (rfl)
@[simp] theorem updLane_canvas (p l : Nat) (f : Lane → Lane) (s : State) : (updLane p l f s).canvas = s.canvas := (rfl)
@[simp] theorem updLane_streams (p l : Nat) (f : Lane → Lane) (s : State) : (updLane p l f s).streams = s.streams := (rfl)
@[simp] theorem updLane_sketch (p l : Nat) (f : Lane → Lane) (s : State) : (updLane p l f s).sketch = s.sketch := (rfl)
@[simp] theorem updLane_tick (p l : Nat) (f : Lane → Lane) (s : State) : (updLane p l f s).tick = s.tick := (rfl)
@[simp] theorem updLane_tray (p l : Nat) (f : Lane → Lane) (s : State) : (updLane p l f s).tray = s.tray := (rfl)
@[simp] theorem updLane_power (p l : Nat) (f : Lane → Lane) (s : State) : (updLane p l f s).power = s.power := (rfl)
@[simp] theorem updLane_health (p l : Nat) (f : Lane → Lane) (s : State) : (updLane p l f s).health = s.health := (rfl)

/-! `updLink` changes `ports` and nothing else. -/

@[simp] theorem updLink_pending (p : Nat) (f : Link → Link) (s : State) : (updLink p f s).pending = s.pending := (rfl)
@[simp] theorem updLink_now (p : Nat) (f : Link → Link) (s : State) : (updLink p f s).now = s.now := (rfl)
@[simp] theorem updLink_free (p : Nat) (f : Link → Link) (s : State) : (updLink p f s).free = s.free := (rfl)
@[simp] theorem updLink_out (p : Nat) (f : Link → Link) (s : State) : (updLink p f s).out = s.out := (rfl)
@[simp] theorem updLink_boot (p : Nat) (f : Link → Link) (s : State) : (updLink p f s).boot = s.boot := (rfl)
@[simp] theorem updLink_flash (p : Nat) (f : Link → Link) (s : State) : (updLink p f s).flash = s.flash := (rfl)
@[simp] theorem updLink_host (p : Nat) (f : Link → Link) (s : State) : (updLink p f s).host = s.host := (rfl)
@[simp] theorem updLink_policy (p : Nat) (f : Link → Link) (s : State) : (updLink p f s).policy = s.policy := (rfl)
@[simp] theorem updLink_lasers (p : Nat) (f : Link → Link) (s : State) : (updLink p f s).lasers = s.lasers := (rfl)
@[simp] theorem updLink_switch (p : Nat) (f : Link → Link) (s : State) : (updLink p f s).switch = s.switch := (rfl)
@[simp] theorem updLink_canvas (p : Nat) (f : Link → Link) (s : State) : (updLink p f s).canvas = s.canvas := (rfl)
@[simp] theorem updLink_streams (p : Nat) (f : Link → Link) (s : State) : (updLink p f s).streams = s.streams := (rfl)
@[simp] theorem updLink_sketch (p : Nat) (f : Link → Link) (s : State) : (updLink p f s).sketch = s.sketch := (rfl)
@[simp] theorem updLink_tick (p : Nat) (f : Link → Link) (s : State) : (updLink p f s).tick = s.tick := (rfl)
@[simp] theorem updLink_tray (p : Nat) (f : Link → Link) (s : State) : (updLink p f s).tray = s.tray := (rfl)
@[simp] theorem updLink_power (p : Nat) (f : Link → Link) (s : State) : (updLink p f s).power = s.power := (rfl)
@[simp] theorem updLink_health (p : Nat) (f : Link → Link) (s : State) : (updLink p f s).health = s.health := (rfl)

/-! `updFn` changes `host` and nothing else. -/

@[simp] theorem updFn_pending (hp : HostPort) (f : HostFn → HostFn) (s : State) : (updFn hp f s).pending = s.pending := by cases hp <;> rfl
@[simp] theorem updFn_now (hp : HostPort) (f : HostFn → HostFn) (s : State) : (updFn hp f s).now = s.now := by cases hp <;> rfl
@[simp] theorem updFn_free (hp : HostPort) (f : HostFn → HostFn) (s : State) : (updFn hp f s).free = s.free := by cases hp <;> rfl
@[simp] theorem updFn_out (hp : HostPort) (f : HostFn → HostFn) (s : State) : (updFn hp f s).out = s.out := by cases hp <;> rfl
@[simp] theorem updFn_boot (hp : HostPort) (f : HostFn → HostFn) (s : State) : (updFn hp f s).boot = s.boot := by cases hp <;> rfl
@[simp] theorem updFn_flash (hp : HostPort) (f : HostFn → HostFn) (s : State) : (updFn hp f s).flash = s.flash := by cases hp <;> rfl
@[simp] theorem updFn_policy (hp : HostPort) (f : HostFn → HostFn) (s : State) : (updFn hp f s).policy = s.policy := by cases hp <;> rfl
@[simp] theorem updFn_lasers (hp : HostPort) (f : HostFn → HostFn) (s : State) : (updFn hp f s).lasers = s.lasers := by cases hp <;> rfl
@[simp] theorem updFn_ports (hp : HostPort) (f : HostFn → HostFn) (s : State) : (updFn hp f s).ports = s.ports := by cases hp <;> rfl
@[simp] theorem updFn_switch (hp : HostPort) (f : HostFn → HostFn) (s : State) : (updFn hp f s).switch = s.switch := by cases hp <;> rfl
@[simp] theorem updFn_canvas (hp : HostPort) (f : HostFn → HostFn) (s : State) : (updFn hp f s).canvas = s.canvas := by cases hp <;> rfl
@[simp] theorem updFn_streams (hp : HostPort) (f : HostFn → HostFn) (s : State) : (updFn hp f s).streams = s.streams := by cases hp <;> rfl
@[simp] theorem updFn_sketch (hp : HostPort) (f : HostFn → HostFn) (s : State) : (updFn hp f s).sketch = s.sketch := by cases hp <;> rfl
@[simp] theorem updFn_tick (hp : HostPort) (f : HostFn → HostFn) (s : State) : (updFn hp f s).tick = s.tick := by cases hp <;> rfl
@[simp] theorem updFn_tray (hp : HostPort) (f : HostFn → HostFn) (s : State) : (updFn hp f s).tray = s.tray := by cases hp <;> rfl
@[simp] theorem updFn_power (hp : HostPort) (f : HostFn → HostFn) (s : State) : (updFn hp f s).power = s.power := by cases hp <;> rfl
@[simp] theorem updFn_health (hp : HostPort) (f : HostFn → HostFn) (s : State) : (updFn hp f s).health = s.health := by cases hp <;> rfl

/-! `updRing` changes `host` and nothing else. -/

@[simp] theorem updRing_pending (hp : HostPort) (r : Nat) (f : Ring → Ring) (s : State) : (updRing hp r f s).pending = s.pending := by cases hp <;> rfl
@[simp] theorem updRing_now (hp : HostPort) (r : Nat) (f : Ring → Ring) (s : State) : (updRing hp r f s).now = s.now := by cases hp <;> rfl
@[simp] theorem updRing_free (hp : HostPort) (r : Nat) (f : Ring → Ring) (s : State) : (updRing hp r f s).free = s.free := by cases hp <;> rfl
@[simp] theorem updRing_out (hp : HostPort) (r : Nat) (f : Ring → Ring) (s : State) : (updRing hp r f s).out = s.out := by cases hp <;> rfl
@[simp] theorem updRing_boot (hp : HostPort) (r : Nat) (f : Ring → Ring) (s : State) : (updRing hp r f s).boot = s.boot := by cases hp <;> rfl
@[simp] theorem updRing_flash (hp : HostPort) (r : Nat) (f : Ring → Ring) (s : State) : (updRing hp r f s).flash = s.flash := by cases hp <;> rfl
@[simp] theorem updRing_policy (hp : HostPort) (r : Nat) (f : Ring → Ring) (s : State) : (updRing hp r f s).policy = s.policy := by cases hp <;> rfl
@[simp] theorem updRing_lasers (hp : HostPort) (r : Nat) (f : Ring → Ring) (s : State) : (updRing hp r f s).lasers = s.lasers := by cases hp <;> rfl
@[simp] theorem updRing_ports (hp : HostPort) (r : Nat) (f : Ring → Ring) (s : State) : (updRing hp r f s).ports = s.ports := by cases hp <;> rfl
@[simp] theorem updRing_switch (hp : HostPort) (r : Nat) (f : Ring → Ring) (s : State) : (updRing hp r f s).switch = s.switch := by cases hp <;> rfl
@[simp] theorem updRing_canvas (hp : HostPort) (r : Nat) (f : Ring → Ring) (s : State) : (updRing hp r f s).canvas = s.canvas := by cases hp <;> rfl
@[simp] theorem updRing_streams (hp : HostPort) (r : Nat) (f : Ring → Ring) (s : State) : (updRing hp r f s).streams = s.streams := by cases hp <;> rfl
@[simp] theorem updRing_sketch (hp : HostPort) (r : Nat) (f : Ring → Ring) (s : State) : (updRing hp r f s).sketch = s.sketch := by cases hp <;> rfl
@[simp] theorem updRing_tick (hp : HostPort) (r : Nat) (f : Ring → Ring) (s : State) : (updRing hp r f s).tick = s.tick := by cases hp <;> rfl
@[simp] theorem updRing_tray (hp : HostPort) (r : Nat) (f : Ring → Ring) (s : State) : (updRing hp r f s).tray = s.tray := by cases hp <;> rfl
@[simp] theorem updRing_power (hp : HostPort) (r : Nat) (f : Ring → Ring) (s : State) : (updRing hp r f s).power = s.power := by cases hp <;> rfl
@[simp] theorem updRing_health (hp : HostPort) (r : Nat) (f : Ring → Ring) (s : State) : (updRing hp r f s).health = s.health := by cases hp <;> rfl

/-! `updBoot` changes `boot` and nothing else. -/

@[simp] theorem updBoot_pending (f : Boot → Boot) (s : State) : (updBoot f s).pending = s.pending := (rfl)
@[simp] theorem updBoot_now (f : Boot → Boot) (s : State) : (updBoot f s).now = s.now := (rfl)
@[simp] theorem updBoot_free (f : Boot → Boot) (s : State) : (updBoot f s).free = s.free := (rfl)
@[simp] theorem updBoot_out (f : Boot → Boot) (s : State) : (updBoot f s).out = s.out := (rfl)
@[simp] theorem updBoot_boot (f : Boot → Boot) (s : State) : (updBoot f s).boot = f s.boot := (rfl)
@[simp] theorem updBoot_flash (f : Boot → Boot) (s : State) : (updBoot f s).flash = s.flash := (rfl)
@[simp] theorem updBoot_host (f : Boot → Boot) (s : State) : (updBoot f s).host = s.host := (rfl)
@[simp] theorem updBoot_policy (f : Boot → Boot) (s : State) : (updBoot f s).policy = s.policy := (rfl)
@[simp] theorem updBoot_lasers (f : Boot → Boot) (s : State) : (updBoot f s).lasers = s.lasers := (rfl)
@[simp] theorem updBoot_ports (f : Boot → Boot) (s : State) : (updBoot f s).ports = s.ports := (rfl)
@[simp] theorem updBoot_switch (f : Boot → Boot) (s : State) : (updBoot f s).switch = s.switch := (rfl)
@[simp] theorem updBoot_canvas (f : Boot → Boot) (s : State) : (updBoot f s).canvas = s.canvas := (rfl)
@[simp] theorem updBoot_streams (f : Boot → Boot) (s : State) : (updBoot f s).streams = s.streams := (rfl)
@[simp] theorem updBoot_sketch (f : Boot → Boot) (s : State) : (updBoot f s).sketch = s.sketch := (rfl)
@[simp] theorem updBoot_tick (f : Boot → Boot) (s : State) : (updBoot f s).tick = s.tick := (rfl)
@[simp] theorem updBoot_tray (f : Boot → Boot) (s : State) : (updBoot f s).tray = s.tray := (rfl)
@[simp] theorem updBoot_power (f : Boot → Boot) (s : State) : (updBoot f s).power = s.power := (rfl)
@[simp] theorem updBoot_health (f : Boot → Boot) (s : State) : (updBoot f s).health = s.health := (rfl)

/-! `updFlash` changes `flash` and nothing else. -/

@[simp] theorem updFlash_pending (f : Flash → Flash) (s : State) : (updFlash f s).pending = s.pending := (rfl)
@[simp] theorem updFlash_now (f : Flash → Flash) (s : State) : (updFlash f s).now = s.now := (rfl)
@[simp] theorem updFlash_free (f : Flash → Flash) (s : State) : (updFlash f s).free = s.free := (rfl)
@[simp] theorem updFlash_out (f : Flash → Flash) (s : State) : (updFlash f s).out = s.out := (rfl)
@[simp] theorem updFlash_boot (f : Flash → Flash) (s : State) : (updFlash f s).boot = s.boot := (rfl)
@[simp] theorem updFlash_flash (f : Flash → Flash) (s : State) : (updFlash f s).flash = f s.flash := (rfl)
@[simp] theorem updFlash_host (f : Flash → Flash) (s : State) : (updFlash f s).host = s.host := (rfl)
@[simp] theorem updFlash_policy (f : Flash → Flash) (s : State) : (updFlash f s).policy = s.policy := (rfl)
@[simp] theorem updFlash_lasers (f : Flash → Flash) (s : State) : (updFlash f s).lasers = s.lasers := (rfl)
@[simp] theorem updFlash_ports (f : Flash → Flash) (s : State) : (updFlash f s).ports = s.ports := (rfl)
@[simp] theorem updFlash_switch (f : Flash → Flash) (s : State) : (updFlash f s).switch = s.switch := (rfl)
@[simp] theorem updFlash_canvas (f : Flash → Flash) (s : State) : (updFlash f s).canvas = s.canvas := (rfl)
@[simp] theorem updFlash_streams (f : Flash → Flash) (s : State) : (updFlash f s).streams = s.streams := (rfl)
@[simp] theorem updFlash_sketch (f : Flash → Flash) (s : State) : (updFlash f s).sketch = s.sketch := (rfl)
@[simp] theorem updFlash_tick (f : Flash → Flash) (s : State) : (updFlash f s).tick = s.tick := (rfl)
@[simp] theorem updFlash_tray (f : Flash → Flash) (s : State) : (updFlash f s).tray = s.tray := (rfl)
@[simp] theorem updFlash_power (f : Flash → Flash) (s : State) : (updFlash f s).power = s.power := (rfl)
@[simp] theorem updFlash_health (f : Flash → Flash) (s : State) : (updFlash f s).health = s.health := (rfl)

/-! `updHost` changes `host` and nothing else. -/

@[simp] theorem updHost_pending (f : HostState → HostState) (s : State) : (updHost f s).pending = s.pending := (rfl)
@[simp] theorem updHost_now (f : HostState → HostState) (s : State) : (updHost f s).now = s.now := (rfl)
@[simp] theorem updHost_free (f : HostState → HostState) (s : State) : (updHost f s).free = s.free := (rfl)
@[simp] theorem updHost_out (f : HostState → HostState) (s : State) : (updHost f s).out = s.out := (rfl)
@[simp] theorem updHost_boot (f : HostState → HostState) (s : State) : (updHost f s).boot = s.boot := (rfl)
@[simp] theorem updHost_flash (f : HostState → HostState) (s : State) : (updHost f s).flash = s.flash := (rfl)
@[simp] theorem updHost_host (f : HostState → HostState) (s : State) : (updHost f s).host = f s.host := (rfl)
@[simp] theorem updHost_policy (f : HostState → HostState) (s : State) : (updHost f s).policy = s.policy := (rfl)
@[simp] theorem updHost_lasers (f : HostState → HostState) (s : State) : (updHost f s).lasers = s.lasers := (rfl)
@[simp] theorem updHost_ports (f : HostState → HostState) (s : State) : (updHost f s).ports = s.ports := (rfl)
@[simp] theorem updHost_switch (f : HostState → HostState) (s : State) : (updHost f s).switch = s.switch := (rfl)
@[simp] theorem updHost_canvas (f : HostState → HostState) (s : State) : (updHost f s).canvas = s.canvas := (rfl)
@[simp] theorem updHost_streams (f : HostState → HostState) (s : State) : (updHost f s).streams = s.streams := (rfl)
@[simp] theorem updHost_sketch (f : HostState → HostState) (s : State) : (updHost f s).sketch = s.sketch := (rfl)
@[simp] theorem updHost_tick (f : HostState → HostState) (s : State) : (updHost f s).tick = s.tick := (rfl)
@[simp] theorem updHost_tray (f : HostState → HostState) (s : State) : (updHost f s).tray = s.tray := (rfl)
@[simp] theorem updHost_power (f : HostState → HostState) (s : State) : (updHost f s).power = s.power := (rfl)
@[simp] theorem updHost_health (f : HostState → HostState) (s : State) : (updHost f s).health = s.health := (rfl)

/-! `updSwitch` changes `switch` and nothing else. -/

@[simp] theorem updSwitch_pending (f : Switch → Switch) (s : State) : (updSwitch f s).pending = s.pending := (rfl)
@[simp] theorem updSwitch_now (f : Switch → Switch) (s : State) : (updSwitch f s).now = s.now := (rfl)
@[simp] theorem updSwitch_free (f : Switch → Switch) (s : State) : (updSwitch f s).free = s.free := (rfl)
@[simp] theorem updSwitch_out (f : Switch → Switch) (s : State) : (updSwitch f s).out = s.out := (rfl)
@[simp] theorem updSwitch_boot (f : Switch → Switch) (s : State) : (updSwitch f s).boot = s.boot := (rfl)
@[simp] theorem updSwitch_flash (f : Switch → Switch) (s : State) : (updSwitch f s).flash = s.flash := (rfl)
@[simp] theorem updSwitch_host (f : Switch → Switch) (s : State) : (updSwitch f s).host = s.host := (rfl)
@[simp] theorem updSwitch_policy (f : Switch → Switch) (s : State) : (updSwitch f s).policy = s.policy := (rfl)
@[simp] theorem updSwitch_lasers (f : Switch → Switch) (s : State) : (updSwitch f s).lasers = s.lasers := (rfl)
@[simp] theorem updSwitch_ports (f : Switch → Switch) (s : State) : (updSwitch f s).ports = s.ports := (rfl)
@[simp] theorem updSwitch_switch (f : Switch → Switch) (s : State) : (updSwitch f s).switch = f s.switch := (rfl)
@[simp] theorem updSwitch_canvas (f : Switch → Switch) (s : State) : (updSwitch f s).canvas = s.canvas := (rfl)
@[simp] theorem updSwitch_streams (f : Switch → Switch) (s : State) : (updSwitch f s).streams = s.streams := (rfl)
@[simp] theorem updSwitch_sketch (f : Switch → Switch) (s : State) : (updSwitch f s).sketch = s.sketch := (rfl)
@[simp] theorem updSwitch_tick (f : Switch → Switch) (s : State) : (updSwitch f s).tick = s.tick := (rfl)
@[simp] theorem updSwitch_tray (f : Switch → Switch) (s : State) : (updSwitch f s).tray = s.tray := (rfl)
@[simp] theorem updSwitch_power (f : Switch → Switch) (s : State) : (updSwitch f s).power = s.power := (rfl)
@[simp] theorem updSwitch_health (f : Switch → Switch) (s : State) : (updSwitch f s).health = s.health := (rfl)

/-! `updCanvas` changes `canvas` and nothing else. -/

@[simp] theorem updCanvas_pending (f : Canvas → Canvas) (s : State) : (updCanvas f s).pending = s.pending := (rfl)
@[simp] theorem updCanvas_now (f : Canvas → Canvas) (s : State) : (updCanvas f s).now = s.now := (rfl)
@[simp] theorem updCanvas_free (f : Canvas → Canvas) (s : State) : (updCanvas f s).free = s.free := (rfl)
@[simp] theorem updCanvas_out (f : Canvas → Canvas) (s : State) : (updCanvas f s).out = s.out := (rfl)
@[simp] theorem updCanvas_boot (f : Canvas → Canvas) (s : State) : (updCanvas f s).boot = s.boot := (rfl)
@[simp] theorem updCanvas_flash (f : Canvas → Canvas) (s : State) : (updCanvas f s).flash = s.flash := (rfl)
@[simp] theorem updCanvas_host (f : Canvas → Canvas) (s : State) : (updCanvas f s).host = s.host := (rfl)
@[simp] theorem updCanvas_policy (f : Canvas → Canvas) (s : State) : (updCanvas f s).policy = s.policy := (rfl)
@[simp] theorem updCanvas_lasers (f : Canvas → Canvas) (s : State) : (updCanvas f s).lasers = s.lasers := (rfl)
@[simp] theorem updCanvas_ports (f : Canvas → Canvas) (s : State) : (updCanvas f s).ports = s.ports := (rfl)
@[simp] theorem updCanvas_switch (f : Canvas → Canvas) (s : State) : (updCanvas f s).switch = s.switch := (rfl)
@[simp] theorem updCanvas_canvas (f : Canvas → Canvas) (s : State) : (updCanvas f s).canvas = f s.canvas := (rfl)
@[simp] theorem updCanvas_streams (f : Canvas → Canvas) (s : State) : (updCanvas f s).streams = s.streams := (rfl)
@[simp] theorem updCanvas_sketch (f : Canvas → Canvas) (s : State) : (updCanvas f s).sketch = s.sketch := (rfl)
@[simp] theorem updCanvas_tick (f : Canvas → Canvas) (s : State) : (updCanvas f s).tick = s.tick := (rfl)
@[simp] theorem updCanvas_tray (f : Canvas → Canvas) (s : State) : (updCanvas f s).tray = s.tray := (rfl)
@[simp] theorem updCanvas_power (f : Canvas → Canvas) (s : State) : (updCanvas f s).power = s.power := (rfl)
@[simp] theorem updCanvas_health (f : Canvas → Canvas) (s : State) : (updCanvas f s).health = s.health := (rfl)

/-! `updStreams` changes `streams` and nothing else. -/

@[simp] theorem updStreams_pending (f : Streams → Streams) (s : State) : (updStreams f s).pending = s.pending := (rfl)
@[simp] theorem updStreams_now (f : Streams → Streams) (s : State) : (updStreams f s).now = s.now := (rfl)
@[simp] theorem updStreams_free (f : Streams → Streams) (s : State) : (updStreams f s).free = s.free := (rfl)
@[simp] theorem updStreams_out (f : Streams → Streams) (s : State) : (updStreams f s).out = s.out := (rfl)
@[simp] theorem updStreams_boot (f : Streams → Streams) (s : State) : (updStreams f s).boot = s.boot := (rfl)
@[simp] theorem updStreams_flash (f : Streams → Streams) (s : State) : (updStreams f s).flash = s.flash := (rfl)
@[simp] theorem updStreams_host (f : Streams → Streams) (s : State) : (updStreams f s).host = s.host := (rfl)
@[simp] theorem updStreams_policy (f : Streams → Streams) (s : State) : (updStreams f s).policy = s.policy := (rfl)
@[simp] theorem updStreams_lasers (f : Streams → Streams) (s : State) : (updStreams f s).lasers = s.lasers := (rfl)
@[simp] theorem updStreams_ports (f : Streams → Streams) (s : State) : (updStreams f s).ports = s.ports := (rfl)
@[simp] theorem updStreams_switch (f : Streams → Streams) (s : State) : (updStreams f s).switch = s.switch := (rfl)
@[simp] theorem updStreams_canvas (f : Streams → Streams) (s : State) : (updStreams f s).canvas = s.canvas := (rfl)
@[simp] theorem updStreams_streams (f : Streams → Streams) (s : State) : (updStreams f s).streams = f s.streams := (rfl)
@[simp] theorem updStreams_sketch (f : Streams → Streams) (s : State) : (updStreams f s).sketch = s.sketch := (rfl)
@[simp] theorem updStreams_tick (f : Streams → Streams) (s : State) : (updStreams f s).tick = s.tick := (rfl)
@[simp] theorem updStreams_tray (f : Streams → Streams) (s : State) : (updStreams f s).tray = s.tray := (rfl)
@[simp] theorem updStreams_power (f : Streams → Streams) (s : State) : (updStreams f s).power = s.power := (rfl)
@[simp] theorem updStreams_health (f : Streams → Streams) (s : State) : (updStreams f s).health = s.health := (rfl)

/-! `updSketch` changes `sketch` and nothing else. -/

@[simp] theorem updSketch_pending (f : Sketch → Sketch) (s : State) : (updSketch f s).pending = s.pending := (rfl)
@[simp] theorem updSketch_now (f : Sketch → Sketch) (s : State) : (updSketch f s).now = s.now := (rfl)
@[simp] theorem updSketch_free (f : Sketch → Sketch) (s : State) : (updSketch f s).free = s.free := (rfl)
@[simp] theorem updSketch_out (f : Sketch → Sketch) (s : State) : (updSketch f s).out = s.out := (rfl)
@[simp] theorem updSketch_boot (f : Sketch → Sketch) (s : State) : (updSketch f s).boot = s.boot := (rfl)
@[simp] theorem updSketch_flash (f : Sketch → Sketch) (s : State) : (updSketch f s).flash = s.flash := (rfl)
@[simp] theorem updSketch_host (f : Sketch → Sketch) (s : State) : (updSketch f s).host = s.host := (rfl)
@[simp] theorem updSketch_policy (f : Sketch → Sketch) (s : State) : (updSketch f s).policy = s.policy := (rfl)
@[simp] theorem updSketch_lasers (f : Sketch → Sketch) (s : State) : (updSketch f s).lasers = s.lasers := (rfl)
@[simp] theorem updSketch_ports (f : Sketch → Sketch) (s : State) : (updSketch f s).ports = s.ports := (rfl)
@[simp] theorem updSketch_switch (f : Sketch → Sketch) (s : State) : (updSketch f s).switch = s.switch := (rfl)
@[simp] theorem updSketch_canvas (f : Sketch → Sketch) (s : State) : (updSketch f s).canvas = s.canvas := (rfl)
@[simp] theorem updSketch_streams (f : Sketch → Sketch) (s : State) : (updSketch f s).streams = s.streams := (rfl)
@[simp] theorem updSketch_sketch (f : Sketch → Sketch) (s : State) : (updSketch f s).sketch = f s.sketch := (rfl)
@[simp] theorem updSketch_tick (f : Sketch → Sketch) (s : State) : (updSketch f s).tick = s.tick := (rfl)
@[simp] theorem updSketch_tray (f : Sketch → Sketch) (s : State) : (updSketch f s).tray = s.tray := (rfl)
@[simp] theorem updSketch_power (f : Sketch → Sketch) (s : State) : (updSketch f s).power = s.power := (rfl)
@[simp] theorem updSketch_health (f : Sketch → Sketch) (s : State) : (updSketch f s).health = s.health := (rfl)

/-! `updTick` changes `tick` and nothing else. -/

@[simp] theorem updTick_pending (f : Tick → Tick) (s : State) : (updTick f s).pending = s.pending := (rfl)
@[simp] theorem updTick_now (f : Tick → Tick) (s : State) : (updTick f s).now = s.now := (rfl)
@[simp] theorem updTick_free (f : Tick → Tick) (s : State) : (updTick f s).free = s.free := (rfl)
@[simp] theorem updTick_out (f : Tick → Tick) (s : State) : (updTick f s).out = s.out := (rfl)
@[simp] theorem updTick_boot (f : Tick → Tick) (s : State) : (updTick f s).boot = s.boot := (rfl)
@[simp] theorem updTick_flash (f : Tick → Tick) (s : State) : (updTick f s).flash = s.flash := (rfl)
@[simp] theorem updTick_host (f : Tick → Tick) (s : State) : (updTick f s).host = s.host := (rfl)
@[simp] theorem updTick_policy (f : Tick → Tick) (s : State) : (updTick f s).policy = s.policy := (rfl)
@[simp] theorem updTick_lasers (f : Tick → Tick) (s : State) : (updTick f s).lasers = s.lasers := (rfl)
@[simp] theorem updTick_ports (f : Tick → Tick) (s : State) : (updTick f s).ports = s.ports := (rfl)
@[simp] theorem updTick_switch (f : Tick → Tick) (s : State) : (updTick f s).switch = s.switch := (rfl)
@[simp] theorem updTick_canvas (f : Tick → Tick) (s : State) : (updTick f s).canvas = s.canvas := (rfl)
@[simp] theorem updTick_streams (f : Tick → Tick) (s : State) : (updTick f s).streams = s.streams := (rfl)
@[simp] theorem updTick_sketch (f : Tick → Tick) (s : State) : (updTick f s).sketch = s.sketch := (rfl)
@[simp] theorem updTick_tick (f : Tick → Tick) (s : State) : (updTick f s).tick = f s.tick := (rfl)
@[simp] theorem updTick_tray (f : Tick → Tick) (s : State) : (updTick f s).tray = s.tray := (rfl)
@[simp] theorem updTick_power (f : Tick → Tick) (s : State) : (updTick f s).power = s.power := (rfl)
@[simp] theorem updTick_health (f : Tick → Tick) (s : State) : (updTick f s).health = s.health := (rfl)

/-! `updTray` changes `tray` and nothing else. -/

@[simp] theorem updTray_pending (f : Tray → Tray) (s : State) : (updTray f s).pending = s.pending := (rfl)
@[simp] theorem updTray_now (f : Tray → Tray) (s : State) : (updTray f s).now = s.now := (rfl)
@[simp] theorem updTray_free (f : Tray → Tray) (s : State) : (updTray f s).free = s.free := (rfl)
@[simp] theorem updTray_out (f : Tray → Tray) (s : State) : (updTray f s).out = s.out := (rfl)
@[simp] theorem updTray_boot (f : Tray → Tray) (s : State) : (updTray f s).boot = s.boot := (rfl)
@[simp] theorem updTray_flash (f : Tray → Tray) (s : State) : (updTray f s).flash = s.flash := (rfl)
@[simp] theorem updTray_host (f : Tray → Tray) (s : State) : (updTray f s).host = s.host := (rfl)
@[simp] theorem updTray_policy (f : Tray → Tray) (s : State) : (updTray f s).policy = s.policy := (rfl)
@[simp] theorem updTray_lasers (f : Tray → Tray) (s : State) : (updTray f s).lasers = s.lasers := (rfl)
@[simp] theorem updTray_ports (f : Tray → Tray) (s : State) : (updTray f s).ports = s.ports := (rfl)
@[simp] theorem updTray_switch (f : Tray → Tray) (s : State) : (updTray f s).switch = s.switch := (rfl)
@[simp] theorem updTray_canvas (f : Tray → Tray) (s : State) : (updTray f s).canvas = s.canvas := (rfl)
@[simp] theorem updTray_streams (f : Tray → Tray) (s : State) : (updTray f s).streams = s.streams := (rfl)
@[simp] theorem updTray_sketch (f : Tray → Tray) (s : State) : (updTray f s).sketch = s.sketch := (rfl)
@[simp] theorem updTray_tick (f : Tray → Tray) (s : State) : (updTray f s).tick = s.tick := (rfl)
@[simp] theorem updTray_tray (f : Tray → Tray) (s : State) : (updTray f s).tray = f s.tray := (rfl)
@[simp] theorem updTray_power (f : Tray → Tray) (s : State) : (updTray f s).power = s.power := (rfl)
@[simp] theorem updTray_health (f : Tray → Tray) (s : State) : (updTray f s).health = s.health := (rfl)

/-! `updTwin` changes `tray` and nothing else. -/

@[simp] theorem updTwin_pending (f : Twin → Twin) (s : State) : (updTwin f s).pending = s.pending := (rfl)
@[simp] theorem updTwin_now (f : Twin → Twin) (s : State) : (updTwin f s).now = s.now := (rfl)
@[simp] theorem updTwin_free (f : Twin → Twin) (s : State) : (updTwin f s).free = s.free := (rfl)
@[simp] theorem updTwin_out (f : Twin → Twin) (s : State) : (updTwin f s).out = s.out := (rfl)
@[simp] theorem updTwin_boot (f : Twin → Twin) (s : State) : (updTwin f s).boot = s.boot := (rfl)
@[simp] theorem updTwin_flash (f : Twin → Twin) (s : State) : (updTwin f s).flash = s.flash := (rfl)
@[simp] theorem updTwin_host (f : Twin → Twin) (s : State) : (updTwin f s).host = s.host := (rfl)
@[simp] theorem updTwin_policy (f : Twin → Twin) (s : State) : (updTwin f s).policy = s.policy := (rfl)
@[simp] theorem updTwin_lasers (f : Twin → Twin) (s : State) : (updTwin f s).lasers = s.lasers := (rfl)
@[simp] theorem updTwin_ports (f : Twin → Twin) (s : State) : (updTwin f s).ports = s.ports := (rfl)
@[simp] theorem updTwin_switch (f : Twin → Twin) (s : State) : (updTwin f s).switch = s.switch := (rfl)
@[simp] theorem updTwin_canvas (f : Twin → Twin) (s : State) : (updTwin f s).canvas = s.canvas := (rfl)
@[simp] theorem updTwin_streams (f : Twin → Twin) (s : State) : (updTwin f s).streams = s.streams := (rfl)
@[simp] theorem updTwin_sketch (f : Twin → Twin) (s : State) : (updTwin f s).sketch = s.sketch := (rfl)
@[simp] theorem updTwin_tick (f : Twin → Twin) (s : State) : (updTwin f s).tick = s.tick := (rfl)
@[simp] theorem updTwin_tray (f : Twin → Twin) (s : State) : (updTwin f s).tray = { s.tray with twin := f s.tray.twin } := (rfl)
@[simp] theorem updTwin_power (f : Twin → Twin) (s : State) : (updTwin f s).power = s.power := (rfl)
@[simp] theorem updTwin_health (f : Twin → Twin) (s : State) : (updTwin f s).health = s.health := (rfl)

/-! `updPower` changes `power` and nothing else. -/

@[simp] theorem updPower_pending (f : Power → Power) (s : State) : (updPower f s).pending = s.pending := (rfl)
@[simp] theorem updPower_now (f : Power → Power) (s : State) : (updPower f s).now = s.now := (rfl)
@[simp] theorem updPower_free (f : Power → Power) (s : State) : (updPower f s).free = s.free := (rfl)
@[simp] theorem updPower_out (f : Power → Power) (s : State) : (updPower f s).out = s.out := (rfl)
@[simp] theorem updPower_boot (f : Power → Power) (s : State) : (updPower f s).boot = s.boot := (rfl)
@[simp] theorem updPower_flash (f : Power → Power) (s : State) : (updPower f s).flash = s.flash := (rfl)
@[simp] theorem updPower_host (f : Power → Power) (s : State) : (updPower f s).host = s.host := (rfl)
@[simp] theorem updPower_policy (f : Power → Power) (s : State) : (updPower f s).policy = s.policy := (rfl)
@[simp] theorem updPower_lasers (f : Power → Power) (s : State) : (updPower f s).lasers = s.lasers := (rfl)
@[simp] theorem updPower_ports (f : Power → Power) (s : State) : (updPower f s).ports = s.ports := (rfl)
@[simp] theorem updPower_switch (f : Power → Power) (s : State) : (updPower f s).switch = s.switch := (rfl)
@[simp] theorem updPower_canvas (f : Power → Power) (s : State) : (updPower f s).canvas = s.canvas := (rfl)
@[simp] theorem updPower_streams (f : Power → Power) (s : State) : (updPower f s).streams = s.streams := (rfl)
@[simp] theorem updPower_sketch (f : Power → Power) (s : State) : (updPower f s).sketch = s.sketch := (rfl)
@[simp] theorem updPower_tick (f : Power → Power) (s : State) : (updPower f s).tick = s.tick := (rfl)
@[simp] theorem updPower_tray (f : Power → Power) (s : State) : (updPower f s).tray = s.tray := (rfl)
@[simp] theorem updPower_power (f : Power → Power) (s : State) : (updPower f s).power = f s.power := (rfl)
@[simp] theorem updPower_health (f : Power → Power) (s : State) : (updPower f s).health = s.health := (rfl)

/-! `updHealth` changes `health` and nothing else. -/

@[simp] theorem updHealth_pending (f : Health → Health) (s : State) : (updHealth f s).pending = s.pending := (rfl)
@[simp] theorem updHealth_now (f : Health → Health) (s : State) : (updHealth f s).now = s.now := (rfl)
@[simp] theorem updHealth_free (f : Health → Health) (s : State) : (updHealth f s).free = s.free := (rfl)
@[simp] theorem updHealth_out (f : Health → Health) (s : State) : (updHealth f s).out = s.out := (rfl)
@[simp] theorem updHealth_boot (f : Health → Health) (s : State) : (updHealth f s).boot = s.boot := (rfl)
@[simp] theorem updHealth_flash (f : Health → Health) (s : State) : (updHealth f s).flash = s.flash := (rfl)
@[simp] theorem updHealth_host (f : Health → Health) (s : State) : (updHealth f s).host = s.host := (rfl)
@[simp] theorem updHealth_policy (f : Health → Health) (s : State) : (updHealth f s).policy = s.policy := (rfl)
@[simp] theorem updHealth_lasers (f : Health → Health) (s : State) : (updHealth f s).lasers = s.lasers := (rfl)
@[simp] theorem updHealth_ports (f : Health → Health) (s : State) : (updHealth f s).ports = s.ports := (rfl)
@[simp] theorem updHealth_switch (f : Health → Health) (s : State) : (updHealth f s).switch = s.switch := (rfl)
@[simp] theorem updHealth_canvas (f : Health → Health) (s : State) : (updHealth f s).canvas = s.canvas := (rfl)
@[simp] theorem updHealth_streams (f : Health → Health) (s : State) : (updHealth f s).streams = s.streams := (rfl)
@[simp] theorem updHealth_sketch (f : Health → Health) (s : State) : (updHealth f s).sketch = s.sketch := (rfl)
@[simp] theorem updHealth_tick (f : Health → Health) (s : State) : (updHealth f s).tick = s.tick := (rfl)
@[simp] theorem updHealth_tray (f : Health → Health) (s : State) : (updHealth f s).tray = s.tray := (rfl)
@[simp] theorem updHealth_power (f : Health → Health) (s : State) : (updHealth f s).power = s.power := (rfl)
@[simp] theorem updHealth_health (f : Health → Health) (s : State) : (updHealth f s).health = f s.health := (rfl)

/-! Sending something out adds it in front of what has been sent. -/

@[simp] theorem emit_out (o : Output) (s : State) : (emit o s).out = o :: s.out := (rfl)
@[simp] theorem emit_pending (o : Output) (s : State) : (emit o s).pending = s.pending := (rfl)
@[simp] theorem emit_now (o : Output) (s : State) : (emit o s).now = s.now := (rfl)
@[simp] theorem emit_free (o : Output) (s : State) : (emit o s).free = s.free := (rfl)
@[simp] theorem emit_boot (o : Output) (s : State) : (emit o s).boot = s.boot := (rfl)
@[simp] theorem emit_flash (o : Output) (s : State) : (emit o s).flash = s.flash := (rfl)
@[simp] theorem emit_host (o : Output) (s : State) : (emit o s).host = s.host := (rfl)
@[simp] theorem emit_policy (o : Output) (s : State) : (emit o s).policy = s.policy := (rfl)
@[simp] theorem emit_lasers (o : Output) (s : State) : (emit o s).lasers = s.lasers := (rfl)
@[simp] theorem emit_ports (o : Output) (s : State) : (emit o s).ports = s.ports := (rfl)
@[simp] theorem emit_switch (o : Output) (s : State) : (emit o s).switch = s.switch := (rfl)
@[simp] theorem emit_canvas (o : Output) (s : State) : (emit o s).canvas = s.canvas := (rfl)
@[simp] theorem emit_streams (o : Output) (s : State) : (emit o s).streams = s.streams := (rfl)
@[simp] theorem emit_sketch (o : Output) (s : State) : (emit o s).sketch = s.sketch := (rfl)
@[simp] theorem emit_tick (o : Output) (s : State) : (emit o s).tick = s.tick := (rfl)
@[simp] theorem emit_tray (o : Output) (s : State) : (emit o s).tray = s.tray := (rfl)
@[simp] theorem emit_power (o : Output) (s : State) : (emit o s).power = s.power := (rfl)
@[simp] theorem emit_health (o : Output) (s : State) : (emit o s).health = s.health := (rfl)

/-! Parts read through their accessors. -/

@[simp] theorem fnOf_a (s : State) : fnOf s .a = s.host.fnA := (rfl)
@[simp] theorem fnOf_b (s : State) : fnOf s .b = s.host.fnB := (rfl)
theorem fnOf_updFn (hp : HostPort) (f : HostFn → HostFn) (s : State) : fnOf (updFn hp f s) hp = f (fnOf s hp) := by
  cases hp <;> rfl
theorem portOf_updPort_ne {p q : Nat} (h : p ≠ q) (f : Port → Port) (s : State) : portOf (updPort p f s) q = portOf s q := by
  simp [portOf, updPort, List.getD_eq_getElem?_getD, List.getElem?_modify, h]
theorem portOf_updPort {p : Nat} (f : Port → Port) (s : State) (h : p < s.ports.length) :
    portOf (updPort p f s) p = f (portOf s p) := by
  simp [portOf, updPort, List.getD_eq_getElem?_getD, List.getElem?_modify, h]

end Sys2Proof.Machine
end

