-- ==== Sys2Proof/Laws/Skel.lean ====
section
/-! SUPPORT. What almost no operation touches: the queue, the clock, the number of ports and of laser inputs, the byte
memories, start-up and the contents of flash but for snapshots and the retirement list. -/

namespace Sys2Proof.Machine

/-- Flash but for the snapshots and the retirement list. -/
def flashCore (f : Flash) : Flash := { f with snapshots := [], retired := [] }

/-- The parts of a state that an ordinary operation leaves as they are. -/
structure Skel where
  pending : List Instr
  now : Nat
  ports : Nat
  lasers : Nat
  boot : Boot
  flash : Flash
  store : Memory
  constants : Memory
  load : LoadArea
  recv : Memory

def skel (s : State) : Skel :=
  { pending := s.pending, now := s.now, ports := s.ports.length, lasers := s.lasers.length, boot := s.boot
    flash := flashCore s.flash, store := s.streams.store, constants := s.canvas.constants, load := s.sketch.load
    recv := s.tray.recv }

/-! ### The named updates -/

@[simp] theorem skel_updPort (p : Nat) (f : Port → Port) (s : State) : skel (updPort p f s) = skel s := by simp [skel]
@[simp] theorem skel_updLane (p l : Nat) (f : Lane → Lane) (s : State) : skel (updLane p l f s) = skel s := by simp [updLane]
@[simp] theorem skel_updLink (p : Nat) (f : Link → Link) (s : State) : skel (updLink p f s) = skel s := by simp [updLink]
@[simp] theorem skel_updFn (hp : HostPort) (f : HostFn → HostFn) (s : State) : skel (updFn hp f s) = skel s := by simp [skel]
@[simp] theorem skel_updRing (hp : HostPort) (r : Nat) (f : Ring → Ring) (s : State) : skel (updRing hp r f s) = skel s := by
  simp [updRing]
@[simp] theorem skel_updHost (f : HostState → HostState) (s : State) : skel (updHost f s) = skel s := (rfl)
@[simp] theorem skel_updSwitch (f : Switch → Switch) (s : State) : skel (updSwitch f s) = skel s := (rfl)
@[simp] theorem skel_updTick (f : Tick → Tick) (s : State) : skel (updTick f s) = skel s := (rfl)
@[simp] theorem skel_updPower (f : Power → Power) (s : State) : skel (updPower f s) = skel s := (rfl)
@[simp] theorem skel_updHealth (f : Health → Health) (s : State) : skel (updHealth f s) = skel s := (rfl)
@[simp] theorem skel_updTwin (f : Twin → Twin) (s : State) : skel (updTwin f s) = skel s := (rfl)
@[simp] theorem skel_updCanvas (f : Canvas → Canvas) (s : State) (h : (f s.canvas).constants = s.canvas.constants) :
    skel (updCanvas f s) = skel s := by simp [skel, h]
@[simp] theorem skel_updStreams (f : Streams → Streams) (s : State) (h : (f s.streams).store = s.streams.store) :
    skel (updStreams f s) = skel s := by simp [skel, h]
@[simp] theorem skel_updSketch (f : Sketch → Sketch) (s : State) (h : (f s.sketch).load = s.sketch.load) :
    skel (updSketch f s) = skel s := by simp [skel, h]
@[simp] theorem skel_updTray (f : Tray → Tray) (s : State) (h : (f s.tray).recv = s.tray.recv) :
    skel (updTray f s) = skel s := by simp [skel, h]
@[simp] theorem skel_updFlash (f : Flash → Flash) (s : State) (h : flashCore (f s.flash) = flashCore s.flash) :
    skel (updFlash f s) = skel s := by simp [skel, h]
@[simp] theorem skel_emit (o : Output) (s : State) : skel (emit o s) = skel s := (rfl)
@[simp] theorem skel_free (n : Nat) (s : State) : skel { s with free := n } = skel s := rfl
@[simp] theorem skel_policy (p : Policy) (s : State) : skel { s with policy := p } = skel s := rfl

/-! ### Compositions -/

@[simp] theorem skel_ite {c : Prop} [Decidable c] (a b : State) :
    skel (if c then a else b) = if c then skel a else skel b := by split <;> rfl
@[simp] theorem skel_ite_apply {c : Prop} [Decidable c] (f g : State → State) (s : State) :
    skel ((if c then f else g) s) = if c then skel (f s) else skel (g s) := by split <;> rfl
@[simp] theorem skel_when (b : Bool) (f : State → State) (s : State) (h : skel (f s) = skel s) : skel (when b f s) = skel s := by
  unfold when; split <;> simp [h]
@[simp] theorem skel_withFree (f : Nat → State → State) (s : State) (h : ∀ n t, skel (f n t) = skel t) :
    skel (withFree f s) = skel s := by simp [withFree, h]
@[simp] theorem skel_forEach {α : Type} (l : List α) (f : α → State → State) (s : State) (h : ∀ a t, skel (f a t) = skel t) :
    skel (forEach l f s) = skel s := by
  unfold forEach
  induction l generalizing s with
  | nil => rfl
  | cons a l ih => simp [ih, h]
theorem skel_foldl {α : Type} (l : List α) (f : State → α → State) (s : State) (h : ∀ a t, skel (f t a) = skel t) :
    skel (l.foldl f s) = skel s := by
  induction l generalizing s with
  | nil => rfl
  | cons a l ih => simp [ih, h]

end Sys2Proof.Machine
end

