-- ==== Sys2Proof/Laws/Kept.lean ====
section
/-! SUPPORT. One lemma per operation: it leaves the queue, the clock, the units, start-up, the byte memories and the contents of
flash as they are (`skel`). An operation without a lemma here is one that changes one of them.
-/

namespace Sys2Proof.Machine


/-! ### Ops -/

@[simp] theorem linkCount_skel (p : Nat) (i : Nat) (n : Nat) (s : State) : skel (linkCount p i n s) = skel s := by
  simp [linkCount]
@[simp] theorem pktCount_skel (i : Nat) (n : Nat) (s : State) : skel (pktCount i n s) = skel s := by simp [pktCount]
@[simp] theorem swCount_skel (i : Nat) (n : Nat) (s : State) : skel (swCount i n s) = skel s := by simp [swCount]
@[simp] theorem canvasCount_skel (i : Nat) (n : Nat) (s : State) : skel (canvasCount i n s) = skel s := by
  simp [canvasCount]
@[simp] theorem streamCount_skel (i : Nat) (n : Nat) (s : State) : skel (streamCount i n s) = skel s := by
  simp [streamCount]
@[simp] theorem sketchCount_skel (i : Nat) (n : Nat) (s : State) : skel (sketchCount i n s) = skel s := by
  simp [sketchCount]
@[simp] theorem hostCount_skel (i : Nat) (n : Nat) (s : State) : skel (hostCount i n s) = skel s := by simp [hostCount]
@[simp] theorem trayCount_skel (i : Nat) (n : Nat) (s : State) : skel (trayCount i n s) = skel s := by simp [trayCount]
@[simp] theorem powerCount_skel (i : Nat) (n : Nat) (s : State) : skel (powerCount i n s) = skel s := by
  simp [powerCount]
@[simp] theorem healthCount_skel (i : Nat) (n : Nat) (s : State) : skel (healthCount i n s) = skel s := by
  simp [healthCount]
@[simp] theorem sendVector_skel (hp : HostPort) (v : BitVec 6) (s : State) : skel (sendVector hp v s) = skel s := by
  simp [sendVector]
@[simp] theorem sendCause_skel (hp : HostPort) (i : Nat) (s : State) : skel (sendCause hp i s) = skel s := by
  simp [sendCause]
@[simp] theorem releaseHeld_skel (hp : HostPort) (s : State) : skel (releaseHeld hp s) = skel s := by simp [releaseHeld]
@[simp] theorem setCause_skel (hp : HostPort) (i : Nat) (s : State) : skel (setCause hp i s) = skel s := by
  simp [setCause]
@[simp] theorem notePosted_skel (hp : HostPort) (s : State) : skel (notePosted hp s) = skel s := by simp [notePosted]
@[simp] theorem setCauseBoth_skel (i : Nat) (s : State) : skel (setCauseBoth i s) = skel s := by simp [setCauseBoth]
@[simp] theorem putRecord_skel (r : FlightRec) (s : State) : skel (putRecord r s) = skel s := by simp [putRecord]
@[simp] theorem record_skel (rtype : Nat) (code : Nat) (resource : Nat) (address : Nat) (detail : Bytes) (s : State) :
    skel (record rtype code resource address detail s) = skel s := by
  simp [record]
@[simp] theorem eventTo_skel (code : Nat) (ev : Bytes) (hp : HostPort) (s : State) :
    skel (eventTo code ev hp s) = skel s := by
  simp [eventTo]
@[simp] theorem raiseWith_skel (code : Nat) (source : Nat) (data : Bytes) (ended : Bool) (s : State) :
    skel (raiseWith code source data ended s) = skel s := by
  simp [raiseWith]
@[simp] theorem raise_skel (code : Nat) (source : Nat) (data : Bytes) (s : State) :
    skel (raise code source data s) = skel s := by
  simp [raise]
@[simp] theorem raisePinned_skel (loop : Nat) (source : Nat) (upper : Bool) (s : State) :
    skel (raisePinned loop source upper s) = skel s := by
  simp [raisePinned]
@[simp] theorem raiseReached_skel (loop : Nat) (source : Nat) (old : Pin) (new : Pin) (s : State) :
    skel (raiseReached loop source old new s) = skel s := by
  simp [raiseReached]
@[simp] theorem entryWritten_skel (tbl : Nat) (i : Nat) (s : State) : skel (entryWritten tbl i s) = skel s := by
  simp [entryWritten]

/-! ### Flags -/

@[simp] theorem raiseFlags_skel (n : Nat) (f : AFlags) (s : State) : skel (raiseFlags n f s) = skel s := by
  simp [raiseFlags]
@[simp] theorem clearFlags_skel (n : Nat) (mask : BitVec 4) (s : State) : skel (clearFlags n mask s) = skel s := by
  simp [clearFlags]

/-! ### Queues -/

@[simp] theorem updPacket_skel (id : Nat) (f : Stored → Stored) (s : State) : skel (updPacket id f s) = skel s := by
  simp [updPacket]
@[simp] theorem setQueue_skel (p : Nat) (v : Nat) (l : List Nat) (s : State) : skel (setQueue p v l s) = skel s := by
  simp [setQueue]
@[simp] theorem pushQueue_skel (p : Nat) (v : Nat) (id : Nat) (s : State) : skel (pushQueue p v id s) = skel s := by
  simp [pushQueue]
@[simp] theorem dropFromQueue_skel (p : Nat) (v : Nat) (id : Nat) (s : State) :
    skel (dropFromQueue p v id s) = skel s := by
  simp [dropFromQueue]
@[simp] theorem releaseCredit_skel (p : Nat) (v : Nat) (n : Nat) (s : State) :
    skel (releaseCredit p v n s) = skel s := by
  simp [releaseCredit]
@[simp] theorem releaseAll_skel (id : Nat) (s : State) : skel (releaseAll id s) = skel s := by
  unfold releaseAll; (repeat' split) <;> simp
@[simp] theorem discardRest_skel (p : Nat) (v : Nat) (tail : Bool) (s : State) :
    skel (discardRest p v tail s) = skel s := by
  simp [discardRest]
@[simp] theorem dropPacket_skel (id : Nat) (tail : Bool) (s : State) : skel (dropPacket id tail s) = skel s := by
  unfold dropPacket; (repeat' split) <;> simp
@[simp] theorem cutPacketAt_skel (id n : Nat) (tail : Bool) (s : State) : skel (cutPacketAt id n tail s) = skel s := by
  unfold cutPacketAt; (repeat' split) <;> simp
@[simp] theorem cutPacket_skel (id : Nat) (tail : Bool) (s : State) : skel (cutPacket id tail s) = skel s := by
  unfold cutPacket; (repeat' split) <;> simp
@[simp] theorem endVoid_skel (id : Nat) (s : State) : skel (endVoid id s) = skel s := by simp [endVoid]
@[simp] theorem dropCopy_skel (id : Nat) (p : Nat) (v : Nat) (s : State) : skel (dropCopy id p v s) = skel s := by
  unfold dropCopy; (repeat' split) <;> simp
@[simp] theorem wredUpdate_skel (p v : Nat) (a : Int) (s : State) : skel (wredUpdate p v a s) = skel s := by
  rfl
@[simp] theorem discardCounted_skel (id : Nat) (ctr : Nat) (s : State) : skel (discardCounted id ctr s) = skel s := by
  simp [discardCounted]
@[simp] theorem noRoute_skel (dst : W16) (ingress : Option Nat) (s : State) :
    skel (noRoute dst ingress s) = skel s := by
  simp [noRoute]
@[simp] theorem updHold_skel (f : Flow) (g : Hold → Hold) (s : State) : skel (updHold f g s) = skel s := by
  simp [updHold]
@[simp] theorem freeHold_skel (f : Flow) (s : State) : skel (freeHold f s) = skel s := by simp [freeHold]
@[simp] theorem newHold_skel (f : Flow) (s : State) : skel (newHold f s) = skel s := by simp [newHold]
@[simp] theorem unholdPacket_skel (id : Nat) (fault : Bool) (s : State) : skel (unholdPacket id fault s) = skel s := by
  unfold unholdPacket; (repeat' split) <;> simp
@[simp] theorem releaseIfDue_skel (f : Flow) (s : State) : skel (releaseIfDue f s) = skel s := by
  unfold releaseIfDue; (repeat' split) <;> simp
@[simp] theorem countPut_skel (h : Header) (s : State) : skel (countPut h s) = skel s := by simp [countPut]
@[simp] theorem arriveLast_skel (id : Nat) (s : State) : skel (arriveLast id s) = skel s := by
  unfold arriveLast; simp only []; (repeat' split) <;> simp
@[simp] theorem noteDeferred_skel (p : Nat) (s : State) : skel (noteDeferred p s) = skel s := by simp [noteDeferred]
@[simp] theorem noteWithheld_skel (id : Nat) (s : State) : skel (noteWithheld id s) = skel s := by
  unfold noteWithheld; (repeat' split) <;> simp
@[simp] theorem deferralOver_skel (p : Nat) (s : State) : skel (deferralOver p s) = skel s := by
  simp [deferralOver]
@[simp] theorem placeInQueue_skel (id : Nat) (p : Nat) (v0 : Nat) (s : State) :
    skel (placeInQueue id p v0 s) = skel s := by
  unfold placeInQueue; (repeat' split) <;> simp
@[simp] theorem sendToPort_skel (id : Nat) (p : Nat) (v : Nat) (s : State) : skel (sendToPort id p v s) = skel s := by
  simp [sendToPort]
@[simp] theorem flushPort_skel (p : Nat) (uni multi : Nat → State → State) (s : State) (hu : ∀ n t, skel (uni n t) = skel t)
    (hm : ∀ n t, skel (multi n t) = skel t) : skel (flushPort p uni multi s).1 = skel s := by
  unfold flushPort; simp [hu, hm]
@[simp] theorem originate_skel (o : Originate) (s : State) : skel (originate o s) = skel s := by simp [originate]
@[simp] theorem answerStatus_skel (st : Stored) (status : W16) (s : State) :
    skel (answerStatus st status s) = skel s := by
  unfold answerStatus; (repeat' split) <;> simp
@[simp] theorem applyFinding_skel (id : Nat) (st : Stored) (s : State) : skel (applyFinding id st s) = skel s := by
  unfold applyFinding; (repeat' split) <;> simp
@[simp] theorem atWindow_skel (id : Nat) (mine : Header → Bool) (f : Stored → State → State) (s : State) (hf : ∀ a0 t, skel (f a0 t) = skel t) :
    skel (atWindow id mine f s) = skel s := by
  simp only [atWindow]; (repeat' split) <;> simp_all

/-! ### Replies -/

@[simp] theorem answerHead_skel (r : Reply) (s : State) : skel (answerHead r s) = skel s := by
  unfold answerHead; (repeat' split) <;> simp
@[simp] theorem settleInband_skel (n : Nat) (s : State) : skel (settleInband n s) = skel s := by
  induction n generalizing s with
  | zero => rfl
  | succ n ih => unfold settleInband; (repeat' split) <;> simp [ih]
@[simp] theorem finishInband_skel (r : Reply) (s : State) : skel (finishInband r s) = skel s := by simp [finishInband]
@[simp] theorem finishRing_skel (hp : HostPort) (n : Nat) (r : Reply) (s : State) :
    skel (finishRing hp n r s) = skel s := by
  unfold finishRing; (repeat' split) <;> simp
@[simp] theorem finish_skel (src : CmdSrc) (status : W16) (result : Bytes) (s : State) :
    skel (finish src status result s) = skel s := by
  unfold finish; (repeat' split) <;> simp
@[simp] theorem noteUndrained_skel (p : Nat) (flushed : Nat) (s : State) :
    skel (noteUndrained p flushed s) = skel s := by
  simp [noteUndrained]
@[simp] theorem finishWashes_skel (s : State) : skel (finishWashes s) = skel s := by simp [finishWashes]

/-! ### Ports -/

@[simp] theorem setPortState_skel (p : Nat) (st : PState) (cause : W16) (s : State) :
    skel (setPortState p st cause s) = skel s := by
  simp [setPortState]
@[simp] theorem sendSet_skel (p : Nat) (l : Nat) (typ : Byte) (content : Bytes) (s : State) :
    skel (sendSet p l typ content s) = skel s := by
  simp [sendSet]
@[simp] theorem sendPrimer_skel (p : Nat) (l : Nat) (s : State) : skel (sendPrimer p l s) = skel s := by
  simp [sendPrimer]
@[simp] theorem sendPrimers_skel (p : Nat) (starts : Bool) (s : State) : skel (sendPrimers p starts s) = skel s := by
  simp [sendPrimers]
@[simp] theorem sendFrame_skel (p : Nat) (lanes : BitVec 8) (b : Bytes) (s : State) :
    skel (sendFrame p lanes b s) = skel s := by
  simp [sendFrame]
@[simp] theorem sendPrbs_skel (p : Nat) (l : Nat) (s : State) : skel (sendPrbs p l s) = skel s := by simp [sendPrbs]
@[simp] theorem toListen_skel (p : Nat) (cause : W16) (s : State) : skel (toListen p cause s) = skel s := by
  simp [toListen]
@[simp] theorem failAttempt_skel (p : Nat) (cause : W16) (s : State) : skel (failAttempt p cause s) = skel s := by
  simp [failAttempt]
@[simp] theorem goCold_skel (p : Nat) (s : State) : skel (goCold p s) = skel s := by simp [goCold]
@[simp] theorem warmLost_skel (p : Nat) (cause : W16) (s : State) : skel (warmLost p cause s) = skel s := by
  unfold warmLost; simp only []; (repeat' split) <;> simp
@[simp] theorem expireGrace_skel (p : Nat) (s : State) : skel (expireGrace p s) = skel s := by simp [expireGrace]
@[simp] theorem startGrace_skel (p : Nat) (s : State) : skel (startGrace p s) = skel s := by simp [startGrace]
@[simp] theorem endGrace_skel (p : Nat) (s : State) : skel (endGrace p s) = skel s := by simp [endGrace]
@[simp] theorem disablePort_skel (p : Nat) (s : State) : skel (disablePort p s).1 = skel s := by simp [disablePort]
@[simp] theorem abandonWash_skel (p : Nat) (s : State) : skel (abandonWash p s) = skel s := by simp [abandonWash]
@[simp] theorem leaveRunning_skel (p : Nat) (s : State) : skel (leaveRunning p s) = skel s := by simp [leaveRunning]
@[simp] theorem settleGrace_skel (p : Nat) (s : State) : skel (settleGrace p s) = skel s := by simp [settleGrace]
@[simp] theorem sendAnnounce_skel (p : Nat) (count : Nat) (s : State) : skel (sendAnnounce p count s) = skel s := by
  simp [sendAnnounce]
@[simp] theorem enterRetest_skel (p : Nat) (cause : W16) (initiator : Bool) (start : Nat) (s : State) :
    skel (enterRetest p cause initiator start s) = skel s := by
  unfold enterRetest
  split
  · rfl
  · split
    · simp
    · rw [settleGrace_skel, sendAnnounce_skel, setPortState_skel, skel_updPort, leaveRunning_skel]
@[simp] theorem retest_skel (p : Nat) (cause : W16) (s : State) : skel (retest p cause s) = skel s := by simp [retest]
@[simp] theorem toMiswired_skel (p : Nat) (cause : W16) (s : State) : skel (toMiswired p cause s) = skel s := by
  simp [toMiswired]
@[simp] theorem toUnused_skel (p : Nat) (s : State) : skel (toUnused p s) = skel s := by simp [toUnused]
@[simp] theorem judgeVerdict_skel (p : Nat) (s : State) : skel (judgeVerdict p s) = skel s := by simp [judgeVerdict]
@[simp] theorem enterRunning_skel (p : Nat) (s : State) : skel (enterRunning p s) = skel s := by simp [enterRunning]
@[simp] theorem coldRetrain_skel (p : Nat) (cause : W16) (s : State) : skel (coldRetrain p cause s) = skel s := by
  simp [coldRetrain]
@[simp] theorem startStream_skel (p : Nat) (s : State) : skel (startStream p s) = skel s := by simp [startStream]
@[simp] theorem failPhase_skel (p : Nat) (cause : W16) (s : State) : skel (failPhase p cause s) = skel s := by
  unfold failPhase; (repeat' split) <;> simp

/-! ### Optics -/

@[simp] theorem updLaser_skel (i : Nat) (f : LaserInput → LaserInput) (s : State) : skel (updLaser i f s) = skel s := by
  simp [updLaser, skel]
@[simp] theorem laserEdge_skel (code : Nat) (input : Nat) (data : Bytes) (was : Bool) (isNow : Bool) (s : State) :
    skel (laserEdge code input data was isNow s) = skel s := by
  simp [laserEdge]
@[simp] theorem laserSample_skel (input : Nat) (a : Int) (b : Int) (s : State) :
    skel (laserSample input a b s) = skel s := by
  simp [laserSample]
@[simp] theorem releaseAttenuator_skel (input : Nat) (s : State) : skel (releaseAttenuator input s) = skel s := by
  simp [releaseAttenuator]
@[simp] theorem notePin_skel (p : Nat) (l : Nat) (n : Nat) (atLo : Bool) (atHi : Bool) (s : State) :
    skel (notePin p l n atLo atHi s) = skel s := by
  simp [notePin]
@[simp] theorem modulatorMove_skel (p : Nat) (l : Nat) (aim : Int) (s : State) :
    skel (modulatorMove p l aim s) = skel s := by
  simp [modulatorMove]
@[simp] theorem dropMove_skel (p : Nat) (l : Nat) (aim : Int) (s : State) : skel (dropMove p l aim s) = skel s := by
  simp [dropMove]
@[simp] theorem lockLoss_skel (p : Nat) (run : MonitorRun) (s : State) : skel (lockLoss p run s) = skel s := by
  simp [lockLoss]
@[simp] theorem adapt_skel (p : Nat) (l : Nat) (b : BlockStats) (s : State) : skel (adapt p l b s) = skel s := by
  simp [adapt]
@[simp] theorem blockEnd_skel (p : Nat) (l : Nat) (b : BlockStats) (s : State) : skel (blockEnd p l b s) = skel s := by
  simp [blockEnd]
@[simp] theorem alignmentLost_skel (p : Nat) (s : State) : skel (alignmentLost p s) = skel s := by
  unfold alignmentLost; simp only []; (repeat' split) <;> simp
@[simp] theorem laneSignal_skel (p : Nat) (l : Nat) (detector : Nat) (ended : Bool) (s : State) :
    skel (laneSignal p l detector ended s) = skel s := by
  simp [laneSignal]
@[simp] theorem detectorAsserts_skel (p : Nat) (l : Nat) (detector : Nat) (s : State) :
    skel (detectorAsserts p l detector s) = skel s := by
  unfold detectorAsserts; simp only []; (repeat' split) <;> simp
@[simp] theorem losAssert_skel (p : Nat) (l : Nat) (s : State) : skel (losAssert p l s) = skel s := by simp [losAssert]
@[simp] theorem lolAssert_skel (p : Nat) (l : Nat) (s : State) : skel (lolAssert p l s) = skel s := by simp [lolAssert]
@[simp] theorem losDeassert_skel (p : Nat) (l : Nat) (s : State) : skel (losDeassert p l s) = skel s := by
  simp [losDeassert]
@[simp] theorem startProbe_skel (p : Nat) (s : State) : skel (startProbe p s) = skel s := by simp [startProbe]
@[simp] theorem lolDeassert_skel (p : Nat) (l : Nat) (s : State) : skel (lolDeassert p l s) = skel s := by
  simp [lolDeassert]
@[simp] theorem judgeFom_skel (p : Nat) (idle : Bool) (s : State) : skel (judgeFom p idle s) = skel s := by
  simp [judgeFom]
@[simp] theorem storeFoms_skel (p : Nat) (stats : List FomStats) (s : State) : skel (storeFoms p stats s) = skel s := by
  simp [storeFoms]
@[simp] theorem fomWindow_skel (p : Nat) (stats : List FomStats) (s : State) : skel (fomWindow p stats s) = skel s := by
  simp [fomWindow]

/-! ### BringUp -/

@[simp] theorem toPrimer_skel (p : Nat) (s : State) : skel (toPrimer p s) = skel s := by simp [toPrimer]
@[simp] theorem laneAligned_skel (p : Nat) (s : State) : skel (laneAligned p s) = skel s := by simp [laneAligned]
@[simp] theorem sendNext_skel (p : Nat) (l : Nat) (s : State) : skel (sendNext p l s) = skel s := by
  unfold sendNext; simp only []; (repeat' split) <;> simp
@[simp] theorem primerSet_skel (p : Nat) (l : Nat) (x : PrimerSet) (typ : Byte) (f : Bytes → State → State) (s : State) (hf : ∀ a0 t, skel (f a0 t) = skel t) :
    skel (primerSet p l x typ f s) = skel s := by
  simp only [primerSet]; (repeat' split) <;> simp_all
@[simp] theorem tryReady_skel (p : Nat) (s : State) : skel (tryReady p s) = skel s := by simp [tryReady]
@[simp] theorem miswire_skel (p : Nat) (cause : W16) (s : State) : skel (miswire p cause s) = skel s := by
  unfold miswire; split <;> simp
@[simp] theorem judgeIdent_skel (p : Nat) (c : Bytes) (s : State) : skel (judgeIdent p c s) = skel s := by
  unfold judgeIdent; simp only []; (repeat' split) <;> simp
@[simp] theorem takeIdent_skel (p : Nat) (l : Nat) (c : Bytes) (s : State) : skel (takeIdent p l c s) = skel s := by
  simp [takeIdent]
@[simp] theorem takeTime_skel (p : Nat) (c : Bytes) (arrival : Nat) (s : State) :
    skel (takeTime p c arrival s) = skel s := by
  simp [takeTime]
@[simp] theorem sendStep_skel (p count : Nat) (s : State) : skel (sendStep p count s) = skel s := by
  exact skel_forEach _ _ _ (by intros; simp)
@[simp] theorem takeStep_skel (p : Nat) (c : Bytes) (s : State) : skel (takeStep p c s) = skel s := by simp [takeStep]
@[simp] theorem enterStep_skel (p : Nat) (s : State) : skel (enterStep p s) = skel s := by simp [enterStep]
@[simp] theorem doRateStep_skel (p : Nat) (s : State) : skel (doRateStep p s) = skel s := by simp [doRateStep]
@[simp] theorem setPhase_skel (p : Nat) (ph : Phase) (s : State) : skel (setPhase p ph s) = skel s := by simp [setPhase]
@[simp] theorem endAcquisition_skel (p : Nat) (s : State) : skel (endAcquisition p s) = skel s := by
  simp [endAcquisition]
@[simp] theorem tryFinal_skel (p : Nat) (s : State) : skel (tryFinal p s) = skel s := by simp [tryFinal]
@[simp] theorem endSelftest_skel (p : Nat) (s : State) : skel (endSelftest p s) = skel s := by simp [endSelftest]
@[simp] theorem judgeLane_skel (p : Nat) (l : Nat) (c : Option LaneCheck) (s : State) :
    skel (judgeLane p l c s) = skel s := by
  simp [judgeLane]
@[simp] theorem takeReport_skel (p : Nat) (l : Nat) (f : Bytes) (check : List LaneCheck) (s : State) :
    skel (takeReport p l f check s) = skel s := by
  simp [takeReport]
@[simp] theorem noteWidth_skel (p : Nat) (old : BitVec 8) (new : BitVec 8) (s : State) :
    skel (noteWidth p old new s) = skel s := by
  simp [noteWidth]
@[simp] theorem endReport_skel (p : Nat) (s : State) : skel (endReport p s) = skel s := by
  unfold endReport; simp only []; (repeat' split) <;> simp
@[simp] theorem reportTimesOut_skel (p : Nat) (s : State) : skel (reportTimesOut p s) = skel s := by
  simp [reportTimesOut]
@[simp] theorem streamFramed_skel (p : Nat) (skews : List Int) (s : State) :
    skel (streamFramed p skews s) = skel s := by
  simp [streamFramed]
@[simp] theorem resumeTimesOut_skel (p : Nat) (s : State) : skel (resumeTimesOut p s) = skel s := by
  simp [resumeTimesOut]
@[simp] theorem takeAnnounce_skel (p : Nat) (f : Bytes) (s : State) : skel (takeAnnounce p f s) = skel s := by
  simp [takeAnnounce]
@[simp] theorem startRetestSelftest_skel (p : Nat) (s : State) : skel (startRetestSelftest p s) = skel s := by
  simp [startRetestSelftest]
@[simp] theorem takeCrossed_skel (p : Nat) (pairs : BitVec 4) (s : State) : skel (takeCrossed p pairs s) = skel s := by
  simp [takeCrossed]
@[simp] theorem startMiswiredProbe_skel (p : Nat) (s : State) : skel (startMiswiredProbe p s) = skel s := by
  simp [startMiswiredProbe]
@[simp] theorem doProbeStart_skel (p : Nat) (s : State) : skel (doProbeStart p s) = skel s := by simp [doProbeStart]
@[simp] theorem doProbeExpire_skel (p : Nat) (s : State) : skel (doProbeExpire p s) = skel s := by simp [doProbeExpire]
@[simp] theorem doAttemptExpire_skel (p : Nat) (s : State) : skel (doAttemptExpire p s) = skel s := by
  simp [doAttemptExpire]
@[simp] theorem doGraceExpire_skel (p : Nat) (s : State) : skel (doGraceExpire p s) = skel s := by simp [doGraceExpire]
@[simp] theorem endQuiesce_skel (p : Nat) (s : State) : skel (endQuiesce p s) = skel s := by simp [endQuiesce]
@[simp] theorem calibratePort_skel (cal : EngineCal) (p : Nat) (s : State) : skel (calibratePort cal p s) = skel s := by
  simp [calibratePort]
@[simp] theorem engineCalibrated_skel (e : Nat) (cal : EngineCal) (s : State) :
    skel (engineCalibrated e cal s) = skel s := by
  simp [engineCalibrated]

/-! ### TickCore -/

@[simp] theorem startTracking_skel (k : Marker) (s : State) : skel (startTracking k s) = skel s := by
  simp [startTracking]
@[simp] theorem stepTick_skel (k : Marker) (n0 : W32) (s : State) : skel (stepTick k n0 s) = skel s := by
  simp [stepTick]
@[simp] theorem trimTick_skel (k : Marker) (e : Rat) (s : State) : skel (trimTick k e s) = skel s := by simp [trimTick]
@[simp] theorem useMarker_skel (p : Nat) (k : Marker) (s : State) : skel (useMarker p k s) = skel s := by
  simp [useMarker]
@[simp] theorem tickMarker_skel (p : Nat) (content : Bytes) (inBlock : Bool) (arrival : Nat) (s : State) :
    skel (tickMarker p content inBlock arrival s) = skel s := by
  unfold tickMarker
  split
  · simp
  · simp only [skel_ite]; split <;> simp
@[simp] theorem raiseOverruns_skel (s : State) : skel (raiseOverruns s) = skel s := by
  unfold raiseOverruns; (repeat' split) <;> simp
@[simp] theorem noteOverrun_skel (tick : W32) (plan : Nat) (kind : Nat) (entry : Nat) (object : Nat) (more : Nat) (s : State) :
    skel (noteOverrun tick plan kind entry object more s) = skel s := by
  simp [noteOverrun]
@[simp] theorem judgeEgress_skel (n : W32) (w : Option (Nat × Nat)) (s : State) :
    skel (judgeEgress n w s) = skel s := by
  simp only [judgeEgress]; (repeat' split) <;> simp_all

/-! ### Errors -/

@[simp] theorem queueTest_skel (r : TestRes) (s : State) : skel (queueTest r s) = skel s := by simp [queueTest]
@[simp] theorem markWord_skel (w : Nat) (s : State) : skel (markWord w s) = skel s := by simp [markWord]
@[simp] theorem rewriteWords_skel (a : Nat) (n : Nat) (s : State) : skel (rewriteWords a n s) = skel s := by
  simp [rewriteWords]
@[simp] theorem memEvent_skel (mem : Nat) (kind : Nat) (s : State) : skel (memEvent mem kind s) = skel s := by
  simp [memEvent]
@[simp] theorem memError_skel (mem : Nat) (kind : Nat) (row : TestRes) (resource : Nat) (address : Nat) (detail : Bytes) (s : State) :
    skel (memError mem kind row resource address detail s) = skel s := by
  unfold memError; (repeat' split) <;> simp
@[simp] theorem pathError_skel (mem : Nat) (unc : Bool) (resource : Nat) (address : Nat) (detail : Bytes) (s : State) :
    skel (pathError mem unc resource address detail s) = skel s := by
  simp [pathError]
@[simp] theorem sramRead_skel (mem : Nat) (e : WordError) (s : State) : skel (sramRead mem e s) = skel s := by
  unfold sramRead; simp only []; (repeat' split) <;> simp
@[simp] theorem markSite_skel (x : ScrubSite) (s : State) : skel (markSite x s) = skel s := by
  simp [markSite]
@[simp] theorem readCell_skel (id n : Nat) (e : WordError) (s : State) : skel (readCell id n e s) = skel s := by
  simp [readCell]
@[simp] theorem readHeader_skel (id : Nat) (cell copy : WordError) (s : State) : skel (readHeader id cell copy s) = skel s := by
  simp [readHeader]
@[simp] theorem hbmRead_skel (mem : Nat) (stack : Nat) (row : Nat) (word : Nat) (e : WordError) (s : State) :
    skel (hbmRead mem stack row word e s) = skel s := by
  simp [hbmRead]
@[simp] theorem storeRead_skel (a : Nat) (e : WordError) (s : State) : skel (storeRead a e s) = skel s := by
  simp [storeRead]
@[simp] theorem parityError_skel (n : Nat) (s : State) : skel (parityError n s) = skel s := by simp [parityError]

/-! ### Link -/

@[simp] theorem badPayload_skel (id n : Nat) (s : State) : skel (badPayload id n s) = skel s := by
  unfold badPayload; split
  · simp
  · simp only []
    rw [skel_when _ _ _ (by split <;> simp), skel_when _ _ _ (by simp)]
@[simp] theorem copyLeft_skel (id : Nat) (p : Nat) (v : Nat) (st : Stored) (good : Bool) (s : State) :
    skel (copyLeft id p v st good s) = skel s := by
  unfold copyLeft; (repeat' split) <;> simp
@[simp] theorem freeCell_skel (id : Nat) (s : State) : skel (freeCell id s) = skel s := by
  unfold freeCell; (repeat' split) <;> simp
@[simp] theorem useCredit_skel (p : Nat) (v : Nat) (s : State) : skel (useCredit p v s) = skel s := by simp [useCredit]
@[simp] theorem headerGone_skel (id : Nat) (s : State) : skel (headerGone id s) = skel s := by
  unfold headerGone; (repeat' split) <;> simp
@[simp] theorem readNext_skel (reads : List (Nat × CellRead)) (id : Nat) (c : Copy) (s : State) :
    skel (readNext reads id c s) = skel s := by
  unfold readNext; simp only []; split <;> simp
@[simp] theorem readAhead_skel (reads : List (Nat × CellRead)) (p v : Nat) (s : State) :
    skel (readAhead reads p v s) = skel s := by
  unfold readAhead; (repeat' split) <;> simp
@[simp] theorem takeFlit_skel (reads : List (Nat × CellRead)) (p : Nat) (v : Nat) (s : State) :
    skel (takeFlit reads p v s).1 = skel s := by
  unfold takeFlit; simp only []; (repeat' split) <;> simp
@[simp] theorem entryStored_skel (p : Nat) (st : Stream) (n : W16) (s : State) :
    skel (entryStored p st n s) = skel s := by
  simp [entryStored]
@[simp] theorem newControl_skel (p : Nat) (c : CFlit) (s : State) : skel (newControl p c s).1 = skel s := by
  simp [newControl]
@[simp] theorem takeControl_skel (reads : List (Nat × CellRead)) (p : Nat) (s : State) :
    skel (takeControl reads p s).1 = skel s := by
  unfold takeControl; simp only []; (repeat' split) <;> simp
@[simp] theorem takeControls_skel (reads : List (Nat × CellRead)) (p n : Nat) (s : State) :
    skel (takeControls reads p n s).1 = skel s := by
  induction n generalizing s with
  | zero => rfl
  | succ n ih =>
    have h := takeControl_skel reads p s
    unfold takeControls
    split <;> rename_i e <;> simp_all
@[simp] theorem fillFlit_skel (reads : List (Nat × CellRead)) (p : Nat) (s : State) :
    skel (fillFlit reads p s).1 = skel s := by
  unfold fillFlit; simp only []; (repeat' split) <;> simp
@[simp] theorem fillFlits_skel (reads : List (Nat × CellRead)) (p n : Nat) (s : State) :
    skel (fillFlits reads p n s).1 = skel s := by
  induction n generalizing s with
  | zero => rfl
  | succ n ih => simp [fillFlits, ih]
@[simp] theorem sendMarkers_skel (p : Nat) (s : State) : skel (sendMarkers p s) = skel s := by
  simp only [sendMarkers]
  split
  · rfl
  · rw [skel_updLink, skel_forEach _ _ _ (by intros; rfl)]
@[simp] theorem returnItem_skel (p : Nat) (s : State) : skel (returnItem p s).1 = skel s := by
  unfold returnItem; simp only []; (repeat' split) <;> simp
@[simp] theorem slotSent_skel (p : Nat) (scr : BitVec 31) (symbols : List Sym) (s : State) :
    skel (slotSent p scr symbols s) = skel s := by
  simp [slotSent]
@[simp] theorem sendDBlock_skel (p : Nat) (bseq : W16) (replay : Bool) (flits : List Flit) (s : State) :
    skel (sendDBlock p bseq replay flits s) = skel s := by
  simp [sendDBlock]
@[simp] theorem sendD_skel (reads : List (Nat × CellRead)) (p : Nat) (s : State) :
    skel (sendD reads p s) = skel s := by
  unfold sendD; simp only []; (repeat' split) <;> simp
@[simp] theorem sendC_skel (reads : List (Nat × CellRead)) (p : Nat) (s : State) :
    skel (sendC reads p s) = skel s := by
  unfold sendC; simp only []; (repeat' split) <;> simp
@[simp] theorem noteReplayed_skel (p : Nat) (s : State) : skel (noteReplayed p s) = skel s := by simp [noteReplayed]
@[simp] theorem slotBoundary_skel (p : Nat) (reads : List (Nat × CellRead)) (replay : WordError) (s : State) :
    skel (slotBoundary p reads replay s) = skel s := by
  simp [slotBoundary]
@[simp] theorem takeAckB_skel (p : Nat) (v : W16) (s : State) : skel (takeAckB p v s) = skel s := by simp [takeAckB]
@[simp] theorem takeAckC_skel (p : Nat) (v : W16) (s : State) : skel (takeAckC p v s) = skel s := by simp [takeAckC]
@[simp] theorem takeNakB_skel (p : Nat) (v : W16) (s : State) : skel (takeNakB p v s) = skel s := by simp [takeNakB]
@[simp] theorem takeNakC_skel (p : Nat) (v : W16) (s : State) : skel (takeNakC p v s) = skel s := by simp [takeNakC]
@[simp] theorem takeCredit_skel (p : Nat) (v : Nat) (c : W16) (s : State) : skel (takeCredit p v c s) = skel s := by
  simp [takeCredit]
@[simp] theorem takeCarriage_skel (p : Nat) (pcReq : Bool) (pcOn : Bool) (s : State) :
    skel (takeCarriage p pcReq pcOn s) = skel s := by
  simp [takeCarriage]
@[simp] theorem requestB_skel (p : Nat) (s : State) : skel (requestB p s) = skel s := by simp [requestB]
@[simp] theorem requestC_skel (p : Nat) (s : State) : skel (requestC p s) = skel s := by simp [requestC]
@[simp] theorem noteErrored_skel (p : Nat) (s : State) : skel (noteErrored p s) = skel s := by simp [noteErrored]
@[simp] theorem releaseLost_skel (p : Nat) (v : Nat) (s : State) : skel (releaseLost p v s) = skel s := by
  simp [releaseLost]
@[simp] theorem storeHead_skel (p : Nat) (v : Nat) (b : Bytes) (eop : Bool) (void : Bool) (s : State) :
    skel (storeHead p v b eop void s) = skel s := by
  simp [storeHead]
@[simp] theorem checkTrailer_skel (id : Nat) (s : State) : skel (checkTrailer id s) = skel s := by
  unfold checkTrailer; (repeat' split) <;> simp
@[simp] theorem storeCell_skel (p : Nat) (v : Nat) (id : Nat) (b : Bytes) (eop : Bool) (void : Bool) (s : State) :
    skel (storeCell p v id b eop void s) = skel s := by
  simp [storeCell]
@[simp] theorem packetFlit_skel (p : Nat) (f : Flit) (s : State) : skel (packetFlit p f s) = skel s := by
  unfold packetFlit; simp only []; (repeat' split) <;> simp
@[simp] theorem packetControl_skel (p : Nat) (c : CFlit) (s : State) : skel (packetControl p c s) = skel s := by
  simp [packetControl]
@[simp] theorem takeCredits_skel (p : Nat) (b : Bytes) (s : State) : skel (takeCredits p b s) = skel s := by
  simp [takeCredits]
@[simp] theorem takeRefresh_skel (p : Nat) (b : Bytes) (s : State) : skel (takeRefresh p b s) = skel s := by
  simp [takeRefresh]
@[simp] theorem reservedControl_skel (p : Nat) (s : State) : skel (reservedControl p s) = skel s := by
  simp [reservedControl]
@[simp] theorem actControl_skel (p : Nat) (inBlock : Bool) (arrival : Nat) (c : CFlit) (s : State) :
    skel (actControl p inBlock arrival c s) = skel s := by
  simp [actControl]
@[simp] theorem controlFlit_skel (p : Nat) (inBlock : Bool) (arrival : Nat) (b : Bytes) (s : State) :
    skel (controlFlit p inBlock arrival b s).1 = skel s := by
  unfold controlFlit; simp only []; (repeat' split) <;> simp
@[simp] theorem controlFlits_skel (p : Nat) (b : Bool) (n : Nat) (l : List Bytes) (s : State) : skel (controlFlits p b n l s).1 = skel s := by
  induction l generalizing s with
  | nil => rfl
  | cons c l ih => simp [controlFlits, ih]
@[simp] theorem countCorrected_skel (p : Nat) (start : Nat) (positions : List Nat) (s : State) :
    skel (countCorrected p start positions s) = skel s := by
  simp [countCorrected]
@[simp] theorem takeReturn_skel (p : Nat) (kind : BitVec 4) (v : W16) (s : State) :
    skel (takeReturn p kind v s) = skel s := by
  simp [takeReturn]
@[simp] theorem acceptFlits_skel (p n : Nat) (l : List Flit) (s : State) : skel (acceptFlits p n l s).1 = skel s := by
  induction l generalizing s with
  | nil => rfl
  | cons f l ih => simp only [acceptFlits, ih]; (repeat' split) <;> simp
@[simp] theorem noteBusy_skel (p : Nat) (s : State) : skel (noteBusy p s) = skel s := by simp [noteBusy]
@[simp] theorem discardBlock_skel (p : Nat) (s : State) : skel (discardBlock p s) = skel s := by simp [discardBlock]
@[simp] theorem observeIdle_skel (p : Nat) (start : Nat) (raw : List Sym) (b : Bytes) (s : State) :
    skel (observeIdle p start raw b s) = skel s := by
  unfold observeIdle; (repeat' split) <;> simp
@[simp] theorem receiveD_skel (p : Nat) (arrival : Nat) (b : Bytes) (s : State) :
    skel (receiveD p arrival b s) = skel s := by
  unfold receiveD; (repeat' split) <;> simp
@[simp] theorem takeCHeader_skel (p : Nat) (h : CHeader) (s : State) : skel (takeCHeader p h s) = skel s := by
  simp [takeCHeader]
@[simp] theorem receiveC_skel (p : Nat) (arrival : Nat) (b : Bytes) (s : State) :
    skel (receiveC p arrival b s) = skel s := by
  unfold receiveC; (repeat' split) <;> simp
@[simp] theorem slotReceived_skel (p : Nat) (l : List Sym) (arrival : Nat) (s : State) :
    skel (slotReceived p l arrival s) = skel s := by
  unfold slotReceived; simp only []; (repeat' split) <;> simp
@[simp] theorem markerArrives_skel (p : Nat) (l : Nat) (symbols : List Sym) (offset : Int) (s : State) :
    skel (markerArrives p l symbols offset s) = skel s := by
  simp [markerArrives]
@[simp] theorem thirdTimeout_skel (p : Nat) (n : Nat) (s : State) : skel (thirdTimeout p n s) = skel s := by
  simp [thirdTimeout]
@[simp] theorem ackTimesOut_skel (p : Nat) (st : Stream) (s : State) : skel (ackTimesOut p st s) = skel s := by
  unfold ackTimesOut; (repeat' split) <;> simp
@[simp] theorem repeatRequest_skel (p : Nat) (st : Stream) (s : State) : skel (repeatRequest p st s) = skel s := by
  unfold repeatRequest; (repeat' split) <;> simp

/-! ### Switch -/

@[simp] theorem routePacket_skel (id : Nat) (r : Nat) (s : State) : skel (routePacket id r s) = skel s := by
  unfold routePacket; (repeat' split) <;> simp
@[simp] theorem takeLookup_skel (p : Nat) (id : Nat) (cell : WordError) (copy : WordError) (s : State) :
    skel (takeLookup p id cell copy s) = skel s := by
  unfold takeLookup; simp only []; (repeat' split) <;> simp
@[simp] theorem lookup_skel (p : Nat) (cell : WordError) (copy : WordError) (s : State) :
    skel (lookup p cell copy s) = skel s := by
  unfold lookup; (repeat' split) <;> simp
@[simp] theorem lookupInTurn_skel (p : Nat) (cell : WordError) (copy : WordError) (s : State) :
    skel (lookupInTurn p cell copy s) = skel s := by
  simp [lookupInTurn]
@[simp] theorem doCreditRelease_skel (id : Nat) (s : State) : skel (doCreditRelease id s) = skel s := by
  unfold doCreditRelease; (repeat' split) <;> simp
@[simp] theorem escapeMove_skel (id : Nat) (p : Nat) (v : Nat) (ctr : Nat) (s : State) :
    skel (escapeMove id p v ctr s) = skel s := by
  unfold escapeMove; (repeat' split) <;> simp
@[simp] theorem escapeExpire_skel (id : Nat) (s : State) : skel (escapeExpire id s) = skel s := by
  unfold escapeExpire; (repeat' split) <;> simp
@[simp] theorem sampleDepths_skel (s : State) : skel (sampleDepths s) = skel s := by
  simp [sampleDepths, skel]
@[simp] theorem moveWeight_skel (p : Nat) (d : Int) (s : State) : skel (moveWeight p d s) = skel s := by
  simp [moveWeight]
@[simp] theorem updateRole_skel (role : Nat) (s : State) : skel (updateRole role s) = skel s := by simp [updateRole]
@[simp] theorem updateWeights_skel (s : State) : skel (updateWeights s) = skel s := by
  rw [show skel s = skel (updateRole 3 (updateRole 2 s)) by simp]
  simp [updateWeights, skel]
@[simp] theorem holdTimesOut_skel (f : Flow) (s : State) : skel (holdTimesOut f s) = skel s := by
  unfold holdTimesOut; (repeat' split) <;> simp
@[simp] theorem owedEnds_skel (f : Flow) (s : State) : skel (owedEnds f s) = skel s := by
  unfold owedEnds; (repeat' split) <;> simp
@[simp] theorem holdIdles_skel (f : Flow) (s : State) : skel (holdIdles f s) = skel s := by
  unfold holdIdles; (repeat' split) <;> simp
@[simp] theorem stallVoids_skel (p : Nat) (v : Nat) (s : State) : skel (stallVoids p v s) = skel s := by
  unfold stallVoids; (repeat' split) <;> simp
@[simp] theorem addStored_skel (st : Stored) (s : State) : skel (addStored st s) = skel s := by simp [addStored]
@[simp] theorem createMulticast_skel (o : Originate) (s : State) : skel (createMulticast o s) = skel s := by
  simp [createMulticast]
@[simp] theorem createPacket_skel (o : Originate) (s : State) : skel (createPacket o s) = skel s := by
  unfold createPacket; (repeat' split) <;> simp

/-! ### CanvasCore -/

@[simp] theorem updSlot_skel (k : SlotKey) (f : Slot → Slot) (s : State) : skel (updSlot k f s) = skel s := by
  simp [updSlot]
@[simp] theorem canvasDiscard_skel (s : State) : skel (canvasDiscard s) = skel s := by simp [canvasDiscard]
@[simp] theorem blockFreed_skel (s : State) : skel (blockFreed s) = skel s := by
  refine skel_updCanvas _ _ ?_
  have h : ∀ n c, (placeConstants n c).constants = c.constants := by
    intro n
    induction n with
    | zero => intro c; rfl
    | succ n ih => intro c; unfold placeConstants; split <;> simp [ih]
  exact h 1 _
@[simp] theorem freePiece_skel (b : Nat) (s : State) : skel (freePiece b s) = skel s := by
  unfold freePiece; (repeat' split) <;> simp
@[simp] theorem freePlace_skel (x : Part) (s : State) : skel (freePlace x s) = skel s := by
  unfold freePlace; (repeat' split) <;> simp
@[simp] theorem freeParked_skel (k : SlotKey) (s : State) : skel (freeParked k s) = skel s := by
  unfold freeParked; (repeat' split) <;> simp
@[simp] theorem slotFree_skel (k : SlotKey) (s : State) : skel (slotFree k s) = skel s := by
  unfold slotFree; (repeat' split) <;> simp
@[simp] theorem slotWritten_skel (k : SlotKey) (s : State) : skel (slotWritten k s) = skel s := by
  unfold slotWritten; (repeat' split) <;> simp
@[simp] theorem paletteFlags_skel (f : AFlags) (s : State) : skel (paletteFlags f s) = skel s := by simp [paletteFlags]
@[simp] theorem sendMembers_skel (h : Header) (payload : Bytes) (slot : Option SlotKey) (l : List W64) (s : State) :
    skel (sendMembers h payload slot l s) = skel s := by
  simp [sendMembers]
@[simp] theorem sendParent_skel (h : Header) (payload : Bytes) (m : W64) (s : State) :
    skel (sendParent h payload m s) = skel s := by
  simp [sendParent]
@[simp] theorem sendDown_skel (s0 : State) (g : Group) (k : SlotKey) (first : Nat) (n : Nat) (w : W32) (payload : Bytes) (l : List W64) (s : State) :
    skel (sendDown s0 g k first n w payload l s) = skel s := by
  simp [sendDown]
@[simp] theorem countEnd_skel (k : SlotKey) (st : W16) (s : State) : skel (countEnd k st s) = skel s := by
  unfold countEnd; (repeat' split) <;> simp
@[simp] theorem endSlot_skel (k : SlotKey) (expired : Bool) (s : State) : skel (endSlot k expired s) = skel s := by
  unfold endSlot; simp only []; (repeat' split) <;> simp
@[simp] theorem failSlot_skel (k : SlotKey) (f : Slot → Slot) (s : State) : skel (failSlot k f s) = skel s := by
  simp [failSlot]
@[simp] theorem endIfAllArrived_skel (k : SlotKey) (s : State) : skel (endIfAllArrived k s) = skel s := by
  unfold endIfAllArrived; (repeat' split) <;> simp
@[simp] theorem sendResults_skel (g : Group) (d : Desc) (k : SlotKey) (out : List Nat) (f : AFlags) (s : State) :
    skel (sendResults g d k out f s) = skel s := by
  simp [sendResults]
@[simp] theorem sendPartial_skel (g : Group) (d : Desc) (k : SlotKey) (x : Slot) (m : W64) (s : State) :
    skel (sendPartial g d k x m s) = skel s := by
  simp [sendPartial]
@[simp] theorem completeSlot_skel (k : SlotKey) (s : State) : skel (completeSlot k s) = skel s := by
  unfold completeSlot; simp only []; (repeat' split) <;> simp
@[simp] theorem foldPart_skel (d : Desc) (k : SlotKey) (p : Part) (s : State) : skel (foldPart d k p s) = skel s := by
  unfold foldPart; (repeat' split) <;> simp
@[simp] theorem foldParked_skel (d : Desc) (k : SlotKey) (n : Nat) (word : WordError) (s : State) :
    skel (foldParked d k n word s) = skel s := by
  induction n generalizing s word with
  | zero => rfl
  | succ n ih => unfold foldParked; simp only []; (repeat' split) <;> simp [ih]
@[simp] theorem deferPacket_skel (id : Nat) (why : Nat) (ctr : Nat) (s : State) :
    skel (deferPacket id why ctr s) = skel s := by
  unfold deferPacket; (repeat' split) <;> simp
theorem skel_takePiece {sched : Bool} {s t : State} {b : Nat} (h : takePiece sched s = some (b, t)) : skel t = skel s := by
  unfold takePiece at h
  (repeat' split at h) <;> simp at h <;> obtain ⟨-, rfl⟩ := h <;> simp
@[simp] theorem parkPart_skel (g : Group) (k : SlotKey) (id : Nat) (p : Part) (s : State) : skel (parkPart g k id p s) = skel s := by
  simp only [parkPart]
  split
  · rename_i h; simp [skel_takePiece h]
  · split
    · rename_i h
      split at h
      · simp [skel_takePiece h]
      · cases h
    · split
      · rfl
      · split <;> simp
@[simp] theorem noteCanvas_skel (ecc : CanvasEcc) (s : State) : skel (noteCanvas ecc s) = skel s := by
  unfold noteCanvas; (repeat' split) <;> simp
@[simp] theorem partOpen_skel (g : Group) (k : SlotKey) (id : Nat) (pos : Nat) (child : Bool) (ecc : CanvasEcc) (st : Stored) (s : State) :
    skel (partOpen g k id pos child ecc st s) = skel s := by
  unfold partOpen; simp only []; (repeat' split) <;> simp
@[simp] theorem partFailed_skel (k : SlotKey) (id : Nat) (pos : Nat) (st : Stored) (s0 : State) :
    skel (partFailed k id pos st s0) = skel s0 := by
  simp [partFailed]
@[simp] theorem partInSlot_skel (g : Group) (k : SlotKey) (id : Nat) (pos : Nat) (child : Bool) (ecc : CanvasEcc) (st : Stored) (s : State) :
    skel (partInSlot g k id pos child ecc st s) = skel s := by
  unfold partInSlot; (repeat' split) <;> simp
@[simp] theorem statusInSlot_skel (k : SlotKey) (pos : Nat) (status : W16) (s : State) :
    skel (statusInSlot k pos status s) = skel s := by
  unfold statusInSlot; (repeat' split) <;> simp
@[simp] theorem countOpening_skel (g : Nat) (s : State) : skel (countOpening g s).1 = skel s := by
  unfold countOpening; simp only []; (repeat' split) <;> simp
@[simp] theorem openSlot_skel (g : Group) (k : SlotKey) (pool : Bool) (digest : Option W32) (s : State) :
    skel (openSlot g k pool digest s) = skel s := by
  unfold openSlot; (repeat' split) <;> simp
@[simp] theorem answerBusy_skel (st : Stored) (expiry : Nat) (s : State) : skel (answerBusy st expiry s) = skel s := by
  simp [answerBusy]
@[simp] theorem refuseOpening_skel (g : Group) (k : SlotKey) (id : Nat) (st : Stored) (s : State) :
    skel (refuseOpening g k id st s) = skel s := by
  simp [refuseOpening]
@[simp] theorem openByPart_skel (g : Group) (k : SlotKey) (id : Nat) (pos : Nat) (child : Bool) (ecc : CanvasEcc) (st : Stored) (s : State) :
    skel (openByPart g k id pos child ecc st s) = skel s := by
  unfold openByPart; simp only []; (repeat' split) <;> simp
@[simp] theorem openByStatus_skel (g : Group) (k : SlotKey) (id : Nat) (pos : Nat) (status : W16) (s : State) :
    skel (openByStatus g k id pos status s) = skel s := by
  unfold openByStatus; simp only []; (repeat' split) <;> simp
@[simp] theorem gather_skel (g : Group) (id : Nat) (st : Stored) (s : State) : skel (gather g id st s) = skel s := by
  unfold gather; (repeat' split) <;> simp
@[simp] theorem relay_skel (g : Group) (k : SlotKey) (id : Nat) (st : Stored) (s : State) :
    skel (relay g k id st s) = skel s := by
  unfold relay; simp only []; (repeat' split) <;> simp
@[simp] theorem discardPart_skel (id : Nat) (ctr : Nat) (s : State) : skel (discardPart id ctr s) = skel s := by
  simp [discardPart]
@[simp] theorem judgeLater_skel (g : Group) (k : SlotKey) (id : Nat) (pos : Nat) (child : Bool) (ecc : CanvasEcc) (st : Stored) (s : State) :
    skel (judgeLater g k id pos child ecc st s) = skel s := by
  unfold judgeLater; (repeat' split) <;> simp
@[simp] theorem judgeContribution_skel (id : Nat) (ecc : CanvasEcc) (st : Stored) (s : State) :
    skel (judgeContribution id ecc st s) = skel s := by
  unfold judgeContribution; simp only []; (repeat' split) <;> simp
@[simp] theorem judgeResult_skel (id : Nat) (st : Stored) (s : State) : skel (judgeResult id st s) = skel s := by
  unfold judgeResult; simp only []; (repeat' split) <;> simp
@[simp] theorem canvasPacket_skel (id : Nat) (ecc : CanvasEcc) (st : Stored) (s : State) :
    skel (canvasPacket id ecc st s) = skel s := by
  simp [canvasPacket]
@[simp] theorem judgeAgain_skel (id : Nat) (why : Nat) (ecc : CanvasEcc) (s : State) :
    skel (judgeAgain id why ecc s) = skel s := by
  unfold judgeAgain; (repeat' split) <;> simp
@[simp] theorem endGroup_skel (n : Nat) (g : Group) (s : State) : skel (endGroup n g s) = skel s := by simp [endGroup]

/-! ### Canvas -/

@[simp] theorem canvasWindow_skel (id : Nat) (o : BitVec 8) (ecc : CanvasEcc) (s : State) :
    skel (canvasWindow id o ecc s) = skel s := by
  simp [canvasWindow]
@[simp] theorem opTimesOut_skel (k : SlotKey) (s : State) : skel (opTimesOut k s) = skel s := by
  unfold opTimesOut; (repeat' split) <;> simp
@[simp] theorem upTimesOut_skel (k : SlotKey) (s : State) : skel (upTimesOut k s) = skel s := by
  unfold upTimesOut; (repeat' split) <;> simp

/-! ### RackCore -/

@[simp] theorem sendRack_skel (typ : Nat) (body : Bytes) (s : State) : skel (sendRack typ body s) = skel s := by
  unfold sendRack; (repeat' split) <;> simp
@[simp] theorem sendDevHeartbeat_skel (s : State) : skel (sendDevHeartbeat s) = skel s := by simp [sendDevHeartbeat]
@[simp] theorem sendTelemetry_skel (s : State) : skel (sendTelemetry s) = skel s := by simp [sendTelemetry]
@[simp] theorem noteOwner_skel (old : Nat) (s : State) : skel (noteOwner old s) = skel s := by simp [noteOwner]
@[simp] theorem setOwn_skel (new : OwnState) (cause : Nat) (s : State) : skel (setOwn new cause s) = skel s := by
  simp [setOwn]
@[simp] theorem settleMode_skel (cause : Nat) (s : State) : skel (settleMode cause s) = skel s := by simp [settleMode]
@[simp] theorem alertRequest_skel (s : State) : skel (alertRequest s) = skel s := by simp [alertRequest]

/-! ### Cooling -/

@[simp] theorem drivePumps_skel (s : State) : skel (drivePumps s) = skel s := by simp [drivePumps]
@[simp] theorem applyAlarms_skel (s : State) : skel (applyAlarms s) = skel s := by simp [applyAlarms]
@[simp] theorem pumpLoop_skel (outlet : Int) (step : Nat) (s : State) : skel (pumpLoop outlet step s) = skel s := by
  simp [pumpLoop]
@[simp] theorem fanLoop_skel (air : Int) (step : Nat) (s : State) : skel (fanLoop air step s) = skel s := by
  simp [fanLoop]
@[simp] theorem judgeSensors_skel (l : List TempReading) (s : State) : skel (judgeSensors l s) = skel s := by
  simp [judgeSensors]
@[simp] theorem coolingUpdate_skel (outlet : TempReading) (inlet : TempReading) (air : List TempReading) (s : State) :
    skel (coolingUpdate outlet inlet air s) = skel s := by
  unfold coolingUpdate; (repeat' split) <;> simp
@[simp] theorem setAlarm_recv (a : Alarm) (b : Bool) (t : Tray) : (setAlarm a b t).recv = t.recv := by
  unfold setAlarm; (repeat' split) <;> rfl
@[simp] theorem alarmSeen_skel (a : Alarm) (data : Bytes) (s : State) : skel (alarmSeen a data s) = skel s := by
  simp only [alarmSeen]; split <;> simp
@[simp] theorem pumpAlarmed_skel (n : Nat) (tach : PulseTrain) (s : State) : skel (pumpAlarmed n tach s) = skel s := by
  simp [pumpAlarmed]
@[simp] theorem flowSampled_skel (a : Reading) (b : Reading) (s : State) : skel (flowSampled a b s) = skel s := by
  unfold flowSampled; (repeat' split) <;> simp
@[simp] theorem coolantIsHot_skel (outlet : Int) (s : State) : skel (coolantIsHot outlet s) = skel s := by
  simp [coolantIsHot]
@[simp] theorem fanFaulted_skel (n : Nat) (tach : PulseTrain) (s : State) : skel (fanFaulted n tach s) = skel s := by
  simp [fanFaulted]
@[simp] theorem alarmEnds_skel (a : Alarm) (tach : PulseTrain) (s : State) : skel (alarmEnds a tach s) = skel s := by
  simp only [alarmEnds]; split <;> simp

/-! ### Jalivo -/

@[simp] theorem command_skel (src : CmdSrc) (mine : Bytes → Bool) (lenOk : Bytes → Bool) (f : Bytes → State → State) (s : State) (hf : ∀ a0 t, skel (f a0 t) = skel t) :
    skel (command src mine lenOk f s) = skel s := by
  simp only [command]; (repeat' split) <;> simp_all
@[simp] theorem refuseIf_skel (src : CmdSrc) (checks : List (Bool × W16)) (f : State → State) (s : State) (hf : ∀  t, skel (f  t) = skel t) :
    skel (refuseIf src checks f s) = skel s := by
  simp only [refuseIf]; (repeat' split) <;> simp_all
@[simp] theorem done_skel (src : CmdSrc) (s : State) : skel (done src s) = skel s := by simp [done]

/-! ### HostIf -/

@[simp] theorem ringError_skel (hp : HostPort) (s : State) : skel (ringError hp s) = skel s := by simp [ringError]
@[simp] theorem haltRing_skel (hp : HostPort) (r : Nat) (s : State) : skel (haltRing hp r s) = skel s := by
  simp [haltRing]
@[simp] theorem checkTail_skel (hp : HostPort) (r : Nat) (s : State) : skel (checkTail hp r s) = skel s := by
  simp [checkTail]
@[simp] theorem doorbell_skel (hp : HostPort) (r : Nat) (v : W32) (s : State) : skel (doorbell hp r v s) = skel s := by
  simp [doorbell]
@[simp] theorem ringControl_skel (hp : HostPort) (r : Nat) (v : W32) (s : State) :
    skel (ringControl hp r v s) = skel s := by
  simp [ringControl]
@[simp] theorem settleRing_skel (hp : HostPort) (r : Nat) (s : State) : skel (settleRing hp r s) = skel s := by
  unfold settleRing; (repeat' split) <;> simp
@[simp] theorem fetchEntry_skel (hp : HostPort) (r : Nat) (f : RingFetch) (s : State) :
    skel (fetchEntry hp r f s) = skel s := by
  unfold fetchEntry; simp only []; (repeat' split) <;> simp
@[simp] theorem postCompletion_skel (hp : HostPort) (r : Nat) (error : Bool) (s : State) : skel (postCompletion hp r error s) = skel s := by
  simp only [postCompletion]
  (repeat' split) <;> first | rfl | (simp; done) | (simp only [releaseHeld_skel, setCause_skel, notePosted_skel, skel_updRing, skel_emit]; split <;> simp)
@[simp] theorem eventControl_skel (hp : HostPort) (v : W32) (s : State) : skel (eventControl hp v s) = skel s := by
  simp [eventControl]
@[simp] theorem clearCauses_skel (hp : HostPort) (v : W32) (raised : BitVec 10) (s : State) :
    skel (clearCauses hp v raised s) = skel s := by
  simp [clearCauses]
@[simp] theorem writeMask_skel (hp : HostPort) (v : W32) (s : State) : skel (writeMask hp v s) = skel s := by
  simp [writeMask]
@[simp] theorem flushPending_skel (hp : HostPort) (s : State) : skel (flushPending hp s) = skel s := by
  simp [flushPending]
@[simp] theorem badAccess_skel (hp : HostPort) (offset : Nat) (bytes : Nat) (s : State) :
    skel (badAccess hp offset bytes s) = skel s := by
  simp [badAccess]
@[simp] theorem writeRingReg_skel (hp : HostPort) (r : Nat) (o : Nat) (v : W32) (s : State) :
    skel (writeRingReg hp r o v s) = skel s := by
  simp [writeRingReg]
@[simp] theorem writeEventReg_skel (hp : HostPort) (o : Nat) (v : W32) (s : State) :
    skel (writeEventReg hp o v s) = skel s := by
  simp [writeEventReg]
@[simp] theorem setBusMaster_skel (hp : HostPort) (s : State) : skel (setBusMaster hp s) = skel s := by
  simp [setBusMaster]
@[simp] theorem updPcie_skel (hp : HostPort) (f : PcieRegs → PcieRegs) (s : State) :
    skel (updPcie hp f s) = skel s := by
  simp [updPcie]
@[simp] theorem writeCommand_skel (hp : HostPort) (v : W32) (s : State) : skel (writeCommand hp v s) = skel s := by
  simp [writeCommand]
@[simp] theorem writeDevCtl_skel (hp : HostPort) (v : W32) (s : State) : skel (writeDevCtl hp v s) = skel s := by
  simp [writeDevCtl]
@[simp] theorem writeAer_skel (hp : HostPort) (off : Nat) (v : W32) (s : State) :
    skel (writeAer hp off v s) = skel s := by
  simp [writeAer]
@[simp] theorem writeConfig_skel (hp : HostPort) (off : Nat) (v : W32) (s : State) :
    skel (writeConfig hp off v s) = skel s := by
  simp [writeConfig]

/-! ### PolicyRules -/

@[simp] theorem driveSettings_skel (lasers rails : List Nat) (s : State) : skel (driveSettings lasers rails s) = skel s := by
  simp only [driveSettings]
  rw [skel_updTray _ _ rfl, skel_forEach _ _ _ (by intros; rfl), skel_forEach _ _ _ (by intros; rfl)]
@[simp] theorem applyPolicy_skel (l : List PolicyEntry) (s : State) : skel (applyPolicy l s) = skel s := by
  simp [applyPolicy]

/-! ### StreamCore -/

@[simp] theorem updSeg_skel (i : Nat) (f : BitVec 128 → BitVec 128) (s : State) : skel (updSeg i f s) = skel s := by
  simp [updSeg]
@[simp] theorem setReady_skel (i : Nat) (on : Bool) (s : State) : skel (setReady i on s) = skel s := by simp [setReady]
@[simp] theorem setCursor_skel (i : Nat) (n : Nat) (s : State) : skel (setCursor i n s) = skel s := by simp [setCursor]
@[simp] theorem updTile_skel (i : Nat) (f : Tile → Tile) (s : State) : skel (updTile i f s) = skel s := by
  simp [updTile]
@[simp] theorem dropTile_skel (i : Nat) (s : State) : skel (dropTile i s) = skel s := by simp [dropTile]
@[simp] theorem unreadyTile_skel (g : Nat) (s : State) : skel (unreadyTile g s) = skel s := by simp [unreadyTile]
@[simp] theorem scheduleTile_skel (n : W32) (plan : Nat) (entry : Nat) (x : W64) (t : Nat) (s : State) :
    skel (scheduleTile n plan entry x t s) = skel s := by
  unfold scheduleTile; simp only []; (repeat' split) <;> simp
@[simp] theorem applyRewinds_skel (i : Nat) (n : W32) (s : State) : skel (applyRewinds i n s) = skel s := by
  simp [applyRewinds]
@[simp] theorem runItem_skel (n : W32) (plan : Nat) (entry : Nat) (x : W64) (s : State) :
    skel (runItem n plan entry x s) = skel s := by
  simp [runItem]
@[simp] theorem rewindsDue_skel (n : W32) (s : State) : skel (rewindsDue n s) = skel s := by simp [rewindsDue]
@[simp] theorem sweepTiles_skel (s : State) : skel (sweepTiles s) = skel s := by simp [sweepTiles]

/-! ### TickRun -/

@[simp] theorem streamOverruns_skel (s : State) : skel (streamOverruns s) = skel s := by
  simp only [streamOverruns]
  rw [skel_forEach]
  · simp
  · intro n t; split <;> simp
@[simp] theorem reduceOverruns_skel (s : State) : skel (reduceOverruns s) = skel s := by
  simp only [reduceOverruns]
  split
  · simp
  · rw [skel_forEach]
    · simp
    · intro n t; split <;> simp
@[simp] theorem gateFor_skel (m : W32) (s : State) : skel (gateFor m s) = skel s := by
  unfold gateFor; (repeat' split) <;> simp
@[simp] theorem gateTick_skel (s : State) : skel (gateTick s) = skel s := by
  simp only [gateTick]; (repeat' split) <;> simp_all
@[simp] theorem announceTick_skel (s : State) : skel (announceTick s) = skel s := by simp [announceTick]
@[simp] theorem prefetch_skel (fresh : Bool) (s : State) : skel (prefetch fresh s) = skel s := by
  unfold prefetch
  apply skel_forEach
  intro d t
  split
  · rfl
  · apply skel_forEach; intros; simp
@[simp] theorem advanceTick_skel (at_ : Rat) (n : W32) (s : State) : skel (advanceTick at_ n s) = skel s := by
  simp only [advanceTick, skel_emit]
  (repeat rw [skel_when]) <;> simp
@[simp] theorem beginTick_skel (at_ : Rat) (n : W32) (s : State) : skel (beginTick at_ n s) = skel s := by
  simp [beginTick]
@[simp] theorem tickBegins_skel (at_ : Rat) (n : W32) (s : State) : skel (tickBegins at_ n s) = skel s := by
  simp [tickBegins]

/-! ### Sketch -/

@[simp] theorem endChangedGroups_skel (p : Proposed) (s : State) : skel (endChangedGroups p s) = skel s := by
  simp [endChangedGroups]
@[simp] theorem installSegments_skel (t : Table (BitVec 128)) (s : State) : skel (installSegments t s) = skel s := by
  simp [installSegments]
@[simp] theorem installStreams_skel (t : StreamTables) (s : State) : skel (installStreams t s) = skel s := by
  simp [installStreams]
@[simp] theorem discardTiles_skel (s : State) : skel (discardTiles s) = skel s := by simp [discardTiles]
@[simp] theorem sendRefresh_skel (p : Nat) (s : State) : skel (sendRefresh p s) = skel s := by simp [sendRefresh]
@[simp] theorem applyRole_skel (p : Nat) (s : State) : skel (applyRole p s) = skel s := by simp [applyRole]
@[simp] theorem installIdentity_skel (p : Proposed) (s : State) : skel (installIdentity p s) = skel s := by
  simp [installIdentity]
@[simp] theorem cancelSwitch_skel (s : State) : skel (cancelSwitch s) = skel s := by
  unfold cancelSwitch; (repeat' split) <;> simp
@[simp] theorem retuneTick_skel (old : Option TickSettings) (ts : TickSettings) (s : State) :
    skel (retuneTick old ts s) = skel s := by
  simp [retuneTick]
@[simp] theorem installTick_skel (p : Proposed) (s : State) : skel (installTick p s) = skel s := by
  unfold installTick; (repeat' split) <;> simp
@[simp] theorem answerCommit_skel (src : CmdSrc) (status : W16) (result : Bytes) (s : State) :
    skel (answerCommit src status result s) = skel s := by
  simp [answerCommit]
@[simp] theorem commitCmd_skel (src : CmdSrc) (p : Bytes) (s : State) : skel (commitCmd src p s) = skel s := by
  simp [commitCmd]
@[simp] theorem planSwitchCmd_skel (src : CmdSrc) (p : Bytes) (s : State) : skel (planSwitchCmd src p s) = skel s := by
  simp [planSwitchCmd]
@[simp] theorem switchTakesEffect_skel (s : State) : skel (switchTakesEffect s) = skel s := by
  unfold switchTakesEffect; (repeat' split) <;> simp
@[simp] theorem tickStarts_skel (s : State) : skel (tickStarts s) = skel s := by simp [tickStarts]
@[simp] theorem edgeTick_skel (at_ : Rat) (pulse : Pulse) (s : State) : skel (edgeTick at_ pulse s) = skel s := by
  simp [edgeTick]
@[simp] theorem edgeArrives_skel (pulse : Pulse) (s : State) : skel (edgeArrives pulse s) = skel s := by
  simp [edgeArrives]
@[simp] theorem enterHoldover_skel (s : State) : skel (enterHoldover s) = skel s := by simp [enterHoldover]
@[simp] theorem edgeMissing_skel (s : State) : skel (edgeMissing s) = skel s := by simp [edgeMissing]
@[simp] theorem portLost_skel (s : State) : skel (portLost s) = skel s := by unfold portLost; (repeat' split) <;> simp

/-! ### Images -/

@[simp] theorem updateStep_skel (cfg : Bool) (step : Nat) (version : W32) (s : State) :
    skel (updateStep cfg step version s) = skel s := by
  simp [updateStep]
@[simp] theorem attestCmd_skel (src : CmdSrc) (p : Bytes) (s : State) : skel (attestCmd src p s) = skel s := by
  unfold attestCmd; (repeat' split) <;> simp

/-! ### TwinLink -/

@[simp] theorem trainTwin_skel (s : State) : skel (trainTwin s) = skel s := by simp [trainTwin]
@[simp] theorem sendTwin_skel (typ : Nat) (payload : Bytes) (s : State) : skel (sendTwin typ payload s) = skel s := by
  simp [sendTwin]
@[simp] theorem frameFails_skel (s : State) : skel (frameFails s) = skel s := by simp [frameFails]
@[simp] theorem twinReceived_skel (typ : Nat) (frame : List (List CodeGroup)) (f : Bytes → State → State) (s : State) (hf : ∀ a0 t, skel (f a0 t) = skel t) :
    skel (twinReceived typ frame f s) = skel s := by
  simp only [twinReceived]; (repeat' split) <;> simp_all
@[simp] theorem sendStateRequest_skel (s : State) : skel (sendStateRequest s) = skel s := by simp [sendStateRequest]
@[simp] theorem sendImageData_skel (e : W32) (n off : Nat) (b : Bytes) (s : State) : skel (sendImageData e n off b s) = skel s := by
  induction n generalizing off b s with
  | zero => rfl
  | succ n ih => unfold sendImageData; split <;> simp [ih]
@[simp] theorem sendEpoch_skel (s : State) : skel (sendEpoch s) = skel s := by simp [sendEpoch]
@[simp] theorem takeTwinConfig_skel (s : State) : skel (takeTwinConfig s) = skel s := by simp [takeTwinConfig]
@[simp] theorem judgeUnsync_skel (s : State) : skel (judgeUnsync s) = skel s := by
  simp only [judgeUnsync]; (repeat' split) <;> simp_all
@[simp] theorem cycleEnds_skel (s : State) : skel (cycleEnds s) = skel s := by simp [cycleEnds]
@[simp] theorem writeSnapshot_skel (s : State) : skel (writeSnapshot s) = skel s := by
  unfold writeSnapshot
  split
  · rfl
  · rw [skel_updTray _ _ rfl]; exact skel_updFlash _ _ rfl
@[simp] theorem snapshots_skel (s : State) : skel (snapshots s) = skel s := by simp [snapshots]
@[simp] theorem laneTrained_skel (lane : Nat) (groups : List CodeGroup) (skew : Int) (s : State) :
    skel (laneTrained lane groups skew s) = skel s := by
  unfold laneTrained; (repeat' split) <;> simp
@[simp] theorem dropTray_recv (t : Tray) : (dropTray t).recv = t.recv := (rfl)
@[simp] theorem releaseControl_skel (cause : Nat) (next : OwnState) (s : State) : skel (releaseControl cause next s) = skel s := by
  simp [releaseControl]
@[simp] theorem resolveCollision_skel (s : State) : skel (resolveCollision s) = skel s := by simp [resolveCollision]
@[simp] theorem noteLine_skel (s : State) : skel (noteLine s) = skel s := by simp [noteLine]
@[simp] theorem heartbeatTaken_skel (b : Bytes) (s : State) : skel (heartbeatTaken b s) = skel s := by
  unfold heartbeatTaken; simp only []; (repeat' split) <;> simp
@[simp] theorem handoverDone_skel (src : CmdSrc) (s : State) : skel (handoverDone src s) = skel s := by
  simp [handoverDone]
@[simp] theorem stateAck_skel (p : Bytes) (s : State) : skel (stateAck p s) = skel s := by
  unfold stateAck; simp only []; (repeat' split) <;> simp
@[simp] theorem stateRequested_skel (s : State) : skel (stateRequested s) = skel s := by simp [stateRequested]
@[simp] theorem releaseTaken_skel (p : Bytes) (s : State) : skel (releaseTaken p s) = skel s := by simp [releaseTaken]
@[simp] theorem twinConfigCmd_skel (src : CmdSrc) (p : Bytes) (s : State) : skel (twinConfigCmd src p s) = skel s := by
  simp [twinConfigCmd]

/-! ### StartUp -/

@[simp] theorem releaseTray_skel (s : State) : skel (releaseTray s) = skel s := by
  simp only [releaseTray, skel_ite]; (repeat' split) <;> simp
@[simp] theorem enterTray_skel (cause : Nat) (s : State) : skel (enterTray cause s) = skel s := by simp [enterTray]
@[simp] theorem clearCounters_skel (s : State) : skel (clearCounters s) = skel s := by
  simp [clearCounters, skel]
@[simp] theorem firmwareBegins_skel (s : State) : skel (firmwareBegins s) = skel s := by simp [firmwareBegins]
@[simp] theorem takeListed_skel (r : TestRes) (s : State) : skel (takeListed r s) = skel s := by simp [takeListed]
@[simp] theorem applyRetired_skel (pass : BitVec 32) (r : TestRes) (s : State) :
    skel (applyRetired pass r s) = skel s := by
  unfold applyRetired; (repeat' split) <;> simp

/-! ### Health -/

@[simp] theorem badTable_skel (tbl : Nat) (i : Nat) (s : State) : skel (badTable tbl i s) = skel s := by simp [badTable]
@[simp] theorem restoreEntry_skel (tbl : Nat) (i : Nat) (copyBad : Bool) (s : State) :
    skel (restoreEntry tbl i copyBad s) = skel s := by
  simp [restoreEntry]
@[simp] theorem accumulatorBad_skel (k : SlotKey) (s : State) : skel (accumulatorBad k s) = skel s := by
  unfold accumulatorBad; (repeat' split) <;> simp
@[simp] theorem pieceBad_skel (k : SlotKey) (pos : Nat) (first : Nat) (s : State) :
    skel (pieceBad k pos first s) = skel s := by
  unfold pieceBad; (repeat' split) <;> simp
@[simp] theorem unparkBad_skel (id : Nat) (s : State) : skel (unparkBad id s) = skel s := by
  unfold unparkBad; split <;> simp
@[simp] theorem siteRead_skel (site : ScrubSite) (e : WordError) (s : State) : skel (siteRead site e s) = skel s := by
  unfold siteRead; (repeat' split) <;> simp
@[simp] theorem updTest_skel (r : TestRes) (f : Test → Test) (s : State) : skel (updTest r f s) = skel s := by
  simp [updTest]
@[simp] theorem dropTest_skel (r : TestRes) (s : State) : skel (dropTest r s) = skel s := by simp [dropTest]
@[simp] theorem retire_skel (r : TestRes) (s : State) : skel (retire r s) = skel s := by
  have hf : ∀ (e : RetiredEntry) (t : State), skel (updFlash (fun f => { f with retired := f.retired ++ [e] }) t) = skel t :=
    fun _ _ => skel_updFlash _ _ rfl
  unfold retire
  split
  · simp
  · split <;> simp only [skel_ite, hf] <;> (repeat' split) <;> simp
@[simp] theorem transientVerdict_skel (r : TestRes) (commanded : Bool) (s : State) :
    skel (transientVerdict r commanded s) = skel s := by
  simp [transientVerdict]
@[simp] theorem answerTest_skel (t : Test) (verdict : Nat) (errors : Nat) (duration : Nat) (s : State) :
    skel (answerTest t verdict errors duration s) = skel s := by
  unfold answerTest; (repeat' split) <;> simp
@[simp] theorem giveVerdict_skel (t : Test) (pass : Bool) (errors : Nat) (duration : Nat) (s : State) :
    skel (giveVerdict t pass errors duration s) = skel s := by
  simp [giveVerdict]
@[simp] theorem skipTest_skel (t : Test) (s : State) : skel (skipTest t s) = skel s := by simp [skipTest]
@[simp] theorem startTest_skel (r : TestRes) (s : State) : skel (startTest r s) = skel s := by
  unfold startTest; (repeat' split) <;> simp
@[simp] theorem laneByRetrain_skel (t : Test) (p : Nat) (l : Nat) (s : State) :
    skel (laneByRetrain t p l s) = skel s := by
  simp [laneByRetrain]
@[simp] theorem laneTested_skel (p : Nat) (l : Nat) (s : State) : skel (laneTested p l s) = skel s := by
  unfold laneTested; (repeat' split) <;> simp
@[simp] theorem rowCopied_skel (r : TestRes) (s : State) : skel (rowCopied r s) = skel s := by
  unfold rowCopied; (repeat' split) <;> simp
@[simp] theorem freeSpare_skel (r : TestRes) (s : State) : skel (freeSpare r s) = skel s := by simp [freeSpare]
@[simp] theorem rowTested_skel (r : TestRes) (failing : Nat) (duration : W32) (s : State) :
    skel (rowTested r failing duration s) = skel s := by
  unfold rowTested; (repeat' split) <;> simp
@[simp] theorem paletteTested_skel (n : Nat) (crc : W32) (failing : Nat) (duration : W32) (s : State) :
    skel (paletteTested n crc failing duration s) = skel s := by
  unfold paletteTested; (repeat' split) <;> simp
@[simp] theorem selftestCmd_skel (src : CmdSrc) (p : Bytes) (s : State) : skel (selftestCmd src p s) = skel s := by
  unfold selftestCmd
  split
  · simp
  · exact refuseIf_skel _ _ _ _ (by intros; simp)

/-! ### Inband -/

@[simp] theorem takeCmd_skel (id : Nat) (st : Stored) (s : State) : skel (takeCmd id st s) = skel s := by
  unfold takeCmd; simp only []; (repeat' split) <;> simp

/-! ### Ownership -/

@[simp] theorem startOutputs_skel (pump fan : Nat) (s : State) : skel (startOutputs pump fan s) = skel s := by
  exact skel_updTray _ _ rfl
@[simp] theorem takeImagePolicy_skel (l : List PolicyEntry) (s : State) : skel (takeImagePolicy l s) = skel s := by
  simp [takeImagePolicy]
@[simp] theorem takeImageAlarms_skel (l : List (Nat × Nat)) (s : State) : skel (takeImageAlarms l s) = skel s := by
  simp only [takeImageAlarms]
  refine skel_forEach _ _ _ ?_
  intro a t
  split <;> simp
@[simp] theorem startFromImage_skel (b : Bytes) (s : State) : skel (startFromImage b s) = skel s := by
  simp only [startFromImage]
  rw [driveSettings_skel, applyAlarms_skel, takeImageAlarms_skel, takeImagePolicy_skel, skel_updTray _ _ rfl, startOutputs_skel]
@[simp] theorem startFromConfig_skel (s : State) : skel (startFromConfig s) = skel s := by
  unfold startFromConfig; (repeat' split) <;> simp
@[simp] theorem startTray_skel (s : State) : skel (startTray s) = skel s := by
  unfold startTray; (repeat' split) <;> simp
@[simp] theorem listenEnds_skel (s : State) : skel (listenEnds s) = skel s := by
  unfold listenEnds; (repeat' split) <;> simp
@[simp] theorem lineIsLow_skel (s : State) : skel (lineIsLow s) = skel s := by simp [lineIsLow]
@[simp] theorem raiseTakeover_skel (source : Nat) (epoch : W32) (s : State) :
    skel (raiseTakeover source epoch s) = skel s := by
  simp [raiseTakeover]
@[simp] theorem driveLamps_skel (s : State) : skel (driveLamps s) = skel s := by simp [driveLamps]
@[simp] theorem busTaken_skel (bus : Nat) (answered : List (BitVec 7)) (s : State) : skel (busTaken bus answered s) = skel s := by
  simp only [busTaken]
  split
  · rfl
  · split
    · rw [driveLamps_skel, skel_updTray _ _ rfl]
    · rw [skel_forEach _ _ _ (by intros; simp), driveLamps_skel, skel_updTray _ _ rfl]
@[simp] theorem selfCheckFails_skel (check : Nat) (s : State) : skel (selfCheckFails check s) = skel s := by
  simp [selfCheckFails]
@[simp] theorem plausibilityChecked_skel (r : List Reading) (s : State) : skel (plausibilityChecked r s) = skel s := by
  unfold plausibilityChecked; simp only []; (repeat' split) <;> simp
@[simp] theorem ownLineFaults_skel (s : State) : skel (ownLineFaults s) = skel s := by simp [ownLineFaults]
@[simp] theorem coresRestarted_skel (s : State) : skel (coresRestarted s) = skel s := by
  unfold coresRestarted; simp only []; (repeat' split) <;> simp
@[simp] theorem handoverCmd_skel (src : CmdSrc) (_p : Bytes) (s : State) : skel (handoverCmd src _p s) = skel s := by
  simp [handoverCmd]
@[simp] theorem handoverTimesOut_skel (s : State) : skel (handoverTimesOut s) = skel s := by
  unfold handoverTimesOut; (repeat' split) <;> simp

/-! ### PortCmds -/

@[simp] theorem portInfoCmd_skel (src : CmdSrc) (p : Bytes) (s : State) : skel (portInfoCmd src p s) = skel s := by
  simp [portInfoCmd]
@[simp] theorem admitPort_skel (p : Nat) (s : State) : skel (admitPort p s) = skel s := by simp [admitPort]
@[simp] theorem enableCmd_skel (src : CmdSrc) (p : Bytes) (s : State) : skel (enableCmd src p s) = skel s := by
  simp [enableCmd]
@[simp] theorem disableNow_skel (p : Nat) (s : State) : skel (disableNow p s) = skel s := by simp [disableNow]
@[simp] theorem disableCmd_skel (src : CmdSrc) (p : Bytes) (s : State) : skel (disableCmd src p s) = skel s := by
  simp [disableCmd]
@[simp] theorem retrainPort_skel (p : Nat) (s : State) : skel (retrainPort p s) = skel s := by simp [retrainPort]
@[simp] theorem retrainCmd_skel (src : CmdSrc) (p : Bytes) (s : State) : skel (retrainCmd src p s) = skel s := by
  simp [retrainCmd]
@[simp] theorem washPort_skel (p : Nat) (s : State) : skel (washPort p s) = skel s := by simp [washPort]
@[simp] theorem washCmd_skel (src : CmdSrc) (p : Bytes) (s : State) : skel (washCmd src p s) = skel s := by
  simp [washCmd]
@[simp] theorem washDrained_skel (p : Nat) (s : State) : skel (washDrained p s) = skel s := by simp [washDrained]
@[simp] theorem giveUpPort_skel (p : Nat) (s : State) : skel (giveUpPort p s) = skel s := by simp [giveUpPort]
@[simp] theorem washTimesOut_skel (src : CmdSrc) (s : State) : skel (washTimesOut src s) = skel s := by
  unfold washTimesOut; (repeat' split) <;> simp

/-! ### PowerMod -/

@[simp] theorem powerModeCmd_skel (src : CmdSrc) (p : Bytes) (s : State) : skel (powerModeCmd src p s) = skel s := by
  simp [powerModeCmd]
@[simp] theorem slopeLimitCmd_skel (src : CmdSrc) (p : Bytes) (s : State) : skel (slopeLimitCmd src p s) = skel s := by
  simp [slopeLimitCmd]
@[simp] theorem alertAsserts_skel (s : State) : skel (alertAsserts s) = skel s := by simp [alertAsserts]
@[simp] theorem alertReleases_skel (s : State) : skel (alertReleases s) = skel s := by simp [alertReleases]
@[simp] theorem alertHoldEnds_skel (s : State) : skel (alertHoldEnds s) = skel s := by
  unfold alertHoldEnds; (repeat' split) <;> simp
@[simp] theorem governPower_skel (power : Nat) (draw : List Nat) (s : State) : skel (governPower power draw s) = skel s := by
  simp only [governPower]
  (repeat rw [skel_when]) <;> simp
@[simp] theorem slopeExceeded_skel (cause : Nat) (s : State) : skel (slopeExceeded cause s) = skel s := by
  simp [slopeExceeded]
@[simp] theorem moveBudget_skel (s : State) : skel (moveBudget s) = skel s := by simp [moveBudget]
@[simp] theorem countBallast_skel (s : State) : skel (countBallast s) = skel s := by simp [countBallast]
@[simp] theorem governSlope_skel (draw : List Nat) (s : State) : skel (governSlope draw s) = skel s := by
  simp only [governSlope]
  rw [moveBudget_skel, countBallast_skel]
  (repeat rw [skel_when]) <;> simp
@[simp] theorem thermalStep_skel (sensor : Nat) (new : Nat) (s : State) : skel (thermalStep sensor new s) = skel s := by
  simp [thermalStep]
@[simp] theorem overMaximum_skel (sensor : Nat) (s : State) : skel (overMaximum sensor s) = skel s := by
  simp [overMaximum]
@[simp] theorem thermalSampled_skel (sensors : List Int) (s : State) : skel (thermalSampled sensors s) = skel s := by
  simp [thermalSampled]
@[simp] theorem railExceeds_skel (n : Nat) (s : State) : skel (railExceeds n s) = skel s := by simp [railExceeds]
@[simp] theorem railsSampled_skel (amps : List Nat) (s : State) : skel (railsSampled amps s) = skel s := by
  unfold railsSampled; simp only []; (repeat' split) <;> simp
@[simp] theorem overcurrentLifts_skel (s : State) : skel (overcurrentLifts s) = skel s := by simp [overcurrentLifts]

/-! ### RackMgr -/

@[simp] theorem acceptMsg_skel (m : Bytes) (s : State) : skel (acceptMsg m s) = skel s := by simp [acceptMsg]
@[simp] theorem rackMessage_skel (typ : Nat) (m : Bytes) (f : State → State) (s : State) (hf : ∀  t, skel (f  t) = skel t) :
    skel (rackMessage typ m f s) = skel s := by
  simp only [rackMessage]; (repeat' split) <;> simp_all
@[simp] theorem rackPolicyActs_skel (m : Bytes) (s : State) : skel (rackPolicyActs m s) = skel s := by
  simp only [rackPolicyActs]
  split
  · rw [skel_when _ _ _ (by simp), skel_updTray _ _ rfl]
  · rw [settleMode_skel, applyPolicy_skel, skel_updPower, skel_updTray _ _ rfl, skel_updTray _ _ rfl]
@[simp] theorem contactLost_skel (s : State) : skel (contactLost s) = skel s := by simp [contactLost]

/-! ### Reports -/

@[simp] theorem flagsCmd_skel (src : CmdSrc) (p : Bytes) (s : State) : skel (flagsCmd src p s) = skel s := by
  simp [flagsCmd]
@[simp] theorem countersCmd_skel (src : CmdSrc) (p : Bytes) (s : State) : skel (countersCmd src p s) = skel s := by
  simp [countersCmd]
@[simp] theorem telemetryRead_skel (id : Nat) (st : Stored) (s : State) : skel (telemetryRead id st s) = skel s := by
  simp [telemetryRead]

/-! ### Streams -/

@[simp] theorem putVisible_skel (id : Nat) (s : State) : skel (putVisible id s) = skel s := by
  unfold putVisible; (repeat' split) <;> simp
@[simp] theorem bindSub_skel (b : Subscription) (s : State) : skel (bindSub b s) = skel s := by simp [bindSub]
@[simp] theorem subscribe_skel (id : Nat) (st : Stored) (s : State) : skel (subscribe id st s) = skel s := by
  simp [subscribe]
@[simp] theorem cancelSub_skel (id : Nat) (st : Stored) (s : State) : skel (cancelSub id st s) = skel s := by
  simp [cancelSub]
@[simp] theorem writeTables_skel (src : CmdSrc) (bad : Bool) (busy : Bool) (t : StreamTables) (f : State → State) (s : State) (hf : ∀  t, skel (f  t) = skel t) :
    skel (writeTables src bad busy t f s) = skel s := by
  simp only [writeTables]; (repeat' split) <;> simp_all
@[simp] theorem writeSegmentCmd_skel (src : CmdSrc) (p : Bytes) (s : State) :
    skel (writeSegmentCmd src p s) = skel s := by
  simp [writeSegmentCmd]
@[simp] theorem writeStreamCmd_skel (src : CmdSrc) (p : Bytes) (s : State) :
    skel (writeStreamCmd src p s) = skel s := by
  simp [writeStreamCmd]
@[simp] theorem sealCmd_skel (src : CmdSrc) (p : Bytes) (s : State) : skel (sealCmd src p s) = skel s := by
  simp [sealCmd]
@[simp] theorem sealCompletes_skel (n : Nat) (reads : List (Nat × WordError)) (s : State) :
    skel (sealCompletes n reads s) = skel s := by
  unfold sealCompletes; (repeat' split) <;> simp
@[simp] theorem reopenCmd_skel (src : CmdSrc) (p : Bytes) (s : State) : skel (reopenCmd src p s) = skel s := by
  simp [reopenCmd]
@[simp] theorem rewindCmd_skel (src : CmdSrc) (p : Bytes) (s : State) : skel (rewindCmd src p s) = skel s := by
  simp [rewindCmd]
@[simp] theorem writeListCmd_skel (src : CmdSrc) (p : Bytes) (s : State) : skel (writeListCmd src p s) = skel s := by
  simp [writeListCmd]
@[simp] theorem startRead_skel (i : Nat) (s : State) : skel (startRead i s) = skel s := by
  unfold startRead; (repeat' split) <;> simp
@[simp] theorem readCompletes_skel (i : Nat) (hostBytes : Bytes) (r : ReadResult) (s : State) :
    skel (readCompletes i hostBytes r s) = skel s := by
  unfold readCompletes; (repeat' split) <;> simp
@[simp] theorem writeOriginated_skel (i : Nat) (o : Originate) (s : State) : skel (writeOriginated i o s) = skel s := by
  unfold writeOriginated; (repeat' split) <;> simp
@[simp] theorem writeTile_skel (i : Nat) (t : Tile) (s : State) : skel (writeTile i t s) = skel s := by simp [writeTile]
@[simp] theorem originatedWrite_skel (i : Nat) (s : State) : skel (originatedWrite i s) = skel s := by
  unfold originatedWrite; (repeat' split) <;> simp

/-! ### Sync -/

@[simp] theorem setSync_skel (i : Nat) (o : SyncObj) (s : State) : skel (setSync i o s) = skel s := by simp [setSync]
@[simp] theorem notifyPorts_skel (h : Header) (mask : Nat) (s : State) : skel (notifyPorts h mask s) = skel s := by
  simp [notifyPorts]
@[simp] theorem sendFired_skel (i : Nat) (o : SyncObj) (s : State) : skel (sendFired i o s) = skel s := by
  unfold sendFired; (repeat' split) <;> simp
@[simp] theorem fireSync_skel (i : Nat) (s : State) : skel (fireSync i s) = skel s := by simp [fireSync]
@[simp] theorem fireIfDue_skel (i : Nat) (s : State) : skel (fireIfDue i s) = skel s := by simp [fireIfDue]
@[simp] theorem addArrival_skel (i : Nat) (w : W32) (s : State) : skel (addArrival i w s) = skel s := by
  simp [addArrival]
@[simp] theorem syncArrival_skel (id : Nat) (st : Stored) (s : State) : skel (syncArrival id st s) = skel s := by
  simp [syncArrival]
@[simp] theorem armSync_skel (src : CmdSrc) (p : Bytes) (s : State) : skel (armSync src p s) = skel s := by
  simp [armSync]

/-! ### TableCmds -/

@[simp] theorem writeGroup_skel (n : Nat) (p : Bytes) (s : State) : skel (writeGroup n p s) = skel s := by
  simp [writeGroup]
@[simp] theorem groupDefineCmd_skel (src : CmdSrc) (p : Bytes) (s : State) :
    skel (groupDefineCmd src p s) = skel s := by
  simp [groupDefineCmd]
@[simp] theorem removeGroup_skel (n : Nat) (s : State) : skel (removeGroup n s) = skel s := by
  simp [removeGroup]
@[simp] theorem groupDeleteCmd_skel (src : CmdSrc) (p : Bytes) (s : State) :
    skel (groupDeleteCmd src p s) = skel s := by
  simp [groupDeleteCmd]
@[simp] theorem portsetCmd_skel (src : CmdSrc) (p : Bytes) (s : State) : skel (portsetCmd src p s) = skel s := by
  simp [portsetCmd]
@[simp] theorem writeRoute_skel (i : Nat) (e : Nat) (s : State) : skel (writeRoute i e s) = skel s := by
  simp [writeRoute]
@[simp] theorem routeWriteCmd_skel (src : CmdSrc) (p : Bytes) (s : State) : skel (routeWriteCmd src p s) = skel s := by
  simp [routeWriteCmd]
@[simp] theorem policyCmd_skel (src : CmdSrc) (p : Bytes) (s : State) : skel (policyCmd src p s) = skel s := by
  unfold policyCmd; simp only []; (repeat' split) <;> simp

end Sys2Proof.Machine
end

