-- ==== Sys2Proof/Laws/Memory.lean ====
section
/-! SUPPORT. Tables and byte memories: what a read gives after a write, and that every operation keeps the canonical form. -/

namespace Sys2Proof.Machine

/-! ### Tables -/

theorem tget_cons {α : Type} (k : Nat) (v : α) (t : Table α) (i : Nat) :
    tget ((k, v) :: t) i = if k = i then some v else tget t i := rfl

/-- Every index of a table whose first index is above `b` is above `b`. -/
def Above {α : Type} (b : Nat) (t : Table α) : Prop := ∀ e ∈ t, b < e.1

theorem wf_cons {α : Type} (k : Nat) (v : α) (t : Table α) : Table.wf ((k, v) :: t) = true ↔ Above k t ∧ Table.wf t = true := by
  induction t generalizing k v with
  | nil => simp [Above, Table.wf]
  | cons e t ih =>
    obtain ⟨a, w⟩ := e
    have h := ih a w
    simp only [Table.wf, Bool.and_eq_true, decide_eq_true_eq, Above, List.mem_cons, forall_eq_or_imp]
    constructor
    · rintro ⟨hk, hw⟩
      exact ⟨⟨hk, fun e he => Nat.lt_trans hk ((h.1 hw).1 e he)⟩, hw⟩
    · rintro ⟨⟨hk, -⟩, hw⟩
      exact ⟨hk, hw⟩

theorem above_tset {α : Type} {b i : Nat} (v : α) {t : Table α} (h : Above b t) (hi : b < i) : Above b (tset t i v) := by
  induction t with
  | nil => simpa [Above, tset] using hi
  | cons e t ih =>
    obtain ⟨k, w⟩ := e
    simp only [Above, List.mem_cons, forall_eq_or_imp] at h
    have h2 := ih h.2
    simp only [tset]
    split
    · simp only [Above, List.mem_cons, forall_eq_or_imp]; exact ⟨hi, h.1, h.2⟩
    · split
      · simp only [Above, List.mem_cons, forall_eq_or_imp]; exact ⟨h.1, h.2⟩
      · simp only [Above, List.mem_cons, forall_eq_or_imp]; exact ⟨h.1, h2⟩

/-- Writing an entry keeps the indices rising. -/
theorem tset_wf {α : Type} (t : Table α) (i : Nat) (v : α) (h : Table.wf t = true) : Table.wf (tset t i v) = true := by
  induction t with
  | nil => rfl
  | cons e t ih =>
    obtain ⟨k, w⟩ := e
    have hw := (wf_cons k w t).1 h
    simp only [tset]
    split
    · next hi => exact (wf_cons i v _).2 ⟨by
        simp only [Above, List.mem_cons, forall_eq_or_imp]
        exact ⟨hi, fun e he => Nat.lt_trans hi (hw.1 e he)⟩, h⟩
    · split
      · exact (wf_cons k v t).2 hw
      · next h1 h2 => exact (wf_cons k w _).2 ⟨above_tset v hw.1 (by omega), ih hw.2⟩

/-- Removing an entry keeps the indices rising. -/
theorem tdel_wf {α : Type} (t : Table α) (i : Nat) (h : Table.wf t = true) : Table.wf (tdel t i) = true := by
  induction t with
  | nil => rfl
  | cons e t ih =>
    obtain ⟨k, w⟩ := e
    have hw := (wf_cons k w t).1 h
    have hi := ih hw.2
    simp only [tdel, List.filter_cons] at hi ⊢
    split
    · exact (wf_cons k w _).2 ⟨fun e he => hw.1 e (List.mem_filter.1 he).1, hi⟩
    · exact hi

theorem tget_tset_self {α : Type} (t : Table α) (i : Nat) (v : α) : tget (tset t i v) i = some v := by
  induction t with
  | nil => simp [tset, tget]
  | cons e t ih =>
    obtain ⟨k, w⟩ := e
    simp only [tset]
    split
    · simp [tget]
    · split
      · next h => simp [tget, h]
      · next h => simp [tget, Ne.symm h, ih]

theorem tget_tset_ne {α : Type} (t : Table α) {i j : Nat} (v : α) (h : i ≠ j) : tget (tset t i v) j = tget t j := by
  induction t with
  | nil => simp [tset, tget, h]
  | cons e t ih =>
    obtain ⟨k, w⟩ := e
    simp only [tset]
    split
    · simp [tget, h]
    · split
      · next hk => subst hk; simp [tget, h]
      · simp [tget, ih]

theorem tget_tdel_self {α : Type} (t : Table α) (i : Nat) : tget (tdel t i) i = none := by
  induction t with
  | nil => rfl
  | cons e t ih =>
    obtain ⟨k, w⟩ := e
    simp only [tdel, List.filter_cons] at ih ⊢
    split
    · next h => simp only [bne_iff_ne, ne_eq] at h; simp [tget, h, ih]
    · exact ih

theorem tget_tdel_ne {α : Type} (t : Table α) {i j : Nat} (h : i ≠ j) : tget (tdel t i) j = tget t j := by
  induction t with
  | nil => rfl
  | cons e t ih =>
    obtain ⟨k, w⟩ := e
    simp only [tdel, List.filter_cons] at ih ⊢
    split
    · simp [tget, ih]
    · next hk =>
      have hk : k = i := by simpa using hk
      subst hk
      simp [tget, h, ih]

/-! ### Byte memories -/

/-- A byte read after it was put is the byte put. -/
theorem mread_mput_self (m : Memory) (a : Nat) (b : Byte) : mread (mput m a b) a = b := by
  unfold mput
  split
  · next h => simp [mread, tget_tdel_self, h]
  · simp [mread, tget_tset_self]

/-- Putting a byte leaves every other address as it reads. -/
theorem mread_mput_ne (m : Memory) {a x : Nat} (b : Byte) (h : a ≠ x) : mread (mput m a b) x = mread m x := by
  unfold mput
  split
  · simp [mread, tget_tdel_ne m h]
  · simp [mread, tget_tset_ne m b h]

theorem all_tset {m : Memory} (a : Nat) {b : Byte} (hb : (b != 0) = true) (h : m.all (fun c => c.2 != 0) = true) :
    (tset m a b).all (fun c => c.2 != 0) = true := by
  induction m with
  | nil => simp only [tset, List.all_cons, List.all_nil, hb, Bool.and_true]
  | cons e m ih =>
    obtain ⟨k, w⟩ := e
    simp only [List.all_cons, Bool.and_eq_true] at h
    simp only [tset]
    split
    · simp only [List.all_cons, hb, h.1, h.2, Bool.and_true]
    · split
      · simp only [List.all_cons, hb, h.2, Bool.and_true]
      · simp only [List.all_cons, h.1, ih h.2, Bool.and_true]

/-- Putting a byte keeps the canonical form. -/
theorem mput_wf (m : Memory) (a : Nat) (b : Byte) (h : Memory.wf m = true) : Memory.wf (mput m a b) = true := by
  simp only [Memory.wf, Bool.and_eq_true] at h ⊢
  unfold mput
  split
  · exact ⟨tdel_wf m a h.1, List.all_eq_true.2 (fun c hc => List.all_eq_true.1 h.2 c (List.mem_filter.1 hc).1)⟩
  · next hb => exact ⟨tset_wf m a b h.1, all_tset a (by simpa using hb) h.2⟩

/-- Writing bytes keeps the canonical form. -/
theorem mwrite_wf (m : Memory) (a : Nat) (l : Bytes) (h : Memory.wf m = true) : Memory.wf (mwrite m a l) = true := by
  induction l generalizing m a with
  | nil => exact h
  | cons b l ih => exact ih (mput m a b) (a + 1) (mput_wf m a b h)

/-- Writing bytes leaves every address outside them as it reads. -/
theorem mread_mwrite_out (m : Memory) (a : Nat) (l : Bytes) (x : Nat) (h : x < a ∨ a + l.length ≤ x) :
    mread (mwrite m a l) x = mread m x := by
  induction l generalizing m a with
  | nil => rfl
  | cons b l ih =>
    simp only [List.length_cons] at h
    rw [mwrite, ih _ _ (by omega), mread_mput_ne m b (by omega)]

/-- Each byte written reads back. -/
theorem mread_mwrite_in (m : Memory) (a : Nat) (l : Bytes) (i : Nat) (h : i < l.length) :
    mread (mwrite m a l) (a + i) = l.getD i 0 := by
  induction l generalizing m a i with
  | nil => simp at h
  | cons b l ih =>
    rw [mwrite]
    cases i with
    | zero => rw [mread_mwrite_out _ _ _ _ (by omega), Nat.add_zero, mread_mput_self]; rfl
    | succ i =>
      rw [show a + (i + 1) = a + 1 + i by omega]
      simpa using ih (mput m a b) (a + 1) i (by simpa using h)

end Sys2Proof.Machine
end

