-- ==== Sys2Proof/Laws/PerInstr.lean ====
section
/-! SUPPORT. The form law of the commands: a well-formed command names only ports that the device has (R38) and only
command rings that a PCI Express port has (R329). One lemma a constructor. -/

namespace Sys2Proof.Laws

/-- The command ring that a command is taken from, where it comes by a ring. -/
def ringOf : CmdSrc → Option Nat
  | .ring _ r => some r
  | .inband => none

/-- The fabric port that a command names. -/
def portOf : Instr → Option Nat
  | .washPortDrained port => some port
  | .portRetrainQuiesceEnd port => some port
  | .modulatorLockUpdate port _ _ => some port
  | .dropLockUpdate port _ _ => some port
  | .ringLockLoss port _ _ => some port
  | .transitionBlockEnd port _ _ => some port
  | .lossOfSignalAssert port _ => some port
  | .lossOfSignalDeassert port _ => some port
  | .lossOfLockAssert port _ => some port
  | .lossOfLockDeassert port _ => some port
  | .fomWindowEnd port _ => some port
  | .pairCrossed port _ => some port
  | .miswiredProbeStart port => some port
  | .probeStart port => some port
  | .probeExpire port => some port
  | .attemptExpire port => some port
  | .identSetReceived port _ _ => some port
  | .timeSetReceived port _ _ _ => some port
  | .stepSetReceived port _ _ => some port
  | .rateStep port => some port
  | .acquisitionEnd port => some port
  | .selftestWindowEnd port => some port
  | .reportFrameReceived port _ _ _ => some port
  | .reportPhaseEnd port => some port
  | .reportTimeout port => some port
  | .slotStreamFramed port _ => some port
  | .resumeTimeout port => some port
  | .announceReceived port _ _ => some port
  | .retestSelftestStart port => some port
  | .slotBoundary port _ _ => some port
  | .slotReceived port _ _ => some port
  | .alignmentMarkerReceived port _ _ _ => some port
  | .ackTimeout port _ => some port
  | .retryRequestRepeat port _ => some port
  | .graceExpire port => some port
  | .lookup port _ _ => some port
  | .stallVoidExpire port _ => some port
  | .laneTestComplete port _ => some port
  | _ => none

/-- The command ring that a command names or comes by. -/
def ringIn : Instr → Option Nat
  | .identify src => ringOf src
  | .getStatus src => ringOf src
  | .sketchLoadBegin src => ringOf src
  | .sketchLoadData src => ringOf src
  | .sketchCommit src => ringOf src
  | .planSwitch src => ringOf src
  | .portEnable src => ringOf src
  | .portDisable src => ringOf src
  | .portWash src => ringOf src
  | .washTimeout src => ringOf src
  | .portRetrain src => ringOf src
  | .portInfo src => ringOf src
  | .groupDefine src => ringOf src
  | .groupDelete src => ringOf src
  | .portsetDefine src => ringOf src
  | .routeWrite src => ringOf src
  | .writeSegment src => ringOf src
  | .writeStream src => ringOf src
  | .sealSegment src => ringOf src
  | .reopenSegment src => ringOf src
  | .rewindStream src => ringOf src
  | .writeList src => ringOf src
  | .syncArm src => ringOf src
  | .policySet src => ringOf src
  | .powerModeSet src => ringOf src
  | .slopeLimitSet src => ringOf src
  | .flagsReadClear src => ringOf src
  | .countersRead src => ringOf src
  | .twinConfig src => ringOf src
  | .controlHandover src => ringOf src
  | .fwUpdateBegin src => ringOf src
  | .fwUpdateData src => ringOf src
  | .fwUpdateCommit src => ringOf src
  | .attest src => ringOf src
  | .selftestRun src => ringOf src
  | .chipResetChip src => ringOf src
  | .chipResetEasel src => ringOf src
  | .doorbellWrite _ r _ => some r
  | .ringEntryFetch _ r _ => some r
  | .completionPost _ r _ => some r
  | .cqHeadWrite _ r _ => some r
  | .ringEnableWrite _ r _ => some r
  | .ringReset _ r => some r
  | _ => none

theorem ringOf_ok {src : CmdSrc} {r : Nat} (h : src.ok = true) (hr : ringOf src = some r) : r < 4 := by
  cases src <;> simp_all [ringOf, CmdSrc.ok]

namespace FormLaw

/-- A well-formed command's port is one of the 96 and its ring is one of the four. -/
def Statement (i : Instr) : Prop :=
  i.wf = true → (∀ p, portOf i = some p → p < 96) ∧ ∀ r, ringIn i = some r → r < 4

theorem plain {i : Instr} (hp : portOf i = none) (hr : ringIn i = none) : Statement i :=
  fun _ => ⟨fun _ h => (nomatch hp.symm.trans h), fun _ h => nomatch hr.symm.trans h⟩

theorem ofPort {i : Instr} {q : Nat} (hp : portOf i = some q) (hr : ringIn i = none)
    (hw : i.wf = true → portOk q = true) : Statement i :=
  fun h => ⟨fun _ hq => Option.some.inj (hp.symm.trans hq) ▸ of_decide_eq_true (hw h),
    fun _ hq => nomatch hr.symm.trans hq⟩

theorem ofRing {i : Instr} {q : Nat} (hp : portOf i = none) (hr : ringIn i = some q)
    (hw : i.wf = true → q < 4) : Statement i :=
  fun h => ⟨fun _ hq => (nomatch hp.symm.trans hq), fun _ hq => Option.some.inj (hr.symm.trans hq) ▸ hw h⟩

theorem ofSrc {i : Instr} {src : CmdSrc} (hp : portOf i = none) (hr : ringIn i = ringOf src)
    (hw : i.wf = true → src.ok = true) : Statement i :=
  fun h => ⟨fun _ hq => (nomatch hp.symm.trans hq), fun _ hq => ringOf_ok (hw h) (hr.symm.trans hq)⟩

theorem powerOn : Statement (.powerOn) :=
  plain rfl rfl
theorem powerLoss : Statement (.powerLoss) :=
  plain rfl rfl
theorem resetNAssert (lowNs : Nat) : Statement (.resetNAssert lowNs) :=
  plain rfl rfl
theorem coreRailFall (rail : CoreRail) : Statement (.coreRailFall rail) :=
  plain rfl rfl
theorem refclkLoss : Statement (.refclkLoss) :=
  plain rfl rfl
theorem refclkLock : Statement (.refclkLock) :=
  plain rfl rfl
theorem chipResetRelease : Statement (.chipResetRelease) :=
  plain rfl rfl
theorem strapSample (pins : StrapPins) : Statement (.strapSample pins) :=
  plain rfl rfl
theorem rootSecretComplete (pattern : Bytes) (flashReads : Bool) : Statement (.rootSecretComplete pattern flashReads) :=
  plain rfl rfl
theorem pcieStageComplete (linkA : PcieLink) (linkB : PcieLink) : Statement (.pcieStageComplete linkA linkB) :=
  plain rfl rfl
theorem hbmTrainingComplete : Statement (.hbmTrainingComplete) :=
  plain rfl rfl
theorem bootFetchStart (hp : HostPort) : Statement (.bootFetchStart hp) :=
  plain rfl rfl
theorem firmwareVerified (fetched : Bytes) : Statement (.firmwareVerified fetched) :=
  plain rfl rfl
theorem bootAttemptTimeout : Statement (.bootAttemptTimeout) :=
  plain rfl rfl
theorem configVerified : Statement (.configVerified) :=
  plain rfl rfl
theorem easelReady (palettePass : BitVec 32) : Statement (.easelReady palettePass) :=
  plain rfl rfl
theorem engineCalibrationComplete (engine : Nat) (cal : EngineCal) : Statement (.engineCalibrationComplete engine cal) :=
  plain rfl rfl
theorem perstAssert (hp : HostPort) : Statement (.perstAssert hp) :=
  plain rfl rfl
theorem functionLevelReset (hp : HostPort) : Statement (.functionLevelReset hp) :=
  plain rfl rfl
theorem busMasterEnableSet (hp : HostPort) : Statement (.busMasterEnableSet hp) :=
  plain rfl rfl
theorem thermTrip (sensor : Nat) (tj : Int) : Statement (.thermTrip sensor tj) :=
  plain rfl rfl
theorem easelWatchdogExpire (copyBad : Bool) : Statement (.easelWatchdogExpire copyBad) :=
  plain rfl rfl
theorem easelMemoryUncorrectable (stack : Nat) (row : Nat) (word : Nat) (error : WordError) (copyBad : Bool) : Statement (.easelMemoryUncorrectable stack row word error copyBad) :=
  plain rfl rfl
theorem easelRestartComplete : Statement (.easelRestartComplete) :=
  plain rfl rfl
theorem identify (src : CmdSrc) : Statement (.identify src) :=
  ofSrc rfl rfl id
theorem getStatus (src : CmdSrc) : Statement (.getStatus src) :=
  ofSrc rfl rfl id
theorem sketchLoadBegin (src : CmdSrc) : Statement (.sketchLoadBegin src) :=
  ofSrc rfl rfl id
theorem sketchLoadData (src : CmdSrc) : Statement (.sketchLoadData src) :=
  ofSrc rfl rfl id
theorem sketchCommit (src : CmdSrc) : Statement (.sketchCommit src) :=
  ofSrc rfl rfl id
theorem commitChecksComplete : Statement (.commitChecksComplete) :=
  plain rfl rfl
theorem sketchActivate : Statement (.sketchActivate) :=
  plain rfl rfl
theorem planSwitch (src : CmdSrc) : Statement (.planSwitch src) :=
  ofSrc rfl rfl id
theorem planSwitchTakeEffect : Statement (.planSwitchTakeEffect) :=
  plain rfl rfl
theorem portEnable (src : CmdSrc) : Statement (.portEnable src) :=
  ofSrc rfl rfl id
theorem portDisable (src : CmdSrc) : Statement (.portDisable src) :=
  ofSrc rfl rfl id
theorem portWash (src : CmdSrc) : Statement (.portWash src) :=
  ofSrc rfl rfl id
theorem washPortDrained (port : Nat) : Statement (.washPortDrained port) :=
  ofPort rfl rfl id
theorem washTimeout (src : CmdSrc) : Statement (.washTimeout src) :=
  ofSrc rfl rfl id
theorem portRetrain (src : CmdSrc) : Statement (.portRetrain src) :=
  ofSrc rfl rfl id
theorem portRetrainQuiesceEnd (port : Nat) : Statement (.portRetrainQuiesceEnd port) :=
  ofPort rfl rfl id
theorem portInfo (src : CmdSrc) : Statement (.portInfo src) :=
  ofSrc rfl rfl id
theorem groupDefine (src : CmdSrc) : Statement (.groupDefine src) :=
  ofSrc rfl rfl id
theorem groupDelete (src : CmdSrc) : Statement (.groupDelete src) :=
  ofSrc rfl rfl id
theorem portsetDefine (src : CmdSrc) : Statement (.portsetDefine src) :=
  ofSrc rfl rfl id
theorem routeWrite (src : CmdSrc) : Statement (.routeWrite src) :=
  ofSrc rfl rfl id
theorem writeSegment (src : CmdSrc) : Statement (.writeSegment src) :=
  ofSrc rfl rfl id
theorem writeStream (src : CmdSrc) : Statement (.writeStream src) :=
  ofSrc rfl rfl id
theorem sealSegment (src : CmdSrc) : Statement (.sealSegment src) :=
  ofSrc rfl rfl id
theorem sealCheckComplete (segment : Nat) (reads : List (Nat × WordError)) : Statement (.sealCheckComplete segment reads) :=
  plain rfl rfl
theorem reopenSegment (src : CmdSrc) : Statement (.reopenSegment src) :=
  ofSrc rfl rfl id
theorem rewindStream (src : CmdSrc) : Statement (.rewindStream src) :=
  ofSrc rfl rfl id
theorem writeList (src : CmdSrc) : Statement (.writeList src) :=
  ofSrc rfl rfl id
theorem syncArm (src : CmdSrc) : Statement (.syncArm src) :=
  ofSrc rfl rfl id
theorem policySet (src : CmdSrc) : Statement (.policySet src) :=
  ofSrc rfl rfl id
theorem powerModeSet (src : CmdSrc) : Statement (.powerModeSet src) :=
  ofSrc rfl rfl id
theorem slopeLimitSet (src : CmdSrc) : Statement (.slopeLimitSet src) :=
  ofSrc rfl rfl id
theorem flagsReadClear (src : CmdSrc) : Statement (.flagsReadClear src) :=
  ofSrc rfl rfl id
theorem countersRead (src : CmdSrc) : Statement (.countersRead src) :=
  ofSrc rfl rfl id
theorem twinConfig (src : CmdSrc) : Statement (.twinConfig src) :=
  ofSrc rfl rfl id
theorem controlHandover (src : CmdSrc) : Statement (.controlHandover src) :=
  ofSrc rfl rfl id
theorem handoverAckTimeout : Statement (.handoverAckTimeout) :=
  plain rfl rfl
theorem fwUpdateBegin (src : CmdSrc) : Statement (.fwUpdateBegin src) :=
  ofSrc rfl rfl id
theorem fwUpdateData (src : CmdSrc) : Statement (.fwUpdateData src) :=
  ofSrc rfl rfl id
theorem fwUpdateCommit (src : CmdSrc) : Statement (.fwUpdateCommit src) :=
  ofSrc rfl rfl id
theorem fwUpdateWriteComplete : Statement (.fwUpdateWriteComplete) :=
  plain rfl rfl
theorem attest (src : CmdSrc) : Statement (.attest src) :=
  ofSrc rfl rfl id
theorem selftestRun (src : CmdSrc) : Statement (.selftestRun src) :=
  ofSrc rfl rfl id
theorem chipResetChip (src : CmdSrc) : Statement (.chipResetChip src) :=
  ofSrc rfl rfl id
theorem chipResetEasel (src : CmdSrc) : Statement (.chipResetEasel src) :=
  ofSrc rfl rfl id
theorem chipResetDelayEnd : Statement (.chipResetDelayEnd) :=
  plain rfl rfl
theorem doorbellWrite (hp : HostPort) (r : Nat) (value : W32) : Statement (.doorbellWrite hp r value) :=
  ofRing rfl rfl (fun h => of_decide_eq_true h)
theorem ringEntryFetch (hp : HostPort) (r : Nat) (fetch : RingFetch) : Statement (.ringEntryFetch hp r fetch) :=
  ofRing rfl rfl (fun h => of_decide_eq_true h)
theorem completionPost (hp : HostPort) (r : Nat) (error : Bool) : Statement (.completionPost hp r error) :=
  ofRing rfl rfl (fun h => of_decide_eq_true h)
theorem cqHeadWrite (hp : HostPort) (r : Nat) (value : W32) : Statement (.cqHeadWrite hp r value) :=
  ofRing rfl rfl (fun h => of_decide_eq_true h)
theorem ringEnableWrite (hp : HostPort) (r : Nat) (value : W32) : Statement (.ringEnableWrite hp r value) :=
  ofRing rfl rfl (fun h => of_decide_eq_true h)
theorem ringReset (hp : HostPort) (r : Nat) : Statement (.ringReset hp r) :=
  ofRing rfl rfl (fun h => of_decide_eq_true h)
theorem eventRingEnableWrite (hp : HostPort) (value : W32) : Statement (.eventRingEnableWrite hp value) :=
  plain rfl rfl
theorem eventRingReset (hp : HostPort) : Statement (.eventRingReset hp) :=
  plain rfl rfl
theorem erHeadWrite (hp : HostPort) (value : W32) : Statement (.erHeadWrite hp value) :=
  plain rfl rfl
theorem intCauseClear (hp : HostPort) (value : W32) (raised : BitVec 10) : Statement (.intCauseClear hp value raised) :=
  plain rfl rfl
theorem intMaskWrite (hp : HostPort) (value : W32) : Statement (.intMaskWrite hp value) :=
  plain rfl rfl
theorem interruptCoalesceExpire (hp : HostPort) : Statement (.interruptCoalesceExpire hp) :=
  plain rfl rfl
theorem bar0BadAccess (hp : HostPort) (offset : Nat) (bytes : Nat) (write : Bool) : Statement (.bar0BadAccess hp offset bytes write) :=
  plain rfl rfl
theorem registerWrite (hp : HostPort) (write : RegWrite) : Statement (.registerWrite hp write) :=
  plain rfl rfl
theorem laserMonitorSample (input : Nat) (lambdaA : Int) (lambdaB : Int) : Statement (.laserMonitorSample input lambdaA lambdaB) :=
  plain rfl rfl
theorem attenuatorRelease (input : Nat) : Statement (.attenuatorRelease input) :=
  plain rfl rfl
theorem modulatorLockUpdate (port : Nat) (lane : Nat) (aim : Int) : Statement (.modulatorLockUpdate port lane aim) :=
  ofPort rfl rfl (fun h => (Bool.and_eq_true_iff.mp h).1)
theorem dropLockUpdate (port : Nat) (lane : Nat) (aim : Int) : Statement (.dropLockUpdate port lane aim) :=
  ofPort rfl rfl (fun h => (Bool.and_eq_true_iff.mp h).1)
theorem ringLockLoss (port : Nat) (lane : Nat) (run : MonitorRun) : Statement (.ringLockLoss port lane run) :=
  ofPort rfl rfl (fun h => (Bool.and_eq_true_iff.mp h).1)
theorem transitionBlockEnd (port : Nat) (lane : Nat) (block : BlockStats) : Statement (.transitionBlockEnd port lane block) :=
  ofPort rfl rfl (fun h => (Bool.and_eq_true_iff.mp h).1)
theorem lossOfSignalAssert (port : Nat) (lane : Nat) : Statement (.lossOfSignalAssert port lane) :=
  ofPort rfl rfl (fun h => (Bool.and_eq_true_iff.mp h).1)
theorem lossOfSignalDeassert (port : Nat) (lane : Nat) : Statement (.lossOfSignalDeassert port lane) :=
  ofPort rfl rfl (fun h => (Bool.and_eq_true_iff.mp h).1)
theorem lossOfLockAssert (port : Nat) (lane : Nat) : Statement (.lossOfLockAssert port lane) :=
  ofPort rfl rfl (fun h => (Bool.and_eq_true_iff.mp h).1)
theorem lossOfLockDeassert (port : Nat) (lane : Nat) : Statement (.lossOfLockDeassert port lane) :=
  ofPort rfl rfl (fun h => (Bool.and_eq_true_iff.mp h).1)
theorem fomWindowEnd (port : Nat) (stats : List FomStats) : Statement (.fomWindowEnd port stats) :=
  ofPort rfl rfl id
theorem pairCrossed (port : Nat) (pairs : BitVec 4) : Statement (.pairCrossed port pairs) :=
  ofPort rfl rfl id
theorem miswiredProbeStart (port : Nat) : Statement (.miswiredProbeStart port) :=
  ofPort rfl rfl id
theorem probeStart (port : Nat) : Statement (.probeStart port) :=
  ofPort rfl rfl id
theorem probeExpire (port : Nat) : Statement (.probeExpire port) :=
  ofPort rfl rfl id
theorem attemptExpire (port : Nat) : Statement (.attemptExpire port) :=
  ofPort rfl rfl id
theorem identSetReceived (port : Nat) (lane : Nat) (set : PrimerSet) : Statement (.identSetReceived port lane set) :=
  ofPort rfl rfl (fun h => (Bool.and_eq_true_iff.mp h).1)
theorem timeSetReceived (port : Nat) (lane : Nat) (set : PrimerSet) (arrival : Nat) : Statement (.timeSetReceived port lane set arrival) :=
  ofPort rfl rfl (fun h => (Bool.and_eq_true_iff.mp h).1)
theorem stepSetReceived (port : Nat) (lane : Nat) (set : PrimerSet) : Statement (.stepSetReceived port lane set) :=
  ofPort rfl rfl (fun h => (Bool.and_eq_true_iff.mp h).1)
theorem rateStep (port : Nat) : Statement (.rateStep port) :=
  ofPort rfl rfl id
theorem acquisitionEnd (port : Nat) : Statement (.acquisitionEnd port) :=
  ofPort rfl rfl id
theorem selftestWindowEnd (port : Nat) : Statement (.selftestWindowEnd port) :=
  ofPort rfl rfl id
theorem reportFrameReceived (port : Nat) (lane : Nat) (frame : List Level) (check : List LaneCheck) : Statement (.reportFrameReceived port lane frame check) :=
  ofPort rfl rfl (fun h => (Bool.and_eq_true_iff.mp h).1)
theorem reportPhaseEnd (port : Nat) : Statement (.reportPhaseEnd port) :=
  ofPort rfl rfl id
theorem reportTimeout (port : Nat) : Statement (.reportTimeout port) :=
  ofPort rfl rfl id
theorem slotStreamFramed (port : Nat) (skews : List Int) : Statement (.slotStreamFramed port skews) :=
  ofPort rfl rfl id
theorem resumeTimeout (port : Nat) : Statement (.resumeTimeout port) :=
  ofPort rfl rfl id
theorem announceReceived (port : Nat) (lane : Nat) (frame : List Level) : Statement (.announceReceived port lane frame) :=
  ofPort rfl rfl (fun h => (Bool.and_eq_true_iff.mp h).1)
theorem retestSelftestStart (port : Nat) : Statement (.retestSelftestStart port) :=
  ofPort rfl rfl id
theorem slotBoundary (port : Nat) (reads : List (Nat × CellRead)) (replay : WordError) : Statement (.slotBoundary port reads replay) :=
  ofPort rfl rfl id
theorem slotReceived (port : Nat) (lanes : List (List Level)) (arrival : Nat) : Statement (.slotReceived port lanes arrival) :=
  ofPort rfl rfl id
theorem alignmentMarkerReceived (port : Nat) (lane : Nat) (levels : List Level) (offset : Int) : Statement (.alignmentMarkerReceived port lane levels offset) :=
  ofPort rfl rfl (fun h => (Bool.and_eq_true_iff.mp h).1)
theorem ackTimeout (port : Nat) (stream : Stream) : Statement (.ackTimeout port stream) :=
  ofPort rfl rfl id
theorem retryRequestRepeat (port : Nat) (stream : Stream) : Statement (.retryRequestRepeat port stream) :=
  ofPort rfl rfl id
theorem creditRelease (packet : Nat) : Statement (.creditRelease packet) :=
  plain rfl rfl
theorem graceExpire (port : Nat) : Statement (.graceExpire port) :=
  ofPort rfl rfl id
theorem lookup (port : Nat) (cell : WordError) (copy : WordError) : Statement (.lookup port cell copy) :=
  ofPort rfl rfl id
theorem escapeTimerExpire (packet : Nat) : Statement (.escapeTimerExpire packet) :=
  plain rfl rfl
theorem queueDepthSample : Statement (.queueDepthSample) :=
  plain rfl rfl
theorem routeWeightUpdate : Statement (.routeWeightUpdate) :=
  plain rfl rfl
theorem holdTimeout (flow : Flow) : Statement (.holdTimeout flow) :=
  plain rfl rfl
theorem holdOwedEnd (flow : Flow) : Statement (.holdOwedEnd flow) :=
  plain rfl rfl
theorem holdEntryIdle (flow : Flow) : Statement (.holdEntryIdle flow) :=
  plain rfl rfl
theorem stallVoidExpire (port : Nat) (vc : Nat) : Statement (.stallVoidExpire port vc) :=
  ofPort rfl rfl (fun h => (Bool.and_eq_true_iff.mp h).1)
theorem originatedPacketWrite (i : Nat) : Statement (.originatedPacketWrite i) :=
  plain rfl rfl
theorem terminatedDiscard (packet : Nat) : Statement (.terminatedDiscard packet) :=
  plain rfl rfl
theorem segmentPut (packet : Nat) : Statement (.segmentPut packet) :=
  plain rfl rfl
theorem segmentPutVisible (packet : Nat) : Statement (.segmentPutVisible packet) :=
  plain rfl rfl
theorem streamSubscribe (packet : Nat) : Statement (.streamSubscribe packet) :=
  plain rfl rfl
theorem streamCancel (packet : Nat) : Statement (.streamCancel packet) :=
  plain rfl rfl
theorem syncArrive (packet : Nat) : Statement (.syncArrive packet) :=
  plain rfl rfl
theorem telemetryGet (packet : Nat) : Statement (.telemetryGet packet) :=
  plain rfl rfl
theorem cmd (packet : Nat) : Statement (.cmd packet) :=
  plain rfl rfl
theorem reduceContrib (packet : Nat) (ecc : CanvasEcc) : Statement (.reduceContrib packet ecc) :=
  plain rfl rfl
theorem combineContrib (packet : Nat) (ecc : CanvasEcc) : Statement (.combineContrib packet ecc) :=
  plain rfl rfl
theorem reduceResultReceived (packet : Nat) : Statement (.reduceResultReceived packet) :=
  plain rfl rfl
theorem deferredPartAccept (packet : Nat) (ecc : CanvasEcc) : Statement (.deferredPartAccept packet ecc) :=
  plain rfl rfl
theorem schedSlotOpenResume (packet : Nat) (ecc : CanvasEcc) : Statement (.schedSlotOpenResume packet ecc) :=
  plain rfl rfl
theorem openingRateResume (packet : Nat) (ecc : CanvasEcc) : Statement (.openingRateResume packet ecc) :=
  plain rfl rfl
theorem opTimeout (key : SlotKey) : Statement (.opTimeout key) :=
  plain rfl rfl
theorem upTimeout (key : SlotKey) : Statement (.upTimeout key) :=
  plain rfl rfl
theorem doneCacheExpire (key : SlotKey) : Statement (.doneCacheExpire key) :=
  plain rfl rfl
theorem refusalCacheExpire (key : SlotKey) : Statement (.refusalCacheExpire key) :=
  plain rfl rfl
theorem tickStart : Statement (.tickStart) :=
  plain rfl rfl
theorem tileReadStart (tile : Nat) : Statement (.tileReadStart tile) :=
  plain rfl rfl
theorem tileReadComplete (tile : Nat) (hostBytes : Bytes) (result : ReadResult) : Statement (.tileReadComplete tile hostBytes result) :=
  plain rfl rfl
theorem tickInEdge (high : Nat) : Statement (.tickInEdge high) :=
  plain rfl rfl
theorem tickInMissing : Statement (.tickInMissing) :=
  plain rfl rfl
theorem tickPortLost : Statement (.tickPortLost) :=
  plain rfl rfl
theorem coolingLoopUpdate (outlet : TempReading) (inlet : TempReading) (air : List TempReading) : Statement (.coolingLoopUpdate outlet inlet air) :=
  plain rfl rfl
theorem pumpAlarm (n : Nat) (tach : PulseTrain) : Statement (.pumpAlarm n tach) :=
  plain rfl rfl
theorem flowSample (flow0 : Reading) (flow1 : Reading) : Statement (.flowSample flow0 flow1) :=
  plain rfl rfl
theorem coolantHot (outlet : Int) : Statement (.coolantHot outlet) :=
  plain rfl rfl
theorem fanFault (n : Nat) (tach : PulseTrain) : Statement (.fanFault n tach) :=
  plain rfl rfl
theorem coolingAlarmEnd (alarm : Alarm) (tach : PulseTrain) : Statement (.coolingAlarmEnd alarm tach) :=
  plain rfl rfl
theorem twinLaneTrained (lane : Nat) (groups : List CodeGroup) (skew : Int) : Statement (.twinLaneTrained lane groups skew) :=
  plain rfl rfl
theorem twinLinkDown (lane : Nat) : Statement (.twinLinkDown lane) :=
  plain rfl rfl
theorem heartbeatSend (pump0 : TachReading) (pump1 : TachReading) (flow0 : Reading) (flow1 : Reading) : Statement (.heartbeatSend pump0 pump1 flow0 flow1) :=
  plain rfl rfl
theorem heartbeatReceived (frame : List (List CodeGroup)) : Statement (.heartbeatReceived frame) :=
  plain rfl rfl
theorem twinFrameCrcFail (frame : List (List CodeGroup)) : Statement (.twinFrameCrcFail frame) :=
  plain rfl rfl
theorem heartbeatLost : Statement (.heartbeatLost) :=
  plain rfl rfl
theorem stateDataReceived (frame : List (List CodeGroup)) : Statement (.stateDataReceived frame) :=
  plain rfl rfl
theorem stateEndReceived (frame : List (List CodeGroup)) : Statement (.stateEndReceived frame) :=
  plain rfl rfl
theorem stateAckReceived (frame : List (List CodeGroup)) : Statement (.stateAckReceived frame) :=
  plain rfl rfl
theorem stateRequestReceived (frame : List (List CodeGroup)) : Statement (.stateRequestReceived frame) :=
  plain rfl rfl
theorem releaseReceived (frame : List (List CodeGroup)) : Statement (.releaseReceived frame) :=
  plain rfl rfl
theorem controlCycleEnd : Statement (.controlCycleEnd) :=
  plain rfl rfl
theorem snapshotInterval : Statement (.snapshotInterval) :=
  plain rfl rfl
theorem claim : Statement (.claim) :=
  plain rfl rfl
theorem claimListenEnd : Statement (.claimListenEnd) :=
  plain rfl rfl
theorem claimingLineLow : Statement (.claimingLineLow) :=
  plain rfl rfl
theorem lockstepMismatch : Statement (.lockstepMismatch) :=
  plain rfl rfl
theorem controlWatchdogExpire : Statement (.controlWatchdogExpire) :=
  plain rfl rfl
theorem controlMemoryFault : Statement (.controlMemoryFault) :=
  plain rfl rfl
theorem plausibilityCheck (pump0 : TachReading) (pump1 : TachReading) (flow0 : Reading) (flow1 : Reading) : Statement (.plausibilityCheck pump0 pump1 flow0 flow1) :=
  plain rfl rfl
theorem takeover : Statement (.takeover) :=
  plain rfl rfl
theorem ownLineFault : Statement (.ownLineFault) :=
  plain rfl rfl
theorem coreRestartComplete : Statement (.coreRestartComplete) :=
  plain rfl rfl
theorem i3cBusTake (bus : Nat) (answered : List (BitVec 7)) : Statement (.i3cBusTake bus answered) :=
  plain rfl rfl
theorem rmHeartbeat (frame : MgmtFrame) : Statement (.rmHeartbeat frame) :=
  plain rfl rfl
theorem rmPolicy (frame : MgmtFrame) : Statement (.rmPolicy frame) :=
  plain rfl rfl
theorem devHeartbeat : Statement (.devHeartbeat) :=
  plain rfl rfl
theorem devTelemetry : Statement (.devTelemetry) :=
  plain rfl rfl
theorem rmLost : Statement (.rmLost) :=
  plain rfl rfl
theorem pwrAlertAssert : Statement (.pwrAlertAssert) :=
  plain rfl rfl
theorem pwrAlertRelease : Statement (.pwrAlertRelease) :=
  plain rfl rfl
theorem alertHoldEnd : Statement (.alertHoldEnd) :=
  plain rfl rfl
theorem powerGovernorUpdate (power : Nat) (draw : List Nat) : Statement (.powerGovernorUpdate power draw) :=
  plain rfl rfl
theorem slopeGovernorUpdate (draw : List Nat) : Statement (.slopeGovernorUpdate draw) :=
  plain rfl rfl
theorem thermalSample (sensors : List Int) : Statement (.thermalSample sensors) :=
  plain rfl rfl
theorem railCurrentSample (deciamps : List Nat) : Statement (.railCurrentSample deciamps) :=
  plain rfl rfl
theorem overcurrentLift : Statement (.overcurrentLift) :=
  plain rfl rfl
theorem patrolScrub (site : ScrubSite) (word : WordError) : Statement (.patrolScrub site word) :=
  plain rfl rfl
theorem tableRestore (tbl : Nat) (index : Nat) (copyBad : Bool) : Statement (.tableRestore tbl index copyBad) :=
  plain rfl rfl
theorem selftestStart (res : TestRes) : Statement (.selftestStart res) :=
  plain rfl rfl
theorem laneTestComplete (port : Nat) (lane : Nat) : Statement (.laneTestComplete port lane) :=
  ofPort rfl rfl (fun h => (Bool.and_eq_true_iff.mp h).1)
theorem rowCopyComplete (res : TestRes) : Statement (.rowCopyComplete res) :=
  plain rfl rfl
theorem rowTestComplete (res : TestRes) (failing : Nat) (duration : W32) : Statement (.rowTestComplete res failing duration) :=
  plain rfl rfl
theorem paletteTestComplete (palette : Nat) (crc : W32) (failing : Nat) (duration : W32) : Statement (.paletteTestComplete palette crc failing duration) :=
  plain rfl rfl
theorem jtagInstructionUpdate (instr : JtagInstr) (scan : Option JtagScan) : Statement (.jtagInstructionUpdate instr scan) :=
  plain rfl rfl
theorem jtagTestLogicReset : Statement (.jtagTestLogicReset) :=
  plain rfl rfl
theorem replyCacheExpire (src : W16) (ttag : W16) (crc : W32) : Statement (.replyCacheExpire src ttag crc) :=
  plain rfl rfl
theorem perstRelease (hp : HostPort) (link : PcieLink) : Statement (.perstRelease hp link) :=
  plain rfl rfl
theorem imageActivated : Statement (.imageActivated) :=
  plain rfl rfl

end FormLaw

end Sys2Proof.Laws
end

