-- ==== Sys2Proof/Tests/Slice0.lean ====
section
/-! SUPPORT. Tests: the spec's worked examples, the refusal of ill-formed commands, and for every obligation with
hypotheses states and operands that meet them, clause by clause. -/

set_option Elab.async false

namespace Sys2Proof.Tests

open Sys2Proof.Machine

/-! ### Small states -/

def cfg : ConfigContents :=
  { sketchKeys := [], policy := [], subVendor := 1, subSystem := 2, rmKey := [1], rmAddress := [], rmPort := 1, netAddress := [], netPort := 1, budget := 980,
    govFloor := 16, ballastMax := 150, flowPulses := 1, txSwing := 1, pumpDuty := 600, fanDuty := 500 }

/-- A running device: 100 s after reset, host port A up, the active controller of its tray. -/
def rd : State :=
  { now := 100000000000
    boot := { strapsValid := true, rootDone := true, secret := some 7, chipTag := 5, pcieUp := true, hbmTrained := true,
              fwAccepted := true, cfgDone := true, easelReady := true, reached := true, role := 0, config := some cfg }
    host := { fnA := { linkUp := true, perst := false, barSet := true, mse := true, bme := true, erEnable := true, erSize := 4 } }
    tray := { own := .active, outputs := true, drives := true, lineLow := true, pumpDuty := 500, fanDuty := 500,
              pumpDrive := [500, 500] } }

/-- A command's bytes (R338). -/
def cmdB (op : Nat) (p : Bytes) : Bytes :=
  leBytes 2 op ++ leBytes 2 0x77 ++ leBytes 2 p.length ++ leBytes 2 0 ++ leBytes 2 0xFFFF ++ zeros 22 ++ p

/-- The last ring of port A. -/
def ra : CmdSrc := .ring .a 3

def ring (x : Ring) (s : State) : State := updRing .a 3 (fun _ => x) s

def rcmd (b : Bytes) : RingCmd := { bytes := b, index := 0, resAddr := 0, resCap := 64, cookie := 9 }

def rcmd4080 (b : Bytes) : RingCmd := { bytes := b, index := 0, resAddr := 0, resCap := 4080, cookie := 0 }

def rg : Ring := { crSize := 4, cqSize := 4, enable := true }

/-- The command waits on that ring. -/
def sent (op : Nat) (p : Bytes) (s : State) : State := ring { rg with cmd := some (rcmd (cmdB op p)) } s

def good : Lane := { los := false, lol := false, rich := true, inUse := true, rxPass := true, fom := 200 }

/-- A running port. -/
def up : Port :=
  { state := .running, admitted := true, verdict := .pass, laneSet := 0xFF, rxPass := 0xFF, calibrated := true, cause := 4
    lanes := List.replicate 8 good }

/-- The last port as given. -/
def port (q : Port) (s : State) : State := updPort 95 (fun _ => q) s

/-- One packet, number 7. -/
def pkt (st : Stored) (s : State) : State := updSwitch (fun w => { w with packets := [(7, st)], nextId := 8 }) s

def hd (op : BitVec 8) (win : BitVec 8) (vc : BitVec 3) (n : Nat) : Header :=
  { opcode := op, window := win, vc := vc, length := w16 n, src := 9, dst := 0xFFFF }

/-- A terminated packet with its payload, padding and trailer (R136, R141). -/
def term (h : Header) (p : Bytes) : Stored :=
  { hdr := h, data := if p = [] then [] else p ++ leBytes 4 (crc32 p).toNat, complete := true, stage := .terminated
    cells := 1, released := 1 }

def imageMem : Memory :=
  mwrite [] 0 (leBytes 4 0x49464759 ++ leBytes 2 1 ++ leBytes 2 1 ++ leBytes 4 4096 ++ zeros 8 ++ leBytes 2 0x9600 ++ zeros 2 ++
    leBytes 4 704)

/-- A firmware image's header (R423) in the upload area, every byte written. -/
def fwLoaded : State :=
  updBoot (fun x => { x with upload := { begun := true, imageLen := 4096, mem := imageMem, covered := [(0, 4096)] } }) rd

/-- An answer in the cache to the command of `kk`. -/
def ce : CachedReply :=
  { src := 9, ttag := 0, crc := crc32 (cmdB 1 []), status := 0, payload := [], expiry := 100000000001 }

def lda : LoadArea := { begun := true, imageLen := 4096 }

/-- A frame of R85 and a primer set of R67 with valid CRCs. -/
def fr (t : Byte) : List Level :=
  let b := leBytes 8 0x3C5A96F00F69A5C3 ++ [t] ++ zeros 19
  bytesToLevels (b ++ leBytes 4 (crc32 (b.drop 8)).toNat)

def pset (t : Byte) (content : Bytes) : PrimerSet :=
  let k := encodeControl false .k28_5
  k :: (encodeRun (disparityAfter false k) ((primerBytes t content).drop 1)).1

def blk (n : Nat) : BlockStats :=
  { levels := [n, 16384, 16384, 16384], changes := 65536, ctleAim := 0, ffeAim := [], dfeAim := 0, slicers := [] }

def chk : LaneCheck :=
  { start := some 1, bits := 2097152, flips := List.range 20, mu := [0, 120, 240, 360], sigma := [10, 10, 10, 10] }

def cal : EngineCal := { tx := [], rx := [], ctle := [], rxPath := [], tickIn := 20 }

/-- A packet that waits in the last port's queue of channel 1. -/
def queued : Stored :=
  { hdr := { opcode := opPut, vc := 1, src := 9, dst := 3 }, vcIn := 1, cells := 1, stage := .queued, complete := true
    copies := [{ port := 95, vc := 1, dst := 3, offset := 0 }], ingress := some 95 }

/-- Destination 3 leaves by port 95. -/
def routed (s : State) : State := updSwitch (fun w => { w with routes := [(3, 95 + 128 + 256 + 95 * 2 ^ 16)] }) s

/-- The device has identity 1 and no packet for it is anything but terminated (R19). -/
def named (s : State) : State := updSketch (fun x => { x with endpoint := 1, epValid := true }) s

def hold : Hold := { flow := ⟨9, 3, 0⟩, timer := some 5 }

def tile : Tile := { stream := 0, number := 0, tick := 0, entry := 0, plan := 0, portSet := 0, segment := 5, address := 0, bytes := 256 }

def slot : Slot := { key := ⟨5, 0, 0⟩, group := ⟨1, [0x2000000]⟩, opDeadline := 5, upDeadline := 5 }

def ts : TickSettings := { ports := [95, 94] }

def rdg : Reading := { value := 80, plausible := true }

def tr : TachReading := { pulses := { span := 1000000000, widths := List.replicate 80 10000 }, plausible := true }

/-- A rack message with its tag (R384). -/
def rack (m : Bytes) : Bytes := m ++ rackTag cfg.rmKey m

def hbB : Bytes := leBytes 2 1 ++ leBytes 2 32 ++ leBytes 4 1 ++ leBytes 4 5 ++ zeros 4

def polB (budget : Nat) : Bytes :=
  leBytes 2 2 ++ leBytes 2 48 ++ leBytes 4 1 ++ leBytes 4 5 ++ zeros 4 ++ leBytes 4 budget ++ leBytes 4 200 ++ leBytes 8 3

theorem leBytes_length (n x : Nat) : (leBytes n x).length = n := by
  induction n generalizing x with
  | zero => rfl
  | succ n ih => simp [leBytes, ih]

theorem rack_length (m : Bytes) : (rack m).length = m.length + 16 := by simp [rack, rackTag, leBytes_length]

theorem rack_tag (m : Bytes) :
    ((rack m).drop ((rack m).length - 16) == rackTag cfg.rmKey ((rack m).take ((rack m).length - 16))) = true := by
  simp [rack, rackTag, leBytes_length]

theorem rack_body (m : Bytes) (h : 16 ≤ m.length) : msgBody (rack m) = m.drop 16 := by
  rw [msgBody, rack_length, rack, List.drop_append_of_le_length h, List.take_append_of_le_length (by simp),
    List.take_of_length_le (by simp)]

theorem rack_hb : rackMsgOk rd cfg.rmKey (rack hbB) = true := by
  unfold rackMsgOk
  rw [rack_tag, rack_length]
  rfl

theorem rack_pol (n : Nat) : rackMsgOk rd cfg.rmKey (rack (polB n)) = true := by
  unfold rackMsgOk
  rw [rack_tag, rack_length]
  rfl

/-- A descriptor of group 16,383: SUM over FP32, one chunk of 1,024 elements (R212). -/
def descB : Bytes :=
  let b := [1, 2, 0, 2, 2, 0] ++ leBytes 2 16383 ++ leBytes 4 1024 ++ leBytes 2 1024 ++ zeros 10 ++ leBytes 4 0x3F800000 ++
    zeros 16 ++ [1] ++ zeros 15
  b ++ leBytes 4 (crc32 b).toNat

/-- GROUP_DEFINE of group 16,383: one endpoint behind the last port, the last descriptor. -/
def groupP : Bytes :=
  leBytes 8 16383 ++ leBytes 8 (1 + 2 ^ 2 + 2 ^ 27 + 32767 * 2 ^ 40 + 2 ^ 55) ++ leBytes 8 (9 + 95 * 2 ^ 16) ++ descB

/-- An unscheduled group of two endpoints under a descriptor of one element, a slot of it, and a part of the first endpoint. -/
def pair : Group := ⟨w64 (1 + 2 * 2 ^ 2 + 2 ^ 10 + 2 ^ 55), [w64 (9 + 95 * 2 ^ 16), w64 (10 + 94 * 2 ^ 16)]⟩

def sumB : Bytes := descB.take 8 ++ leBytes 4 1 ++ descB.drop 12

def sum : Desc := parseDesc sumB

def open1 : Slot :=
  { key := ⟨5, 0, 0⟩, group := pair, desc := some sumB, digest := some sum.digest, frontier := [0], acc := [0x40000000]
    opDeadline := 5, upDeadline := 5 }

def folding (l : List Slot) (s : State) : State :=
  updCanvas (fun c => { c with groups := [(5, pair)], descs := [(0, sumB)], slots := l }) s

def part : Stored :=
  { term { hd opReduceContrib 0x01 3 4 with opA := sum.digest, opB := 5 } (leBytes 4 0x3F800000) with vcIn := 3 }

/-- A part of the contributor at `pos` over that slot's one stripe. -/
def piece (pos : Nat) : Part := { pos := pos, first := 0, stripes := 1, fmt := 2, values := [0x3F800000] }

/-- The pool of unscheduled blocks is empty, and parking in the buffer is bounded by `n`. -/
def cramped (n : Nat) (s : State) : State :=
  { updCanvas (fun c => { c with schedBlocks := 16384 }) s with policy := { s.policy with parkCells := n } }

/-- A twin frame as it arrives on four lanes (R366). -/
def twf (typ : Nat) (p : Bytes) : List (List CodeGroup) :=
  (frameLanes (List.replicate 4 false) (twinFrame typ 7 p)).map (·.1)

/-- The twin link is up. -/
def linked (f : Twin → Twin) (s : State) : State :=
  updTwin (fun x => f { x with up := true, lanes := [(0, 0), (1, 1), (2, 2), (3, 3)] }) s

/-- The image of a control epoch, 44 bytes that name epoch 5. -/
def imageB : Bytes := zeros 8 ++ leBytes 4 5 ++ zeros 32

/-- A sketch image's header (R293): 3,536 bytes, one section, for the device of chip tag `tag`. -/
def headB (format tag : Nat) : Bytes :=
  leBytes 4 0x4B534759 ++ leBytes 2 format ++ leBytes 2 128 ++ leBytes 4 3536 ++ leBytes 4 1 ++ leBytes 8 1 ++
    leBytes 2 0x9600 ++ leBytes 2 256 ++ leBytes 4 tag ++ leBytes 4 128 ++ leBytes 4 144 ++ zeros 88

/-- The section table of sections laid end to end from `o`, and an image of those sections for any device (R293). -/
def secTable : Nat → List (Nat × Bytes) → Bytes
  | _, [] => []
  | o, (t, b) :: l => leBytes 4 t ++ leBytes 4 o ++ leBytes 4 b.length ++ zeros 4 ++ secTable (o + b.length) l

def sketchB (l : List (Nat × Bytes)) : Bytes :=
  let o := 128 + 16 * l.length
  let sig := o + (l.flatMap (·.2)).length
  leBytes 4 0x4B534759 ++ leBytes 2 1 ++ leBytes 2 128 ++ leBytes 4 (sig + 3392) ++ leBytes 4 l.length ++ leBytes 8 1 ++
    leBytes 2 0x9600 ++ leBytes 2 256 ++ zeros 4 ++ leBytes 4 128 ++ leBytes 4 sig ++ zeros 88 ++ secTable o l ++ l.flatMap (·.2)

/-- That image is loaded. -/
def loading (l : List (Nat × Bytes)) (s : State) : State :=
  updSketch (fun x => { x with load := { begun := true, imageLen := leAt (sketchB l) 8 4, sketchId := 1 } }) s

/-- Lanes of a slot with the type of a D-block: codewords of zeros, and two words beyond the code's reach
(`farWord` has the zeros of the code's generator but the last). -/
def zeroLanes : List (List Level) := [symbolsToLevels [0x1B4], symbolsToLevels [0x2C7]]

def zeroBytes : Bytes :=
  unpackBytes 1285 (scramble (BitVec.allOnes 31) ((interleave (List.replicate 544 0) (List.replicate 544 0)).take 1028)).2

def farWord : List Sym :=
  [0x1, 0x11f, 0x201, 0x290, 0xc5, 0x375, 0x32f, 0x3f3, 0x8d, 0xd3, 0x11a, 0x1c3, 0x18a, 0x2e4, 0x177,
   0x183, 0x12d, 0x373, 0xb, 0x32c, 0x39f, 0x172, 0x1b5, 0x2, 0x3c1, 0x233, 0x266, 0x234, 0x3ad, 0x1d0]

def badLanes : List (List Level) :=
  (List.range 8).map (fun j =>
    symbolsToLevels (laneSymbols 8 0 j (typeD ++ List.replicate 1028 0 ++ interleave farWord farWord)))

/-! ### Ill-formed commands: each check refuses a unit that the device does not have -/

theorem test_wf_port : exec (.probeStart 96) rd = .refused .noSuchUnit ∧ (Instr.probeStart 95).wf = true := ⟨rfl, rfl⟩
theorem test_wf_lane : exec (.ringLockLoss 0 8 ⟨4000, [900]⟩) rd = .refused .noSuchUnit ∧ (Instr.ringLockLoss 95 7 ⟨4000, [900]⟩).wf = true := ⟨rfl, rfl⟩
theorem test_wf_engine : exec (.engineCalibrationComplete 12 cal) rd = .refused .noSuchUnit := rfl
theorem test_wf_laser : exec (.attenuatorRelease 48) rd = .refused .noSuchUnit := rfl
theorem test_wf_source : exec (.identify (.ring .b 4)) rd = .refused .noSuchUnit := rfl
theorem test_wf_ring : exec (.doorbellWrite .a 4 0) rd = .refused .noSuchUnit := rfl
theorem test_wf_vc : exec (.stallVoidExpire 0 8) rd = .refused .noSuchUnit := rfl
theorem test_wf_pump : exec (.pumpAlarm 2 ⟨1, []⟩) rd = .refused .noSuchUnit := rfl
theorem test_wf_fan : exec (.fanFault 8 ⟨1, []⟩) rd = .refused .noSuchUnit := rfl
theorem test_wf_alarm : exec (.coolingAlarmEnd (.fan 8) ⟨1, []⟩) rd = .refused .noSuchUnit := rfl
theorem test_wf_twin_lane : exec (.twinLinkDown 4) rd = .refused .noSuchUnit := rfl
theorem test_wf_bus : exec (.i3cBusTake 4 []) rd = .refused .noSuchUnit := rfl
theorem test_wf_palette : exec (.paletteTestComplete 32 0 0 0) rd = .refused .noSuchUnit := rfl
theorem test_wf_sram_row : exec (.selftestStart (.sramRow 2048 0)) rd = .refused .noSuchUnit := rfl
theorem test_wf_hbm_row : exec (.rowCopyComplete (.hbmRow 0 67108864)) rd = .refused .noSuchUnit := rfl
theorem test_wf_scrub : exec (.patrolScrub (.retry 96 .d 0) {}) rd = .refused .noSuchUnit := rfl
theorem test_wf_tick_delay : exec (.engineCalibrationComplete 11 { cal with tickIn := 51 }) rd = .refused .noSuchUnit := rfl
theorem test_wf_easel_row : exec (.easelMemoryUncorrectable 0 1048576 0 {} false) rd = .refused .noSuchUnit := rfl

/-! ### The spec's worked examples -/

/-- A reduction contribution (05): W0, W4, W6 and the header check of R138. -/
def contribution : Header :=
  { gen := 2, vc := 3, opcode := 0x10, length := 0x1000, dst := 0xFFFF, src := 0x0040, ttag := 7, offset := 5, window := 1,
    opA := 0x5D3E19A7, opB := 0x000A8123 }

theorem test_header_words :
    headerWord contribution 0 = 0x1000100E ∧ headerWord contribution 1 = 0x0040FFFF ∧
      headerWord contribution 4 = 0x00010000 ∧ headerCheck contribution = 0x4DAB := by decide +kernel

/-- The last PUT of a message (05): its words; its check after bytes 27 and 28 (the text's value after the last byte differs from
R138's own computation, assumption log 15). -/
def lastPut : Header :=
  { gen := 2, vc := 1, opcode := 0x01, length := 0x1000, dst := 0x0347, src := 0x0012, ttag := 0x01A0, ftag := 5,
    offset := 0x20000000, adpt := true, last := true, ackReq := true, opA := 0x3000 }

theorem test_put_words :
    headerWord lastPut 0 = 0x10000106 ∧ headerWord lastPut 2 = 0x000501A0 ∧ headerWord lastPut 4 = 0x26000000 ∧
      crc16 ((headerBytes lastPut).take 28) = 0xCF8F ∧
      crc16 ((headerBytes lastPut).take 29) = 0xA7A3 := by decide +kernel

theorem test_header_reads_back : parseHeader (headerBytes contribution) = contribution := by decide +kernel

/-- λA lost (02): the usable set 0xAA runs at four lanes; with only lanes 0 and 7 no set is usable. -/
theorem test_lane_sets : chooseSet 0xAA 2 true true = some 0xAA ∧ chooseSet 0x81 2 true true = none := by decide

/-- Incast (06): the thresholds at F = 466,667 and F = 280,000. -/
theorem test_incast : scaleFloor 1 466667 = 933334 ∧ scaleFloor (-4) 280000 = 17500 := by decide

def e4 (sat rtz : Bool) : VarnishSet :=
  { accFmt := 2, outFmt := 5, rtz := rtz, sat := sat, scale := 0x3F800000, biasMode := 0, clip := none }

/-- E4M3 at the top of its range (08). -/
theorem test_e4m3 :
    varnish (e4 false false) 0 0x43980000 = (flagNX, 0x7A) ∧ varnish (e4 false true) 0 0x43980000 = (flagNX, 0x79) ∧
      varnish (e4 false false) 0 0x43E80000 = (flagOF ||| flagNX, 0x7F) ∧
      varnish (e4 true false) 0 0x43E80000 = (flagOF ||| flagNX, 0x7E) ∧
      varnish (e4 false true) 0 0x43E80000 = (flagNX, 0x7E) ∧
      varnish (e4 false false) 0 0xC3FA0000 = (flagOF ||| flagNX, 0x7F) ∧
      varnish (e4 true false) 0 0x7F800000 = (flagOF ||| flagNX, 0x7E) := by decide +kernel

def e5 : VarnishSet :=
  { accFmt := 2, outFmt := 6, rtz := false, sat := false, scale := 0x3E000000, biasMode := 1
    clip := some (0xC0000000, 0x3E4CCCCD) }

/-- Scale, bias and clip into E5M2 (08). -/
theorem test_e5m2 :
    varnish e5 0xBF800000 0x41240000 = (flagNX, 0x32) ∧ varnish e5 0xBF800000 0x41000000 = (0, 0x00) ∧
      varnish e5 0xBF800000 0x41000040 = (flagUF ||| flagNX, 0x00) ∧
      varnish e5 0xBF800000 0xC2C80000 = (flagNX, 0xC0) := by decide +kernel

def dot : FoldSet := { op := opCombine, accFmt := 2, mode := 0, sat := false }

/-- A dot product with an overflowing product and a NaN (08). -/
theorem test_combine :
    (foldElem dot true 2 true 0 3 0x4049 (some 0x3F333333)).2 = 0x400CBD00 ∧
      foldElem dot true 2 false 0x400CBD00 3 0x7F40 (some 0x40800000) = (flagOF ||| flagNX, 0x7F800000) ∧
      foldElem dot true 2 false 0x7F800000 3 0x7FC0 (some 0x3F800000) = (0, 0x7FC00000) ∧
      foldElem dot true 2 false 0x7F800000 3 0x7F81 (some 0x3F800000) = (flagNV, 0x7FC00000) ∧
      resultWord stOk false (flagOF ||| flagNX) 0 = 0x000A0000 := by decide +kernel

def intOut (acc out : Nat) (sat rtz : Bool) : VarnishSet :=
  { accFmt := acc, outFmt := out, rtz := rtz, sat := sat, scale := 0x3F800000, biasMode := 0, clip := none }

/-- Integer results (08). -/
theorem test_integers :
    varnish (intOut 10 8 true false) 0 0xAA = (flagOF, 0x7F) ∧ varnish (intOut 10 8 false false) 0 0xAA = (flagOF, 0xAA) ∧
      varnish (intOut 10 9 false false) 0 0xAA = (0, 0x00AA) ∧
      varnish (intOut 2 8 false false) 0 0x40200000 = (flagNX, 0x02) ∧
      varnish (intOut 2 8 false false) 0 0xC0200000 = (flagNX, 0xFE) ∧
      varnish (intOut 2 8 false false) 0 0x42FF0000 = (flagNV, 0x7F) ∧
      varnish (intOut 2 8 false true) 0 0x42FF0000 = (flagNX, 0x7F) ∧
      varnish (intOut 2 8 false false) 0 0x7FC00000 = (flagNV, 0x00) := by decide +kernel

def sum32 (mode : Nat) : FoldSet := { op := opSum, accFmt := 2, mode := mode, sat := false }

/-- Subnormals and signed zeros in FP32 (08). -/
theorem test_subnormals :
    foldElem (sum32 0) false 0 false 1 2 1 none = (0, 2) ∧
      foldElem (sum32 0) false 0 false 0x00800000 2 0x80000001 none = (0, 0x007FFFFF) ∧
      foldElem (sum32 3) false 0 false 0x3F800000 2 0xBF800000 none = (0, 0x80000000) ∧
      foldElem { sum32 0 with op := opMax } false 0 false 0x80000000 2 0 none = (0, 0) ∧
      foldElem { sum32 0 with op := opMin } false 0 false 0 2 0x80000000 none = (0, 0x80000000) ∧
      varnish (intOut 2 3 false false) 0 0x007FFFFF = (flagUF ||| flagNX, 0) ∧
      foldElem dot true 2 true 0 2 0x1C808000 (some 0x1C808000) = (flagUF ||| flagNX, 0x204) := by decide +kernel

/-- A leaf follows a spine's marker (10): locked in tick 0x10001, the estimate for 0x10002 is 1,512,928.0 ns. -/
def leaf : State :=
  { (port { up with rxPath := 313, linkDelay := 1960, features := 4 } rd) with
    now := 1510600
    sketch := { tickSet := some { ports := [95], source := 0x0200 } }
    tick := { running := true, locked := true, number := 0x10001, start := 1508928, next := 1512928, port := some 95 } }

def spineMarker : Bytes :=
  leBytes 4 0x10002 ++ leBytes 4 0x000107AC ++ leBytes 4 4000 ++ leBytes 2 0x0200 ++ zeros 10

theorem test_marker_trims :
    (tickMarker 95 spineMarker true 15065373 leaf).tick.next = 1512927 ∧
      (tickMarker 95 spineMarker true 15065373 leaf).tick.rate = -1 / 32 := by decide +kernel

theorem test_marker_sent :
    leAt (markerFlit (tickMarker 95 spineMarker true 15065373 leaf) 0x10003 false).content 4 4 = 0xF726 := by decide +kernel

/-- A port enable through a ring (11): port 12 of ports 0 to 47 is *Absent*. -/
def enabling : State :=
  updRing .a 0 (fun _ => { crSize := 6, crHead := 6, crTail := 6, enable := true, cqSize := 6, cqBaseLo := 0x00020000, cqBaseHi := 0x20
                           cqHead := 5, cqTail := 5
                           cmd := some { bytes := leBytes 2 0x20 ++ leBytes 2 0x31 ++ leBytes 2 16 ++ leBytes 2 0 ++ leBytes 2 0xFFFF ++
                                           zeros 22 ++ leBytes 16 0xFFFFFFFFFFFF
                                         index := 5, resAddr := 0x0000002000002000, resCap := 16, cookie := 0xA5 } })
    (updPort 12 (fun q => { q with state := .absent })
      { rd with ports := List.replicate 96 { state := .running, verdict := .pass } })

def next (r : Res) : State :=
  match r with
  | .next t => t
  | _ => State.reset

theorem test_portEnable :
    ((ringOf (next (exec (.portEnable (.ring .a 0)) enabling)) .a 0).cmd.bind (·.reply)) =
      some { status := 0x0006, tag := 0x31, opcode := 0x20, result := [0x00, 0x10] ++ zeros 14 } ∧
    (portOf (next (exec (.portEnable (.ring .a 0)) enabling)) 47).admitted = true ∧
    (portOf (next (exec (.portEnable (.ring .a 0)) enabling)) 48).admitted = false := by decide +kernel

def answered : State :=
  updRing .a 0 (fun x => { x with cmd := x.cmd.map (fun c =>
    { c with reply := some { status := 0x0006, tag := 0x31, opcode := 0x20, result := [0x00, 0x10] ++ zeros 14 } }) }) enabling

theorem test_completionPost :
    (next (exec (.completionPost .a 0 false) answered)).out =
      [.hostWrite .a 0x00000020000200A0 [0x06, 0x00, 0x31, 0x00, 0x10, 0x00, 0x05, 0x00, 0xA5, 0, 0, 0, 0, 0, 0, 0,
          0x20, 0, 0, 0, 0, 0, 0, 0, 1, 0, 0, 0, 0, 0, 0, 0],
        .hostWrite .a 0x0000002000002000 ([0x00, 0x10] ++ zeros 14)] ∧
    (ringOf (next (exec (.completionPost .a 0 false) answered)) .a 0).cqTail = 6 ∧
    (fnOf (next (exec (.completionPost .a 0 false) answered)) .a).intCause = 1 := by decide +kernel

/-- Records of 64 bytes (R346). -/
theorem test_records : (identifyRecord rd).length = 64 ∧ (statusRecord rd).length = 64 := by decide +kernel

/-- Returning to P0 under a budget (13): at 200 W/ms the reference moves from 639 W to 641 W in one interval, with
θ = 16/64 and 2.75 W of ballast. -/
def returning : State :=
  updPower (fun p => { p with refSet := true, ref := 639, budget := 900, budgetTarget := 900 }) rd

def draws : List Nat := (List.range 65).map (fun k => 541000 + 389000 * k / 64)

theorem test_slope :
    (next (exec (.slopeGovernorUpdate draws) returning)).power.ref = 641 ∧
      (next (exec (.slopeGovernorUpdate draws) returning)).power.theta = 16 ∧
      (next (exec (.slopeGovernorUpdate draws) returning)).power.ballast = 11 / 4 := by decide +kernel

/-- Reset (R434): the bootstrap state and an idle step. -/
theorem test_idle_step : step State.reset = .next (passTime State.reset) := rfl

/-- The comma, and D10.2 as the complement of D21.5 (R67, R70). -/
theorem test_8b10b :
    encodeControl false .k28_5 = 0b0011111010 ∧ encodeData false 0xB5 = 0b1010101010 ∧
      encodeData true 0x4A = ~~~encodeData true 0xB5 := by decide +kernel

/-- The D-block type's first symbol, 01 10 11 01 00, as levels (R102); inverted, level k is 3 − k (R70). -/
theorem test_gray : symLevels 0x1B4 = [1, 3, 2, 1, 0] ∧ invertLevels true (symLevels 0x1B4) = [2, 0, 1, 2, 3] := by decide +kernel

/-- R48: at `mod_bias` 0.50 the lowest code that stands there is the lock point, on the long-wavelength flank below the
resonance; a ring already past that crossing at `heater_lo` locks on the short-wavelength flank. -/
theorem test_lock_point :
    modulatorPoint 10 20 32 { resonance := some 13, light := [100, 500, 800, 1000, 500] } = some (11, false) ∧
    modulatorPoint 10 20 32 { resonance := some 11, light := [800, 1000, 500, 100] } = some (12, true) ∧
    modulatorPoint 10 20 32 { resonance := some 21, light := [500] } = none := by decide

/-- R48: outside ±0.15 around a `mod_bias` of 0.50 for 4 µs. -/
theorem test_lock_window : outsideWindow 32 ⟨4000, [349, 651]⟩ = true ∧ outsideWindow 32 ⟨4000, [350, 900]⟩ = false ∧
    outsideWindow 32 ⟨3999, [900]⟩ = false := by decide

/-! ### Every hypothesis is met somewhere -/

theorem gfMul_zero : ∀ x : BitVec 10, gfMul 0 x = 0 := by decide +kernel

theorem syndrome_zeros (x : BitVec 10) (n : Nat) : (List.replicate n 0).foldl (fun a c => gfMul a x ^^^ c) 0 = 0 := by
  induction n with
  | zero => rfl
  | succ n ih =>
    rw [List.replicate_succ, List.foldl_cons, gfMul_zero]
    exact ih

/-- Leading zeros leave a word's syndromes as they are. -/
theorem rsSyndromes_zeros (n : Nat) (t : List Sym) : rsSyndromes (List.replicate n 0 ++ t) = rsSyndromes t := by
  unfold rsSyndromes
  refine List.map_congr_left (fun i _ => ?_)
  simp only [List.foldl_append, syndrome_zeros]

/-- The word of zeros is a codeword. -/
theorem rsDecode_zeros (n : Nat) : rsDecode (List.replicate n 0) = some (List.replicate n 0, []) := by
  have h : rsSyndromes (List.replicate n 0) = rsSyndromes [] := by
    have h := rsSyndromes_zeros n []
    rwa [List.append_nil] at h
  unfold rsDecode
  rw [h]
  rfl

/-- A word with too long a recurrence does not decode. -/
theorem rsDecode_fails (n : Nat) (t : List Sym) (h : (rsSyndromes t).all (· == 0) = false)
    (hl : decide ((bmRun (rsSyndromes t)).l > 15) = true) : rsDecode (List.replicate n 0 ++ t) = none := by
  unfold rsDecode
  rw [rsSyndromes_zeros]
  dsimp only
  rw [h, hl]
  rfl

theorem decodeD_some (r : BitVec 31) (l a b : List Sym) (h : rsDecode (evens (l.drop 2)) = some (a, []))
    (k : rsDecode (evens (l.drop 3)) = some (b, [])) :
    (decodeD r l).2.1 = some (unpackBytes 1285 (scramble r ((interleave a b).take 1028)).2) := by
  simp only [decodeD, List.drop_drop, h, k]

theorem decodeD_none (r : BitVec 31) (l : List Sym) (h : rsDecode (evens (l.drop 2)) = none) :
    (decodeD r l).2.1 = none := by
  simp only [decodeD, h]

theorem zero_evens : evens ((slotSymbols up zeroLanes).drop 2) = List.replicate 544 0 := by decide +kernel
theorem zero_odds : evens ((slotSymbols up zeroLanes).drop 3) = List.replicate 544 0 := by decide +kernel
theorem bad_evens : evens ((slotSymbols up badLanes).drop 2) = List.replicate 514 0 ++ farWord := by decide +kernel
theorem far_bad : (rsSyndromes farWord).all (· == 0) = false := by decide +kernel
theorem far_long : decide ((bmRun (rsSyndromes farWord)).l > 15) = true := by decide +kernel

theorem zero_slot : (decodeD (BitVec.allOnes 31) (slotSymbols up zeroLanes)).2.1 = some zeroBytes :=
  decodeD_some _ _ _ _ (by rw [zero_evens, rsDecode_zeros]) (by rw [zero_odds, rsDecode_zeros])

theorem bad_slot : (decodeD (BitVec.allOnes 31) (slotSymbols up badLanes)).2.1 = none :=
  decodeD_none _ _ (by rw [bad_evens]; exact rsDecode_fails _ _ far_bad far_long)

theorem port_up : portOf (port up rd) 95 = up := by decide +kernel

theorem up_scr : (if up.link.rxSymbol / 1090 % 16384 = 0 then BitVec.allOnes 31 else up.link.rxScr) = BitVec.allOnes 31 := by
  decide


theorem image_format : imageFormatOf (zeros 4 ++ leBytes 2 Config.imageFormat.toNat) = Config.imageFormat := by
  have h := Config.imageFormat.isLt
  apply BitVec.eq_of_toNat_eq
  simp only [imageFormatOf, leAt, zeros, List.replicate, leBytes, leVal, List.cons_append, List.nil_append, List.drop_succ_cons,
    List.drop_zero, List.take_succ_cons, List.take_zero, BitVec.toNat_ofNat, w16]
  omega
theorem witness_StepRunsTheFrontCommand :
    (∃ (s : State) (c : Instr) (rest : List Instr), s.pending = c :: rest) ∧
    (∃ (s : State), s.pending = []) :=
  ⟨⟨{ rd with pending := [.refclkLoss, .powerOn] },
      (({ rd with pending := [.refclkLoss, .powerOn] }.pending).headD default),
          (({ rd with pending := [.refclkLoss, .powerOn] }.pending).tail),
    by decide +kernel⟩,
  ⟨rd,
    by decide +kernel⟩⟩

theorem witness_CommandsCompleteAndKeepTheQueue :
    (∃ (c : Instr), c.wf = true) ∧
    (∃ (c : Instr), c.wf = false) ∧
    (∃ (c : Instr) (s t : State), exec c s = .next t) :=
  ⟨⟨.queueDepthSample,
    by decide +kernel⟩,
  ⟨(.probeStart 96),
    by decide +kernel⟩,
  ⟨.queueDepthSample, rd, _,
    rfl⟩⟩

theorem witness_StepKeepsSoundness :
    ∃ (s t : State), Sound s ∧ step s = .next t :=
  ⟨{ rd with pending := [.queueDepthSample] }, _,
    ⟨by unfold Sound; decide +kernel, rfl⟩⟩

theorem witness_ResetLeavesWhatTheSpecStates :
    (∃ (i : _), i < 10) ∧
    (∃ (r : _), r < 4) ∧
    (∃ (p : _), p < 96) :=
  ⟨⟨7,
    by decide +kernel⟩,
  ⟨0,
    by decide +kernel⟩,
  ⟨95,
    by decide +kernel⟩⟩

theorem witness_ThermalTripHoldsUntilPowerIsRemoved :
    ∃ (c : Instr) (s t : State), c ≠ .powerLoss ∧ c ≠ .powerOn ∧ s.boot.thermTrip = true ∧ exec c s = .next t ∧
        s.boot.inReset = true :=
  ⟨(.resetNAssert 1000), (updBoot (fun x => { x with thermTrip := true, inReset := true }) rd), _,
    ⟨nofun, nofun, rfl, rfl, rfl⟩⟩

theorem witness_StrapsSwitchHostAndHealthFrame :
    (∃ (c : Instr) (s t : State), s.boot.strapsValid = true ∧ exec c s = .next t) ∧
    (∃ (c : Instr) (s t : State), s.boot.strapsValid = false ∧ (∀ x, c ≠ .strapSample x) ∧ exec c s = .next t) ∧
    (∃ (c : Instr) (s t : State), exec c s = .next t ∧ changesSwitch c = false) ∧
    (∃ (c : Instr) (s t : State), exec c s = .next t ∧ changesHost c = false) ∧
    (∃ (c : Instr) (s t : State), exec c s = .next t ∧ changesHealth c = false) :=
  ⟨⟨.queueDepthSample, rd, _,
    ⟨rfl, rfl⟩⟩,
  ⟨.queueDepthSample, State.reset, _,
    ⟨rfl, fun _ => nofun, rfl⟩⟩,
  ⟨.perstAssert .a, rd, _,
    ⟨rfl, rfl⟩⟩,
  ⟨.queueDepthSample, rd, _,
    ⟨rfl, rfl⟩⟩,
  ⟨.perstAssert .a, rd, _,
    ⟨rfl, rfl⟩⟩⟩

theorem witness_FloorsNeverFall :
    ∃ (c : Instr) (s t : State), (∀ k b, c ≠ .rootSecretComplete k b) ∧ s.flash.floorOk = true ∧ exec c s = .next t :=
  ⟨.queueDepthSample, rd, _,
    ⟨fun _ => nofun, rfl, rfl⟩⟩

theorem witness_OnlySegmentPutWritesTheStore :
    ∃ (c : Instr) (s t : State), (∀ p, c ≠ .segmentPut p) ∧ exec c s = .next t :=
  ⟨.queueDepthSample, rd, _,
    ⟨fun _ => nofun, rfl⟩⟩

theorem witness_PortsAndLasersFrame :
    (∃ (c : Instr) (s t : State), exec c s = .next t ∧ changesPorts c = false) ∧
    (∃ (c : Instr) (s t : State), exec c s = .next t ∧ changesLasers c = false) :=
  ⟨⟨(.perstAssert .a), rd, _,
    ⟨rfl, rfl⟩⟩,
  ⟨(.perstAssert .a), rd, _,
    ⟨rfl, rfl⟩⟩⟩

theorem witness_CanvasAndStreamsFrame :
    (∃ (c : Instr) (s t : State), exec c s = .next t ∧ changesCanvas c = false) ∧
    (∃ (c : Instr) (s t : State), exec c s = .next t ∧ changesStreams c = false) :=
  ⟨⟨.queueDepthSample, rd, _,
    ⟨rfl, rfl⟩⟩,
  ⟨.queueDepthSample, rd, _,
    ⟨rfl, rfl⟩⟩⟩

theorem witness_SketchTickAndPolicyFrame :
    (∃ (c : Instr) (s t : State), exec c s = .next t ∧ changesSketch c = false) ∧
    (∃ (c : Instr) (s t : State), exec c s = .next t ∧ changesTick c = false) ∧
    (∃ (c : Instr) (s t : State), exec c s = .next t ∧ changesPolicy c = false) :=
  ⟨⟨.queueDepthSample, rd, _,
    ⟨rfl, rfl⟩⟩,
  ⟨.queueDepthSample, rd, _,
    ⟨rfl, rfl⟩⟩,
  ⟨.queueDepthSample, rd, _,
    ⟨rfl, rfl⟩⟩⟩

theorem witness_TrayPowerBootAndFlashFrame :
    (∃ (c : Instr) (s t : State), exec c s = .next t ∧ changesTray c = false) ∧
    (∃ (c : Instr) (s t : State), exec c s = .next t ∧ changesPower c = false) ∧
    (∃ (c : Instr) (s t : State), exec c s = .next t ∧ changesBoot c = false) ∧
    (∃ (c : Instr) (s t : State), exec c s = .next t ∧ changesFlash c = false) :=
  ⟨⟨.queueDepthSample, rd, _,
    ⟨rfl, rfl⟩⟩,
  ⟨.queueDepthSample, rd, _,
    ⟨rfl, rfl⟩⟩,
  ⟨.queueDepthSample, rd, _,
    ⟨rfl, rfl⟩⟩,
  ⟨.queueDepthSample, rd, _,
    ⟨rfl, rfl⟩⟩⟩

theorem witness_EncodingsReadBack :
    (∃ (f : Flit), f.content.length = 252) ∧
    (∃ (c : CFlit), c.content.length = 52) ∧
    (∃ (b : Bytes), b.length = 1360) ∧
    (∃ (typ : Nat) (p : Bytes), typ < 256 ∧ p.length < 4294967296) :=
  ⟨⟨{ content := zeros 252 },
    by decide +kernel⟩,
  ⟨{ content := zeros 52 },
    by decide +kernel⟩,
  ⟨(zeros 1360),
    by decide +kernel⟩,
  ⟨95, [],
    by decide +kernel⟩⟩

theorem witness_ResetCausesAndRelease :
    (∃ (s : State) (n : Nat), s.boot.powered = true ∧ 1000 ≤ n) ∧
    (∃ (s : State) (n : Nat), s.boot.powered = true ∧ n < 1000) ∧
    (∃ (s : State), s.boot.powered = true) ∧
    (∃ (s : State), s.boot.powered = true) ∧
    (∃ (s : State), s.boot.powered = false) ∧
    (∃ (s : State), s.boot.powered = true) ∧
    (∃ (s : State), s.boot.powered = true ∧ s.boot.inReset = true ∧ s.boot.refclkLocked = true ∧
        s.boot.thermTrip = false ∧ s.boot.jtagHolds = false) ∧
    (∃ (s : State), s.boot.powered = true ∧ s.boot.thermTrip = true) :=
  ⟨⟨{ rd with pending := [.refclkLoss, .powerOn] }, 16383,
    by decide +kernel⟩,
  ⟨{ rd with pending := [.refclkLoss, .powerOn] }, 95,
    by decide +kernel⟩,
  ⟨{ rd with pending := [.refclkLoss, .powerOn] },
    by decide +kernel⟩,
  ⟨{ rd with pending := [.refclkLoss, .powerOn] },
    by decide +kernel⟩,
  ⟨(updBoot (fun x => { x with powered := false }) rd),
    by decide +kernel⟩,
  ⟨{ rd with pending := [.refclkLoss, .powerOn] },
    by decide +kernel⟩,
  ⟨(updBoot (fun x => { x with inReset := true }) rd),
    by decide +kernel⟩,
  ⟨(updBoot (fun x => { x with thermTrip := true }) rd),
    by decide +kernel⟩⟩

theorem witness_EarlyStagesComplete :
    (∃ (s : State), s.boot.inReset = false ∧ s.boot.strapsValid = false ∧ s.boot.resetEnd + 10000 ≤ s.now) ∧
    (∃ (n i : Nat), i < n) ∧
    (∃ (s : State), s.boot.inReset = false ∧ s.boot.strapsValid = true ∧ s.boot.rootDone = false) ∧
    (∃ (s : State), s.boot.inReset = false ∧ s.boot.rootDone = true ∧ s.boot.pcieUp = false) ∧
    (∃ (s : State), s.boot.inReset = false ∧ s.boot.rootDone = true ∧ s.boot.hbmTrained = false ∧
        s.health.heldRecords = []) :=
  ⟨⟨{ State.reset with now := 10000 },
    by decide +kernel⟩,
  ⟨95, 7,
    by decide +kernel⟩,
  ⟨(updBoot (fun x => { x with rootDone := false }) rd),
    by decide +kernel⟩,
  ⟨(updBoot (fun x => { x with pcieUp := false }) rd),
    by decide +kernel⟩,
  ⟨(updBoot (fun x => { x with hbmTrained := false }) rd),
    by decide +kernel⟩⟩

theorem witness_FirmwareBoots :
    (∃ (s : State) (hp : HostPort), waitsForFetch s hp = true ∧ 4096 ≤ s.boot.bootLen.toNat ∧
        s.boot.bootLen.toNat ≤ 67108864) ∧
    (∃ (s : State) (hp : HostPort), waitsForFetch s hp = true ∧ s.boot.bootStatus = 0 ∧
        (s.boot.bootLen.toNat < 4096 ∨ 67108864 < s.boot.bootLen.toNat)) ∧
    (∃ (s : State) (hp : HostPort), waitsForFetch s hp = true ∧ s.boot.bootStatus = 3 ∧
        (s.boot.bootLen.toNat < 4096 ∨ 67108864 < s.boot.bootLen.toNat)) ∧
    (∃ (s : State) (hp : HostPort), bootPort s = some hp ∧ s.boot.restarting = false ∧ firmwareDue s = true) ∧
    (∃ (s : State), bootPort s = none ∧ s.boot.restarting = false ∧ firmwareDue s = true ∧ s.boot.triedOther = false) ∧
    (∃ (s : State), bootPort s = none ∧ s.boot.restarting = false ∧ firmwareDue s = true ∧ s.boot.triedOther = true) ∧
    (∃ (s : State), s.boot.restarting = true ∧ s.boot.bootStatus = 2 ∧ firmwareDue s = true ∧
        imageAccepted s false (bankImage s false (s.flash.activeFw != s.boot.triedOther)) = false) ∧
    (∃ (s : State), s.boot.restarting = false) :=
  ⟨⟨(updBoot (fun x => { x with fwAccepted := false, bootSrc := 1, bootLen := 4096 }) rd), .a,
    by decide +kernel⟩,
  ⟨(updBoot (fun x => { x with fwAccepted := false, bootSrc := 1, bootLen := 67108865 }) rd), .a,
    by decide +kernel⟩,
  ⟨(updBoot (fun x => { x with fwAccepted := false, bootSrc := 1, bootStatus := 3, bootLen := 67108865 }) rd), .a,
    by decide +kernel⟩,
  ⟨(updBoot (fun x => { x with fwAccepted := false, bootSrc := 1, bootStatus := 1, bootLen := 4096 }) rd),
      ((bootPort (updBoot
          (fun x => { x with fwAccepted := false, bootSrc := 1, bootStatus := 1, bootLen := 4096 }) rd)).getD default),
    by decide +kernel⟩,
  ⟨(updBoot (fun x => { x with fwAccepted := false, triedOther := false }) rd),
    by decide +kernel⟩,
  ⟨(updBoot (fun x => { x with fwAccepted := false, triedOther := true }) rd),
    by decide +kernel⟩,
  ⟨(updBoot (fun x => { x with fwAccepted := false, restarting := true, bootStatus := 2 }) rd),
    by decide +kernel⟩,
  ⟨rd,
    rfl⟩⟩

theorem witness_LateStagesAndEaselRestarts :
    (∃ (s : State), s.boot.inReset = false ∧ s.boot.fwAccepted = true ∧ s.boot.cfgDone = false ∧
        s.boot.easelStopped = false) ∧
    (∃ (s : State), s.boot.inReset = false ∧ s.boot.fwAccepted = true ∧ s.boot.cfgDone = true ∧
        s.boot.reached = false ∧ s.boot.easelStopped = false ∧ s.boot.restarting = false ∧ s.flash.retired = [] ∧
            bootsNewFw s = false ∧ s.flash.newCfg = false ∧ s.tray.own = .booting ∧ s.tray.lineFault = false) ∧
    (∃ (s : State), s.boot.inReset = false ∧ (s.boot.fwAccepted = true ∨ s.boot.restarting = true) ∧
        s.boot.easelReady = false ∧ bankBooted s = some s.flash.activeFw ∧ s.flash.newFw = true ∧
            s.boot.bootAt + 5000000000 ≤ s.now ∧ s.flash.attempts < 2) ∧
    (∃ (s : State), s.boot.inReset = false ∧ (s.boot.fwAccepted = true ∨ s.boot.restarting = true) ∧
        s.boot.easelReady = false ∧ bankBooted s = some s.flash.activeFw ∧ s.flash.newFw = true ∧
            s.boot.bootAt + 5000000000 ≤ s.now ∧ s.flash.attempts = 2 ∧
            floorOf s false ≤ imSec (bankImage s false (!s.flash.activeFw))) ∧
    (∃ (s : State), Live s ∧ s.boot.fwAccepted = true ∧ s.boot.easelStopped = false ∧ s.boot.lastRestart = none) ∧
    (∃ (s : State) (stack row word : Nat) (e : WordError), stack < 4 ∧ row < 1048576 ∧ word < 32 ∧
        eccOf e = .uncorrectable ∧ Live s ∧ s.boot.fwAccepted = true ∧ s.boot.easelStopped = false ∧
            s.boot.lastRestart = none) ∧
    (∃ (stack row word : Nat) (e : WordError), stack < 4 ∧ row < 1048576 ∧ word < 32 ∧ eccOf e ≠ .uncorrectable) ∧
    (∃ (s : State) (u : Nat), Live s ∧ s.boot.fwAccepted = true ∧ s.boot.easelStopped = false ∧
        s.boot.lastRestart = some u ∧ s.now < u + 60000000000) ∧
    (∃ (s : State), Live s ∧ s.boot.restarting = true ∧ s.boot.reached = true ∧ s.boot.fwAccepted = true ∧
        s.boot.easelStopped = false ∧ s.boot.restartCause ≠ 0 ∧ s.tray.lineFault = false ∧ s.tray.own = .released ∧
            s.boot.role.toNat ≤ 1) ∧
    (∃ (k r w : Nat), k < 4 ∧ r < 1048576 ∧ w < 32) :=
  ⟨⟨(updBoot (fun x => { x with cfgDone := false }) rd),
    by decide +kernel⟩,
  ⟨(updTray (fun x => { x with own := .booting }) (updBoot
      (fun x => { x with easelReady := false, reached := false }) rd)),
    by decide +kernel⟩,
  ⟨(updFlash (fun x => { x with newFw := true, attempts := 1 }) (updBoot
      (fun x => { x with fwAccepted := true, easelReady := false }) rd)),
    by decide +kernel⟩,
  ⟨(updFlash (fun x => { x with newFw := true, attempts := 2 }) (updBoot
      (fun x => { x with fwAccepted := true, easelReady := false }) rd)),
    by decide +kernel⟩,
  ⟨{ rd with pending := [.refclkLoss, .powerOn] },
    by unfold Live; decide +kernel⟩,
  ⟨{ rd with pending := [.refclkLoss, .powerOn] }, 0, 95, 7, { errors := [(3, 5), (4, 6)] },
    by unfold Live; decide +kernel⟩,
  ⟨0, 95, 7, {},
    by decide +kernel⟩,
  ⟨(updBoot (fun x => { x with lastRestart := some 40000000001 }) rd),
      (((updBoot (fun x => { x with lastRestart := some 40000000001 }) rd).boot.lastRestart).getD default),
    by unfold Live; decide +kernel⟩,
  ⟨(updTray (fun x => { x with own := .released }) (updBoot
      (fun x => { x with restarting := true, restartCause := 2, role := 1 }) rd)),
    by unfold Live; decide +kernel⟩,
  ⟨3, 1048575, 31,
    by decide +kernel⟩⟩

theorem witness_CommandedResets :
    (∃ (s : State) (src : CmdSrc) (b : Bytes), Accepted s src b ∧ cmdOpcode b = 0xF0 ∧ cmdParamLen b = 8 ∧
        leAt (cmdParams b) 4 4 = 0x05719600 ∧ s.boot.pendingReset = none ∧ subCode b = 1) ∧
    (∃ (s : State) (src : CmdSrc) (b : Bytes), Accepted s src b ∧ cmdOpcode b = 0xF0 ∧ cmdParamLen b = 8 ∧
        leAt (cmdParams b) 4 4 = 0x05719600 ∧ s.boot.pendingReset = none ∧ subCode b = 2) ∧
    (∃ (s : State) (hp : HostPort) (r : Nat) (f : RingFetch) (c : RingCmd), r < 4 ∧ (fnOf s hp).rings.length = 4 ∧
        mayFetch s hp r = true ∧ fetchedCmd (ringOf s hp r) f = some c ∧ c.reply = none ∧ cmdOpcode c.bytes = 0xF0 ∧
            cmdParamLen c.bytes = 8 ∧ bytesFit c.bytes = true ∧ cmdTarget c.bytes = 0xFFFF ∧ subCode c.bytes ≠ 1 ∧
            subCode c.bytes ≠ 2) ∧
    (∃ (s : State) (src : CmdSrc) (b : Bytes), Accepted s src b ∧ cmdOpcode b = 0xF0 ∧ cmdParamLen b = 8 ∧
        leAt (cmdParams b) 4 4 ≠ 0x05719600 ∧ subCode b = 1) ∧
    (∃ (s : State) (src : CmdSrc) (b : Bytes), Accepted s src b ∧ cmdOpcode b = 0xF0 ∧ cmdParamLen b = 8 ∧
        leAt (cmdParams b) 4 4 ≠ 0x05719600 ∧ subCode b = 2) ∧
    (∃ (s : State) (src : CmdSrc) (b : Bytes), Accepted s src b ∧ cmdOpcode b = 0xF0 ∧ cmdParamLen b = 8 ∧
        leAt (cmdParams b) 4 4 = 0x05719600 ∧ s.boot.pendingReset ≠ none ∧ subCode b = 1) ∧
    (∃ (s : State) (src : CmdSrc) (b : Bytes), Accepted s src b ∧ cmdOpcode b = 0xF0 ∧ cmdParamLen b = 8 ∧
        leAt (cmdParams b) 4 4 = 0x05719600 ∧ s.boot.pendingReset ≠ none ∧ subCode b = 2) ∧
    (∃ (s : State) (n : Nat), Live s ∧ s.boot.pendingReset ≠ none ∧ 1000 ≤ n) ∧
    (∃ (s : State) (t : Nat), s.boot.pendingReset = some (true, t) ∧ t ≤ s.now) ∧
    (∃ (s : State) (t : Nat), s.boot.pendingReset = some (false, t) ∧ t ≤ s.now ∧ s.boot.easelReady = true) ∧
    (∃ (s : State) (c : InbandCmd) (rest : List InbandCmd), s.host.inband = c :: rest ∧
        earlyRefusal s .inband c.bytes = none ∧ cmdOpcode c.bytes = 0xF0 ∧ cmdParamLen c.bytes = 8 ∧
            bytesFit c.bytes = true ∧ subCode c.bytes ≠ 1 ∧ subCode c.bytes ≠ 2) :=
  ⟨⟨(sent 0xF0 (leBytes 4 1 ++ leBytes 4 0x05719600) rd), ra, ((commandOf (sent 0xF0 (leBytes 4 1 ++
      leBytes 4 0x05719600) rd) ra).getD []),
    by unfold Accepted; decide +kernel⟩,
  ⟨(sent 0xF0 (leBytes 4 2 ++ leBytes 4 0x05719600) rd), ra, ((commandOf (sent 0xF0 (leBytes 4 2 ++
      leBytes 4 0x05719600) rd) ra).getD []),
    by unfold Accepted; decide +kernel⟩,
  ⟨(ring { rg with crTail := 1 } rd), .a, 3,
      { entry := zeros 8 ++ leBytes 4 40 ++ zeros 12 ++ leBytes 4 4080 ++ zeros 36, cmd := cmdB 0xF0 (leBytes 8 3), error := false }, ((fetchedCmd (ringOf (ring { rg with crTail := 1 } rd) .a 3) { entry := zeros 8 ++ leBytes 4 40 ++ zeros 12 ++ leBytes 4 4080 ++ zeros 36, cmd := cmdB 0xF0 (leBytes 8 3), error := false }).getD default),
    by decide +kernel⟩,
  ⟨(sent 0xF0 (leBytes 8 1) rd), ra, ((commandOf (sent 0xF0 (leBytes 8 1) rd) ra).getD []),
    by unfold Accepted; decide +kernel⟩,
  ⟨(sent 0xF0 (leBytes 8 2) rd), ra, ((commandOf (sent 0xF0 (leBytes 8 2) rd) ra).getD []),
    by unfold Accepted; decide +kernel⟩,
  ⟨(sent 0xF0 (leBytes 4 1 ++ leBytes 4 0x05719600) (updBoot
      (fun x => { x with pendingReset := some (true, 0) }) rd)), ra, ((commandOf (sent 0xF0 (leBytes 4 1 ++
          leBytes 4 0x05719600) (updBoot (fun x => { x with pendingReset := some (true, 0) }) rd)) ra).getD []),
    by unfold Accepted; decide +kernel⟩,
  ⟨(sent 0xF0 (leBytes 4 2 ++ leBytes 4 0x05719600) (updBoot
      (fun x => { x with pendingReset := some (true, 5) }) rd)), ra, ((commandOf (sent 0xF0 (leBytes 4 2 ++
          leBytes 4 0x05719600) (updBoot (fun x => { x with pendingReset := some (true, 5) }) rd)) ra).getD []),
    by unfold Accepted; decide +kernel⟩,
  ⟨(sent 0xF0 (leBytes 4 1 ++ leBytes 4 0x05719600) (updBoot
      (fun x => { x with pendingReset := some (true, 0) }) rd)), 16383,
    by unfold Live; decide +kernel⟩,
  ⟨(sent 0xF0 (leBytes 4 1 ++ leBytes 4 0x05719600) (updBoot
      (fun x => { x with pendingReset := some (true, 0) }) rd)), ((((sent 0xF0 (leBytes 4 1 ++
          leBytes 4 0x05719600) (updBoot
          (fun x => { x with pendingReset := some (true, 0) }) rd)).boot.pendingReset).getD default).2),
    by decide +kernel⟩,
  ⟨(updBoot (fun x => { x with pendingReset := some (false, 5) }) rd),
      ((((updBoot (fun x => { x with pendingReset := some (false, 5) }) rd).boot.pendingReset).getD default).2),
    by decide +kernel⟩,
  ⟨{ updHost (fun h => { h with inband := [{ hdr := {}, viaPort := none, bytes := cmdB 0xF0 (leBytes 8 3) }] }) rd with policy := { rd.policy with inbandClasses := 0xFF } }, _, _,
    ⟨rfl, by decide +kernel⟩⟩⟩

theorem witness_FunctionResetsAndTestAccess :
    (∃ (s : State) (hp : HostPort), Live s ∧ (fnOf s hp).perst = true ∧ s.boot.pcieUp = true) ∧
    (∃ (s : State) (hp : HostPort), linkOk s hp = true ∧ (fnOf s hp).msixPba = 0) ∧
    (∃ (i : JtagInstr), (i = .extest ∨ i = .extestPulse ∨ i = .extestTrain ∨ i = .clamp ∨ i = .highz)) ∧
    (∃ (i : JtagInstr), (i = .bypass ∨ i = .idcode ∨ i = .samplePreload)) ∧
    (∃ (s : State), s.boot.powered = true ∧ s.boot.jtagHolds = true) ∧
    (∃ (n : Nat), n < 32) ∧
    (∃ (n : Nat), n < 100) :=
  ⟨⟨{ rd with pending := [.refclkLoss, .powerOn] }, .b,
    by unfold Live; decide +kernel⟩,
  ⟨{ rd with pending := [.refclkLoss, .powerOn] }, .a,
    by decide +kernel⟩,
  ⟨.highz,
    by decide +kernel⟩,
  ⟨.samplePreload,
    by decide +kernel⟩,
  ⟨(updBoot (fun x => { x with jtagHolds := true }) rd),
    by decide +kernel⟩,
  ⟨7,
    by decide +kernel⟩,
  ⟨95,
    by decide +kernel⟩⟩

theorem witness_FinishedCommandsAreAnswered :
    (∃ (s : State) (hp : HostPort) (r : Nat) (c : RingCmd), (ringOf s hp r).cmd = some c ∧ c.reply = none ∧
        c.discard = false) ∧
    (∃ (s : State) (c : InbandCmd) (rest : List InbandCmd), s.host.inband = c :: rest) ∧
    (∃ (l : List CachedReply), l.length < 64) ∧
    (∃ (l : List CachedReply), l.length = 64) ∧
    (∃ (s : State) (c : InbandCmd) (rest : List InbandCmd), s.host.inband = c :: rest ∧ rest = []) ∧
    (∃ (s : State) (c : InbandCmd) (rest : List InbandCmd) (x l : _), s.host.inband = c :: rest ∧ rest = x :: l ∧
        rowless s .inband x.bytes = none) ∧
    (∃ (s : State) (c : InbandCmd) (rest : List InbandCmd) (st : W16), s.host.inband = c :: rest ∧
        rowless s .inband c.bytes = some st) :=
  ⟨⟨(sent 0xF0 (leBytes 4 1 ++ leBytes 4 0x05719600) rd), .a, 3, (((ringOf (sent 0xF0 (leBytes 4 1 ++
      leBytes 4 0x05719600) rd) .a 3).cmd).getD default),
    by decide +kernel⟩,
  ⟨(updHost (fun x => { x with inband := [{ hdr := {}, bytes := [] }] }) rd),
      (((updHost (fun x => { x with inband := [{ hdr := {}, bytes := [] }] }) rd).host.inband).headD default),
          (((updHost (fun x => { x with inband := [{ hdr := {}, bytes := [] }] }) rd).host.inband).tail),
    by decide +kernel⟩,
  ⟨[],
    by decide +kernel⟩,
  ⟨(List.replicate 64 ce),
    by decide +kernel⟩,
  ⟨(updHost (fun x => { x with inband := [{ hdr := {}, bytes := [] }] }) rd),
      (((updHost (fun x => { x with inband := [{ hdr := {}, bytes := [] }] }) rd).host.inband).headD default),
          (((updHost (fun x => { x with inband := [{ hdr := {}, bytes := [] }] }) rd).host.inband).tail),
    by decide +kernel⟩,
  ⟨(updHost (fun x => { x with inband := [{ hdr := {}, bytes := cmdB 1 [] }, { hdr := {}, bytes := cmdB 1 [] }] }) rd), (((updHost (fun x => { x with inband := [{ hdr := {}, bytes := cmdB 1 [] }, { hdr := {}, bytes := cmdB 1 [] }] }) rd).host.inband).headD default), (((updHost (fun x => { x with inband := [{ hdr := {}, bytes := cmdB 1 [] }, { hdr := {}, bytes := cmdB 1 [] }] }) rd).host.inband).tail), (((((updHost (fun x => { x with inband := [{ hdr := {}, bytes := cmdB 1 [] }, { hdr := {}, bytes := cmdB 1 [] }] }) rd).host.inband).tail)).headD default), (((((updHost (fun x => { x with inband := [{ hdr := {}, bytes := cmdB 1 [] }, { hdr := {}, bytes := cmdB 1 [] }] }) rd).host.inband).tail)).tail),
    by decide +kernel⟩,
  ⟨(updHost (fun x => { x with inband := [{ hdr := {}, bytes := [] }] }) rd),
      (((updHost (fun x => { x with inband := [{ hdr := {}, bytes := [] }] }) rd).host.inband).headD default),
          (((updHost (fun x => { x with inband := [{ hdr := {}, bytes := [] }] }) rd).host.inband).tail),
          ((rowless (updHost (fun x => { x with inband := [{ hdr := {}, bytes := [] }] }) rd) .inband (((updHost
          (fun x => { x with inband := [{ hdr := {}, bytes := [] }] }) rd).host.inband).headD default).bytes).getD default),
    by decide +kernel⟩⟩

theorem witness_RingAndEventRingRegisters :
    (∃ (s : State) (hp : HostPort) (r : Nat) (v : W32), r < 4 ∧ barOk s hp = true ∧ (ringOf s hp r).halted = false ∧
        (v.setWidth 12).toNat < 2 ^ (ringOf s hp r).crSize.toNat) ∧
    (∃ (s : State) (hp : HostPort) (r : Nat) (v : W32), r < 4 ∧ (fnOf s hp).rings.length = 4 ∧ barOk s hp = true ∧
        (ringOf s hp r).enable = true ∧ (ringOf s hp r).halted = false ∧
            2 ^ (ringOf s hp r).crSize.toNat ≤ (v.setWidth 12).toNat) ∧
    (∃ (s : State) (hp : HostPort) (r : Nat), r < 4 ∧ barOk s hp = true) ∧
    (∃ (s : State) (hp : HostPort) (r : Nat) (v : W32), r < 4 ∧ (fnOf s hp).rings.length = 4 ∧ barOk s hp = true ∧
        v.getLsbD 1 = false ∧ v.getLsbD 0 = false) ∧
    (∃ (s : State) (hp : HostPort) (r : Nat) (v : W32), r < 4 ∧ (fnOf s hp).rings.length = 4 ∧ barOk s hp = true ∧
        v.getLsbD 1 = false ∧ v.getLsbD 0 = true ∧ ringFit (ringOf s hp r) = true ∧
            ((ringOf s hp r).halted = true ∨ (ringOf s hp r).crTail.toNat < 2 ^ (ringOf s hp r).crSize.toNat)) ∧
    (∃ (s : State) (hp : HostPort) (r : Nat) (v : W32), r < 4 ∧ (fnOf s hp).rings.length = 4 ∧ barOk s hp = true ∧
        v.getLsbD 1 = false ∧ v.getLsbD 0 = true ∧ ringFit (ringOf s hp r) = true ∧ (ringOf s hp r).halted = false ∧
            2 ^ (ringOf s hp r).crSize.toNat ≤ (ringOf s hp r).crTail.toNat) ∧
    (∃ (s : State) (hp : HostPort) (r : Nat) (v : W32), r < 4 ∧ (fnOf s hp).rings.length = 4 ∧ barOk s hp = true ∧
        v.getLsbD 1 = false ∧ v.getLsbD 0 = true ∧ ringFit (ringOf s hp r) = false) ∧
    (∃ (s : State) (hp : HostPort) (r : Nat) (v : W32), r < 4 ∧ barOk s hp = true ∧ v.getLsbD 1 = true) ∧
    (∃ (s : State) (hp : HostPort) (r : Nat), r < 4 ∧ barOk s hp = true) ∧
    (∃ (s : State) (hp : HostPort) (v : W32), barOk s hp = true ∧ v.getLsbD 1 = false ∧ v.getLsbD 0 = true ∧
        eventRingFit (fnOf s hp) = true) ∧
    (∃ (s : State) (hp : HostPort) (v : W32), barOk s hp = true ∧ v.getLsbD 1 = false ∧ v.getLsbD 0 = false) ∧
    (∃ (s : State) (hp : HostPort) (v : W32), barOk s hp = true ∧ v.getLsbD 1 = false ∧ v.getLsbD 0 = true ∧
        eventRingFit (fnOf s hp) = false) ∧
    (∃ (s : State) (hp : HostPort) (v : W32), barOk s hp = true ∧ v.getLsbD 1 = true) ∧
    (∃ (s : State) (hp : HostPort), barOk s hp = true) ∧
    (∃ (s : State) (hp : HostPort), barOk s hp = true) :=
  ⟨⟨{ rd with pending := [.refclkLoss, .powerOn] }, .a, 0, 0,
    by decide +kernel⟩,
  ⟨(sent 0xF0 (leBytes 4 1 ++ leBytes 4 0x05719600) rd), .a, 3, 16,
    by decide +kernel⟩,
  ⟨{ rd with pending := [.refclkLoss, .powerOn] }, .a, 0,
    by decide +kernel⟩,
  ⟨{ rd with pending := [.refclkLoss, .powerOn] }, .a, 0, 0,
    by decide +kernel⟩,
  ⟨(sent 0xF0 (leBytes 4 1 ++ leBytes 4 0x05719600) rd), .a, 3, 1,
    by decide +kernel⟩,
  ⟨(ring { rg with crTail := 16 } rd), .a, 3, 1,
    by decide +kernel⟩,
  ⟨{ rd with pending := [.refclkLoss, .powerOn] }, .a, 0, 1,
    by decide +kernel⟩,
  ⟨{ rd with pending := [.refclkLoss, .powerOn] }, .a, 0, 3,
    by decide +kernel⟩,
  ⟨{ rd with pending := [.refclkLoss, .powerOn] }, .a, 0,
    by decide +kernel⟩,
  ⟨{ rd with pending := [.refclkLoss, .powerOn] }, .a, 1,
    by decide +kernel⟩,
  ⟨{ rd with pending := [.refclkLoss, .powerOn] }, .a, 0,
    by decide +kernel⟩,
  ⟨(updFn .a (fun x => { x with erSize := 3 }) rd), .a, 1,
    by decide +kernel⟩,
  ⟨{ rd with pending := [.refclkLoss, .powerOn] }, .a, 3,
    by decide +kernel⟩,
  ⟨{ rd with pending := [.refclkLoss, .powerOn] }, .a,
    by decide +kernel⟩,
  ⟨{ rd with pending := [.refclkLoss, .powerOn] }, .a,
    by decide +kernel⟩⟩

theorem witness_RingsFetchAndComplete :
    (∃ (s : State) (hp : HostPort) (r : Nat) (f : RingFetch) (c : RingCmd), r < 4 ∧ (fnOf s hp).rings.length = 4 ∧
        mayFetch s hp r = true ∧ fetchedCmd (ringOf s hp r) f = some c ∧ rowless s (.ring hp r) c.bytes = none) ∧
    (∃ (s : State) (hp : HostPort) (r : Nat) (f : RingFetch), r < 4 ∧ (fnOf s hp).rings.length = 4 ∧
        mayFetch s hp r = true ∧ (f.error = true ∨ leAt (padTo 64 f.entry) 0 8 % 8 ≠ 0 ∨ leAt
            (padTo 64 f.entry) 16 8 % 8 ≠ 0 ∨ leAt (padTo 64 f.entry) 8 4 < 32 ∨ 4096 < leAt
            (padTo 64 f.entry) 8 4 ∨ 4080 < leAt (padTo 64 f.entry) 24 4)) ∧
    (∃ (s : State) (hp : HostPort) (r : Nat), r < 4 ∧ ((ringOf s hp r).cmd ≠ none ∨ (ringOf s hp r).crHead =
        (ringOf s hp r).crTail ∨ (fnOf s hp).bme = false ∨ ((ringOf s hp r).cqTail.toNat + 1) % 2 ^
            (ringOf s hp r).cqSize.toNat = (ringOf s hp r).cqHead.toNat)) ∧
    (∃ (s : State) (hp : HostPort) (r : Nat) (c : RingCmd) (rep : Reply), r < 4 ∧ (fnOf s hp).rings.length = 4 ∧
        (ringOf s hp r).cmd = some c ∧ c.reply = some rep ∧ (ringOf s hp r).enable = true ∧
            (ringOf s hp r).halted = false ∧ (fnOf s hp).bme = true ∧ barOk s hp = true ∧
            ((ringOf s hp r).cqTail.toNat + 1) % 2 ^ (ringOf s hp r).cqSize.toNat ≠ (ringOf s hp r).cqHead.toNat) ∧
    (∃ (s : State) (hp : HostPort) (r : Nat), r < 4 ∧ cqFull (ringOf s hp r) = true) :=
  ⟨⟨(ring { rg with crTail := 1 } rd), .a, 3,
      { entry := zeros 8 ++ leBytes 4 32 ++ zeros 12 ++ leBytes 4 3280 ++ zeros 36, cmd := cmdB 0x01 [], error := false }, ((fetchedCmd (ringOf (ring { rg with crTail := 1 } rd) .a 3) { entry := zeros 8 ++ leBytes 4 32 ++ zeros 12 ++ leBytes 4 3280 ++ zeros 36, cmd := cmdB 0x01 [], error := false }).getD default),
    by decide +kernel⟩,
  ⟨(ring { rg with crTail := 1 } rd), .a, 3, { entry := [], cmd := [], error := false },
    by decide +kernel⟩,
  ⟨{ rd with pending := [.refclkLoss, .powerOn] }, .a, 0,
    by decide +kernel⟩,
  ⟨(ring { rg with cmd := some { rcmd [] with reply := some ⟨0, 0, 1, []⟩ } } rd), .a, 3,
      (((ringOf (ring { rg with cmd := some { rcmd [] with reply := some ⟨0, 0, 1, []⟩ } } rd) .a 3).cmd).getD default), (((((ringOf (ring { rg with cmd := some { rcmd [] with reply := some ⟨0, 0, 1, []⟩ } } rd) .a 3).cmd).getD default).reply).getD default),
    by decide +kernel⟩,
  ⟨{ rd with pending := [.refclkLoss, .powerOn] }, .a, 0,
    by decide +kernel⟩⟩

theorem witness_EventsAreWrittenOrDropped :
    (∃ (s : State) (hp : HostPort) (code : Nat), (fnOf s hp).erEnable = true ∧
        (fnOf s hp).classMask.getLsbD (eventClass code) = true ∧ masters (fnOf s hp) = true ∧
            ((fnOf s hp).erTail.toNat + 1) % 2 ^ (fnOf s hp).erSize.toNat ≠ (fnOf s hp).erHead.toNat) ∧
    (∃ (s : State) (hp : HostPort) (code : Nat), (fnOf s hp).erEnable = true ∧
        (fnOf s hp).classMask.getLsbD (eventClass code) = true ∧
            ((fnOf s hp).bme = false ∨ ((fnOf s hp).erTail.toNat + 1) % 2 ^ (fnOf s hp).erSize.toNat =
            (fnOf s hp).erHead.toNat)) ∧
    (∃ (s : State) (hp : HostPort) (code : Nat), ((fnOf s hp).erEnable = false ∨ (fnOf s hp).classMask.getLsbD
        (eventClass code) = false)) :=
  ⟨⟨{ rd with pending := [.refclkLoss, .powerOn] }, .a, 95,
    by decide +kernel⟩,
  ⟨(updFn .a (fun x => { x with erHead := 1 }) rd), .a, 95,
    by decide +kernel⟩,
  ⟨{ rd with pending := [.refclkLoss, .powerOn] }, .b, 95,
    by decide +kernel⟩⟩

theorem witness_CausesAreNotLost :
    (∃ (s : State) (hp : HostPort), barOk s hp = true) ∧
    (∃ (s : State) (hp : HostPort), barOk s hp = true) :=
  ⟨⟨{ rd with pending := [.refclkLoss, .powerOn] }, .a,
    by decide +kernel⟩,
  ⟨{ rd with pending := [.refclkLoss, .powerOn] }, .a,
    by decide +kernel⟩⟩

theorem witness_InterruptRegisters :
    (∃ (s : State) (hp : HostPort), barOk s hp = true ∧ (fnOf s hp).intCause = 0) ∧
    (∃ (s : State) (hp : HostPort) (i : Nat), i < 10 ∧ barOk s hp = true ∧
        (fnOf s hp).intCause = (1 : BitVec 10) <<< i ∧ (fnOf s hp).intMask = 0x3FF ∧ (fnOf s hp).heldCauses = 0 ∧
            (fnOf s hp).msixEnable = true ∧ (fnOf s hp).msixMaskAll = false ∧ (fnOf s hp).bme = true ∧
            vectorMasked (fnOf s hp) ((fnOf s hp).vec.getD i 0).toNat = false) ∧
    (∃ (s : State) (hp : HostPort) (i u : Nat), i ≤ 4 ∧ (fnOf s hp).heldCauses = (1 : BitVec 10) <<< i ∧
        (fnOf s hp).firstHeld = some u ∧ (fnOf s hp).coTime ≠ 0 ∧ u + 1000 * (fnOf s hp).coTime.toNat ≤ s.now ∧
            (fnOf s hp).msixEnable = true ∧ (fnOf s hp).msixMaskAll = false ∧ masters (fnOf s hp) = true ∧
            (fnOf s hp).linkUp = true ∧ vectorMasked (fnOf s hp) ((fnOf s hp).vec.getD i 0).toNat = false) ∧
    (∃ (s : State) (hp : HostPort) (u : Nat), (fnOf s hp).firstHeld = some u ∧ (fnOf s hp).coCount ≠ 0 ∧
        (fnOf s hp).posted < (fnOf s hp).coCount.toNat ∧ ((fnOf s hp).coTime = 0 ∨ s.now < u + 1000 *
            (fnOf s hp).coTime.toNat)) :=
  ⟨⟨{ rd with pending := [.refclkLoss, .powerOn] }, .a,
    by decide +kernel⟩,
  ⟨(updFn .a (fun x => { x with intCause := 0x200, msixEnable := true, msixTable := [(39, 0)] }) rd), .a, 9,
    by decide +kernel⟩,
  ⟨(updFn .a (fun x => { x with heldCauses := 0x010, firstHeld := some 99934465000, coTime := 0xFFFF, msixEnable := true, msixTable := [(19, 0)] }) rd), .a, 4, (((fnOf (updFn .a (fun x => { x with heldCauses := 0x010, firstHeld := some 99934465000, coTime := 0xFFFF, msixEnable := true, msixTable := [(19, 0)] }) rd) .a).firstHeld).getD default),
    by decide +kernel⟩,
  ⟨(updFn .a (fun x => { x with heldCauses := 0x010, firstHeld := some 99934465001, posted := 254, coCount := 255, coTime := 0xFFFF }) rd), .a, (((fnOf (updFn .a (fun x => { x with heldCauses := 0x010, firstHeld := some 99934465001, posted := 254, coCount := 255, coTime := 0xFFFF }) rd) .a).firstHeld).getD default),
    by decide +kernel⟩⟩

theorem witness_RegisterAccess :
    (∃ (s : State) (hp : HostPort) (o n : Nat), barOk s hp = true ∧ (n ≠ 4 ∨ o % 4 ≠ 0) ∧ (n ≠ 8 ∨ o % 8 ≠ 0)) ∧
    (∃ (s : State) (hp : HostPort) (o : Nat), barOk s hp = true ∧ o % 4 ≠ 0) ∧
    (∃ (s : State) (hp : HostPort) (o : Nat), barOk s hp = true ∧ o % 8 ≠ 0) ∧
    (∃ (s : State) (hp : HostPort), barOk s hp = true) ∧
    (∃ (s : State) (hp : HostPort) (o : Nat), barOk s hp = true ∧ o ∈ [0x00, 0x04, 0x08, 0x0C, 0x10, 0x14, 0x18,
        0x34, 0x1000]) ∧
    (∃ (s : State) (hp : HostPort), barOk s hp = true ∧ (ringOf s hp 0).enable = false) ∧
    (∃ (s : State) (hp : HostPort), barOk s hp = true) ∧
    (∃ (s : State) (hp : HostPort), barOk s hp = false) :=
  ⟨⟨{ rd with pending := [.refclkLoss, .powerOn] }, .a, 95, 95,
    by decide +kernel⟩,
  ⟨{ rd with pending := [.refclkLoss, .powerOn] }, .a, 95,
    by decide +kernel⟩,
  ⟨{ rd with pending := [.refclkLoss, .powerOn] }, .a, 95,
    by decide +kernel⟩,
  ⟨{ rd with pending := [.refclkLoss, .powerOn] }, .a,
    by decide +kernel⟩,
  ⟨{ rd with pending := [.refclkLoss, .powerOn] }, .a, 0,
    by decide +kernel⟩,
  ⟨{ rd with pending := [.refclkLoss, .powerOn] }, .a,
    by decide +kernel⟩,
  ⟨{ rd with pending := [.refclkLoss, .powerOn] }, .a,
    by decide +kernel⟩,
  ⟨{ rd with pending := [.refclkLoss, .powerOn] }, .b,
    by decide +kernel⟩⟩

theorem witness_InbandCommands :
    (∃ (s : State) (id : Nat) (st : Stored), terminatedOf s id = some st ∧ findingOf st = .act ∧
        st.hdr.window = 0x04 ∧ s.boot.easelReady = false) ∧
    (∃ (s : State) (id : Nat) (st : Stored) (e : CachedReply), terminatedOf s id = some st ∧ findingOf st = .act ∧
        st.hdr.window = 0x04 ∧ s.boot.easelReady = true ∧ cacheHit (dropPacket id false s) st.hdr
            (payloadOf st.hdr st.data) = some e) ∧
    (∃ (s : State) (id : Nat) (st : Stored), terminatedOf s id = some st ∧ findingOf st = .act ∧
        st.hdr.window = 0x04 ∧ s.boot.easelReady = true ∧ cacheHit (dropPacket id false s) st.hdr
            (payloadOf st.hdr st.data) = none ∧ alreadyQueued (dropPacket id false s) st.hdr
            (payloadOf st.hdr st.data) = true) ∧
    (∃ (s : State) (id : Nat) (st : Stored), terminatedOf s id = some st ∧ findingOf st = .act ∧
        st.hdr.window = 0x04 ∧ (dropPacket id false s).boot.easelReady = true ∧
            16 ≤ (dropPacket id false s).host.inband.length ∧
            cacheHit (dropPacket id false s) st.hdr (payloadOf st.hdr st.data) = none ∧
            alreadyQueued (dropPacket id false s) st.hdr (payloadOf st.hdr st.data) = false) ∧
    (∃ (s : State) (id : Nat) (st : Stored), terminatedOf s id = some st ∧ findingOf st = .act ∧
        st.hdr.window = 0x04 ∧ (dropPacket id false s).boot.easelReady = true ∧
            (dropPacket id false s).host.inband.length < 16 ∧
            cacheHit (dropPacket id false s) st.hdr (payloadOf st.hdr st.data) = none ∧
            alreadyQueued (dropPacket id false s) st.hdr (payloadOf st.hdr st.data) = false ∧ (∀ x,
            ((dropPacket id false s).host.inband ++
            [({ hdr := st.hdr, viaPort := answerVia (dropPacket id false s) st, bytes := payloadOf st.hdr st.data } : InbandCmd)]).head? = some x → rowless (dropPacket id false s) .inband x.bytes = none)) ∧
    (∃ (s : State) (e : CachedReply), s.host.replyCache = [e] ∧ e.expiry ≤ s.now) :=
  ⟨⟨(pkt (term (hd opCmd 0x04 5 32) (cmdB 1 [])) (updBoot (fun x => { x with easelReady := false }) rd)), 7,
      ((terminatedOf (pkt (term (hd opCmd 0x04 5 32) (cmdB 1 [])) (updBoot
          (fun x => { x with easelReady := false }) rd)) 7).getD default),
    by decide +kernel⟩,
  ⟨(pkt (term (hd opCmd 0x04 5 32) (cmdB 1 [])) (updHost (fun x => { x with replyCache := [ce] }) rd)), 7,
      ((terminatedOf (pkt (term (hd opCmd 0x04 5 32) (cmdB 1 [])) (updHost
          (fun x => { x with replyCache := [ce] }) rd)) 7).getD default),
          ((cacheHit (dropPacket 7 false (pkt (term (hd opCmd 0x04 5 32) (cmdB 1 [])) (updHost
          (fun x => { x with replyCache := [ce] }) rd))) ((terminatedOf (pkt (term (hd opCmd 0x04 5 32) (cmdB 1 []))
          (updHost (fun x => { x with replyCache := [ce] }) rd)) 7).getD default).hdr (payloadOf ((terminatedOf (pkt
          (term (hd opCmd 0x04 5 32) (cmdB 1 [])) (updHost
          (fun x => { x with replyCache := [ce] }) rd)) 7).getD default).hdr ((terminatedOf (pkt (term
          (hd opCmd 0x04 5 32) (cmdB 1 [])) (updHost
          (fun x => { x with replyCache := [ce] }) rd)) 7).getD default).data)).getD default),
    by decide +kernel⟩,
  ⟨(pkt (term (hd opCmd 0x04 5 32) (cmdB 1 [])) (updHost
      (fun x => { x with inband := [{ hdr := hd opCmd 0x04 5 32, bytes := cmdB 1 [] }] }) rd)), 7,
          ((terminatedOf (pkt (term (hd opCmd 0x04 5 32) (cmdB 1 [])) (updHost
          (fun x => { x with inband := [{ hdr := hd opCmd 0x04 5 32, bytes := cmdB 1 [] }] }) rd)) 7).getD default),
    by decide +kernel⟩,
  ⟨(pkt (term (hd opCmd 0x04 5 32) (cmdB 1 [])) (updHost
      (fun x => { x with inband := List.replicate 16 { hdr := {}, bytes := [] } }) rd)), 7,
          ((terminatedOf (pkt (term (hd opCmd 0x04 5 32) (cmdB 1 [])) (updHost
          (fun x => { x with inband := List.replicate 16 { hdr := {}, bytes := [] } }) rd)) 7).getD default),
    by decide +kernel⟩,
  ⟨(pkt (term (hd opCmd 0x04 5 32) (cmdB 1 [])) rd), 7, ((terminatedOf (pkt (term (hd opCmd 0x04 5 32)
      (cmdB 1 [])) rd) 7).getD default),
    by decide +kernel⟩,
  ⟨(updHost (fun x => { x with replyCache := [{ ce with expiry := 5 }] }) rd),
      (((updHost (fun x => { x with replyCache := [{ ce with expiry := 5 }] }) rd).host.replyCache).headD default),
    by decide +kernel⟩⟩

theorem witness_StatusAndFlagCommands :
    (∃ (s : State) (src : CmdSrc) (b : Bytes), Given s src b 0x01 0) ∧
    (∃ (s : State) (src : CmdSrc) (b : Bytes), Given s src b 0x02 0) ∧
    (∃ (s : State) (src : CmdSrc) (b : Bytes), Given s src b 0x24 8) ∧
    (∃ (s : State) (src : CmdSrc) (b : Bytes), Given s src b 0x90 16) ∧
    (∃ (s : State) (src : CmdSrc) (b : Bytes), Given s src b 0x80 0 ∧ b.length = 32) ∧
    (∃ (s : State) (src : CmdSrc) (b : Bytes), Given s src b 0x80 8 ∧ s.canvas.palettes.length = 32) :=
  ⟨⟨(sent 0x01 [] rd), ra, ((commandOf (sent 0x01 [] rd) ra).getD []),
    by unfold Given Accepted; decide +kernel⟩,
  ⟨(sent 0x02 [] rd), ra, ((commandOf (sent 0x02 [] rd) ra).getD []),
    by unfold Given Accepted; decide +kernel⟩,
  ⟨(sent 0x24 (zeros 8) rd), ra, ((commandOf (sent 0x24 (zeros 8) rd) ra).getD []),
    by unfold Given Accepted; decide +kernel⟩,
  ⟨(sent 0x90 (zeros 16) rd), ra, ((commandOf (sent 0x90 (zeros 16) rd) ra).getD []),
    by unfold Given Accepted; decide +kernel⟩,
  ⟨(sent 0x80 [] rd), ra, ((commandOf (sent 0x80 [] rd) ra).getD []),
    by unfold Given Accepted; decide +kernel⟩,
  ⟨(sent 0x80 (zeros 8) rd), ra, ((commandOf (sent 0x80 (zeros 8) rd) ra).getD []),
    by unfold Given Accepted; decide +kernel⟩⟩

theorem witness_LoadsUpdatesAndTests :
    (∃ (s : State) (src : CmdSrc) (b : Bytes), Given s src b 0x10 16 ∧ 4096 ≤ leAt (cmdParams b) 0 4 ∧
        leAt (cmdParams b) 0 4 ≤ 268435456 ∧ s.sketch.commit = none) ∧
    (∃ (s : State) (src : CmdSrc) (b : Bytes), Given s src b 0x10 16 ∧
        (leAt (cmdParams b) 0 4 < 4096 ∨ 268435456 < leAt (cmdParams b) 0 4)) ∧
    (∃ (s : State) (src : CmdSrc) (b : Bytes) (n : Nat), Given s src b 0x11 n ∧ 9 ≤ n ∧ n ≤ 4064 ∧
        s.sketch.load.begun = true ∧ leAt (cmdParams b) 0 4 + (n - 8) ≤ s.sketch.load.imageLen ∧
            s.sketch.commit = none) ∧
    (∃ (s : State) (src : CmdSrc) (b : Bytes) (n : Nat), Given s src b 0x11 n ∧ 9 ≤ n ∧ n ≤ 4064 ∧
        s.sketch.load.begun = false) ∧
    (∃ (s : State) (src : CmdSrc) (b : Bytes), Given s src b 0xB0 8 ∧ 4096 ≤ leAt (cmdParams b) 0 4 ∧
        leAt (cmdParams b) 0 4 ≤ 67108864 ∧ s.boot.writing = none) ∧
    (∃ (s : State) (src : CmdSrc) (b : Bytes) (n : Nat), Given s src b 0xB1 n ∧ 9 ≤ n ∧ n ≤ 4064 ∧
        s.boot.upload.begun = true ∧ leAt (cmdParams b) 0 4 + (n - 8) ≤ s.boot.upload.imageLen ∧
            s.boot.writing = none) ∧
    (∃ (s : State) (src : CmdSrc) (b : Bytes), Given s src b 0xB2 4 ∧ s.boot.upload.begun = true ∧
        loadFull s.boot.upload = true ∧ imageHeaderOk s.boot.upload.imageLen (loadBytes s.boot.upload) = true ∧
            tagFits s (loadBytes s.boot.upload) = true ∧ s.boot.writing = none ∧
            (imKind (loadBytes s.boot.upload) = 1 ∨ imKind (loadBytes s.boot.upload) = 2) ∧
            partFits (loadBytes s.boot.upload) = true ∧ floorMet s (decide (imKind (loadBytes s.boot.upload) = 2))
            (loadBytes s.boot.upload) = true) ∧
    (∃ (s : State) (src : CmdSrc) (b : Bytes), Given s src b 0xB2 4 ∧
        (s.boot.upload.begun = false ∨ loadFull s.boot.upload = false)) ∧
    (∃ (s : State) (src : CmdSrc) (act rf : Bool), s.boot.writing = some (src, false, act, rf)) ∧
    (∃ (s : State) (src : CmdSrc) (b : Bytes), Given s src b 0x10 16 ∧ 4096 ≤ leAt (cmdParams b) 0 4 ∧
        leAt (cmdParams b) 0 4 ≤ 268435456 ∧ s.sketch.commit ≠ none) ∧
    (∃ (s : State) (src : CmdSrc) (b : Bytes) (n : Nat), Given s src b 0x11 n ∧ 9 ≤ n ∧ n ≤ 4064 ∧
        s.sketch.load.begun = true ∧ s.sketch.load.imageLen < leAt (cmdParams b) 0 4 + (n - 8)) ∧
    (∃ (s : State) (src : CmdSrc) (b : Bytes) (n : Nat), Given s src b 0x11 n ∧ 9 ≤ n ∧ n ≤ 4064 ∧
        s.sketch.load.begun = true ∧ leAt (cmdParams b) 0 4 + (n - 8) ≤ s.sketch.load.imageLen ∧
            s.sketch.commit ≠ none) ∧
    (∃ (s : State) (src : CmdSrc) (b : Bytes), Given s src b 0xB0 8 ∧
        (leAt (cmdParams b) 0 4 < 4096 ∨ 67108864 < leAt (cmdParams b) 0 4)) ∧
    (∃ (s : State) (src : CmdSrc) (b : Bytes), Given s src b 0xB0 8 ∧ 4096 ≤ leAt (cmdParams b) 0 4 ∧
        leAt (cmdParams b) 0 4 ≤ 67108864 ∧ s.boot.writing ≠ none) ∧
    (∃ (s : State) (src : CmdSrc) (b : Bytes) (n : Nat), Given s src b 0xB1 n ∧ 9 ≤ n ∧ n ≤ 4064 ∧
        s.boot.upload.begun = false) ∧
    (∃ (s : State) (src : CmdSrc) (b : Bytes) (n : Nat), Given s src b 0xB1 n ∧ 9 ≤ n ∧ n ≤ 4064 ∧
        s.boot.upload.begun = true ∧ s.boot.upload.imageLen < leAt (cmdParams b) 0 4 + (n - 8)) ∧
    (∃ (s : State) (src : CmdSrc) (b : Bytes) (n : Nat), Given s src b 0xB1 n ∧ 9 ≤ n ∧ n ≤ 4064 ∧
        s.boot.upload.begun = true ∧ leAt (cmdParams b) 0 4 + (n - 8) ≤ s.boot.upload.imageLen ∧
            s.boot.writing ≠ none) ∧
    (∃ (s : State) (src : CmdSrc) (b : Bytes), Given s src b 0xB2 4 ∧ s.boot.upload.begun = true ∧
        loadFull s.boot.upload = true ∧ (imageHeaderOk s.boot.upload.imageLen
            (loadBytes s.boot.upload) = false ∨ tagFits s (loadBytes s.boot.upload) = false)) ∧
    (∃ (s : State) (src : CmdSrc) (b : Bytes), Given s src b 0xB2 4 ∧ s.boot.upload.begun = true ∧
        loadFull s.boot.upload = true ∧ imageHeaderOk s.boot.upload.imageLen (loadBytes s.boot.upload) = true ∧
            tagFits s (loadBytes s.boot.upload) = true ∧ s.boot.writing ≠ none) ∧
    (∃ (s : State) (src : CmdSrc) (b : Bytes), Given s src b 0xB2 4 ∧ s.boot.upload.begun = true ∧
        loadFull s.boot.upload = true ∧ imageHeaderOk s.boot.upload.imageLen (loadBytes s.boot.upload) = true ∧
            tagFits s (loadBytes s.boot.upload) = true ∧ s.boot.writing = none ∧
            (¬(imKind (loadBytes s.boot.upload) = 1 ∨ imKind (loadBytes s.boot.upload) = 2) ∨ partFits
            (loadBytes s.boot.upload) = false ∨ floorMet s (decide (imKind (loadBytes s.boot.upload) = 2))
            (loadBytes s.boot.upload) = false)) ∧
    (∃ (s : State) (src : CmdSrc) (act rf : Bool), s.boot.writing = some (src, true, act, rf)) ∧
    (∃ (s : State) (src : CmdSrc) (b : Bytes), Given s src b 0xB3 32 ∧ s.boot.secret = none) ∧
    (∃ (s : State) (src : CmdSrc) (b : Bytes), Given s src b 0xC0 8 ∧ namedResource (cmdParams b) = none) ∧
    (∃ (s : State) (src : CmdSrc) (b : Bytes) (r : _), Given s src b 0xC0 8 ∧ namedResource (cmdParams b) = some r ∧
        isRetired s r = false ∧ laneUnready s r = true) ∧
    (∃ (s : State) (src : CmdSrc) (b : Bytes) (r : _), Given s src b 0xC0 8 ∧ namedResource (cmdParams b) = some r ∧
        isRetired s r = false ∧ laneUnready s r = false ∧ (testOn s r = true ∨ 64 ≤ s.health.tests.length)) ∧
    (∃ (s : State) (src : CmdSrc) (b : Bytes) (k : BitVec 256), Given s src b 0xB3 32 ∧ s.boot.secret = some k) ∧
    (∃ (s : State) (src : CmdSrc) (b : Bytes) (r : TestRes), Given s src b 0xC0 8 ∧
        namedResource (cmdParams b) = some r ∧ isRetired s r = false ∧ laneUnready s r = false ∧ testOn s r = false ∧
            s.health.tests.length < 64) ∧
    (∃ (s : State) (src : CmdSrc) (b : Bytes) (r : TestRes), Given s src b 0xC0 8 ∧
        namedResource (cmdParams b) = some r ∧ isRetired s r = true) :=
  ⟨⟨(sent 0x10 (leBytes 16 4096) rd), ra, ((commandOf (sent 0x10 (leBytes 16 4096) rd) ra).getD []),
    by unfold Given Accepted; decide +kernel⟩,
  ⟨(sent 0x10 (leBytes 16 268435457) rd), ra, ((commandOf (sent 0x10 (leBytes 16 268435457) rd) ra).getD []),
    by unfold Given Accepted; decide +kernel⟩,
  ⟨(sent 0x11 (zeros 9) (updSketch (fun x => { x with load := lda }) rd)), ra,
      ((commandOf (sent 0x11 (zeros 9) (updSketch (fun x => { x with load := lda }) rd)) ra).getD []), 9,
    by unfold Given Accepted; decide +kernel⟩,
  ⟨(sent 0x11 (zeros 9) rd), ra, ((commandOf (sent 0x11 (zeros 9) rd) ra).getD []), 9,
    by unfold Given Accepted; decide +kernel⟩,
  ⟨(sent 0xB0 (leBytes 8 67108864) rd), ra, ((commandOf (sent 0xB0 (leBytes 8 67108864) rd) ra).getD []),
    by unfold Given Accepted; decide +kernel⟩,
  ⟨(sent 0xB1 (zeros 9) (updBoot (fun x => { x with upload := lda }) rd)), ra,
      ((commandOf (sent 0xB1 (zeros 9) (updBoot (fun x => { x with upload := lda }) rd)) ra).getD []), 9,
    by unfold Given Accepted; decide +kernel⟩,
  ⟨(sent 0xB2 (zeros 4) fwLoaded), ra, ((commandOf (sent 0xB2 (zeros 4) fwLoaded) ra).getD []),
    by unfold Given Accepted; decide +kernel⟩,
  ⟨(sent 0xB2 (zeros 4) rd), ra, ((commandOf (sent 0xB2 (zeros 4) rd) ra).getD []),
    by unfold Given Accepted; decide +kernel⟩,
  ⟨(updBoot (fun x => { x with writing := some (ra, false, true, true) }) rd),
      ((((updBoot (fun x => { x with writing := some (ra, false, true, true) }) rd).boot.writing).getD default).1),
          ((((updBoot
          (fun x => { x with writing := some (ra, false, true, true) }) rd).boot.writing).getD default).2.2.1),
          ((((updBoot
          (fun x => { x with writing := some (ra, false, true, true) }) rd).boot.writing).getD default).2.2.2),
    by decide +kernel⟩,
  ⟨(sent 0x10 (leBytes 16 4096) (updSketch (fun x => { x with commit := some ⟨.inband, 0, true, false⟩ }) rd)), ra,
      ((commandOf (sent 0x10 (leBytes 16 4096) (updSketch
          (fun x => { x with commit := some ⟨.inband, 0, true, false⟩ }) rd)) ra).getD []),
    by unfold Given Accepted; decide +kernel⟩,
  ⟨(sent 0x11 (leBytes 4 4096 ++ zeros 5) (updSketch (fun x => { x with load := lda }) rd)), ra,
      ((commandOf (sent 0x11 (leBytes 4 4096 ++ zeros 5) (updSketch
          (fun x => { x with load := lda }) rd)) ra).getD []), 9,
    by unfold Given Accepted; decide +kernel⟩,
  ⟨(sent 0x11 (zeros 9) (updSketch (fun x => { x with load := lda, commit := some ⟨.inband, 0, true, false⟩ }) rd)),
      ra, ((commandOf (sent 0x11 (zeros 9) (updSketch
          (fun x => { x with load := lda, commit := some ⟨.inband, 0, true, false⟩ }) rd)) ra).getD []), 9,
    by unfold Given Accepted; decide +kernel⟩,
  ⟨(sent 0xB0 (leBytes 8 4095) rd), ra, ((commandOf (sent 0xB0 (leBytes 8 4095) rd) ra).getD []),
    by unfold Given Accepted; decide +kernel⟩,
  ⟨(sent 0xB0 (leBytes 8 67108864) (updBoot
      (fun x => { x with writing := some (.inband, false, false, false) }) rd)), ra,
          ((commandOf (sent 0xB0 (leBytes 8 67108864) (updBoot
          (fun x => { x with writing := some (.inband, false, false, false) }) rd)) ra).getD []),
    by unfold Given Accepted; decide +kernel⟩,
  ⟨(sent 0xB1 (zeros 9) rd), ra, ((commandOf (sent 0xB1 (zeros 9) rd) ra).getD []), 9,
    by unfold Given Accepted; decide +kernel⟩,
  ⟨(sent 0xB1 (leBytes 4 4096 ++ zeros 5) (updBoot (fun x => { x with upload := lda }) rd)), ra,
      ((commandOf (sent 0xB1 (leBytes 4 4096 ++ zeros 5) (updBoot
          (fun x => { x with upload := lda }) rd)) ra).getD []), 9,
    by unfold Given Accepted; decide +kernel⟩,
  ⟨(sent 0xB1 (zeros 9) (updBoot
      (fun x => { x with upload := lda, writing := some (.inband, false, false, false) }) rd)), ra,
          ((commandOf (sent 0xB1 (zeros 9) (updBoot
          (fun x => { x with upload := lda, writing := some (.inband, false, false, false) }) rd)) ra).getD []), 9,
    by unfold Given Accepted; decide +kernel⟩,
  ⟨(sent 0xB2 (zeros 4) (updBoot
      (fun x => { x with upload := { begun := true, imageLen := 4096, covered := [(0, 4096)] } }) rd)), ra,
          ((commandOf (sent 0xB2 (zeros 4) (updBoot
          (fun x => { x with upload := { begun := true, imageLen := 4096, covered := [(0, 4096)] } }) rd)) ra).getD []),
    by unfold Given Accepted; decide +kernel⟩,
  ⟨(sent 0xB2 (zeros 4) (updBoot (fun x => { x with writing := some (.inband, false, false, false) }) fwLoaded)), ra,
      ((commandOf (sent 0xB2 (zeros 4) (updBoot
          (fun x => { x with writing := some (.inband, false, false, false) }) fwLoaded)) ra).getD []),
    by unfold Given Accepted; decide +kernel⟩,
  ⟨(sent 0xB2 (zeros 4) { fwLoaded with flash := { fwLoaded.flash with fwFloor := 0xFFFFFFFF } }), ra,
      ((commandOf (sent 0xB2
          (zeros 4) { fwLoaded with flash := { fwLoaded.flash with fwFloor := 0xFFFFFFFF } }) ra).getD []),
    by unfold Given Accepted; decide +kernel⟩,
  ⟨(updBoot (fun x => { x with writing := some (ra, true, true, false) }) rd),
      ((((updBoot (fun x => { x with writing := some (ra, true, true, false) }) rd).boot.writing).getD default).1),
          ((((updBoot
          (fun x => { x with writing := some (ra, true, true, false) }) rd).boot.writing).getD default).2.2.1),
          ((((updBoot
          (fun x => { x with writing := some (ra, true, true, false) }) rd).boot.writing).getD default).2.2.2),
    by decide +kernel⟩,
  ⟨(sent 0xB3 (zeros 32) (updBoot (fun x => { x with secret := none }) rd)), ra,
      ((commandOf (sent 0xB3 (zeros 32) (updBoot (fun x => { x with secret := none }) rd)) ra).getD []),
    by unfold Given Accepted; decide +kernel⟩,
  ⟨(sent 0xC0 (zeros 8) rd), ra, ((commandOf (sent 0xC0 (zeros 8) rd) ra).getD []),
    by unfold Given Accepted; decide +kernel⟩,
  ⟨(sent 0xC0 (leBytes 2 1 ++ leBytes 2 95 ++ leBytes 4 7) rd), ra, ((commandOf (sent 0xC0 (leBytes 2 1 ++
      leBytes 2 95 ++ leBytes 4 7) rd) ra).getD []), ((namedResource (cmdParams ((commandOf (sent 0xC0
          (leBytes 2 1 ++ leBytes 2 95 ++ leBytes 4 7) rd) ra).getD []))).getD default),
    by unfold Given Accepted; decide +kernel⟩,
  ⟨(sent 0xC0 (leBytes 2 4 ++ leBytes 6 31) (updHealth (fun x => { x with tests := [{ res := .palette 31 }] }) rd)),
      ra, ((commandOf (sent 0xC0 (leBytes 2 4 ++ leBytes 6 31) (updHealth
          (fun x => { x with tests := [{ res := .palette 31 }] }) rd)) ra).getD []),
          ((namedResource (cmdParams ((commandOf (sent 0xC0 (leBytes 2 4 ++
          leBytes 6 31) (updHealth
          (fun x => { x with tests := [{ res := .palette 31 }] }) rd)) ra).getD []))).getD default),
    by unfold Given Accepted; decide +kernel⟩,
  ⟨(sent 0xB3 (zeros 32) rd), ra, ((commandOf (sent 0xB3 (zeros 32) rd) ra).getD []),
      (((sent 0xB3 (zeros 32) rd).boot.secret).getD default),
    by unfold Given Accepted; decide +kernel⟩,
  ⟨(sent 0xC0 (leBytes 8 0x1F0004) rd), ra, ((commandOf (sent 0xC0 (leBytes 8 0x1F0004) rd) ra).getD []),
      ((namedResource (cmdParams ((commandOf (sent 0xC0 (leBytes 8 0x1F0004) rd) ra).getD []))).getD default),
    by unfold Given Accepted; decide +kernel⟩,
  ⟨(sent 0xC0 (leBytes 8 0x1F0004) (updHealth (fun x => { x with retiredNow := [.palette 31] }) rd)), ra,
      ((commandOf (sent 0xC0 (leBytes 8 0x1F0004) (updHealth
          (fun x => { x with retiredNow := [.palette 31] }) rd)) ra).getD []),
          ((namedResource (cmdParams ((commandOf (sent 0xC0 (leBytes 8 0x1F0004) (updHealth
          (fun x => { x with retiredNow := [.palette 31] }) rd)) ra).getD []))).getD default),
    by unfold Given Accepted; decide +kernel⟩⟩

theorem witness_CommitsAndPlanSwitches :
    (∃ (s : State) (src : CmdSrc) (b : Bytes), Given s src b 0x12 8 ∧ s.sketch.load.begun = true ∧
        s.sketch.commit = none) ∧
    (∃ (s : State) (src : CmdSrc) (b : Bytes), Given s src b 0x12 8 ∧ s.sketch.load.begun = true ∧
        s.sketch.commit ≠ none) ∧
    (∃ (s : State) (src : CmdSrc) (b : Bytes), Given s src b 0x12 8 ∧ s.sketch.load.begun = false) ∧
    (∃ (s : State) (c : Commit), s.sketch.commit = some c ∧ c.armed = false ∧ loadFull s.sketch.load = false) ∧
    (∃ (s : State) (c : Commit), s.sketch.commit = some c ∧ c.armed = false ∧ loadFull s.sketch.load = true) ∧
    (∃ (s : State) (b : Bytes), headerOk s b = false) ∧
    (∃ (s : State) (b : Bytes), headerOk s b = true ∧ sketchSigned s b = false) ∧
    (∃ (s : State) (b : Bytes), headerOk s b = true ∧ (¬(leAt b 4 2 = 1 ∧ leAt b 24 2 = 0x9600 ∧
        leAt b 26 2 ≤ revision))) ∧
    (∃ (s : State) (b : Bytes), headerOk s b = true ∧ leAt b 4 2 = 1 ∧ leAt b 24 2 = 0x9600 ∧
        leAt b 26 2 ≤ revision ∧ leAt b 28 4 ≠ 0 ∧ leAt b 28 4 ≠ s.boot.chipTag.toNat) ∧
    (∃ (s : State) (c : Commit), c.now = true ∧ s.sketch.running ≠ none) ∧
    (∃ (s : State) (c : Commit), c.now = false ∧ (s.tick.running = false ∨ farEnough s c.start = false)) ∧
    (∃ (s : State) (b : Bytes) (t : _), headerOk s b = true ∧ leAt b 4 2 = 1 ∧ leAt b 24 2 = 0x9600 ∧
        leAt b 26 2 ≤ revision ∧ (leAt b 28 4 = 0 ∨ leAt b 28 4 = s.boot.chipTag.toNat) ∧
            misplaced (leAt b 36 4) (sectionsOf b) = some t) ∧
    (∃ (s : State) (b : Bytes) (t : _), headerOk s b = true ∧ leAt b 4 2 = 1 ∧ leAt b 24 2 = 0x9600 ∧
        leAt b 26 2 ≤ revision ∧ (leAt b 28 4 = 0 ∨ leAt b 28 4 = s.boot.chipTag.toNat) ∧
            misplaced (leAt b 36 4) (sectionsOf b) = none ∧ unpaired (sectionsOf b) = some t) ∧
    (∃ (s : State) (b : Bytes), headerOk s b = true ∧ leAt b 4 2 = 1 ∧ leAt b 24 2 = 0x9600 ∧
        leAt b 26 2 ≤ revision ∧ (leAt b 28 4 = 0 ∨ leAt b 28 4 = s.boot.chipTag.toNat) ∧
            misplaced (leAt b 36 4) (sectionsOf b) = none ∧ unpaired (sectionsOf b) = none ∧ (hasIdentity s = false ∧
            (sectionsOf b).any (fun x => x.typ = 1) = false)) ∧
    (∃ (s : State) (b : Bytes) (e : _), headerOk s b = true ∧ leAt b 4 2 = 1 ∧ leAt b 24 2 = 0x9600 ∧
        leAt b 26 2 ≤ revision ∧ (leAt b 28 4 = 0 ∨ leAt b 28 4 = s.boot.chipTag.toNat) ∧
            misplaced (leAt b 36 4) (sectionsOf b) = none ∧ unpaired (sectionsOf b) = none ∧
            (¬ (hasIdentity s = false ∧ (sectionsOf b).any (fun x => x.typ = 1) = false)) ∧ recordFault b = some e) ∧
    (∃ (s : State) (b : Bytes) (e : _), headerOk s b = true ∧ leAt b 4 2 = 1 ∧ leAt b 24 2 = 0x9600 ∧
        leAt b 26 2 ≤ revision ∧ (leAt b 28 4 = 0 ∨ leAt b 28 4 = s.boot.chipTag.toNat) ∧
            misplaced (leAt b 36 4) (sectionsOf b) = none ∧ unpaired (sectionsOf b) = none ∧
            (¬ (hasIdentity s = false ∧ (sectionsOf b).any (fun x => x.typ = 1) = false)) ∧ recordFault b = none ∧
            contentFault s b ((propose s b).judged s) = some e) ∧
    (∃ (s : State) (b : Bytes), headerOk s b = true ∧ leAt b 4 2 = 1 ∧ leAt b 24 2 = 0x9600 ∧
        leAt b 26 2 ≤ revision ∧ (leAt b 28 4 = 0 ∨ leAt b 28 4 = s.boot.chipTag.toNat) ∧
            misplaced (leAt b 36 4) (sectionsOf b) = none ∧ unpaired (sectionsOf b) = none ∧
            (hasIdentity s = true ∨ (sectionsOf b).any (fun x => x.typ = 1) = true) ∧ recordFault b = none ∧
            contentFault s b ((propose s b).judged s) = none ∧
            (capacityShort ((propose s b).judged s).streams (propose s b).plans (((propose s b).tickSet.map
            (·.period)).getD 4000)).none_ = false) ∧
    (∃ (s : State) (b : Bytes), headerOk s b = true ∧ leAt b 4 2 = 1 ∧ leAt b 24 2 = 0x9600 ∧
        leAt b 26 2 ≤ revision ∧ (leAt b 28 4 = 0 ∨ leAt b 28 4 = s.boot.chipTag.toNat) ∧
            misplaced (leAt b 36 4) (sectionsOf b) = none ∧ unpaired (sectionsOf b) = none ∧
            (hasIdentity s = true ∨ (sectionsOf b).any (fun x => x.typ = 1) = true) ∧ recordFault b = none ∧
            contentFault s b ((propose s b).judged s) = none ∧
            (capacityShort ((propose s b).judged s).streams (propose s b).plans (((propose s b).tickSet.map
            (·.period)).getD 4000)).none_ = true ∧ ((canvasShort (propose s b)).1 ≠ 0 ∨ (canvasShort
            (propose s b)).2.1 ≠ 0)) ∧
    (∃ (s : State) (c : Commit) (b : Bytes), headerOk s b = true ∧ leAt b 4 2 = 1 ∧ leAt b 24 2 = 0x9600 ∧
        leAt b 26 2 ≤ revision ∧ (leAt b 28 4 = 0 ∨ leAt b 28 4 = s.boot.chipTag.toNat) ∧
            misplaced (leAt b 36 4) (sectionsOf b) = none ∧ unpaired (sectionsOf b) = none ∧
            (hasIdentity s = true ∨ (sectionsOf b).any (fun x => x.typ = 1) = true) ∧ recordFault b = none ∧
            contentFault s b ((propose s b).judged s) = none ∧
            (capacityShort ((propose s b).judged s).streams (propose s b).plans (((propose s b).tickSet.map
            (·.period)).getD 4000)).none_ = true ∧ (canvasShort (propose s b)).1 = 0 ∧
            (canvasShort (propose s b)).2.1 = 0 ∧ (¬
            (if c.now then s.sketch.running = none else s.tick.running = true ∧ farEnough s c.start = true))) ∧
    (∃ (s : State) (c : Commit) (b : Bytes), headerOk s b = true ∧ leAt b 4 2 = 1 ∧ leAt b 24 2 = 0x9600 ∧
        leAt b 26 2 ≤ revision ∧ (leAt b 28 4 = 0 ∨ leAt b 28 4 = s.boot.chipTag.toNat) ∧
            misplaced (leAt b 36 4) (sectionsOf b) = none ∧ unpaired (sectionsOf b) = none ∧
            (hasIdentity s = true ∨ (sectionsOf b).any (fun x => x.typ = 1) = true) ∧ recordFault b = none ∧
            contentFault s b ((propose s b).judged s) = none ∧
            (capacityShort ((propose s b).judged s).streams (propose s b).plans (((propose s b).tickSet.map
            (·.period)).getD 4000)).none_ = true ∧ (canvasShort (propose s b)).1 = 0 ∧
            (canvasShort (propose s b)).2.1 = 0 ∧ (if c.now then s.sketch.running = none else s.tick.running = true ∧
            farEnough s c.start = true)) ∧
    (∃ (s : State) (b : Bytes), (propose s b).carried.contains 8 = true) ∧
    (∃ (st : W16), st ≠ stOk) ∧
    (∃ (s : State) (src : CmdSrc) (b : Bytes), Given s src b 0x13 8 ∧ s.tick.locked = false) ∧
    (∃ (s : State) (src : CmdSrc) (b : Bytes), Given s src b 0x13 8 ∧ s.tick.locked = true ∧
        (planPresent s (leAt (cmdParams b) 0 1) = false ∨ farEnough s (w32 (leAt (cmdParams b) 4 4)) = false)) ∧
    (∃ (s : State) (src : CmdSrc) (b : Bytes), Given s src b 0x13 8 ∧ s.tick.locked = true ∧
        planPresent s (leAt (cmdParams b) 0 1) = true ∧ farEnough s (w32 (leAt (cmdParams b) 4 4)) = true ∧
            switchBusy s (w32 (leAt (cmdParams b) 4 4)) = true) ∧
    (∃ (s : State) (src : CmdSrc) (b : Bytes), Given s src b 0x13 8 ∧ s.tick.locked = true ∧
        planPresent s (leAt (cmdParams b) 0 1) = true ∧ farEnough s (w32 (leAt (cmdParams b) 4 4)) = true ∧
            switchBusy s (w32 (leAt (cmdParams b) 4 4)) = false) ∧
    (∃ (s : State) (p : Nat) (n : W32), s.sketch.pending = some (p, n) ∧ switchDue s = true ∧ commitDue s = false) :=
  ⟨⟨(sent 0x12 (zeros 8) (updSketch (fun x => { x with load := lda }) rd)), ra,
      ((commandOf (sent 0x12 (zeros 8) (updSketch (fun x => { x with load := lda }) rd)) ra).getD []),
    by unfold Given Accepted; decide +kernel⟩,
  ⟨(sent 0x12 (zeros 8) (updSketch (fun x => { x with load := lda, commit := some ⟨.inband, 0, true, false⟩ }) rd)),
      ra, ((commandOf (sent 0x12 (zeros 8) (updSketch
          (fun x => { x with load := lda, commit := some ⟨.inband, 0, true, false⟩ }) rd)) ra).getD []),
    by unfold Given Accepted; decide +kernel⟩,
  ⟨(sent 0x12 (zeros 8) rd), ra, ((commandOf (sent 0x12 (zeros 8) rd) ra).getD []),
    by unfold Given Accepted; decide +kernel⟩,
  ⟨(sent 0x12 (zeros 8) (updSketch (fun x => { x with load := lda, commit := some ⟨.inband, 0, true, false⟩ }) rd)),
      (((sent 0x12 (zeros 8) (updSketch
          (fun x => { x with load := lda, commit := some ⟨.inband, 0, true, false⟩ }) rd)).sketch.commit).getD default),
    by decide +kernel⟩,
  ⟨(updSketch
      (fun x => { x with load := { begun := true, imageLen := 1, mem := [], covered := [(0, 1)] }, commit := some ⟨.inband, 0, true, false⟩ }) rd), (((updSketch (fun x => { x with load := { begun := true, imageLen := 1, mem := [], covered := [(0, 1)] }, commit := some ⟨.inband, 0, true, false⟩ }) rd).sketch.commit).getD default),
    by decide +kernel⟩,
  ⟨(updSketch
      (fun x => { x with load := { begun := true, imageLen := 3536, sketchId := 1 }, running := some (0, 0) }) rd), [],
    by decide +kernel⟩,
  ⟨(updSketch
      (fun x => { x with load := { begun := true, imageLen := 3536, sketchId := 1 }, running := some (0, 0) }) rd),
          (headB 1 0),
    by decide +kernel⟩,
  ⟨(updSketch
      (fun x => { x with load := { begun := true, imageLen := 3536, sketchId := 1 }, running := some (0, 0) }) rd),
          (headB 2 0),
    by decide +kernel⟩,
  ⟨(updSketch
      (fun x => { x with load := { begun := true, imageLen := 3536, sketchId := 1 }, running := some (0, 0) }) rd),
          (headB 1 6),
    by decide +kernel⟩,
  ⟨(updSketch
      (fun x => { x with load := { begun := true, imageLen := 3536, sketchId := 1 }, running := some (0, 0) }) rd),
          ⟨.inband, 0, true, false⟩,
    by decide +kernel⟩,
  ⟨(updSketch
      (fun x => { x with load := { begun := true, imageLen := 3536, sketchId := 1 }, running := some (0, 0) }) rd),
          ⟨.inband, 15, false, false⟩,
    by decide +kernel⟩,
  ⟨(loading [(13, [])] (named rd)), (sketchB [(13, [])]), ((misplaced (leAt (sketchB [(13,
      [])]) 36 4) (sectionsOf (sketchB [(13, [])]))).getD default),
    by decide +kernel⟩,
  ⟨(loading [(11, [])] (named rd)), (sketchB [(11, [])]), ((unpaired (sectionsOf (sketchB [(11, [])]))).getD default),
    by decide +kernel⟩,
  ⟨(loading [(12, [])] rd), (sketchB [(12, [])]),
    by decide +kernel⟩,
  ⟨(loading [(2, zeros 16)] (named rd)), (sketchB [(2, zeros 16)]), ((recordFault (sketchB [(2,
      zeros 16)])).getD default),
    by decide +kernel⟩,
  ⟨(loading [(1, zeros 16)] (named rd)), (sketchB [(1, zeros 16)]), ((contentFault (loading [(1,
      zeros 16)] (named rd)) (sketchB [(1, zeros 16)]) ((propose (loading [(1, zeros 16)] (named rd)) (sketchB [(1,
          zeros 16)])).judged (loading [(1, zeros 16)] (named rd)))).getD default),
    by decide +kernel⟩,
  ⟨(loading [(2, [])] (named (updSwitch (fun x => { x with portSets := [(0, 1)] }) (updStreams
      (fun x => { x with segments := [(5, 0x101)], segList := [(0, 5)], streams := [(7, 1 + 4 * 2 ^ 2 + 15 * 2 ^ 8 + 2 ^ 82)] }) (updSketch (fun x => { x with plans := some { entries := [[16 * 2 ^ 18]], items := List.replicate 16 (7 + 4096 * 2 ^ 16) } }) rd))))), (sketchB [(2, [])]),
    by decide +kernel⟩,
  ⟨(loading [(6, leBytes 4 0 ++ leBytes 4 16385 ++ zeros 8)] (named rd)), (sketchB [(6, leBytes 4 0 ++
      leBytes 4 16385 ++ zeros 8)]),
    by decide +kernel⟩,
  ⟨(loading [(2, [])] (named (updSketch (fun x => { x with running := some (0, 0) }) rd))), ⟨.inband, 0, true,
      false⟩, (sketchB [(2, [])]),
    by decide +kernel⟩,
  ⟨(loading [(2, [])] (named rd)), ⟨.inband, 0, true, false⟩, (sketchB [(2, [])]),
    by decide +kernel⟩,
  ⟨rd, (sketchB [(8, leBytes 4 7 ++ zeros 4 ++ leBytes 24 (1 + 2 ^ 82 + 9 * 2 ^ 128))]),
    by decide +kernel⟩,
  ⟨1,
    by decide +kernel⟩,
  ⟨(sent 0x13 (zeros 4 ++ leBytes 4 116) rd), ra, ((commandOf (sent 0x13 (zeros 4 ++ leBytes 4 116) rd) ra).getD []),
    by unfold Given Accepted; decide +kernel⟩,
  ⟨(sent 0x13 (zeros 4 ++ leBytes 4 115) (updSketch (fun x => { x with plans := some { entries := [[]] } }) (updTick
      (fun x => { x with locked := true, running := true, number := 100 }) rd))), ra,
          ((commandOf (sent 0x13 (zeros 4 ++ leBytes 4 115) (updSketch
          (fun x => { x with plans := some { entries := [[]] } }) (updTick
          (fun x => { x with locked := true, running := true, number := 100 }) rd))) ra).getD []),
    by unfold Given Accepted; decide +kernel⟩,
  ⟨(sent 0x13 (zeros 4 ++ leBytes 4 116) (updSketch
      (fun x => { x with plans := some { entries := [[]] }, pending := some (0, 115) }) (updTick
          (fun x => { x with locked := true, running := true, number := 100 }) rd))), ra,
          ((commandOf (sent 0x13 (zeros 4 ++ leBytes 4 116) (updSketch
          (fun x => { x with plans := some { entries := [[]] }, pending := some (0, 115) }) (updTick
          (fun x => { x with locked := true, running := true, number := 100 }) rd))) ra).getD []),
    by unfold Given Accepted; decide +kernel⟩,
  ⟨(sent 0x13 (zeros 4 ++ leBytes 4 116) (updSketch (fun x => { x with plans := some { entries := [[]] } }) (updTick
      (fun x => { x with locked := true, running := true, number := 100 }) rd))), ra,
          ((commandOf (sent 0x13 (zeros 4 ++ leBytes 4 116) (updSketch
          (fun x => { x with plans := some { entries := [[]] } }) (updTick
          (fun x => { x with locked := true, running := true, number := 100 }) rd))) ra).getD []),
    by unfold Given Accepted; decide +kernel⟩,
  ⟨(updSketch (fun x => { x with pending := some (0, 100) }) (updTick
      (fun x => { x with locked := true, running := true, number := 100 }) rd)),
          ((((updSketch (fun x => { x with pending := some (0, 100) }) (updTick
          (fun x => { x with locked := true, running := true, number := 100 }) rd)).sketch.pending).getD default).1),
          ((((updSketch (fun x => { x with pending := some (0, 100) }) (updTick
          (fun x => { x with locked := true, running := true, number := 100 }) rd)).sketch.pending).getD default).2),
    by decide +kernel⟩⟩

theorem witness_ActivationInstallsTheSketch :
    (∃ (p : Proposed), 1 ∈ p.carried) ∧
    (∃ (p : Proposed), 1 ∉ p.carried) ∧
    (∃ (p : Proposed), 10 ∉ p.carried) ∧
    (∃ (p : Proposed) (ts : _), 10 ∈ p.carried ∧ p.tickSet = some ts) ∧
    (∃ (s : State) (q : Nat) (n : W32), s.sketch.pending = some (q, n)) ∧
    (∃ (s : State) (c : Commit), s.sketch.commit = some c ∧ commitDue s = true) ∧
    (∃ (s : State), commitDue s = false) :=
  ⟨⟨({ propose rd [] with carried := [1] } : Proposed),
    by decide +kernel⟩,
  ⟨(propose rd []),
    by decide +kernel⟩,
  ⟨(propose rd []),
    by decide +kernel⟩,
  ⟨({ propose rd [] with carried := [10], tickSet := some ts } : Proposed),
      ((({ propose rd [] with carried := [10], tickSet := some ts } : Proposed).tickSet).getD default),
    by decide +kernel⟩,
  ⟨(sent 0x13 (zeros 4 ++ leBytes 4 116) (updSketch
      (fun x => { x with plans := some { entries := [[]] }, pending := some (0, 115) }) (updTick
          (fun x => { x with locked := true, running := true, number := 100 }) rd))), ((((sent 0x13 (zeros 4 ++
          leBytes 4 116) (updSketch
          (fun x => { x with plans := some { entries := [[]] }, pending := some (0, 115) }) (updTick
          (fun x => { x with locked := true, running := true, number := 100 }) rd))).sketch.pending).getD default).1), ((((sent 0x13 (zeros 4 ++ leBytes 4 116) (updSketch (fun x => { x with plans := some { entries := [[]] }, pending := some (0, 115) }) (updTick (fun x => { x with locked := true, running := true, number := 100 }) rd))).sketch.pending).getD default).2),
    by decide +kernel⟩,
  ⟨(updSketch (fun x => { x with commit := some ⟨.inband, 100, false, true⟩ }) (updTick
      (fun x => { x with locked := true, running := true, number := 100 }) rd)),
          (((updSketch (fun x => { x with commit := some ⟨.inband, 100, false, true⟩ }) (updTick
          (fun x => { x with locked := true, running := true, number := 100 }) rd)).sketch.commit).getD default),
    by decide +kernel⟩,
  ⟨{ rd with pending := [.refclkLoss, .powerOn] },
    by decide +kernel⟩⟩

theorem witness_PortCommands :
    (∃ (s : State) (src : CmdSrc) (b : Bytes), Given s src b 0x20 16 ∧ maskBad s (cmdParams b) = true) ∧
    (∃ (s : State) (src : CmdSrc) (b : Bytes), Given s src b 0x21 16 ∧ maskBad s (cmdParams b) = true) ∧
    (∃ (s : State) (src : CmdSrc) (b : Bytes), Given s src b 0x23 16 ∧ maskBad s (cmdParams b) = true) ∧
    (∃ (s : State) (src : CmdSrc) (b : Bytes), Given s src b 0x22 16 ∧
        (maskBad s (cmdParams b) = true ∨ leAt (cmdParams b) 12 4 = 0 ∨ 100000 < leAt (cmdParams b) 12 4)) ∧
    (∃ (s : State) (src : CmdSrc) (b : Bytes), Given s src b 0x20 16 ∧ maskBad s (cmdParams b) = false) ∧
    (∃ (s : State) (src : CmdSrc) (b : Bytes), maskBad s (cmdParams b) = false ∧ Given s src b 0x21 16) ∧
    (∃ (s : State) (src : CmdSrc) (b : Bytes), maskBad s (cmdParams b) = false ∧ Given s src b 0x23 16) ∧
    (∃ (s : State) (p : Nat), p < 96 ∧ s.ports.length = 96) ∧
    (∃ (s : State) (p : Nat), p < 96 ∧ s.ports.length = 96 ∧ (portOf s p).state ≠ .running) ∧
    (∃ (s : State) (p : Nat), p < 96 ∧ s.ports.length = 96 ∧ (portOf s p).state = .running ∧
        (portOf s p).quiesce = none) ∧
    (∃ (s : State) (p d : Nat), p < 96 ∧ s.ports.length = 96 ∧ (portOf s p).state = .running ∧
        (portOf s p).quiesce = some d ∧ (allAcked (portOf s p) = true ∨ d ≤ s.now) ∧ (portOf s p).washing = false) ∧
    (∃ (s : State) (src : CmdSrc) (b : Bytes) (p : Nat), Given s src b 0x22 16 ∧ maskPorts (cmdParams b) = [p] ∧
        (roleOf s p).role ≠ 0 ∧ s.ports.length = 96 ∧ s.host.washes = [] ∧ 1 ≤ leAt (cmdParams b) 12 4 ∧
            leAt (cmdParams b) 12 4 ≤ 100000 ∧ (portOf s p).state = .running ∧ (portOf s p).admitted = true) ∧
    (∃ (s : State) (src : CmdSrc) (b : Bytes), Given s src b 0x22 16 ∧ maskBad s (cmdParams b) = false ∧
        1 ≤ leAt (cmdParams b) 12 4 ∧ leAt (cmdParams b) 12 4 ≤ 100000) ∧
    (∃ (s : State) (p : Nat), p < 96 ∧ s.ports.length = 96 ∧ (portOf s p).state = .disabled) ∧
    (∃ (s : State) (p : Nat), p < 96 ∧ s.ports.length = 96 ∧ (portOf s p).admitted = false) ∧
    (∃ (s : State) (p : Nat) (w : Wash), p < 96 ∧ s.ports.length = 96 ∧ s.host.washes = [w] ∧
        maskList 96 w.ports.toNat = [p] ∧ w.undrained = 0 ∧ (portOf s p).washing = true ∧ drained s p = true) ∧
    (∃ (s : State) (p : Nat) (w : Wash), p < 96 ∧ s.ports.length = 96 ∧ w.src.ok = true ∧ s.host.washes = [w] ∧
        maskList 96 w.ports.toNat = [p] ∧ (portOf s p).washing = true ∧ w.deadline ≤ s.now) ∧
    (∃ (s : State) (p : Nat), p < 96 ∧ (portOf s p).washing = false) :=
  ⟨⟨(sent 0x20 (zeros 16) rd), ra, ((commandOf (sent 0x20 (zeros 16) rd) ra).getD []),
    by unfold Given Accepted; decide +kernel⟩,
  ⟨(sent 0x21 (leBytes 16 (2 ^ 96)) rd), ra, ((commandOf (sent 0x21 (leBytes 16 (2 ^ 96)) rd) ra).getD []),
    by unfold Given Accepted; decide +kernel⟩,
  ⟨(sent 0x23 (leBytes 16 (2 ^ 96)) rd), ra, ((commandOf (sent 0x23 (leBytes 16 (2 ^ 96)) rd) ra).getD []),
    by unfold Given Accepted; decide +kernel⟩,
  ⟨(sent 0x22 (leBytes 12 (2 ^ 95) ++ leBytes 4 100001) rd), ra, ((commandOf (sent 0x22 (leBytes 12 (2 ^ 95) ++
      leBytes 4 100001) rd) ra).getD []),
    by unfold Given Accepted; decide +kernel⟩,
  ⟨(sent 0x20 (leBytes 16 (2 ^ 95)) rd), ra, ((commandOf (sent 0x20 (leBytes 16 (2 ^ 95)) rd) ra).getD []),
    by unfold Given Accepted; decide +kernel⟩,
  ⟨(sent 0x21 (leBytes 16 (2 ^ 95)) (port { up with state := .listen } rd)), ra,
      ((commandOf (sent 0x21 (leBytes 16 (2 ^ 95)) (port { up with state := .listen } rd)) ra).getD []),
    by unfold Given Accepted; decide +kernel⟩,
  ⟨(sent 0x23 (leBytes 16 (2 ^ 95)) (port { up with state := .disabled } rd)), ra,
      ((commandOf (sent 0x23 (leBytes 16 (2 ^ 95)) (port { up with state := .disabled } rd)) ra).getD []),
    by unfold Given Accepted; decide +kernel⟩,
  ⟨{ rd with pending := [.refclkLoss, .powerOn] }, 95,
    by decide +kernel⟩,
  ⟨{ rd with pending := [.refclkLoss, .powerOn] }, 95,
    by decide +kernel⟩,
  ⟨(sent 0x23 (leBytes 16 (2 ^ 95)) (port { up with state := .running } rd)), 95,
    by decide +kernel⟩,
  ⟨(port { up with quiesce := some 5 } rd), 95, (((portOf
      (port { up with quiesce := some 5 } rd) 95).quiesce).getD default),
    by decide +kernel⟩,
  ⟨(sent 0x22 (leBytes 12 (2 ^ 95) ++ leBytes 4 100000) (port { up with admitted := true } rd)), ra,
      ((commandOf (sent 0x22 (leBytes 12 (2 ^ 95) ++ leBytes 4 100000)
          (port { up with admitted := true } rd)) ra).getD []),
          ((maskPorts (cmdParams ((commandOf (sent 0x22 (leBytes 12 (2 ^ 95) ++
          leBytes 4 100000) (port { up with admitted := true } rd)) ra).getD []))).headD default),
    by unfold Given Accepted; decide +kernel⟩,
  ⟨(sent 0x22 (leBytes 12 (2 ^ 95) ++ leBytes 4 100000) (port { up with admitted := true } rd)), ra,
      ((commandOf (sent 0x22 (leBytes 12 (2 ^ 95) ++ leBytes 4 100000)
          (port { up with admitted := true } rd)) ra).getD []),
    by unfold Given Accepted; decide +kernel⟩,
  ⟨{ rd with pending := [.refclkLoss, .powerOn] }, 95,
    by decide +kernel⟩,
  ⟨{ rd with pending := [.refclkLoss, .powerOn] }, 95,
    by decide +kernel⟩,
  ⟨(updHost (fun x => { x with washes := [{ src := .inband, ports := 2 ^ 95, deadline := 5 }] })
      (port { up with washing := true } rd)), ((maskList 96 (((updHost
          (fun x => { x with washes := [{ src := .inband, ports := 2 ^ 95, deadline := 5 }] })
          (port { up with washing := true } rd)).host.washes).headD default).ports.toNat).headD default),
          (((updHost (fun x => { x with washes := [{ src := .inband, ports := 2 ^ 95, deadline := 5 }] })
          (port { up with washing := true } rd)).host.washes).headD default),
    by decide +kernel⟩,
  ⟨(updHost (fun x => { x with washes := [{ src := .inband, ports := 2 ^ 95, deadline := 5 }] })
      (port { up with washing := true } rd)), ((maskList 96 (((updHost
          (fun x => { x with washes := [{ src := .inband, ports := 2 ^ 95, deadline := 5 }] })
          (port { up with washing := true } rd)).host.washes).headD default).ports.toNat).headD default),
          (((updHost (fun x => { x with washes := [{ src := .inband, ports := 2 ^ 95, deadline := 5 }] })
          (port { up with washing := true } rd)).host.washes).headD default),
    by decide +kernel⟩,
  ⟨{ rd with pending := [.refclkLoss, .powerOn] }, 95,
    by decide +kernel⟩⟩

theorem witness_TableCommands :
    (∃ (s : State) (src : CmdSrc) (b : Bytes) (n : Nat), Given s src b 0x30 n ∧ s.sketch.commit = none ∧
        defineLength b = true ∧ defineOk s (leAt (cmdParams b) 0 2) (cmdParams b) = true ∧
            ((groupOf s (leAt (cmdParams b) 0 2)).isSome && hasSlots s (leAt (cmdParams b) 0 2)) = false) ∧
    (∃ (s : State) (src : CmdSrc) (b : Bytes) (n : Nat), Given s src b 0x30 n ∧ s.sketch.commit = none ∧
        defineLength b = true ∧ defineOk s (leAt (cmdParams b) 0 2) (cmdParams b) = false) ∧
    (∃ (s : State) (src : CmdSrc) (b : Bytes) (n : Nat), Given s src b 0x30 n ∧ s.sketch.commit = none ∧
        defineLength b = true ∧ defineOk s (leAt (cmdParams b) 0 2) (cmdParams b) = true ∧
            ((groupOf s (leAt (cmdParams b) 0 2)).isSome && hasSlots s (leAt (cmdParams b) 0 2)) = true) ∧
    (∃ (s : State) (src : CmdSrc) (b : Bytes), Given s src b 0x31 4 ∧ s.sketch.commit = none ∧
        leAt (cmdParams b) 0 2 < 16384 ∧ groupOf s (leAt (cmdParams b) 0 2) = none) ∧
    (∃ (s : State) (src : CmdSrc) (b : Bytes), Given s src b 0x31 4 ∧ s.sketch.commit = none ∧
        leAt (cmdParams b) 0 2 < 16384 ∧ groupOf s (leAt (cmdParams b) 0 2) ≠ none ∧
            hasSlots s (leAt (cmdParams b) 0 2) = false) ∧
    (∃ (s : State) (src : CmdSrc) (b : Bytes), Given s src b 0x31 4 ∧ s.sketch.commit = none ∧
        16384 ≤ leAt (cmdParams b) 0 2) ∧
    (∃ (s : State) (src : CmdSrc) (b : Bytes), Given s src b 0x31 4 ∧ s.sketch.commit = none ∧
        leAt (cmdParams b) 0 2 < 16384 ∧ ((groupOf s (leAt (cmdParams b) 0 2)).isSome && hasSlots s (leAt
            (cmdParams b) 0 2)) = true) ∧
    (∃ (s : State) (src : CmdSrc) (b : Bytes), Given s src b 0x32 16 ∧ s.sketch.commit = none ∧
        leAt (cmdParams b) 0 2 < 16384 ∧ portSetOk s.sketch.roles (leAt (cmdParams b) 4 12) = true) ∧
    (∃ (s : State) (src : CmdSrc) (b : Bytes), Given s src b 0x32 16 ∧ s.sketch.commit = none ∧
        (16384 ≤ leAt (cmdParams b) 0 2 ∨ portSetOk s.sketch.roles (leAt (cmdParams b) 4 12) = false)) ∧
    (∃ (s : State) (src : CmdSrc) (b : Bytes) (n : Nat), Given s src b 0x40 n ∧ s.sketch.commit = none ∧
        routeLength b = true ∧ leAt (cmdParams b) 0 4 + routeCount (cmdParams b) ≤ 65536 ∧
            (∀ e ∈ routeEntries (cmdParams b), routeEntryOk s.sketch.roles e.1 e.2 = true ∧
            (hasIdentity s = true ∨ routeValid e.2 = false))) ∧
    (∃ (s : State) (src : CmdSrc) (b : Bytes) (n : Nat) (e : Nat × Nat), Given s src b 0x40 n ∧
        s.sketch.commit = none ∧ routeLength b = true ∧ hasIdentity s = false ∧ e ∈ routeEntries (cmdParams b) ∧
            routeValid e.2 = true) ∧
    (∃ (s : State) (src : CmdSrc) (b : Bytes) (n : Nat), Given s src b 0x40 n ∧ s.sketch.commit = none ∧
        routeLength b = true ∧ (hasIdentity s = true ∨ ∀ e ∈ routeEntries (cmdParams b), routeValid e.2 = false) ∧
            (65536 < leAt (cmdParams b) 0 4 + routeCount (cmdParams b) ∨ ∃ e ∈ routeEntries (cmdParams b),
            routeEntryOk s.sketch.roles e.1 e.2 = false)) ∧
    (∃ (s : State) (src : CmdSrc) (b : Bytes), Accepted s src b ∧ s.sketch.commit ≠ none ∧ cmdOpcode b = 0x30 ∧
        defineLength b = true) ∧
    (∃ (s : State) (src : CmdSrc) (b : Bytes), Accepted s src b ∧ s.sketch.commit ≠ none ∧ cmdOpcode b = 0x31 ∧
        cmdParamLen b = 4) ∧
    (∃ (s : State) (src : CmdSrc) (b : Bytes), Accepted s src b ∧ s.sketch.commit ≠ none ∧ cmdOpcode b = 0x32 ∧
        cmdParamLen b = 16) ∧
    (∃ (s : State) (src : CmdSrc) (b : Bytes), Accepted s src b ∧ s.sketch.commit ≠ none ∧ cmdOpcode b = 0x40 ∧
        routeLength b = true) ∧
    (∃ (s : State) (src : CmdSrc) (b : Bytes), Accepted s src b ∧ s.sketch.commit ≠ none ∧ cmdOpcode b = 0x50 ∧
        subCode b = 1 ∧ cmdParamLen b = 24) ∧
    (∃ (s : State) (src : CmdSrc) (b : Bytes), Accepted s src b ∧ s.sketch.commit ≠ none ∧ cmdOpcode b = 0x50 ∧
        subCode b = 2 ∧ cmdParamLen b = 32) ∧
    (∃ (s : State) (src : CmdSrc) (b : Bytes), Accepted s src b ∧ s.sketch.commit ≠ none ∧ cmdOpcode b = 0x50 ∧
        subCode b = 3 ∧ cmdParamLen b = 8) ∧
    (∃ (s : State) (src : CmdSrc) (b : Bytes), Accepted s src b ∧ s.sketch.commit ≠ none ∧ cmdOpcode b = 0x50 ∧
        subCode b = 4 ∧ cmdParamLen b = 8) ∧
    (∃ (s : State) (src : CmdSrc) (b : Bytes), Accepted s src b ∧ s.sketch.commit ≠ none ∧ cmdOpcode b = 0x50 ∧
        subCode b = 5 ∧ cmdParamLen b = 12) ∧
    (∃ (s : State) (src : CmdSrc) (b : Bytes), Accepted s src b ∧ s.sketch.commit ≠ none ∧ cmdOpcode b = 0x50 ∧
        subCode b = 6 ∧ listLength b = true) ∧
    (∃ (s : State) (src : CmdSrc) (b : Bytes), Accepted s src b ∧ s.sketch.commit ≠ none ∧ cmdOpcode b = 0x60 ∧
        cmdParamLen b = 24) :=
  ⟨⟨(sent 0x30 groupP rd), ra, ((commandOf (sent 0x30 groupP rd) ra).getD []), 88,
    by unfold Given Accepted; decide +kernel⟩,
  ⟨(sent 0x30 (leBytes 16 16384) rd), ra, ((commandOf (sent 0x30 (leBytes 16 16384) rd) ra).getD []), 16,
    by unfold Given Accepted; decide +kernel⟩,
  ⟨(sent 0x30 groupP (updCanvas
      (fun x => { x with groups := [(16383, ⟨1, []⟩)], slots := [{ slot with key := ⟨16383, 0, 0⟩ }] }) rd)), ra,
          ((commandOf (sent 0x30 groupP (updCanvas
          (fun x => { x with groups := [(16383, ⟨1, []⟩)], slots := [{ slot with key := ⟨16383, 0, 0⟩ }] }) rd)) ra).getD []), 88,
    by unfold Given Accepted; decide +kernel⟩,
  ⟨(sent 0x31 (leBytes 4 16383) rd), ra, ((commandOf (sent 0x31 (leBytes 4 16383) rd) ra).getD []),
    by unfold Given Accepted; decide +kernel⟩,
  ⟨(sent 0x31 (leBytes 4 16383) (updCanvas (fun x => { x with groups := [(16383, ⟨1, []⟩)] }) rd)), ra,
      ((commandOf (sent 0x31 (leBytes 4 16383) (updCanvas
          (fun x => { x with groups := [(16383, ⟨1, []⟩)] }) rd)) ra).getD []),
    by unfold Given Accepted; decide +kernel⟩,
  ⟨(sent 0x31 (leBytes 4 16384) rd), ra, ((commandOf (sent 0x31 (leBytes 4 16384) rd) ra).getD []),
    by unfold Given Accepted; decide +kernel⟩,
  ⟨(sent 0x31 (leBytes 4 16383) (updCanvas
      (fun x => { x with groups := [(16383, ⟨1, []⟩)], slots := [{ slot with key := ⟨16383, 0, 0⟩ }] }) rd)), ra,
          ((commandOf (sent 0x31 (leBytes 4 16383) (updCanvas
          (fun x => { x with groups := [(16383, ⟨1, []⟩)], slots := [{ slot with key := ⟨16383, 0, 0⟩ }] }) rd)) ra).getD []),
    by unfold Given Accepted; decide +kernel⟩,
  ⟨(sent 0x32 (leBytes 4 16383 ++ leBytes 12 (2 ^ 95)) rd), ra, ((commandOf (sent 0x32 (leBytes 4 16383 ++
      leBytes 12 (2 ^ 95)) rd) ra).getD []),
    by unfold Given Accepted; decide +kernel⟩,
  ⟨(sent 0x32 (leBytes 4 16384 ++ zeros 12) rd), ra, ((commandOf (sent 0x32 (leBytes 4 16384 ++
      zeros 12) rd) ra).getD []),
    by unfold Given Accepted; decide +kernel⟩,
  ⟨(sent 0x40 (leBytes 8 (65535 + 2 ^ 32) ++ leBytes 16 (95 + 128 + 256 + 95 * 2 ^ 16)) (named rd)), ra,
      ((commandOf (sent 0x40 (leBytes 8 (65535 + 2 ^ 32) ++ leBytes 16 (95 + 128 + 256 + 95 * 2 ^ 16))
          (named rd)) ra).getD []), 24,
    by unfold Given Accepted; decide +kernel⟩,
  ⟨(sent 0x40 (leBytes 8 (65520 + 2 ^ 32) ++ leBytes 16 (95 + 128 + 256 + 95 * 2 ^ 16)) rd), ra,
      ((commandOf (sent 0x40 (leBytes 8 (65520 + 2 ^ 32) ++ leBytes 16
          (95 + 128 + 256 + 95 * 2 ^ 16)) rd) ra).getD []), 24, (65520, 95 + 128 + 256 + 95 * 2 ^ 16),
    by unfold Given Accepted; decide +kernel⟩,
  ⟨(sent 0x40 (leBytes 8 (65535 + 2 * 2 ^ 32) ++ zeros 32) (named rd)), ra,
      ((commandOf (sent 0x40 (leBytes 8 (65535 + 2 * 2 ^ 32) ++ zeros 32) (named rd)) ra).getD []), 40,
    by unfold Given Accepted; decide +kernel⟩,
  ⟨(sent 0x30 groupP (updSketch (fun x => { x with commit := some ⟨.inband, 0, true, false⟩ }) rd)), ra,
      ((commandOf (sent 0x30 groupP (updSketch
          (fun x => { x with commit := some ⟨.inband, 0, true, false⟩ }) rd)) ra).getD []),
    by unfold Accepted; decide +kernel⟩,
  ⟨(sent 0x31 (zeros 4) (updSketch (fun x => { x with commit := some ⟨.inband, 0, true, false⟩ }) rd)), ra,
      ((commandOf (sent 0x31 (zeros 4) (updSketch
          (fun x => { x with commit := some ⟨.inband, 0, true, false⟩ }) rd)) ra).getD []),
    by unfold Accepted; decide +kernel⟩,
  ⟨(sent 0x32 (zeros 16) (updSketch (fun x => { x with commit := some ⟨.inband, 0, true, false⟩ }) rd)), ra,
      ((commandOf (sent 0x32 (zeros 16) (updSketch
          (fun x => { x with commit := some ⟨.inband, 0, true, false⟩ }) rd)) ra).getD []),
    by unfold Accepted; decide +kernel⟩,
  ⟨(sent 0x40 (leBytes 8 (0 + 2 ^ 32) ++ leBytes 16 (95 + 128 + 256 + 95 * 2 ^ 16)) (updSketch
      (fun x => { x with commit := some ⟨.inband, 0, true, false⟩ }) rd)), ra,
          ((commandOf (sent 0x40 (leBytes 8 (0 + 2 ^ 32) ++ leBytes 16 (95 + 128 + 256 + 95 * 2 ^ 16)) (updSketch
          (fun x => { x with commit := some ⟨.inband, 0, true, false⟩ }) rd)) ra).getD []),
    by unfold Accepted; decide +kernel⟩,
  ⟨(sent 0x50 (leBytes 24 1) (updSketch (fun x => { x with commit := some ⟨.inband, 0, true, false⟩ }) rd)), ra,
      ((commandOf (sent 0x50 (leBytes 24 1) (updSketch
          (fun x => { x with commit := some ⟨.inband, 0, true, false⟩ }) rd)) ra).getD []),
    by unfold Accepted; decide +kernel⟩,
  ⟨(sent 0x50 (leBytes 32 2) (updSketch (fun x => { x with commit := some ⟨.inband, 0, true, false⟩ }) rd)), ra,
      ((commandOf (sent 0x50 (leBytes 32 2) (updSketch
          (fun x => { x with commit := some ⟨.inband, 0, true, false⟩ }) rd)) ra).getD []),
    by unfold Accepted; decide +kernel⟩,
  ⟨(sent 0x50 (leBytes 8 3) (updSketch (fun x => { x with commit := some ⟨.inband, 0, true, false⟩ }) rd)), ra,
      ((commandOf (sent 0x50 (leBytes 8 3) (updSketch
          (fun x => { x with commit := some ⟨.inband, 0, true, false⟩ }) rd)) ra).getD []),
    by unfold Accepted; decide +kernel⟩,
  ⟨(sent 0x50 (leBytes 8 4) (updSketch (fun x => { x with commit := some ⟨.inband, 0, true, false⟩ }) rd)), ra,
      ((commandOf (sent 0x50 (leBytes 8 4) (updSketch
          (fun x => { x with commit := some ⟨.inband, 0, true, false⟩ }) rd)) ra).getD []),
    by unfold Accepted; decide +kernel⟩,
  ⟨(sent 0x50 (leBytes 12 5) (updSketch (fun x => { x with commit := some ⟨.inband, 0, true, false⟩ }) rd)), ra,
      ((commandOf (sent 0x50 (leBytes 12 5) (updSketch
          (fun x => { x with commit := some ⟨.inband, 0, true, false⟩ }) rd)) ra).getD []),
    by unfold Accepted; decide +kernel⟩,
  ⟨(sent 0x50 (leBytes 4 6 ++ leBytes 4 0 ++ leBytes 4 1 ++ zeros 4) (updSketch
      (fun x => { x with commit := some ⟨.inband, 0, true, false⟩ }) rd)), ra, ((commandOf (sent 0x50 (leBytes 4 6 ++
          leBytes 4 0 ++ leBytes 4 1 ++ zeros 4) (updSketch
          (fun x => { x with commit := some ⟨.inband, 0, true, false⟩ }) rd)) ra).getD []),
    by unfold Accepted; decide +kernel⟩,
  ⟨(sent 0x60 (zeros 24) (updSketch (fun x => { x with commit := some ⟨.inband, 0, true, false⟩ }) rd)), ra,
      ((commandOf (sent 0x60 (zeros 24) (updSketch
          (fun x => { x with commit := some ⟨.inband, 0, true, false⟩ }) rd)) ra).getD []),
    by unfold Accepted; decide +kernel⟩⟩

theorem witness_StreamDefineActions :
    (∃ (s : State) (src : CmdSrc) (b : Bytes), Given s src b 0x50 24 ∧ subCode b = 1 ∧ s.sketch.commit = none ∧
        (leAt (cmdParams b) 4 4) < 262144 ∧ segOk (withSegment s (leAt (cmdParams b) 4 4) (freshSegment (leAt
            (cmdParams b) 8 16))) (routeOk s) (ownId s) (leAt (cmdParams b) 4 4) (freshSegment (leAt
            (cmdParams b) 8 16)) = true ∧ segmentNamed s (leAt (cmdParams b) 4 4) = false ∧
            (capacityShort (withSegment s (leAt (cmdParams b) 4 4) (freshSegment (leAt
            (cmdParams b) 8 16))) s.sketch.plans (periodOf s)).none_ = true) ∧
    (∃ (s : State) (src : CmdSrc) (b : Bytes), Given s src b 0x50 32 ∧ subCode b = 2 ∧ s.sketch.commit = none ∧
        (leAt (cmdParams b) 4 4) < 65536 ∧ streamOk (withStream s (leAt (cmdParams b) 4 4) (leAt
            (cmdParams b) 8 16)) (leAt (cmdParams b) 8 16) = true ∧ streamNamed s (leAt (cmdParams b) 4 4) = false ∧
            (capacityShort (withStream s (leAt (cmdParams b) 4 4) (leAt (cmdParams b) 8 16)) s.sketch.plans
            (periodOf s)).none_ = true) ∧
    (∃ (s : State) (src : CmdSrc) (b : Bytes) (k : Nat), Given s src b 0x50 (12 + 4 * k) ∧ subCode b = 6 ∧
        s.sketch.commit = none ∧ leAt (cmdParams b) 8 4 = k ∧ 1 ≤ k ∧ k ≤ 1011 ∧
            (leAt (cmdParams b) 4 4) + k ≤ 262144 ∧ listNamed s (leAt (cmdParams b) 4 4) k = false ∧
            (capacityShort (withList s (leAt (cmdParams b) 4 4) k ((cmdParams b).drop 12)) s.sketch.plans
            (periodOf s)).none_ = true) ∧
    (∃ (s : State) (src : CmdSrc) (b : Bytes), Given s src b 0x50 24 ∧ subCode b = 1 ∧ s.sketch.commit = none ∧
        (262144 ≤ (leAt (cmdParams b) 4 4) ∨ segOk (withSegment s (leAt (cmdParams b) 4 4) (freshSegment (leAt
            (cmdParams b) 8 16))) (routeOk s) (ownId s) (leAt (cmdParams b) 4 4) (freshSegment (leAt
            (cmdParams b) 8 16)) = false)) ∧
    (∃ (s : State) (src : CmdSrc) (b : Bytes), Given s src b 0x50 24 ∧ subCode b = 1 ∧ s.sketch.commit = none ∧
        (leAt (cmdParams b) 4 4) < 262144 ∧ segOk (withSegment s (leAt (cmdParams b) 4 4) (freshSegment (leAt
            (cmdParams b) 8 16))) (routeOk s) (ownId s) (leAt (cmdParams b) 4 4) (freshSegment (leAt
            (cmdParams b) 8 16)) = true ∧ segmentNamed s (leAt (cmdParams b) 4 4) = true) ∧
    (∃ (s : State) (src : CmdSrc) (b : Bytes), Given s src b 0x50 24 ∧ subCode b = 1 ∧ s.sketch.commit = none ∧
        (leAt (cmdParams b) 4 4) < 262144 ∧ segOk (withSegment s (leAt (cmdParams b) 4 4) (freshSegment (leAt
            (cmdParams b) 8 16))) (routeOk s) (ownId s) (leAt (cmdParams b) 4 4) (freshSegment (leAt
            (cmdParams b) 8 16)) = true ∧ segmentNamed s (leAt (cmdParams b) 4 4) = false ∧
            (capacityShort (withSegment s (leAt (cmdParams b) 4 4) (freshSegment (leAt
            (cmdParams b) 8 16))) s.sketch.plans (periodOf s)).none_ = false) ∧
    (∃ (s : State) (src : CmdSrc) (b : Bytes), Given s src b 0x50 32 ∧ subCode b = 2 ∧ s.sketch.commit = none ∧
        (65536 ≤ (leAt (cmdParams b) 4 4) ∨ streamOk (withStream s (leAt (cmdParams b) 4 4) (leAt
            (cmdParams b) 8 16)) (leAt (cmdParams b) 8 16) = false)) ∧
    (∃ (s : State) (src : CmdSrc) (b : Bytes), Given s src b 0x50 32 ∧ subCode b = 2 ∧ s.sketch.commit = none ∧
        (leAt (cmdParams b) 4 4) < 65536 ∧ streamOk (withStream s (leAt (cmdParams b) 4 4) (leAt
            (cmdParams b) 8 16)) (leAt (cmdParams b) 8 16) = true ∧ streamNamed s (leAt (cmdParams b) 4 4) = true) ∧
    (∃ (s : State) (src : CmdSrc) (b : Bytes), Given s src b 0x50 32 ∧ subCode b = 2 ∧ s.sketch.commit = none ∧
        (leAt (cmdParams b) 4 4) < 65536 ∧ streamOk (withStream s (leAt (cmdParams b) 4 4) (leAt
            (cmdParams b) 8 16)) (leAt (cmdParams b) 8 16) = true ∧ streamNamed s (leAt (cmdParams b) 4 4) = false ∧
            (capacityShort (withStream s (leAt (cmdParams b) 4 4) (leAt (cmdParams b) 8 16)) s.sketch.plans
            (periodOf s)).none_ = false) ∧
    (∃ (s : State) (src : CmdSrc) (b : Bytes) (k : Nat), Given s src b 0x50 (12 + 4 * k) ∧ subCode b = 6 ∧
        s.sketch.commit = none ∧ leAt (cmdParams b) 8 4 = k ∧ 1 ≤ k ∧ k ≤ 1011 ∧
            262144 < (leAt (cmdParams b) 4 4) + k) ∧
    (∃ (s : State) (src : CmdSrc) (b : Bytes) (k : Nat), Given s src b 0x50 (12 + 4 * k) ∧ subCode b = 6 ∧
        s.sketch.commit = none ∧ leAt (cmdParams b) 8 4 = k ∧ 1 ≤ k ∧ k ≤ 1011 ∧
            (leAt (cmdParams b) 4 4) + k ≤ 262144 ∧ listNamed s (leAt (cmdParams b) 4 4) k = true) ∧
    (∃ (s : State) (src : CmdSrc) (b : Bytes) (k : Nat), Given s src b 0x50 (12 + 4 * k) ∧ subCode b = 6 ∧
        s.sketch.commit = none ∧ leAt (cmdParams b) 8 4 = k ∧ 1 ≤ k ∧ k ≤ 1011 ∧
            (leAt (cmdParams b) 4 4) + k ≤ 262144 ∧ listNamed s (leAt (cmdParams b) 4 4) k = false ∧
            (capacityShort (withList s (leAt (cmdParams b) 4 4) k ((cmdParams b).drop 12)) s.sketch.plans
            (periodOf s)).none_ = false) ∧
    (∃ (s : State) (src : CmdSrc) (b : Bytes), Given s src b 0x50 12 ∧ subCode b = 5 ∧ s.sketch.commit = none ∧
        stValid (streamAt s (leAt (cmdParams b) 4 4)) = true ∧
            leAt (cmdParams b) 8 4 < (streamTables s).tiles (streamAt s (leAt (cmdParams b) 4 4)) ∧
            s.tick.running = true) ∧
    (∃ (s : State) (src : CmdSrc) (b : Bytes), Given s src b 0x50 12 ∧ subCode b = 5 ∧ s.sketch.commit = none ∧
        stValid (streamAt s (leAt (cmdParams b) 4 4)) = true ∧
            leAt (cmdParams b) 8 4 < (streamTables s).tiles (streamAt s (leAt (cmdParams b) 4 4)) ∧
            s.tick.running = false) ∧
    (∃ (s : State) (src : CmdSrc) (b : Bytes), Given s src b 0x50 12 ∧ subCode b = 5 ∧ s.sketch.commit = none ∧
        (streamTables s).tiles (streamAt s (leAt (cmdParams b) 4 4)) ≤ leAt (cmdParams b) 8 4) ∧
    (∃ (s : State) (src : CmdSrc) (b : Bytes), Given s src b 0x50 8 ∧ subCode b = 3 ∧ s.sketch.commit = none ∧
        sgLocal (segAt s (leAt (cmdParams b) 4 4)) = true ∧ tget s.streams.sealing (leAt (cmdParams b) 4 4) = none ∧
            putPending s (leAt (cmdParams b) 4 4) = false) ∧
    (∃ (s : State) (src : CmdSrc) (b : Bytes), Given s src b 0x50 8 ∧ subCode b = 3 ∧ s.sketch.commit = none ∧
        sgLocal (segAt s (leAt (cmdParams b) 4 4)) = true ∧ ((tget s.streams.sealing (leAt
            (cmdParams b) 4 4)).isSome = true ∨ putPending s (leAt (cmdParams b) 4 4) = true)) ∧
    (∃ (s : State) (g : Nat) (src : CmdSrc) (l : List (Nat × WordError)), s.streams.sealing = [(g, src)] ∧
        sgLocal (segAt s g) = true ∧ segmentCrc s (segAt s g) = sgCrc (segAt s g) ∧
            anyBad (storeErrors s (sgStore (segAt s g)) (sgBytes (segAt s g)) l) = false) ∧
    (∃ (s : State) (g : Nat) (src : CmdSrc) (l : List (Nat × WordError)), s.streams.sealing = [(g, src)] ∧
        sgLocal (segAt s g) = true ∧ (segmentCrc s (segAt s g) ≠ sgCrc (segAt s g) ∨ anyBad (storeErrors s (sgStore
            (segAt s g)) (sgBytes (segAt s g)) l) = true)) ∧
    (∃ (s : State) (src : CmdSrc) (b : Bytes), Given s src b 0x50 8 ∧ subCode b = 4 ∧ s.sketch.commit = none ∧
        sgLocal (segAt s (leAt (cmdParams b) 4 4)) = true ∧ sgReady (segAt s (leAt (cmdParams b) 4 4)) = true ∧
            segmentStaged s (leAt (cmdParams b) 4 4) = false) ∧
    (∃ (s : State) (src : CmdSrc) (b : Bytes), Given s src b 0x50 8 ∧ subCode b = 4 ∧ s.sketch.commit = none) :=
  ⟨⟨(sent 0x50 (leBytes 4 1 ++ leBytes 4 262143 ++ leBytes 16 (1 + 256)) rd), ra,
      ((commandOf (sent 0x50 (leBytes 4 1 ++ leBytes 4 262143 ++ leBytes 16 (1 + 256)) rd) ra).getD []),
    by unfold Given Accepted; decide +kernel⟩,
  ⟨(sent 0x50 (leBytes 4 2 ++ leBytes 4 65535 ++ zeros 24) rd), ra, ((commandOf (sent 0x50 (leBytes 4 2 ++
      leBytes 4 65535 ++ zeros 24) rd) ra).getD []),
    by unfold Given Accepted; decide +kernel⟩,
  ⟨(sent 0x50 (leBytes 4 6 ++ leBytes 4 262143 ++ leBytes 4 1 ++ leBytes 4 5) rd), ra,
      ((commandOf (sent 0x50 (leBytes 4 6 ++ leBytes 4 262143 ++ leBytes 4 1 ++ leBytes 4 5) rd) ra).getD []),
          (leAt (cmdParams ((commandOf (sent 0x50 (leBytes 4 6 ++ leBytes 4 262143 ++ leBytes 4 1 ++
          leBytes 4 5) rd) ra).getD [])) 8 4),
    by unfold Given Accepted; decide +kernel⟩,
  ⟨(sent 0x50 (leBytes 4 1 ++ leBytes 4 262143 ++ leBytes 16 1) rd), ra, ((commandOf (sent 0x50 (leBytes 4 1 ++
      leBytes 4 262143 ++ leBytes 16 1) rd) ra).getD []),
    by unfold Given Accepted; decide +kernel⟩,
  ⟨(sent 0x50 (leBytes 4 1 ++ leBytes 4 5 ++ leBytes 16 0x101) (updStreams
      (fun x => { x with segments := [(5, 0x101)], segList := [(0, 5)], streams := [(7, 1 + 8 * 2 ^ 8 + 2 ^ 82)] })
          (updSketch (fun x => { x with plans := some { entries := [[2 ^ 18]], items := [7 + 2 ^ 16] } }) rd))), ra,
          ((commandOf (sent 0x50 (leBytes 4 1 ++ leBytes 4 5 ++
          leBytes 16 0x101) (updStreams
          (fun x => { x with segments := [(5, 0x101)], segList := [(0, 5)], streams := [(7, 1 + 8 * 2 ^ 8 + 2 ^ 82)] }) (updSketch (fun x => { x with plans := some { entries := [[2 ^ 18]], items := [7 + 2 ^ 16] } }) rd))) ra).getD []),
    by unfold Given Accepted; decide +kernel⟩,
  ⟨(sent 0x50 (leBytes 4 1 ++ leBytes 4 262143 ++ leBytes 16 (0x101 + 2 ^ 64)) (updStreams
      (fun x => { x with segments := [(5, 0x101)], segList := [(0, 5)], streams := [(7, 1 + 4 * 2 ^ 2 + 15 * 2 ^ 8 + 2 ^ 82)] }) (updSketch (fun x => { x with plans := some { entries := [[2 * 2 ^ 18]], items := List.replicate 2 (7 + 8191 * 2 ^ 16) } }) rd))), ra, ((commandOf (sent 0x50 (leBytes 4 1 ++ leBytes 4 262143 ++ leBytes 16 (0x101 + 2 ^ 64)) (updStreams (fun x => { x with segments := [(5, 0x101)], segList := [(0, 5)], streams := [(7, 1 + 4 * 2 ^ 2 + 15 * 2 ^ 8 + 2 ^ 82)] }) (updSketch (fun x => { x with plans := some { entries := [[2 * 2 ^ 18]], items := List.replicate 2 (7 + 8191 * 2 ^ 16) } }) rd))) ra).getD []),
    by unfold Given Accepted; decide +kernel⟩,
  ⟨(sent 0x50 (leBytes 4 2 ++ leBytes 28 65536) rd), ra, ((commandOf (sent 0x50 (leBytes 4 2 ++
      leBytes 28 65536) rd) ra).getD []),
    by unfold Given Accepted; decide +kernel⟩,
  ⟨(sent 0x50 (leBytes 4 2 ++ leBytes 4 7 ++ leBytes 24 (1 + 8 * 2 ^ 8 + 2 ^ 82)) (updStreams
      (fun x => { x with segments := [(5, 0x101)], segList := [(0, 5)], streams := [(7, 1 + 8 * 2 ^ 8 + 2 ^ 82)] })
          (updSketch (fun x => { x with plans := some { entries := [[2 ^ 18]], items := [7 + 2 ^ 16] } }) rd))), ra,
          ((commandOf (sent 0x50 (leBytes 4 2 ++ leBytes 4 7 ++
          leBytes 24 (1 + 8 * 2 ^ 8 + 2 ^ 82)) (updStreams
          (fun x => { x with segments := [(5, 0x101)], segList := [(0, 5)], streams := [(7, 1 + 8 * 2 ^ 8 + 2 ^ 82)] }) (updSketch (fun x => { x with plans := some { entries := [[2 ^ 18]], items := [7 + 2 ^ 16] } }) rd))) ra).getD []),
    by unfold Given Accepted; decide +kernel⟩,
  ⟨(sent 0x50 (leBytes 4 2 ++ leBytes 4 8 ++ leBytes 24 (1 + 8 * 2 ^ 8 + 2 ^ 82)) (updStreams
      (fun x => { x with segments := [(5, 0x101)], segList := [(0, 5)], streams := [(7, 1 + 4 * 2 ^ 2 + 15 * 2 ^ 8 + 2 ^ 82)] }) (updSketch (fun x => { x with plans := some { entries := [[2 * 2 ^ 18]], items := List.replicate 2 (7 + 8191 * 2 ^ 16) } }) rd))), ra, ((commandOf (sent 0x50 (leBytes 4 2 ++ leBytes 4 8 ++ leBytes 24 (1 + 8 * 2 ^ 8 + 2 ^ 82)) (updStreams (fun x => { x with segments := [(5, 0x101)], segList := [(0, 5)], streams := [(7, 1 + 4 * 2 ^ 2 + 15 * 2 ^ 8 + 2 ^ 82)] }) (updSketch (fun x => { x with plans := some { entries := [[2 * 2 ^ 18]], items := List.replicate 2 (7 + 8191 * 2 ^ 16) } }) rd))) ra).getD []),
    by unfold Given Accepted; decide +kernel⟩,
  ⟨(sent 0x50 (leBytes 4 6 ++ leBytes 4 262144 ++ leBytes 4 1 ++ leBytes 4 5) rd), ra,
      ((commandOf (sent 0x50 (leBytes 4 6 ++ leBytes 4 262144 ++ leBytes 4 1 ++ leBytes 4 5) rd) ra).getD []),
          (leAt (cmdParams ((commandOf (sent 0x50 (leBytes 4 6 ++ leBytes 4 262144 ++ leBytes 4 1 ++
          leBytes 4 5) rd) ra).getD [])) 8 4),
    by unfold Given Accepted; decide +kernel⟩,
  ⟨(sent 0x50 (leBytes 4 6 ++ leBytes 4 0 ++ leBytes 4 1 ++ leBytes 4 5) (updStreams
      (fun x => { x with segments := [(5, 0x101)], segList := [(0, 5)], streams := [(7, 1 + 8 * 2 ^ 8 + 2 ^ 82)] })
          (updSketch (fun x => { x with plans := some { entries := [[2 ^ 18]], items := [7 + 2 ^ 16] } }) rd))), ra,
          ((commandOf (sent 0x50 (leBytes 4 6 ++ leBytes 4 0 ++ leBytes 4 1 ++
          leBytes 4 5) (updStreams
          (fun x => { x with segments := [(5, 0x101)], segList := [(0, 5)], streams := [(7, 1 + 8 * 2 ^ 8 + 2 ^ 82)] }) (updSketch (fun x => { x with plans := some { entries := [[2 ^ 18]], items := [7 + 2 ^ 16] } }) rd))) ra).getD []), (leAt (cmdParams ((commandOf (sent 0x50 (leBytes 4 6 ++ leBytes 4 0 ++ leBytes 4 1 ++ leBytes 4 5) (updStreams (fun x => { x with segments := [(5, 0x101)], segList := [(0, 5)], streams := [(7, 1 + 8 * 2 ^ 8 + 2 ^ 82)] }) (updSketch (fun x => { x with plans := some { entries := [[2 ^ 18]], items := [7 + 2 ^ 16] } }) rd))) ra).getD [])) 8 4),
    by unfold Given Accepted; decide +kernel⟩,
  ⟨(sent 0x50 (leBytes 4 6 ++ leBytes 4 100 ++ leBytes 4 1 ++
      leBytes 4 5) (updStreams
          (fun x => { x with segments := [(5, 0x101)], segList := [(0, 5)], streams := [(7, 1 + 4 * 2 ^ 2 + 15 * 2 ^ 8 + 2 ^ 82)] }) (updSketch (fun x => { x with plans := some { entries := [[2 * 2 ^ 18]], items := List.replicate 2 (7 + 8191 * 2 ^ 16) } }) rd))), ra, ((commandOf (sent 0x50 (leBytes 4 6 ++ leBytes 4 100 ++ leBytes 4 1 ++ leBytes 4 5) (updStreams (fun x => { x with segments := [(5, 0x101)], segList := [(0, 5)], streams := [(7, 1 + 4 * 2 ^ 2 + 15 * 2 ^ 8 + 2 ^ 82)] }) (updSketch (fun x => { x with plans := some { entries := [[2 * 2 ^ 18]], items := List.replicate 2 (7 + 8191 * 2 ^ 16) } }) rd))) ra).getD []), (leAt (cmdParams ((commandOf (sent 0x50 (leBytes 4 6 ++ leBytes 4 100 ++ leBytes 4 1 ++ leBytes 4 5) (updStreams (fun x => { x with segments := [(5, 0x101)], segList := [(0, 5)], streams := [(7, 1 + 4 * 2 ^ 2 + 15 * 2 ^ 8 + 2 ^ 82)] }) (updSketch (fun x => { x with plans := some { entries := [[2 * 2 ^ 18]], items := List.replicate 2 (7 + 8191 * 2 ^ 16) } }) rd))) ra).getD [])) 8 4),
    by unfold Given Accepted; decide +kernel⟩,
  ⟨(sent 0x50 (leBytes 4 5 ++ leBytes 4 65535 ++ leBytes 4 255) (updTick (fun x => { x with running := true })
      (updStreams
          (fun x => { x with segments := [(5, 0x101)], segList := [(0, 5)], streams := [(65535, 1 + 2 ^ 82)] }) rd))), ra, ((commandOf (sent 0x50 (leBytes 4 5 ++ leBytes 4 65535 ++ leBytes 4 255) (updTick (fun x => { x with running := true }) (updStreams (fun x => { x with segments := [(5, 0x101)], segList := [(0, 5)], streams := [(65535, 1 + 2 ^ 82)] }) rd))) ra).getD []),
    by unfold Given Accepted; decide +kernel⟩,
  ⟨(sent 0x50 (leBytes 4 5 ++ leBytes 4 65535 ++ leBytes 4 255) (updStreams
      (fun x => { x with segments := [(5, 0x101)], segList := [(0, 5)], streams := [(65535, 1 + 2 ^ 82)] }) rd)), ra,
          ((commandOf (sent 0x50 (leBytes 4 5 ++ leBytes 4 65535 ++
          leBytes 4 255) (updStreams
          (fun x => { x with segments := [(5, 0x101)], segList := [(0, 5)], streams := [(65535, 1 + 2 ^ 82)] }) rd)) ra).getD []),
    by unfold Given Accepted; decide +kernel⟩,
  ⟨(sent 0x50 (leBytes 4 5 ++ leBytes 4 65535 ++ leBytes 4 (2 ^ 16)) (updStreams
      (fun x => { x with segments := [(5, 0x101)], segList := [(0, 5)], streams := [(65535, 1 + 2 ^ 82)] }) rd)), ra,
          ((commandOf (sent 0x50 (leBytes 4 5 ++ leBytes 4 65535 ++
          leBytes 4 (2 ^ 16)) (updStreams
          (fun x => { x with segments := [(5, 0x101)], segList := [(0, 5)], streams := [(65535, 1 + 2 ^ 82)] }) rd)) ra).getD []),
    by unfold Given Accepted; decide +kernel⟩,
  ⟨(sent 0x50 (leBytes 4 3 ++ leBytes 4 5) (updStreams (fun x => { x with segments := [(5, 1)] }) rd)), ra,
      ((commandOf (sent 0x50 (leBytes 4 3 ++ leBytes 4 5) (updStreams
          (fun x => { x with segments := [(5, 1)] }) rd)) ra).getD []),
    by unfold Given Accepted; decide +kernel⟩,
  ⟨(sent 0x50 (leBytes 4 3 ++ leBytes 4 5) (updStreams
      (fun x => { x with segments := [(5, 1)], sealing := [(5, .inband)] }) rd)), ra,
          ((commandOf (sent 0x50 (leBytes 4 3 ++ leBytes 4 5) (updStreams
          (fun x => { x with segments := [(5, 1)], sealing := [(5, .inband)] }) rd)) ra).getD []),
    by unfold Given Accepted; decide +kernel⟩,
  ⟨(updStreams (fun x => { x with segments := [(5, 1)], sealing := [(5, ra)] }) rd),
      ((((updStreams
          (fun x => { x with segments := [(5, 1)], sealing := [(5, ra)] }) rd).streams.sealing).headD default).1),
          ((((updStreams
          (fun x => { x with segments := [(5, 1)], sealing := [(5, ra)] }) rd).streams.sealing).headD default).2), [],
    by decide +kernel⟩,
  ⟨(updStreams (fun x => { x with segments := [(5, 1 + 2 ^ 32)], sealing := [(5, ra)] }) rd),
      ((((updStreams
          (fun x => { x with segments := [(5, 1 + 2 ^ 32)], sealing := [(5, ra)] }) rd).streams.sealing).headD default).1), ((((updStreams (fun x => { x with segments := [(5, 1 + 2 ^ 32)], sealing := [(5, ra)] }) rd).streams.sealing).headD default).2), [],
    by decide +kernel⟩,
  ⟨(sent 0x50 (leBytes 4 4 ++ leBytes 4 5) (updStreams (fun x => { x with segments := [(5, 9)] }) rd)), ra,
      ((commandOf (sent 0x50 (leBytes 4 4 ++ leBytes 4 5) (updStreams
          (fun x => { x with segments := [(5, 9)] }) rd)) ra).getD []),
    by unfold Given Accepted; decide +kernel⟩,
  ⟨(sent 0x50 (leBytes 4 4 ++ leBytes 4 5) (updStreams (fun x => { x with segments := [(5, 9)] }) rd)), ra,
      ((commandOf (sent 0x50 (leBytes 4 4 ++ leBytes 4 5) (updStreams
          (fun x => { x with segments := [(5, 9)] }) rd)) ra).getD []),
    by unfold Given Accepted; decide +kernel⟩⟩

theorem witness_SyncObjectsFire :
    (∃ (s : State) (src : CmdSrc) (b : Bytes), Given s src b 0x60 24 ∧ s.sketch.commit = none ∧
        targetOk s (leAt (cmdParams b) 3 1) (leAt (cmdParams b) 8 2) = true ∧
            bitOf (leAt (cmdParams b) 2 1) 0 = true ∧ 0 < leAt (cmdParams b) 4 4) ∧
    (∃ (s : State) (src : CmdSrc) (b : Bytes), Given s src b 0x60 24 ∧ s.sketch.commit = none ∧
        targetOk s (leAt (cmdParams b) 3 1) (leAt (cmdParams b) 8 2) = true ∧
            bitOf (leAt (cmdParams b) 2 1) 0 = false ∧ badEntry s 0 (leAt (cmdParams b) 0 2) = false ∧
            (syncOf s (leAt (cmdParams b) 0 2)).counter.toNat < leAt (cmdParams b) 4 4) ∧
    (∃ (s : State) (src : CmdSrc) (b : Bytes), Given s src b 0x60 24 ∧ s.sketch.commit = none ∧
        targetOk s (leAt (cmdParams b) 3 1) (leAt (cmdParams b) 8 2) = true ∧
            bitOf (leAt (cmdParams b) 2 1) 0 = false ∧ badEntry s 0 (leAt (cmdParams b) 0 2) = false ∧
            0 < leAt (cmdParams b) 4 4 ∧ leAt (cmdParams b) 4 4 ≤ (syncOf s (leAt (cmdParams b) 0 2)).counter.toNat) ∧
    (∃ (s : State) (src : CmdSrc) (b : Bytes), Given s src b 0x60 24 ∧ s.sketch.commit = none ∧
        targetOk s (leAt (cmdParams b) 3 1) (leAt (cmdParams b) 8 2) = true ∧ leAt (cmdParams b) 4 4 = 0) ∧
    (∃ (s : State) (src : CmdSrc) (b : Bytes), Given s src b 0x60 24 ∧ s.sketch.commit = none ∧
        targetOk s (leAt (cmdParams b) 3 1) (leAt (cmdParams b) 8 2) = false) ∧
    (∃ (s : State) (id : Nat) (st : Stored), terminatedOf s id = some st ∧ findingOf st = .act ∧
        st.hdr.window = 0x03 ∧ st.hdr.offset.toNat < 65536 ∧ badEntry s 0 st.hdr.offset.toNat = false ∧
            st.hdr.opA ≠ 0) ∧
    (∃ (s : State) (id : Nat) (st : Stored), terminatedOf s id = some st ∧ findingOf st = .act ∧
        st.hdr.window = 0x03 ∧ 65536 ≤ st.hdr.offset.toNat) ∧
    (∃ (s : State) (id : Nat) (st : Stored), terminatedOf s id = some st ∧ findingOf st = .act ∧
        st.hdr.window = 0x03 ∧ st.hdr.offset.toNat < 65536 ∧ badEntry s 0 st.hdr.offset.toNat = false ∧
            st.hdr.opA = 0) ∧
    (∃ (s : State) (i : Nat) (w : W32), (syncOf s i).counter.toNat + w.toNat < (syncOf s i).threshold.toNat ∧
        (syncOf s i).state = 1) ∧
    (∃ (s : State) (i : Nat), (syncOf s i).state ≠ 1) ∧
    (∃ (s : State) (i : Nat) (w : W32), (syncOf s i).state = 1 ∧ (syncOf s i).auto = true ∧
        (syncOf s i).threshold.toNat ≤ min ((syncOf s i).counter.toNat + w.toNat) 0xFFFFFFFF) ∧
    (∃ (s : State) (i : Nat) (w : W32), (syncOf s i).state = 1 ∧ (syncOf s i).auto = false ∧
        (syncOf s i).threshold.toNat ≤ (syncOf s i).counter.toNat + w.toNat) :=
  ⟨⟨(sent 0x60 (leBytes 2 65535 ++ [1, 0] ++ leBytes 4 1 ++ leBytes 2 16383 ++
      zeros 14) (updSwitch (fun x => { x with portSets := [(16383, 1)] }) rd)), ra,
          ((commandOf (sent 0x60 (leBytes 2 65535 ++ [1, 0] ++ leBytes 4 1 ++ leBytes 2 16383 ++
          zeros 14) (updSwitch (fun x => { x with portSets := [(16383, 1)] }) rd)) ra).getD []),
    by unfold Given Accepted; decide +kernel⟩,
  ⟨(sent 0x60 (leBytes 2 65535 ++ [0, 0] ++ leBytes 4 1 ++ leBytes 2 16383 ++
      zeros 14) (updSwitch (fun x => { x with portSets := [(16383, 1)] }) rd)), ra,
          ((commandOf (sent 0x60 (leBytes 2 65535 ++ [0, 0] ++ leBytes 4 1 ++ leBytes 2 16383 ++
          zeros 14) (updSwitch (fun x => { x with portSets := [(16383, 1)] }) rd)) ra).getD []),
    by unfold Given Accepted; decide +kernel⟩,
  ⟨(sent 0x60 (leBytes 2 65535 ++ [0, 0] ++ leBytes 4 1 ++ leBytes 2 16383 ++
      zeros 14) (updSwitch (fun x => { x with portSets := [(16383, 1)] }) (updCanvas
          (fun x => { x with sync := [(65535, { counter := 1 })] }) rd))), ra,
          ((commandOf (sent 0x60 (leBytes 2 65535 ++ [0, 0] ++ leBytes 4 1 ++ leBytes 2 16383 ++
          zeros 14) (updSwitch (fun x => { x with portSets := [(16383, 1)] }) (updCanvas
          (fun x => { x with sync := [(65535, { counter := 1 })] }) rd))) ra).getD []),
    by unfold Given Accepted; decide +kernel⟩,
  ⟨(sent 0x60 (leBytes 2 65535 ++ [1, 0] ++ leBytes 4 0 ++ leBytes 2 16383 ++
      zeros 14) (updSwitch (fun x => { x with portSets := [(16383, 1)] }) rd)), ra,
          ((commandOf (sent 0x60 (leBytes 2 65535 ++ [1, 0] ++ leBytes 4 0 ++ leBytes 2 16383 ++
          zeros 14) (updSwitch (fun x => { x with portSets := [(16383, 1)] }) rd)) ra).getD []),
    by unfold Given Accepted; decide +kernel⟩,
  ⟨(sent 0x60 (leBytes 2 65535 ++ [1, 0] ++ leBytes 4 1 ++ leBytes 2 16384 ++ zeros 14) rd), ra,
      ((commandOf (sent 0x60 (leBytes 2 65535 ++ [1, 0] ++ leBytes 4 1 ++ leBytes 2 16384 ++ zeros 14) rd) ra).getD []),
    by unfold Given Accepted; decide +kernel⟩,
  ⟨(pkt (term { hd opSyncArrive 0x03 4 0 with offset := 65535, opA := 1 } []) rd), 7,
      ((terminatedOf (pkt (term { hd opSyncArrive 0x03 4 0 with offset := 65535, opA := 1 } []) rd) 7).getD default),
    by decide +kernel⟩,
  ⟨(pkt (term { hd opSyncArrive 0x03 4 0 with offset := 65536, opA := 1 } []) rd), 7,
      ((terminatedOf (pkt (term { hd opSyncArrive 0x03 4 0 with offset := 65536, opA := 1 } []) rd) 7).getD default),
    by decide +kernel⟩,
  ⟨(pkt (term { hd opSyncArrive 0x03 4 0 with offset := 65535, opA := 0 } []) rd), 7,
      ((terminatedOf (pkt (term { hd opSyncArrive 0x03 4 0 with offset := 65535, opA := 0 } []) rd) 7).getD default),
    by decide +kernel⟩,
  ⟨(updCanvas (fun x => { x with sync := [(65535, { state := 1, threshold := 0xFFFFFFFF })] }) rd), 65535, 0,
    by decide +kernel⟩,
  ⟨{ rd with pending := [.refclkLoss, .powerOn] }, 95,
    by decide +kernel⟩,
  ⟨(updCanvas (fun x => { x with sync := [(65535, { state := 1, auto := true, threshold := 1 })] }) rd), 65535, 1,
    by decide +kernel⟩,
  ⟨(updCanvas (fun x => { x with sync := [(65535, { state := 1, threshold := 0xFFFFFFFF })] }) rd), 65535, 0xFFFFFFFF,
    by decide +kernel⟩⟩

theorem witness_PolicyPowerAndHandoverCommands :
    (∃ (s : State) (src : CmdSrc) (b : Bytes) (n i : Nat), Given s src b 0x70 n ∧ 8 ≤ n ∧ n ≤ 4064 ∧ n % 8 = 0 ∧
        policyFault s.policy (parseEntries (cmdParams b)) = some i) ∧
    (∃ (s : State) (src : CmdSrc) (b : Bytes) (n : Nat), Given s src b 0x70 n ∧ 8 ≤ n ∧ n ≤ 4064 ∧ n % 8 = 0 ∧
        policyFault s.policy (parseEntries (cmdParams b)) = none) ∧
    (∃ (s : State) (src : CmdSrc) (b : Bytes) (n : Nat), GivenTray s src b 0x70 n ∧ 8 ≤ n ∧ n ≤ 4064 ∧ n % 8 = 0 ∧
        policyFault s.policy (parseEntries (cmdParams b)) = none) ∧
    (∃ (s : State) (src : CmdSrc) (b : Bytes) (n : Nat), src.ok = true ∧ commandOf s src = some b ∧
        s.boot.easelReady = true ∧ inProgress s src = false ∧ earlyRefusal s src b = none ∧ bytesFit b = true ∧
            cmdOpcode b = 0x70 ∧ cmdParamLen b = n ∧ 8 ≤ n ∧ n ≤ 4064 ∧ n % 8 = 0 ∧ isTray b = true ∧
            s.tray.own ≠ .active) ∧
    (∃ (s : State) (src : CmdSrc) (b : Bytes), Given s src b 0x71 4 ∧ leAt (cmdParams b) 0 1 ≤ 3) ∧
    (∃ (s : State) (src : CmdSrc) (b : Bytes), Given s src b 0x71 4 ∧ 3 < leAt (cmdParams b) 0 1) ∧
    (∃ (s : State) (src : CmdSrc) (b : Bytes), Given s src b 0x72 4) ∧
    (∃ (s : State) (src : CmdSrc) (b : Bytes), GivenTray s src b 0xA1 0 ∧ twinReady s = true ∧ s.tray.handover = none) ∧
    (∃ (s : State) (src : CmdSrc) (b : Bytes), GivenTray s src b 0xA1 0 ∧ twinReady s = false) ∧
    (∃ (s : State) (src : CmdSrc) (b : Bytes), GivenTray s src b 0xA1 0 ∧ twinReady s = true ∧
        s.tray.handover.isSome = true) ∧
    (∃ (s : State) (src : CmdSrc) (e : W32) (d : Nat), s.tray.handover = some (src, e, d) ∧ d ≤ s.now) ∧
    (∃ (s : State) (src : CmdSrc) (b : Bytes), src.ok = true ∧ commandOf s src = some b ∧ s.boot.easelReady = true ∧
        inProgress s src = false ∧ earlyRefusal s src b = none ∧ bytesFit b = true ∧ cmdOpcode b = 0xA1 ∧
            cmdParamLen b = 0 ∧ s.tray.own ≠ .active) :=
  ⟨⟨(sent 0x70 (leBytes 2 0x0C ++ leBytes 2 95 ++ leBytes 4 0) rd), ra, ((commandOf (sent 0x70 (leBytes 2 0x0C ++
      leBytes 2 95 ++ leBytes 4 0) rd) ra).getD []), 8, ((policyFault (sent 0x70 (leBytes 2 0x0C ++ leBytes 2 95 ++
          leBytes 4 0) rd).policy (parseEntries (cmdParams ((commandOf (sent 0x70 (leBytes 2 0x0C ++ leBytes 2 95 ++
          leBytes 4 0) rd) ra).getD [])))).getD default),
    by unfold Given Accepted; decide +kernel⟩,
  ⟨(sent 0x70 (leBytes 2 0x0C ++ leBytes 2 95 ++ leBytes 4 100) rd), ra, ((commandOf (sent 0x70 (leBytes 2 0x0C ++
      leBytes 2 95 ++ leBytes 4 100) rd) ra).getD []), 8,
    by unfold Given Accepted; decide +kernel⟩,
  ⟨(sent 0x70 (leBytes 2 0x108 ++ leBytes 2 0 ++ leBytes 4 450) rd), ra, ((commandOf (sent 0x70 (leBytes 2 0x108 ++
      leBytes 2 0 ++ leBytes 4 450) rd) ra).getD []), 8,
    by unfold GivenTray AcceptedTray; decide +kernel⟩,
  ⟨(sent 0x70 (leBytes 2 0x104 ++ leBytes 2 0 ++ leBytes 4 450) (updTray (fun x => { x with own := .standby }) rd)),
      ra, ((commandOf (sent 0x70 (leBytes 2 0x104 ++ leBytes 2 0 ++
          leBytes 4 450) (updTray (fun x => { x with own := .standby }) rd)) ra).getD []),
          (cmdParamLen ((commandOf (sent 0x70 (leBytes 2 0x104 ++ leBytes 2 0 ++
          leBytes 4 450) (updTray (fun x => { x with own := .standby }) rd)) ra).getD [])),
    by decide +kernel⟩,
  ⟨(sent 0x71 (leBytes 4 3) rd), ra, ((commandOf (sent 0x71 (leBytes 4 3) rd) ra).getD []),
    by unfold Given Accepted; decide +kernel⟩,
  ⟨(sent 0x71 (leBytes 4 4) rd), ra, ((commandOf (sent 0x71 (leBytes 4 4) rd) ra).getD []),
    by unfold Given Accepted; decide +kernel⟩,
  ⟨(sent 0x72 (leBytes 4 200) rd), ra, ((commandOf (sent 0x72 (leBytes 4 200) rd) ra).getD []),
    by unfold Given Accepted; decide +kernel⟩,
  ⟨(sent 0xA1 [] (updTwin (fun x => { x with heard := true, sync := true, ownState := 4 }) rd)), ra,
      ((commandOf (sent 0xA1 [] (updTwin
          (fun x => { x with heard := true, sync := true, ownState := 4 }) rd)) ra).getD []),
    by unfold GivenTray AcceptedTray; decide +kernel⟩,
  ⟨(sent 0xA1 [] rd), ra, ((commandOf (sent 0xA1 [] rd) ra).getD []),
    by unfold GivenTray AcceptedTray; decide +kernel⟩,
  ⟨(sent 0xA1 [] (updTwin (fun x => { x with heard := true, sync := true, ownState := 4 }) (updTray
      (fun x => { x with handover := some (.inband, 9, 5) }) rd))), ra,
          ((commandOf (sent 0xA1 [] (updTwin (fun x => { x with heard := true, sync := true, ownState := 4 })
          (updTray (fun x => { x with handover := some (.inband, 9, 5) }) rd))) ra).getD []),
    by unfold GivenTray AcceptedTray; decide +kernel⟩,
  ⟨(updTray (fun x => { x with handover := some (ra, 9, 5) }) rd),
      ((((updTray (fun x => { x with handover := some (ra, 9, 5) }) rd).tray.handover).getD default).1),
          ((((updTray (fun x => { x with handover := some (ra, 9, 5) }) rd).tray.handover).getD default).2.1),
          ((((updTray (fun x => { x with handover := some (ra, 9, 5) }) rd).tray.handover).getD default).2.2),
    by decide +kernel⟩,
  ⟨(sent 0xA1 [] (updTray (fun x => { x with own := .standby }) rd)), ra,
      ((commandOf (sent 0xA1 [] (updTray (fun x => { x with own := .standby }) rd)) ra).getD []),
    by decide +kernel⟩⟩

theorem witness_ProbePeriodIsSetPerPort :
    (∃ (p : _), p < 96) ∧
    (∃ (s : State) (src : CmdSrc) (b : Bytes), Given s src b 0x70 8 ∧ leAt (cmdParams b) 0 2 = 0x0C ∧
        leAt (cmdParams b) 2 2 < 96) :=
  ⟨⟨95,
    by decide +kernel⟩,
  ⟨(sent 0x70 (leBytes 2 0x0C ++ leBytes 2 95 ++ leBytes 4 0) rd), ra, ((commandOf (sent 0x70 (leBytes 2 0x0C ++
      leBytes 2 95 ++ leBytes 4 0) rd) ra).getD []),
    by unfold Given Accepted; decide +kernel⟩⟩

theorem witness_TwinConfigSetsTheCopy :
    (∃ (s : State) (src : CmdSrc) (b : Bytes), GivenTray s src b 0xA0 8) ∧
    (∃ (s : State) (m : Byte) (n : W32), awake s = true ∧ s.tray.own = .active ∧ s.tray.cycleAt + cycleNs s ≤ s.now ∧
        s.tray.nextCopyMode = some m ∧ s.tray.nextCycle = some n) ∧
    (∃ (s : State), cycleInForce s < 4294967296) ∧
    (∃ (b p : Bytes), imageFormatOf b = Config.imageFormat ∧ bodyOf (imageSections (leAt b 29 1) (b.drop 64)) 7 = p) ∧
    (∃ (s : State) (c : Instr), (c = .lockstepMismatch ∨ c = .controlWatchdogExpire ∨ c = .controlMemoryFault) ∧
        awake s = true ∧ s.tray.own = .active) :=
  ⟨⟨(sent 0xA0 (zeros 4 ++ leBytes 4 250) rd), ra, ((commandOf (sent 0xA0 (zeros 4 ++ leBytes 4 250) rd) ra).getD []),
    by unfold GivenTray AcceptedTray; decide +kernel⟩,
  ⟨(updTray (fun x => { x with nextCopyMode := some 2, nextCycle := some 250 }) rd),
      (((updTray (fun x => { x with nextCopyMode := some 2, nextCycle := some 250 }) rd).tray.nextCopyMode).getD default), (((updTray (fun x => { x with nextCopyMode := some 2, nextCycle := some 250 }) rd).tray.nextCycle).getD default),
    by decide +kernel⟩,
  ⟨{ rd with pending := [.refclkLoss, .powerOn] },
    by decide +kernel⟩,
  ⟨(zeros 4 ++ leBytes 2 Config.imageFormat.toNat), _,
    ⟨image_format, rfl⟩⟩,
  ⟨rd, .lockstepMismatch,
    by decide +kernel⟩⟩

theorem witness_LasersAndRingLocks :
    (∃ (s : State) (i : Nat), i < 48 ∧ s.lasers.length = 48) ∧
    (∃ (s : State) (i u : Nat), i < 48 ∧ (laserOf s i).calmSince = some u ∧ u + 1000000 ≤ s.now) ∧
    (∃ (s : State) (i : Nat), i < 48 ∧ ((laserOf s i).calmSince = none ∨ ∃ u, (laserOf s i).calmSince = some u ∧
        s.now < u + 1000000)) ∧
    (∃ (s : State) (p l : Nat), p < 96 ∧ l < 8 ∧ s.ports.length = 96 ∧ (portOf s p).lanes.length = 8 ∧
        transmits s p = true ∧ laserClosed s p = false ∧ nth s.policy.heaterLo (engineOf p) ≤
            (laneOf s p l).txHeater.toNat ∧ (laneOf s p l).txHeater.toNat ≤ nth s.policy.heaterHi (engineOf p) ∧
            nth s.policy.heaterHi (engineOf p) ≤ 4095) ∧
    (∃ (s : State) (p l : Nat), p < 96 ∧ l < 8 ∧ s.ports.length = 96 ∧ (portOf s p).lanes.length = 8 ∧
        transmits s p = true ∧ laserClosed s p = false ∧ (laneOf s p l).txHeater.toNat < nth s.policy.heaterLo
            (engineOf p) ∧ nth s.policy.heaterLo (engineOf p) ≤ nth s.policy.heaterHi (engineOf p) ∧
            nth s.policy.heaterHi (engineOf p) ≤ 4095) ∧
    (∃ (s : State) (p l : Nat), p < 96 ∧ l < 8 ∧ s.ports.length = 96 ∧ (portOf s p).lanes.length = 8 ∧
        loopsRun s = true ∧ atFullRate (portOf s p) = true ∧ (laneOf s p l).rich = true ∧
            nth s.policy.heaterLo (engineOf p) ≤ (laneOf s p l).rxHeater.toNat ∧
            (laneOf s p l).rxHeater.toNat ≤ nth s.policy.heaterHi (engineOf p) ∧
            nth s.policy.heaterHi (engineOf p) ≤ 4095) ∧
    (∃ (s : State) (p l : Nat), p < 96 ∧ l < 8 ∧ (transmits s p = false ∨ laserClosed s p = true)) ∧
    (∃ (s : State) (p l : Nat), p < 96 ∧ l < 8 ∧ ((laneOf s p l).rich = false ∨ atFullRate
        (portOf s p) = false ∨ s.boot.thermTrip = true)) ∧
    (∃ (s : State), s.boot.thermTrip = true) ∧
    (∃ (s : State) (p l : Nat) (x : MonitorRun), p < 96 ∧ l < 8 ∧ s.ports.length = 96 ∧
        (portOf s p).state = .running ∧ (portOf s p).washing = false ∧ nth s.policy.grace p ≠ 0 ∧ 4000 ≤ x.span ∧
            x.readings ≠ [] ∧ (∀ r ∈ x.readings, 64 * r + 9600 < 1000 * nth s.policy.modBias
            (engineOf p) ∨ 1000 * nth s.policy.modBias (engineOf p) + 9600 < 64 * r)) ∧
    (∃ (s : State) (p l : Nat) (x : MonitorRun), p < 96 ∧ l < 8 ∧
        ((portOf s p).state ≠ .running ∨ x.span < 4000 ∨ x.readings = [] ∨ (∃ r ∈ x.readings,
            1000 * nth s.policy.modBias (engineOf p) ≤ 64 * r + 9600 ∧
            64 * r ≤ 1000 * nth s.policy.modBias (engineOf p) + 9600))) :=
  ⟨⟨{ rd with pending := [.refclkLoss, .powerOn] }, 7,
    by decide +kernel⟩,
  ⟨(updLaser 47 (fun x => { x with calmSince := some 99999000000 }) rd), 47,
      (((laserOf (updLaser 47 (fun x => { x with calmSince := some 99999000000 }) rd) 47).calmSince).getD default),
    by decide +kernel⟩,
  ⟨{ rd with pending := [.refclkLoss, .powerOn] }, 7,
    by decide +kernel⟩,
  ⟨(sent 0x21 (leBytes 16 (2 ^ 95)) (port { up with state := .listen } rd)), 95, 7,
    by decide +kernel⟩,
  ⟨(port { up with lanes := List.replicate 8 { good with txHeater := 255 } } { rd with policy := { rd.policy with heaterLo := List.replicate 12 256 } }), 95, 7,
    by decide +kernel⟩,
  ⟨(sent 0x23 (leBytes 16 (2 ^ 95)) (port { up with state := .running } rd)), 95, 7,
    by decide +kernel⟩,
  ⟨{ rd with pending := [.refclkLoss, .powerOn] }, 95, 7,
    by decide +kernel⟩,
  ⟨{ rd with pending := [.refclkLoss, .powerOn] }, 95, 7,
    by decide +kernel⟩,
  ⟨(updBoot (fun x => { x with thermTrip := true }) rd),
    by decide +kernel⟩,
  ⟨(sent 0x23 (leBytes 16 (2 ^ 95)) (port { up with state := .running } rd)), 95, 7,
      { span := 4000, readings := [900] },
    by decide +kernel⟩,
  ⟨{ rd with pending := [.refclkLoss, .powerOn] }, 95, 7, { span := 4000, readings := [900] },
    by decide +kernel⟩⟩

theorem witness_DetectorsActOnTheLane :
    (∃ (s : State) (p l : Nat), p < 96 ∧ l < 8 ∧ (laneOf s p l).los = true) ∧
    (∃ (s : State) (p l : Nat), p < 96 ∧ l < 8 ∧ (laneOf s p l).lol = true) ∧
    (∃ (s : State) (p l : Nat), p < 96 ∧ l < 8 ∧ s.ports.length = 96 ∧ (portOf s p).lanes.length = 8 ∧
        (portOf s p).state = .running ∧ (portOf s p).washing = false ∧ nth s.policy.grace p ≠ 0 ∧
            inSet (portOf s p).laneSet l = true ∧ (laneOf s p l).los = false) ∧
    (∃ (s : State) (p l : Nat), p < 96 ∧ l < 8 ∧ s.ports.length = 96 ∧ (portOf s p).lanes.length = 8 ∧
        (portOf s p).state = .running ∧ (portOf s p).washing = false ∧ nth s.policy.grace p ≠ 0 ∧
            inSet (portOf s p).laneSet l = true ∧ (laneOf s p l).lol = false) ∧
    (∃ (s : State) (p l : Nat), p < 96 ∧ l < 8 ∧ s.ports.length = 96 ∧ (portOf s p).lanes.length = 8 ∧
        (portOf s p).state = .running ∧ inSet (portOf s p).laneSet l = false ∧ (laneOf s p l).los = false) ∧
    (∃ (s : State) (p l : Nat), p < 96 ∧ l < 8 ∧ s.ports.length = 96 ∧ (portOf s p).lanes.length = 8 ∧
        (portOf s p).state = .running ∧ inSet (portOf s p).laneSet l = false ∧ (laneOf s p l).lol = false) ∧
    (∃ (s : State) (p l : Nat), p < 96 ∧ l < 8 ∧ s.ports.length = 96 ∧ (portOf s p).lanes.length = 8 ∧
        (portOf s p).state ≠ .running ∧ (portOf s p).state ≠ .retest ∧
            ((portOf s p).state ≠ .miswired ∨ (portOf s p).cause ≠ caCrossed) ∧ (laneOf s p l).los = true) ∧
    (∃ (s : State) (p l : Nat), p < 96 ∧ l < 8 ∧ s.ports.length = 96 ∧ (portOf s p).lanes.length = 8 ∧
        (portOf s p).state = .miswired ∧ (portOf s p).cause = caCrossed ∧ (laneOf s p l).los = true) ∧
    (∃ (s : State) (p l : Nat), p < 96 ∧ l < 8 ∧ s.ports.length = 96 ∧ (portOf s p).lanes.length = 8 ∧
        (portOf s p).state = .absent ∧ (portOf s p).cause ≠ caUnused ∧ (portOf s p).probing = false ∧
            (laneOf s p l).lol = true) :=
  ⟨⟨{ rd with pending := [.refclkLoss, .powerOn] }, 95, 7,
    by decide +kernel⟩,
  ⟨{ rd with pending := [.refclkLoss, .powerOn] }, 95, 7,
    by decide +kernel⟩,
  ⟨(sent 0x23 (leBytes 16 (2 ^ 95)) (port { up with state := .running } rd)), 95, 7,
    by decide +kernel⟩,
  ⟨(sent 0x23 (leBytes 16 (2 ^ 95)) (port { up with state := .running } rd)), 95, 7,
    by decide +kernel⟩,
  ⟨(port { up with laneSet := 0x0F } rd), 95, 7,
    by decide +kernel⟩,
  ⟨(port { up with laneSet := 0x0F } rd), 95, 7,
    by decide +kernel⟩,
  ⟨{ rd with pending := [.refclkLoss, .powerOn] }, 95, 7,
    by decide +kernel⟩,
  ⟨(port { up with state := .miswired, cause := caCrossed, lanes := List.replicate 8 { good with los := true } } rd),
      95, 7,
    by decide +kernel⟩,
  ⟨(port { up with state := .absent, lanes := List.replicate 8 { good with lol := true } } rd), 95, 7,
    by decide +kernel⟩⟩

theorem witness_BlocksAndWindowsAdapt :
    (∃ (s : State) (p l : Nat) (b : BlockStats), p < 96 ∧ l < 8 ∧ atFullRate (portOf s p) = true ∧
        (laneOf s p l).los = false ∧ (laneOf s p l).lol = false ∧ (blockRich b = false ∨ s.boot.thermTrip = true)) ∧
    (∃ (s : State) (p l : Nat) (b : BlockStats), p < 96 ∧ l < 8 ∧ s.ports.length = 96 ∧
        (portOf s p).lanes.length = 8 ∧ atFullRate (portOf s p) = true ∧ (laneOf s p l).los = false ∧
            (laneOf s p l).lol = false ∧ blockRich b = true ∧ s.boot.thermTrip = false) ∧
    (∃ (s : State) (p l : Nat), p < 96 ∧ l < 8 ∧ (atFullRate (portOf s p) = false ∨ (laneOf s p l).los = true ∨
        (laneOf s p l).lol = true)) ∧
    (∃ (s : State) (p : Nat), p < 96 ∧ (portOf s p).state ≠ .running) ∧
    (∃ (s : State) (p : Nat), p < 96 ∧ s.ports.length = 96 ∧ (portOf s p).state = .running) ∧
    (∃ (s : State) (p : Nat) (x : FomStats), p < 96 ∧ x.lane < 8 ∧ s.ports.length = 96 ∧
        (portOf s p).lanes.length = 8 ∧ inSet (portOf s p).laneSet x.lane = true ∧ (laneOf s p x.lane).los = false ∧
            (laneOf s p x.lane).lol = false) ∧
    (∃ (s : State) (p : Nat), p < 96 ∧ s.ports.length = 96 ∧ (portOf s p).state = .running ∧
        s.policy.fomRetrain ≤ portFom (portOf s p) ∧ s.policy.fomWarn ≤ portFom (portOf s p) ∧
            s.policy.fomGood ≤ portFom (portOf s p) ∧ (portOf s p).link.pcReq = true) ∧
    (∃ (s : State) (p : Nat), p < 96 ∧ s.ports.length = 96 ∧ (portOf s p).state = .running ∧
        s.policy.fomRetrain ≤ portFom (portOf s p) ∧ portFom (portOf s p) < s.policy.fomWarn ∧
            portFom (portOf s p) < s.policy.fomGood ∧ (portOf s p).link.pcReq = false) ∧
    (∃ (s : State) (p : Nat), p < 96 ∧ s.ports.length = 96 ∧ (portOf s p).state = .running ∧
        s.policy.fomRetrain ≤ portFom (portOf s p) ∧ s.policy.fomWarn ≤ portFom (portOf s p) ∧
            (portFom (portOf s p) < s.policy.fomGood ∨ (portOf s p).link.pcReq = false)) ∧
    (∃ (s : State) (p : Nat), p < 96 ∧ s.ports.length = 96 ∧ (portOf s p).state = .running ∧
        (portOf s p).washing = false ∧ nth s.policy.grace p ≠ 0 ∧ portFom (portOf s p) < s.policy.fomWarn) ∧
    (∃ (s : State) (p : Nat), p < 96 ∧ s.ports.length = 96 ∧ (portOf s p).state = .running ∧
        (portOf s p).washing = false ∧ nth s.policy.grace p ≠ 0 ∧ portFom (portOf s p) < s.policy.fomRetrain ∧
            1 ≤ (portOf s p).lowWindows) ∧
    (∃ (s : State) (p : Nat), p < 96 ∧ s.ports.length = 96 ∧ (portOf s p).state = .running ∧
        portFom (portOf s p) < s.policy.fomRetrain ∧ (portOf s p).lowWindows = 0) :=
  ⟨⟨(sent 0x23 (leBytes 16 (2 ^ 95)) (port { up with state := .running } rd)), 95, 7, (blk 0),
    by decide +kernel⟩,
  ⟨(sent 0x23 (leBytes 16 (2 ^ 95)) (port { up with state := .running } rd)), 95, 7, (blk 16384),
    by decide +kernel⟩,
  ⟨{ rd with pending := [.refclkLoss, .powerOn] }, 95, 7,
    by decide +kernel⟩,
  ⟨{ rd with pending := [.refclkLoss, .powerOn] }, 95,
    by decide +kernel⟩,
  ⟨(sent 0x23 (leBytes 16 (2 ^ 95)) (port { up with state := .running } rd)), 95,
    by decide +kernel⟩,
  ⟨(sent 0x21 (leBytes 16 (2 ^ 95)) (port { up with state := .listen } rd)), 95,
      { lane := 7, mu := chk.mu, sigma := chk.sigma },
    by decide +kernel⟩,
  ⟨(sent 0x23 (leBytes 16 (2 ^ 95)) (port { up with state := .running } rd)), 95,
    by decide +kernel⟩,
  ⟨(port { up with link := { pcReq := false }, lanes := List.replicate 8 { good with fom := 119 } } rd), 95,
    by decide +kernel⟩,
  ⟨(port { up with lanes := List.replicate 8 { good with fom := 120 } } rd), 95,
    by decide +kernel⟩,
  ⟨(port { up with lanes := List.replicate 8 { good with fom := 119 } } rd), 95,
    by decide +kernel⟩,
  ⟨(port { up with lowWindows := 1, lanes := List.replicate 8 { good with fom := 79 } } rd), 95,
    by decide +kernel⟩,
  ⟨(port { up with lanes := List.replicate 8 { good with fom := 79 } } rd), 95,
    by decide +kernel⟩⟩

theorem witness_ProbesAttemptsAndRetests :
    (∃ (s : State) (p : Nat), p < 96 ∧ s.ports.length = 96 ∧ (∀ l, l < 8 → (laneOf s p l).los = true) ∧
        ((portOf s p).state = .listen ∨ ((portOf s p).state = .absent ∧ (portOf s p).cause ≠ caUnused)) ∧
            (portOf s p).washing = false) ∧
    (∃ (s : State) (p f : Nat) (pairs : BitVec 4), p < 96 ∧ s.ports.length = 96 ∧ (portOf s p).lanes.length = 8 ∧
        darkPairs (portOf s p) pairs = [f]) ∧
    (∃ (s : State) (p : Nat) (pairs : BitVec 4), p < 96 ∧ darkPairs (portOf s p) pairs = []) ∧
    (∃ (s : State) (p u : Nat), p < 96 ∧ (portOf s p).state = .miswired ∧ (portOf s p).cause = caCrossed ∧
        (portOf s p).wait = some u ∧ u ≤ s.now) ∧
    (∃ (s : State) (p u : Nat), p < 96 ∧ (portOf s p).state = .absent ∧ (portOf s p).cause ≠ caUnused ∧
        (portOf s p).wait = some u ∧ u ≤ s.now) ∧
    (∃ (s : State) (p u : Nat), p < 96 ∧ (portOf s p).state = .miswired ∧ (portOf s p).probing = true ∧
        (portOf s p).attempt = some u ∧ u ≤ s.now) ∧
    (∃ (s : State) (p u : Nat), p < 96 ∧ s.ports.length = 96 ∧ (portOf s p).state = .absent ∧
        (portOf s p).probing = true ∧ (portOf s p).attempt = some u ∧ u ≤ s.now ∧ 2 ≤ (portOf s p).failCount.toNat) ∧
    (∃ (s : State) (p u : Nat), p < 96 ∧ s.ports.length = 96 ∧
        ((portOf s p).state = .listen ∨ (portOf s p).state = .primer ∨ (portOf s p).state = .step) ∧
            (portOf s p).attempt = some u ∧ u ≤ s.now ∧ (portOf s p).failCount.toNat < 2) ∧
    (∃ (s : State) (p u : Nat), p < 96 ∧ s.ports.length = 96 ∧
        ((portOf s p).state = .listen ∨ (portOf s p).state = .primer ∨ (portOf s p).state = .step) ∧
            (portOf s p).attempt = some u ∧ u ≤ s.now ∧ (portOf s p).failCount = 2) ∧
    (∃ (s : State) (p l : Nat) (f : List Level), p < 96 ∧ l < 8 ∧ s.ports.length = 96 ∧
        (portOf s p).state = .running ∧ (portOf s p).washing = false ∧ nth s.policy.grace p ≠ 0 ∧
            frameOk (frameBytes (laneOf s p l) f) = true ∧ leAt (frameBytes (laneOf s p l) f) 8 1 = 2) ∧
    (∃ (s : State) (p l : Nat) (f : List Level), p < 96 ∧ l < 8 ∧ s.ports.length = 96 ∧
        (portOf s p).state = .running ∧ (portOf s p).washing = false ∧ nth s.policy.grace p = 0 ∧
            frameOk (frameBytes (laneOf s p l) f) = true ∧ leAt (frameBytes (laneOf s p l) f) 8 1 = 2) ∧
    (∃ (s : State) (p l : Nat) (f : List Level), p < 96 ∧ l < 8 ∧
        (frameOk (frameBytes (laneOf s p l) f) = false ∨ (portOf s p).state ≠ .running)) ∧
    (∃ (s : State) (p : Nat), p < 96 ∧ (portOf s p).phase = .announce ∧ (portOf s p).testStart ≤ s.now) ∧
    (∃ (s : State) (e : Nat) (c : EngineCal), e < 12 ∧ c.tickInOk = true ∧ s.ports.length = 96 ∧
        s.boot.easelReady = true ∧ calibrated s e = false ∧ (∀ k, k < 8 → (portOf s (8 * e + k)).state ≠ .running ∧
            (portOf s (8 * e + k)).washing = false)) ∧
    (∃ (s : State) (e : Nat) (c : EngineCal), e < 12 ∧ c.tickInOk = true ∧ s.boot.easelReady = false) ∧
    (∃ (lo hi bias : Nat) (tx : RingSweep) (r c : _), hi ≤ 4095 ∧ tx.resonance = some r ∧ lo ≤ r ∧ r ≤ hi ∧
        reachesBias bias lo (tx.light.take (hi + 1 - lo)) = some c) ∧
    (∃ (lo hi : Nat) (tx : RingSweep), hi ≤ 4095 ∧ (tx.resonance = none ∨ ∃ r, tx.resonance = some r ∧
        (r < lo ∨ hi < r))) ∧
    (∃ (lo hi : Nat) (rx : RingSweep) (r : _), hi ≤ 4095 ∧ rx.resonance = some r ∧ lo ≤ r ∧ r ≤ hi) ∧
    (∃ (lo hi : Nat) (rx : RingSweep), hi ≤ 4095 ∧ (rx.resonance = none ∨ ∃ r, rx.resonance = some r ∧
        (r < lo ∨ hi < r))) ∧
    (∃ (bias lo c : Nat) (l : List Nat), reachesBias bias lo l = some c) :=
  ⟨⟨(port { up with state := .listen, lanes := List.replicate 8 { good with los := true } } rd), 95,
    by decide +kernel⟩,
  ⟨(port { up with state := .running, lanes := List.replicate 6 good ++ List.replicate 2 { good with los := true } } rd), 95, ((darkPairs (portOf (port { up with state := .running, lanes := List.replicate 6 good ++ List.replicate 2 { good with los := true } } rd) 95) 8).headD default), 8,
    by decide +kernel⟩,
  ⟨(sent 0x21 (leBytes 16 (2 ^ 95)) (port { up with state := .listen } rd)), 95, 15,
    by decide +kernel⟩,
  ⟨(port { up with state := .miswired, cause := caCrossed, wait := some 100000000000 } rd), 95,
      (((portOf (port { up with state := .miswired, cause := caCrossed, wait := some 100000000000 } rd) 95).wait).getD default),
    by decide +kernel⟩,
  ⟨(port { up with state := .absent, wait := some 5 } rd), 95,
      (((portOf (port { up with state := .absent, wait := some 5 } rd) 95).wait).getD default),
    by decide +kernel⟩,
  ⟨(port { up with state := .miswired, probing := true, attempt := some 5 } rd), 95,
      (((portOf (port { up with state := .miswired, probing := true, attempt := some 5 } rd) 95).attempt).getD default),
    by decide +kernel⟩,
  ⟨(port { up with state := .absent, probing := true, attempt := some 5, failCount := 2 } rd), 95,
      (((portOf (port { up with state := .absent, probing := true, attempt := some 5, failCount := 2 } rd) 95).attempt).getD default),
    by decide +kernel⟩,
  ⟨(port { up with state := .step, attempt := some 5, failCount := 1 } rd), 95,
      (((portOf (port { up with state := .step, attempt := some 5, failCount := 1 } rd) 95).attempt).getD default),
    by decide +kernel⟩,
  ⟨(port { up with state := .listen, attempt := some 5, failCount := 2 } rd), 95,
      (((portOf (port { up with state := .listen, attempt := some 5, failCount := 2 } rd) 95).attempt).getD default),
    by decide +kernel⟩,
  ⟨(sent 0x23 (leBytes 16 (2 ^ 95)) (port { up with state := .running } rd)), 95, 7, (fr 2),
    by decide +kernel⟩,
  ⟨{ (port { up with cause := 0 } rd) with policy := { rd.policy with grace := List.replicate 96 0 } }, 95, 7, (fr 2),
    by decide +kernel⟩,
  ⟨{ rd with pending := [.refclkLoss, .powerOn] }, 95, 7, [],
    by decide +kernel⟩,
  ⟨(port { up with phase := .announce, testStart := 100000000000 } rd), 95,
    by decide +kernel⟩,
  ⟨rd, 11, cal,
    by decide +kernel⟩,
  ⟨(updBoot (fun x => { x with easelReady := false }) rd), 11, cal,
    by decide +kernel⟩,
  ⟨10, 20, 32, (⟨some 13, [100, 500, 800, 1000, 500]⟩ : RingSweep), (((⟨some 13, [100, 500, 800, 1000,
      500]⟩ : RingSweep).resonance).getD default), ((reachesBias 32 10 ((⟨some 13, [100, 500, 800, 1000,
          500]⟩ : RingSweep).light.take (20 + 1 - 10))).getD default),
    by decide +kernel⟩,
  ⟨10, 20, (⟨none, []⟩ : RingSweep),
    by decide +kernel⟩,
  ⟨10, 20, (⟨some 13, []⟩ : RingSweep), (((⟨some 13, []⟩ : RingSweep).resonance).getD default),
    by decide +kernel⟩,
  ⟨10, 20, (⟨none, []⟩ : RingSweep),
    by decide +kernel⟩,
  ⟨32, 10, ((reachesBias 32 10 [100, 500, 800]).getD default), [100, 500, 800],
    by decide +kernel⟩⟩

theorem witness_PrimerSetsAct :
    (∃ (s : State) (p l : Nat), p < 96 ∧ l < 8 ∧ (hearsPrimer (portOf s p) = false ∨ (laneOf s p l).los = true ∨
        (laneOf s p l).lol = true)) ∧
    (∃ (s : State) (p l : Nat) (x : PrimerSet), p < 96 ∧ l < 8 ∧ hearsPrimer (portOf s p) = true ∧
        (laneOf s p l).los = false ∧ (laneOf s p l).lol = false ∧ (laneOf s p l).aligned = false ∧
            setPasses (decodeSet (laneOf s p l).polarityInv x) = false ∧
            (alignStep (laneOf s p l) (decodeSet (laneOf s p l).polarityInv x)).aligned = false) ∧
    (∃ (s : State) (p l : Nat) (x : PrimerSet), p < 96 ∧ l < 8 ∧ hearsPrimer (portOf s p) = true ∧
        (laneOf s p l).los = false ∧ (laneOf s p l).lol = false ∧
            (alignStep (laneOf s p l) (decodeSet (laneOf s p l).polarityInv x)).aligned = true ∧
            setPasses (decodeSet (laneOf s p l).polarityInv x) = true ∧
            setType (decodeSet (laneOf s p l).polarityInv x) = 1) ∧
    (∃ (s : State) (p : Nat) (c : Bytes) (cause : W16), s.ports.length = 96 ∧ p < 96 ∧ (portOf s p).state = .primer ∧
        (portOf s p).washing = false ∧ badOffer c = false ∧ wiringFault s p (identsOf (portOf s p)) = some cause) ∧
    (∃ (s : State) (p : Nat) (c : Bytes), s.ports.length = 96 ∧ p < 96 ∧ (portOf s p).state = .primer ∧
        (portOf s p).washing = false ∧ badOffer c = false ∧ wiringFault s p (identsOf (portOf s p)) = none ∧
            verdictOf s p = .fail) ∧
    (∃ (s : State) (p : Nat) (cause : _), s.ports.length = 96 ∧ p < 96 ∧ (portOf s p).state = .miswired ∧
        (wiringFault s p (identsOf (portOf s p))) = some cause) ∧
    (∃ (s : State) (p : Nat), s.ports.length = 96 ∧ p < 96 ∧ (portOf s p).state = .miswired ∧
        (wiringFault s p (identsOf (portOf s p))) = none ∧ verdictOf s p = .fail) ∧
    (∃ (s : State) (p : Nat), s.ports.length = 96 ∧ p < 96 ∧ (portOf s p).state = .miswired ∧
        (wiringFault s p (identsOf (portOf s p))) = none ∧ verdictOf s p ≠ .fail) ∧
    (∃ (s : State) (p : Nat) (c : Bytes), (portOf s p).state = .primer ∧ badOffer c = true) ∧
    (∃ (s : State) (p : Nat) (c : Bytes), s.ports.length = 96 ∧ p < 96 ∧ (portOf s p).state = .primer ∧
        badOffer c = false ∧ wiringFault s p (identsOf (portOf s p)) = none ∧
            mapStraight (identsOf (portOf s p)) = true ∧ verdictOf s p ≠ .fail) ∧
    (∃ (s : State) (p l : Nat) (x : PrimerSet), p < 96 ∧ l < 8 ∧ s.ports.length = 96 ∧ (portOf s p).state = .primer ∧
        (portOf s p).calibrated = true ∧ (portOf s p).samples < 64 ∧ (laneOf s p l).los = false ∧
            (laneOf s p l).lol = false ∧ (alignStep (laneOf s p l) (decodeSet
            (laneOf s p l).polarityInv x)).aligned = true ∧ setPasses (decodeSet
            (laneOf s p l).polarityInv x) = true ∧ setType (decodeSet (laneOf s p l).polarityInv x) = 2 ∧
            leAt (setContent (decodeSet (laneOf s p l).polarityInv x)) 6 6 ≠ 0) ∧
    (∃ (s : State) (p l : Nat) (x : PrimerSet), p < 96 ∧ l < 8 ∧ s.ports.length = 96 ∧ (portOf s p).state = .primer ∧
        (portOf s p).calibrated = true ∧ s.boot.thermTrip = false ∧ isLeader s p = false ∧
            (laneOf s p l).los = false ∧ (laneOf s p l).lol = false ∧
            (alignStep (laneOf s p l) (decodeSet (laneOf s p l).polarityInv x)).aligned = true ∧
            setPasses (decodeSet (laneOf s p l).polarityInv x) = true ∧
            setType (decodeSet (laneOf s p l).polarityInv x) = 3) ∧
    (∃ (s : State) (p : Nat), transmits s p = true) :=
  ⟨⟨{ rd with pending := [.refclkLoss, .powerOn] }, 95, 7,
    by decide +kernel⟩,
  ⟨(port { up with state := .listen, lanes := List.replicate 8 { good with aligned := false } } rd), 95, 7, [],
    by decide +kernel⟩,
  ⟨(port { up with state := .primer, lanes := List.replicate 8 { good with aligned := true } } rd), 95, 7, (pset 1 []),
    by decide +kernel⟩,
  ⟨(port { up with state := .primer, lanes := (List.range 8).map (fun l => { good with aligned := true, ident := some (zeros 6 ++ [95, BitVec.ofNat 8 l] ++ leBytes 4 5 ++ zeros 13) }) } rd), 95, [], ((wiringFault (port { up with state := .primer, lanes := (List.range 8).map (fun l => { good with aligned := true, ident := some (zeros 6 ++ [95, BitVec.ofNat 8 l] ++ leBytes 4 5 ++ zeros 13) }) } rd) 95 (identsOf (portOf (port { up with state := .primer, lanes := (List.range 8).map (fun l => { good with aligned := true, ident := some (zeros 6 ++ [95, BitVec.ofNat 8 l] ++ leBytes 4 5 ++ zeros 13) }) } rd) 95))).getD default),
    by decide +kernel⟩,
  ⟨(port { up with state := .primer, farEndpoint := 9, lanes := (List.range 8).map (fun l => { good with aligned := true, ident := some (zeros 6 ++ [94, BitVec.ofNat 8 l] ++ leBytes 4 6 ++ zeros 13) }) } (named rd)), 95, [],
    by decide +kernel⟩,
  ⟨(port { up with state := .miswired, lanes := (List.range 8).map (fun l => { good with aligned := true, ident := some (zeros 6 ++ [95, BitVec.ofNat 8 l] ++ leBytes 4 5 ++ zeros 13) }) } rd), 95, (((wiringFault (port { up with state := .miswired, lanes := (List.range 8).map (fun l => { good with aligned := true, ident := some (zeros 6 ++ [95, BitVec.ofNat 8 l] ++ leBytes 4 5 ++ zeros 13) }) } rd) 95 (identsOf (portOf (port { up with state := .miswired, lanes := (List.range 8).map (fun l => { good with aligned := true, ident := some (zeros 6 ++ [95, BitVec.ofNat 8 l] ++ leBytes 4 5 ++ zeros 13) }) } rd) 95)))).getD default),
    by decide +kernel⟩,
  ⟨(port { up with state := .miswired, farEndpoint := 9, lanes := (List.range 8).map (fun l => { good with aligned := true, ident := some (zeros 6 ++ [94, BitVec.ofNat 8 l] ++ leBytes 4 6 ++ zeros 13) }) } (named rd)), 95,
    by decide +kernel⟩,
  ⟨(port { up with state := .miswired, lanes := (List.range 8).map (fun l => { good with aligned := true, ident := some (zeros 6 ++ [94, BitVec.ofNat 8 l] ++ leBytes 4 6 ++ zeros 13) }) } rd), 95,
    by decide +kernel⟩,
  ⟨(port { up with state := .primer } rd), 95, [1, 3],
    by decide +kernel⟩,
  ⟨(port { up with state := .primer, lanes := List.replicate 8 { good with aligned := true } } rd), 95, [],
    by decide +kernel⟩,
  ⟨(port { up with state := .primer, samples := 63, lanes := List.replicate 8 { good with aligned := true } } rd),
      95, 7, (pset 2 (zeros 6 ++ [1])),
    by decide +kernel⟩,
  ⟨(port { up with farKind := 1, farChipTag := 6, state := .primer, lanes := List.replicate 8 { good with aligned := true } } rd), 95, 7, (pset 3 []),
    by decide +kernel⟩,
  ⟨(sent 0x21 (leBytes 16 (2 ^ 95)) (port { up with state := .listen } rd)), 95,
    by decide +kernel⟩⟩

theorem witness_StepPhases :
    (∃ (s : State) (p : Nat), p < 96 ∧ (portOf s p).state = .primer ∧ isLeader s p = false ∧
        (portOf s p).stepCount = some 0) ∧
    (∃ (s : State) (p : Nat), p < 96 ∧ (portOf s p).state = .primer ∧ isLeader s p = true ∧
        (portOf s p).ready = true ∧ (portOf s p).farReady = true) ∧
    (∃ (s : State) (p : Nat), p < 96 ∧ (portOf s p).state = .primer ∧ isLeader s p = true ∧
        ((portOf s p).ready = false ∨ (portOf s p).farReady = false)) ∧
    (∃ (s : State) (p : Nat), p < 96 ∧ (portOf s p).state = .primer ∧ isLeader s p = false ∧
        (portOf s p).stepCount ≠ some 0) ∧
    (∃ (s : State) (p : Nat), p < 96 ∧ s.ports.length = 96) ∧
    (∃ (s : State) (p : Nat), p < 96 ∧ (portOf s p).phase = .acquisition ∧ (portOf s p).phaseAt + 100000 ≤ s.now) ∧
    (∃ (s : State) (p : Nat), p < 96 ∧ s.ports.length = 96 ∧ (portOf s p).phase = .selftest ∧
        (portOf s p).phaseAt + windowNs (portOf s p).gen ≤ s.now) ∧
    (∃ (s : State) (p : Nat) (m : BitVec 8), p < 96 ∧ s.ports.length = 96 ∧ (portOf s p).phase = .report ∧
        (portOf s p).phaseAt + 640 ≤ s.now ∧ (portOf s p).finalSent = true ∧ (portOf s p).finalSeen = true ∧
            ((portOf s p).warm = false ∨ warmOk (portOf s p) = true) ∧
            chooseSet (usableSet (portOf s p)) (portOf s p).effWidth ((portOf s p).features.getLsbD 0)
            ((portOf s p).features.getLsbD 1) = some m) ∧
    (∃ (s : State) (p : Nat) (k : List Int), p < 96 ∧ s.ports.length = 96 ∧ (portOf s p).phase = .resume ∧
        skewOk (portOf s p) k = true ∧ warmOk (portOf s p) = false) ∧
    (∃ (s : State) (p : Nat) (k : List Int), p < 96 ∧ s.ports.length = 96 ∧ (portOf s p).phase = .resume ∧
        skewOk (portOf s p) k = true ∧ warmOk (portOf s p) = true) ∧
    (∃ (s : State) (p : Nat) (k : List Int), p < 96 ∧ ((portOf s p).phase ≠ .resume ∨ skewOk (portOf s p) k = false)) ∧
    (∃ (s : State) (p : Nat), p < 96 ∧ s.ports.length = 96 ∧ (portOf s p).phase = .report ∧
        (portOf s p).phaseAt + 5000 ≤ s.now ∧ ((portOf s p).finalSent = false ∨ (portOf s p).finalSeen = false) ∧
            (portOf s p).state = .retest) ∧
    (∃ (s : State) (p : Nat), p < 96 ∧ s.ports.length = 96 ∧ (portOf s p).phase = .resume ∧
        (portOf s p).phaseAt + 2000 ≤ s.now ∧ (portOf s p).state = .step ∧ (portOf s p).failCount = 0) ∧
    (∃ (s : State) (p : Nat), p < 96 ∧ s.ports.length = 96 ∧ (portOf s p).phase = .report ∧
        (portOf s p).phaseAt + 640 ≤ s.now ∧ (portOf s p).finalSent = true ∧ (portOf s p).finalSeen = true ∧
            ((portOf s p).warm = false ∨ warmOk (portOf s p) = true) ∧ (portOf s p).state = .retest ∧
            chooseSet (usableSet (portOf s p)) (portOf s p).effWidth ((portOf s p).features.getLsbD 0)
            ((portOf s p).features.getLsbD 1) = none) ∧
    (∃ (s : State) (p l : Nat) (f : List Level), p < 96 ∧ l < 8 ∧ s.ports.length = 96 ∧
        (portOf s p).lanes.length = 8 ∧ ((portOf s p).phase = .selftest ∨ (portOf s p).phase = .report) ∧
            inSet (portOf s p).underTest l = true ∧ (laneOf s p l).judged = false ∧
            frameOk (frameBytes (laneOf s p l) f) = true ∧ leAt (frameBytes (laneOf s p l) f) 8 1 = 1) ∧
    (∃ (s : State) (p l : Nat) (f : List Level), p < 96 ∧ l < 8 ∧ frameOk (frameBytes (laneOf s p l) f) = false) :=
  ⟨⟨(port { up with state := .primer, farKind := 1, farChipTag := 6, stepCount := some 0 } rd), 95,
    by decide +kernel⟩,
  ⟨(port { up with state := .primer, ready := true, farReady := true } rd), 95,
    by decide +kernel⟩,
  ⟨(port { up with state := .primer, lanes := List.replicate 8 { good with aligned := true } } rd), 95,
    by decide +kernel⟩,
  ⟨(port { up with farKind := 1, farChipTag := 6, state := .primer, lanes := List.replicate 8 { good with aligned := true } } rd), 95,
    by decide +kernel⟩,
  ⟨{ rd with pending := [.refclkLoss, .powerOn] }, 95,
    by decide +kernel⟩,
  ⟨(port { up with phase := .acquisition, phaseAt := 99999900000 } rd), 95,
    by decide +kernel⟩,
  ⟨(port { up with phase := .selftest, phaseAt := 99999981276 } rd), 95,
    by decide +kernel⟩,
  ⟨(port { up with phase := .report, phaseAt := 99999999360, finalSent := true, finalSeen := true, underTest := 0xFF, nearMask := 0x88, farRxPass := 0x88, features := 3 } rd), 95, ((chooseSet (usableSet (portOf (port { up with phase := .report, phaseAt := 99999999360, finalSent := true, finalSeen := true, underTest := 0xFF, nearMask := 0x88, farRxPass := 0x88, features := 3 } rd) 95)) (portOf (port { up with phase := .report, phaseAt := 99999999360, finalSent := true, finalSeen := true, underTest := 0xFF, nearMask := 0x88, farRxPass := 0x88, features := 3 } rd) 95).effWidth ((portOf (port { up with phase := .report, phaseAt := 99999999360, finalSent := true, finalSeen := true, underTest := 0xFF, nearMask := 0x88, farRxPass := 0x88, features := 3 } rd) 95).features.getLsbD 0) ((portOf (port { up with phase := .report, phaseAt := 99999999360, finalSent := true, finalSeen := true, underTest := 0xFF, nearMask := 0x88, farRxPass := 0x88, features := 3 } rd) 95).features.getLsbD 1)).getD default),
    by decide +kernel⟩,
  ⟨(port { up with phase := .resume } rd), 95, (List.replicate 8 48),
    by decide +kernel⟩,
  ⟨(port { up with phase := .resume, grace := some 5, seqHeld := true, farSeqHeld := true, linkTag := 6, recTag := 6 } rd), 95, (List.replicate 8 48),
    by decide +kernel⟩,
  ⟨{ rd with pending := [.refclkLoss, .powerOn] }, 95, [],
    by decide +kernel⟩,
  ⟨(port { up with state := .retest, phase := .report, phaseAt := 99999995000 } rd), 95,
    by decide +kernel⟩,
  ⟨(port { up with state := .step, phase := .resume, phaseAt := 99999998000 } rd), 95,
    by decide +kernel⟩,
  ⟨(port { up with state := .retest, phase := .report, phaseAt := 99999999360, finalSent := true, finalSeen := true, underTest := 0xFF, nearMask := 0x81, farRxPass := 0x81, features := 3 } rd), 95,
    by decide +kernel⟩,
  ⟨(port { up with phase := .report, phaseAt := 99999999360, finalSent := true, finalSeen := true, underTest := 0xFF, nearMask := 0x88, farRxPass := 0x88, features := 3 } rd), 95, 7, (fr 1),
    by decide +kernel⟩,
  ⟨{ rd with pending := [.refclkLoss, .powerOn] }, 95, 7, [],
    by decide +kernel⟩⟩

theorem witness_SlotsLeaveAndArrive :
    (∃ (s : State) (p : Nat), p < 96 ∧ (streams (portOf s p) = false ∨ s.boot.thermTrip = true)) ∧
    (∃ (s : State) (p : Nat), p < 96 ∧ streams (portOf s p) = true ∧ s.boot.thermTrip = false ∧
        replayingB (portOf s p) = false ∧ replayingC (portOf s p) = false) ∧
    (∃ (s : State) (p : Nat) (e : WordError), p < 96 ∧ streams (portOf s p) = true ∧ s.boot.thermTrip = false ∧
        (replayingB (portOf s p) = true ∨ replayingC (portOf s p) = true) ∧ replayMarked s p = false ∧
            eccOf e ≠ .uncorrectable) ∧
    (∃ (s : State) (p : Nat) (e : WordError), p < 96 ∧ streams (portOf s p) = true ∧ s.boot.thermTrip = false ∧
        (replayingB (portOf s p) = true ∨ replayingC (portOf s p) = true) ∧ replayMarked s p = false ∧
            eccOf e = .uncorrectable) ∧
    (∃ (s : State) (p : Nat), p < 96 ∧ s.ports.length = 96 ∧ replayingB (portOf s p) = false ∧
        canNewB (portOf s p) = false) ∧
    (∃ (s : State) (p : Nat) (bad : List (Nat × CellRead)), p < 96 ∧ s.ports.length = 96 ∧
        replayingB (portOf s p) = false ∧ canNewB (portOf s p) = true ∧
            (fillFlits bad p 5 s).2.all (fun f => f.kind = 0) = false) ∧
    (∃ (s : State) (p : Nat) (n : W16), p < 96 ∧ s.ports.length = 96 ∧ replayingB (portOf s p) = true ∧
        (portOf s p).link.replayB = some n) ∧
    (∃ (s : State) (p : Nat), p < 96 ∧ s.ports.length = 96 ∧ (portOf s p).link.pcOn = true) ∧
    (∃ (s : State) (p : Nat), p < 96 ∧ (portOf s p).state ≠ .running) ∧
    (∃ (s : State) (p : Nat) (l : List (List Level)), p < 96 ∧ s.ports.length = 96 ∧ (portOf s p).state = .running ∧
        typeDistance (slotSymbols (portOf s p) l) = 10) ∧
    (∃ (s : State) (p : Nat) (l : List (List Level)), p < 96 ∧ (portOf s p).state = .running ∧
        typeDistance (slotSymbols (portOf s p) l) ≤ 9 ∧ (decodeD (if
            ((portOf s p).link).rxSymbol / 1090 % 16384 = 0 then BitVec.allOnes 31 else ((portOf s p).link).rxScr)
            (slotSymbols (portOf s p) l)).2.1 = none) ∧
    (∃ (s : State) (p : Nat) (l : List (List Level)) (b : _), p < 96 ∧ (portOf s p).state = .running ∧
        typeDistance (slotSymbols (portOf s p) l) ≤ 9 ∧ (decodeD (if
            ((portOf s p).link).rxSymbol / 1090 % 16384 = 0 then BitVec.allOnes 31 else ((portOf s p).link).rxScr)
            (slotSymbols (portOf s p) l)).2.1 = some b) ∧
    (∃ (s : State) (p : Nat) (l : List (List Level)), p < 96 ∧ (portOf s p).state = .running ∧
        11 ≤ typeDistance (slotSymbols (portOf s p) l)) ∧
    (∃ (s : State) (p : Nat) (b : Bytes) (fl : List Flit), parseFlits (chunks 256 5 (b.drop 5)) = some fl ∧
        s.ports.length = 96 ∧ p < 96 ∧ fl.all (fun f => f.kind = 0) = true) ∧
    (∃ (s : State) (p : Nat) (b : Bytes) (fl : List Flit), parseFlits (chunks 256 5 (b.drop 5)) = some fl ∧
        s.ports.length = 96 ∧ p < 96 ∧ fl.all (fun f => f.kind = 0) = false ∧
            (parseDHeader b).bseq = ((portOf s p).link.expB)) ∧
    (∃ (s : State) (p : Nat) (b : Bytes) (fl : List Flit), parseFlits (chunks 256 5 (b.drop 5)) = some fl ∧
        s.ports.length = 96 ∧ p < 96 ∧ fl.all (fun f => f.kind = 0) = false ∧
            1 ≤ (((portOf s p).link.expB) - (parseDHeader b).bseq).toNat ∧
            (((portOf s p).link.expB) - (parseDHeader b).bseq).toNat ≤ 32767) ∧
    (∃ (s : State) (p : Nat) (b : Bytes) (fl : List Flit), parseFlits (chunks 256 5 (b.drop 5)) = some fl ∧
        s.ports.length = 96 ∧ p < 96 ∧ fl.all (fun f => f.kind = 0) = false ∧
            32767 < (((portOf s p).link.expB) - (parseDHeader b).bseq).toNat) ∧
    (∃ (s : State) (p : Nat) (b : Bytes), parseFlits (chunks 256 5 (b.drop 5)) = none ∧ s.ports.length = 96 ∧ p < 96) ∧
    (∃ (s : State) (p v id : Nat) (st : Stored) (c : Copy) (r : CellRead) (l : List (Nat × CellRead)),
        readyCell s p v = some (id, st, c) ∧ copyEnds st c = false ∧ l.find? (fun x => x.1 = id) = some (id, r) ∧
            c.sent = 0 ∧ headerLost (cellWord s id c.sent r.cell) r.record = false) ∧
    (∃ (s : State) (p v id : Nat) (st : Stored) (c : Copy) (r : CellRead) (l : List (Nat × CellRead)),
        readyCell s p v = some (id, st, c) ∧ copyEnds st c = false ∧ l.find? (fun x => x.1 = id) = some (id, r) ∧
            c.sent = 0 ∧ headerLost (cellWord s id c.sent r.cell) r.record = true) ∧
    (∃ (s : State) (p v id : Nat) (st : Stored) (c : Copy) (r : CellRead) (l : List (Nat × CellRead)),
        readyCell s p v = some (id, st, c) ∧ copyEnds st c = false ∧ l.find? (fun x => x.1 = id) = some (id, r) ∧
            c.sent ≠ 0 ∧ eccOf (cellWord s id c.sent r.cell) ≠ .uncorrectable) ∧
    (∃ (s : State) (p v id : Nat) (st : Stored) (c : Copy) (r : CellRead) (l : List (Nat × CellRead)),
        readyCell s p v = some (id, st, c) ∧ copyEnds st c = false ∧ l.find? (fun x => x.1 = id) = some (id, r) ∧
            c.sent ≠ 0 ∧ eccOf (cellWord s id c.sent r.cell) = .uncorrectable ∧
            (cellWord s id c.sent r.cell).marked = false) ∧
    (∃ (s : State) (id n : Nat) (st : Stored) (c : Copy), packetOf s id = some st ∧ st.multicast = false ∧
        st.copies = [c] ∧ 0 < c.sent ∧ n < st.cells ∧ st.voided = false ∧ c.sent ≤ n) ∧
    (∃ (s : State) (id n : Nat) (st : Stored) (c : Copy), packetOf s id = some st ∧ st.multicast = false ∧
        st.copies = [c] ∧ 0 < c.sent ∧ n < st.cells ∧ st.voided = false ∧ n < c.sent) ∧
    (∃ (e : WordError), eccOf e = .uncorrectable ∧ inMemory e = true) ∧
    (∃ (s : State) (id : Nat) (st : Stored), packetOf s id = some st ∧ st.copies.all (fun c => c.sent = 0) = true) ∧
    (∃ (s : State) (id : Nat) (st : Stored) (u : _), packetOf s id = some st ∧
        st.copies.all (fun c => c.sent = 0) = false ∧ packetOf (headerGone id s) id = some u) :=
  ⟨⟨rd, 95,
    by decide +kernel⟩,
  ⟨(port { up with cause := 0 } rd), 95,
    by decide +kernel⟩,
  ⟨(port { up with link := { retryB := [(0, [])], replayB := some 0 } } rd), 95, {},
    by decide +kernel⟩,
  ⟨(port { up with link := { retryB := [(0, [])], replayB := some 0 } } rd), 95, { errors := [(3, 5), (4, 6)] },
    by decide +kernel⟩,
  ⟨(port { up with link := { resumeB := true } } rd), 95,
    by decide +kernel⟩,
  ⟨(updSwitch (fun w => { w with queues := [(queueKey 95 1, [7])] }) (pkt queued
      (port { up with link := { limit := List.replicate 8 1 } } rd))), 95, [],
    by decide +kernel⟩,
  ⟨(port { up with link := { retryB := [(0, [])], replayB := some 0 } } rd), 95,
      (((portOf (port { up with link := { retryB := [(0, [])], replayB := some 0 } } rd) 95).link.replayB).getD default),
    by decide +kernel⟩,
  ⟨(port { up with link := { pcOn := true } } rd), 95,
    by decide +kernel⟩,
  ⟨{ rd with pending := [.refclkLoss, .powerOn] }, 95,
    by decide +kernel⟩,
  ⟨(port { up with cause := 0 } rd), 95, [symbolsToLevels [0x1B4 ^^^ 0x3FF], symbolsToLevels [0x2C7]],
    by decide +kernel⟩,
  ⟨(port up rd), 95, badLanes,
    by rw [port_up, up_scr]; exact ⟨by decide, rfl, by decide +kernel, bad_slot⟩⟩,
  ⟨(port up rd), 95, zeroLanes, zeroBytes,
    by rw [port_up, up_scr]; exact ⟨by decide, rfl, by decide +kernel, zero_slot⟩⟩,
  ⟨(sent 0x23 (leBytes 16 (2 ^ 95)) (port { up with state := .running } rd)), 95, [],
    by decide +kernel⟩,
  ⟨{ rd with pending := [.refclkLoss, .powerOn] }, 95, [], ((parseFlits (chunks 256 5 ([].drop 5))).getD default),
    by decide +kernel⟩,
  ⟨(port { up with link := { expB := 0 } } rd), 95, (leBytes 4 0 ++ [0xF] ++
      (List.replicate 5 (flitBytes { kind := 1, content := zeros 252 })).flatten),
          ((parseFlits (chunks 256 5 ((leBytes 4 0 ++ [0xF] ++
          (List.replicate 5 (flitBytes { kind := 1, content := zeros 252 })).flatten).drop 5))).getD default),
    by decide +kernel⟩,
  ⟨(port { up with link := { expB := 32767 } } rd), 95, (leBytes 4 0 ++ [0xF] ++
      (List.replicate 5 (flitBytes { kind := 1, content := zeros 252 })).flatten),
          ((parseFlits (chunks 256 5 ((leBytes 4 0 ++ [0xF] ++
          (List.replicate 5 (flitBytes { kind := 1, content := zeros 252 })).flatten).drop 5))).getD default),
    by decide +kernel⟩,
  ⟨(port { up with link := { expB := 32768 } } rd), 95, (leBytes 4 0 ++ [0xF] ++
      (List.replicate 5 (flitBytes { kind := 1, content := zeros 252 })).flatten),
          ((parseFlits (chunks 256 5 ((leBytes 4 0 ++ [0xF] ++
          (List.replicate 5 (flitBytes { kind := 1, content := zeros 252 })).flatten).drop 5))).getD default),
    by decide +kernel⟩,
  ⟨(port { up with cause := 0 } rd), 95, (List.replicate 1285 1),
    by decide +kernel⟩,
  ⟨(updSwitch (fun w => { w with queues := [(queueKey 95 1, [7])] }) (pkt queued
      (port { up with link := { limit := List.replicate 8 1 } } rd))), 95, 1,
          (((readyCell (updSwitch (fun w => { w with queues := [(queueKey 95 1, [7])] }) (pkt queued
          (port { up with link := { limit := List.replicate 8 1 } } rd))) 95 1).getD default).1),
          (((readyCell (updSwitch (fun w => { w with queues := [(queueKey 95 1, [7])] }) (pkt queued
          (port { up with link := { limit := List.replicate 8 1 } } rd))) 95 1).getD default).2.1),
          (((readyCell (updSwitch (fun w => { w with queues := [(queueKey 95 1, [7])] }) (pkt queued
          (port { up with link := { limit := List.replicate 8 1 } } rd))) 95 1).getD default).2.2), ((([(7,
          { cell := { errors := [(3, 5), (4, 6)] } })].find? (fun x => x.1 = (((readyCell (updSwitch
          (fun w => { w with queues := [(queueKey 95 1, [7])] }) (pkt queued
          (port { up with link := { limit := List.replicate 8 1 } } rd))) 95 1).getD default).1))).getD default).2),
          [(7, { cell := { errors := [(3, 5), (4, 6)] } })],
    by decide +kernel⟩,
  ⟨(updSwitch (fun w => { w with queues := [(queueKey 95 1, [7])] }) (pkt queued
      (port { up with link := { limit := List.replicate 8 1 } } rd))), 95, 1,
          (((readyCell (updSwitch (fun w => { w with queues := [(queueKey 95 1, [7])] }) (pkt queued
          (port { up with link := { limit := List.replicate 8 1 } } rd))) 95 1).getD default).1),
          (((readyCell (updSwitch (fun w => { w with queues := [(queueKey 95 1, [7])] }) (pkt queued
          (port { up with link := { limit := List.replicate 8 1 } } rd))) 95 1).getD default).2.1),
          (((readyCell (updSwitch (fun w => { w with queues := [(queueKey 95 1, [7])] }) (pkt queued
          (port { up with link := { limit := List.replicate 8 1 } } rd))) 95 1).getD default).2.2), ((([(7,
          { cell := { errors := [(3, 5), (4, 6)] }, record := { errors := [(3, 5), (4, 6)] } })].find?
          (fun x => x.1 = (((readyCell (updSwitch (fun w => { w with queues := [(queueKey 95 1, [7])] }) (pkt queued
          (port { up with link := { limit := List.replicate 8 1 } } rd))) 95 1).getD default).1))).getD default).2),
          [(7, { cell := { errors := [(3, 5), (4, 6)] }, record := { errors := [(3, 5), (4, 6)] } })],
    by decide +kernel⟩,
  ⟨(updSwitch (fun w => { w with queues := [(queueKey 95 1, [7])] })
      (pkt { queued with cells := 2, copies := [{ port := 95, vc := 1, dst := 3, offset := 0, sent := 1 }] }
          (port { up with link := { limit := List.replicate 8 1 } } rd))), 95, 1,
          (((readyCell (updSwitch (fun w => { w with queues := [(queueKey 95 1, [7])] })
          (pkt { queued with cells := 2, copies := [{ port := 95, vc := 1, dst := 3, offset := 0, sent := 1 }] }
          (port { up with link := { limit := List.replicate 8 1 } } rd))) 95 1).getD default).1),
          (((readyCell (updSwitch (fun w => { w with queues := [(queueKey 95 1, [7])] })
          (pkt { queued with cells := 2, copies := [{ port := 95, vc := 1, dst := 3, offset := 0, sent := 1 }] }
          (port { up with link := { limit := List.replicate 8 1 } } rd))) 95 1).getD default).2.1),
          (((readyCell (updSwitch (fun w => { w with queues := [(queueKey 95 1, [7])] })
          (pkt { queued with cells := 2, copies := [{ port := 95, vc := 1, dst := 3, offset := 0, sent := 1 }] }
          (port { up with link := { limit := List.replicate 8 1 } } rd))) 95 1).getD default).2.2), ((([(7,
          { cell := { errors := [(3, 5)] } })].find? (fun x => x.1 = (((readyCell (updSwitch
          (fun w => { w with queues := [(queueKey 95 1, [7])] })
          (pkt { queued with cells := 2, copies := [{ port := 95, vc := 1, dst := 3, offset := 0, sent := 1 }] }
          (port { up with link := { limit := List.replicate 8 1 } } rd))) 95 1).getD default).1))).getD default).2),
          [(7, { cell := { errors := [(3, 5)] } })],
    by decide +kernel⟩,
  ⟨(updSwitch (fun w => { w with queues := [(queueKey 95 1, [7])] })
      (pkt { queued with cells := 2, copies := [{ port := 95, vc := 1, dst := 3, offset := 0, sent := 1 }] }
          (port { up with link := { limit := List.replicate 8 1 } } rd))), 95, 1,
          (((readyCell (updSwitch (fun w => { w with queues := [(queueKey 95 1, [7])] })
          (pkt { queued with cells := 2, copies := [{ port := 95, vc := 1, dst := 3, offset := 0, sent := 1 }] }
          (port { up with link := { limit := List.replicate 8 1 } } rd))) 95 1).getD default).1),
          (((readyCell (updSwitch (fun w => { w with queues := [(queueKey 95 1, [7])] })
          (pkt { queued with cells := 2, copies := [{ port := 95, vc := 1, dst := 3, offset := 0, sent := 1 }] }
          (port { up with link := { limit := List.replicate 8 1 } } rd))) 95 1).getD default).2.1),
          (((readyCell (updSwitch (fun w => { w with queues := [(queueKey 95 1, [7])] })
          (pkt { queued with cells := 2, copies := [{ port := 95, vc := 1, dst := 3, offset := 0, sent := 1 }] }
          (port { up with link := { limit := List.replicate 8 1 } } rd))) 95 1).getD default).2.2), ((([(7,
          { cell := { errors := [(3, 5), (4, 6)] } })].find? (fun x => x.1 = (((readyCell (updSwitch
          (fun w => { w with queues := [(queueKey 95 1, [7])] })
          (pkt { queued with cells := 2, copies := [{ port := 95, vc := 1, dst := 3, offset := 0, sent := 1 }] }
          (port { up with link := { limit := List.replicate 8 1 } } rd))) 95 1).getD default).1))).getD default).2),
          [(7, { cell := { errors := [(3, 5), (4, 6)] } })],
    by decide +kernel⟩,
  ⟨(updSwitch (fun w => { w with queues := [(queueKey 95 1, [7])] })
      (pkt { queued with cells := 5, copies := [{ port := 95, vc := 1, dst := 3, offset := 0, sent := 2 }] }
          (port { up with link := { limit := List.replicate 8 1 } } rd))), 7, 4,
          ((packetOf (updSwitch (fun w => { w with queues := [(queueKey 95 1, [7])] })
          (pkt { queued with cells := 5, copies := [{ port := 95, vc := 1, dst := 3, offset := 0, sent := 2 }] }
          (port { up with link := { limit := List.replicate 8 1 } } rd))) 7).getD default),
          ((((packetOf (updSwitch (fun w => { w with queues := [(queueKey 95 1, [7])] })
          (pkt { queued with cells := 5, copies := [{ port := 95, vc := 1, dst := 3, offset := 0, sent := 2 }] }
          (port { up with link := { limit := List.replicate 8 1 } } rd))) 7).getD default).copies).headD default),
    by decide +kernel⟩,
  ⟨(updSwitch (fun w => { w with queues := [(queueKey 95 1, [7])] })
      (pkt { queued with cells := 5, copies := [{ port := 95, vc := 1, dst := 3, offset := 0, sent := 2 }] }
          (port { up with link := { limit := List.replicate 8 1 } } rd))), 7, 1,
          ((packetOf (updSwitch (fun w => { w with queues := [(queueKey 95 1, [7])] })
          (pkt { queued with cells := 5, copies := [{ port := 95, vc := 1, dst := 3, offset := 0, sent := 2 }] }
          (port { up with link := { limit := List.replicate 8 1 } } rd))) 7).getD default),
          ((((packetOf (updSwitch (fun w => { w with queues := [(queueKey 95 1, [7])] })
          (pkt { queued with cells := 5, copies := [{ port := 95, vc := 1, dst := 3, offset := 0, sent := 2 }] }
          (port { up with link := { limit := List.replicate 8 1 } } rd))) 7).getD default).copies).headD default),
    by decide +kernel⟩,
  ⟨{ errors := [(3, 5), (4, 6)] },
    by decide +kernel⟩,
  ⟨(updSwitch (fun w => { w with queues := [(queueKey 95 1, [7])] }) (pkt queued
      (port { up with link := { limit := List.replicate 8 1 } } rd))), 7,
          ((packetOf (updSwitch (fun w => { w with queues := [(queueKey 95 1, [7])] }) (pkt queued
          (port { up with link := { limit := List.replicate 8 1 } } rd))) 7).getD default),
    by decide +kernel⟩,
  ⟨(updSwitch (fun w => { w with queues := [(queueKey 95 1, [7])] })
      (pkt { queued with cells := 2, copies := [{ port := 95, vc := 1, dst := 3, offset := 0, sent := 1 }] }
          (port { up with link := { limit := List.replicate 8 1 } } rd))), 7,
          ((packetOf (updSwitch (fun w => { w with queues := [(queueKey 95 1, [7])] })
          (pkt { queued with cells := 2, copies := [{ port := 95, vc := 1, dst := 3, offset := 0, sent := 1 }] }
          (port { up with link := { limit := List.replicate 8 1 } } rd))) 7).getD default),
          ((packetOf (headerGone 7 (updSwitch (fun w => { w with queues := [(queueKey 95 1, [7])] })
          (pkt { queued with cells := 2, copies := [{ port := 95, vc := 1, dst := 3, offset := 0, sent := 1 }] }
          (port { up with link := { limit := List.replicate 8 1 } } rd)))) 7).getD default),
    by decide +kernel⟩⟩

theorem witness_MarkersTimersAndCredits :
    (∃ (s : State) (p l : Nat) (m : List Level) (o : Int), p < 96 ∧ l < 8 ∧ (portOf s p).state = .running ∧
        inSet (portOf s p).laneSet l = true ∧ o.natAbs ≤ 2 ∧
            levelsToSymbols 8 (invertLevels (laneOf s p l).polarityInv m) = markerSymbols (logicalLane
            (portOf s p).laneSet l) (widthOf (portOf s p).laneSet) (nth (portOf s p).link.rxMarkers l)) ∧
    (∃ (s : State) (p l : Nat) (m : List Level) (o : Int), p < 96 ∧ l < 8 ∧ s.ports.length = 96 ∧
        (portOf s p).lanes.length = 8 ∧ (portOf s p).state = .running ∧ inSet (portOf s p).laneSet l = true ∧
            (2 < o.natAbs ∨ levelsToSymbols 8 (invertLevels (laneOf s p l).polarityInv m) ≠ markerSymbols
            (logicalLane (portOf s p).laneSet l) (widthOf (portOf s p).laneSet) (nth
            (portOf s p).link.rxMarkers l)) ∧ (laneOf s p l).markerBad = false) ∧
    (∃ (s : State) (p l : Nat) (m : List Level) (o : Int), p < 96 ∧ l < 8 ∧ s.ports.length = 96 ∧
        (portOf s p).state = .running ∧ (portOf s p).washing = false ∧ nth s.policy.grace p ≠ 0 ∧
            inSet (portOf s p).laneSet l = true ∧ (2 < o.natAbs ∨ levelsToSymbols 8 (invertLevels
            (laneOf s p l).polarityInv m) ≠ markerSymbols (logicalLane (portOf s p).laneSet l) (widthOf
            (portOf s p).laneSet) (nth (portOf s p).link.rxMarkers l)) ∧ (laneOf s p l).markerBad = true) ∧
    (∃ (s : State) (p : Nat), p < 96 ∧ (portOf s p).state = .running ∧ (portOf s p).link.retryB ≠ [] ∧
        (portOf s p).link.progressB + 1000 * s.policy.ackTimeout ≤ s.now ∧ (portOf s p).link.timeoutsB < 2) ∧
    (∃ (s : State) (p : Nat), p < 96 ∧ (portOf s p).state = .running ∧ (portOf s p).link.retryC ≠ [] ∧
        (portOf s p).link.progressC + 1000 * s.policy.ackTimeout ≤ s.now ∧ (portOf s p).link.timeoutsC < 2) ∧
    (∃ (s : State) (p : Nat), p < 96 ∧ s.ports.length = 96 ∧ (portOf s p).state = .running ∧
        (portOf s p).washing = false ∧ nth s.policy.grace p ≠ 0 ∧ (portOf s p).link.retryC ≠ [] ∧
            (portOf s p).link.progressC + 1000 * s.policy.ackTimeout ≤ s.now ∧ (portOf s p).link.timeoutsC = 2) ∧
    (∃ (s : State) (p : Nat), p < 96 ∧ (portOf s p).link.retryB = []) ∧
    (∃ (s : State) (p : Nat), p < 96 ∧ (portOf s p).state = .running) ∧
    (∃ (s : State) (id p : Nat) (st : Stored), packetOf s id = some st ∧ st.ingress = some p ∧
        st.released < st.cells ∧ (portOf s p).washing = false ∧ (portOf s p).backlog.length ≤ 32 ∧
            releaseAllowed s st = true ∧ 1 ≤ freeCells s ∧ earlierWithheld s id st = false) ∧
    (∃ (s : State) (id p : Nat) (st : Stored), packetOf s id = some st ∧ st.ingress = some p ∧
        st.released < st.cells ∧ (portOf s p).washing = false ∧ (portOf s p).backlog.length ≤ 32 ∧
            st.stage = .queued ∧ releaseAllowed s st = false ∧ st.withheld ≤ st.released) ∧
    (∃ (s : State) (id p : Nat) (st : Stored), packetOf s id = some st ∧ st.ingress = some p ∧
        st.released < st.cells ∧ (portOf s p).washing = false ∧ 32 < (portOf s p).backlog.length) ∧
    (∃ (s : State) (id p : Nat) (st : Stored), packetOf s id = some st ∧ st.ingress = some p ∧
        (st.cells ≤ st.released ∨ (portOf s p).washing = true ∨ (releaseAllowed s st = true ∧
            (portOf s p).backlog.length ≤ 32 ∧ (freeCells s < 1 ∨ earlierWithheld s id st = true)))) ∧
    (∃ (s : State) (p : Nat), p < 96 ∧ ((portOf s p).grace = none ∨ ∃ u, (portOf s p).grace = some u ∧ s.now < u)) ∧
    (∃ (s : State) (p u : Nat), p < 96 ∧ s.ports.length = 96 ∧ (portOf s p).grace = some u ∧ u ≤ s.now ∧
        ((portOf s p).state = .listen ∨ (portOf s p).state = .primer ∨ (portOf s p).state = .retest)) :=
  ⟨⟨(port { up with cause := 0 } rd), 95, 7, (symbolsToLevels (markerSymbols 7 8 1)), 2,
    by decide +kernel⟩,
  ⟨(sent 0x23 (leBytes 16 (2 ^ 95)) (port { up with state := .running } rd)), 95, 7, [], 0,
    by decide +kernel⟩,
  ⟨(port { up with lanes := List.replicate 8 { good with markerBad := true } } rd), 95, 7, [], 0,
    by decide +kernel⟩,
  ⟨(port { up with link := { retryB := [(0, [])], progressB := 99999996000, timeoutsB := 1 } } rd), 95,
    by decide +kernel⟩,
  ⟨(port { up with link := { retryC := [(0, {})], progressC := 99999996000, timeoutsC := 1 } } rd), 95,
    by decide +kernel⟩,
  ⟨(port { up with link := { retryC := [(0, {})], progressC := 99999996000, timeoutsC := 2 } } rd), 95,
    by decide +kernel⟩,
  ⟨{ rd with pending := [.refclkLoss, .powerOn] }, 95,
    by decide +kernel⟩,
  ⟨(sent 0x23 (leBytes 16 (2 ^ 95)) (port { up with state := .running } rd)), 95,
    by decide +kernel⟩,
  ⟨(pkt queued (port { up with cause := 0 } rd)), 7, ((((packetOf (pkt queued
      (port { up with cause := 0 } rd)) 7).getD default).ingress).getD default),
          ((packetOf (pkt queued (port { up with cause := 0 } rd)) 7).getD default),
    by decide +kernel⟩,
  ⟨(updSwitch (fun x => { x with packets := [(7, queued), (8, { cells := 1572863 })] }) rd), 7,
      ((((packetOf (updSwitch
          (fun x => { x with packets := [(7, queued), (8, { cells := 1572863 })] }) rd) 7).getD default).ingress).getD default), ((packetOf (updSwitch (fun x => { x with packets := [(7, queued), (8, { cells := 1572863 })] }) rd) 7).getD default),
    by decide +kernel⟩,
  ⟨(pkt queued (port { up with backlog := List.range 33 } rd)), 7,
      ((((packetOf (pkt queued
          (port { up with backlog := List.range 33 } rd)) 7).getD default).ingress).getD default),
          ((packetOf (pkt queued (port { up with backlog := List.range 33 } rd)) 7).getD default),
    by decide +kernel⟩,
  ⟨(pkt { queued with released := 1 } rd), 7, ((((packetOf
      (pkt { queued with released := 1 } rd) 7).getD default).ingress).getD default),
          ((packetOf (pkt { queued with released := 1 } rd) 7).getD default),
    by decide +kernel⟩,
  ⟨{ rd with pending := [.refclkLoss, .powerOn] }, 95,
    by decide +kernel⟩,
  ⟨(port { up with state := .listen, grace := some 5 } rd), 95,
      (((portOf (port { up with state := .listen, grace := some 5 } rd) 95).grace).getD default),
    by decide +kernel⟩⟩

theorem witness_LookupWeightsAndEscape :
    (∃ (s : State) (p : Nat), p < 96 ∧ nextLookup s (p / 8) ≠ some p) ∧
    (∃ (s : State) (p : Nat), p < 96 ∧ (portOf s p).backlog = []) ∧
    (∃ (s : State) (g p : Nat), nextLookup s g = some p) ∧
    (∃ (s : State) (p id : Nat) (rest : List Nat) (st : Stored) (x y : WordError), p < 96 ∧
        (portOf s p).backlog = id :: rest ∧ nextLookup s (p / 8) = some p ∧ packetOf s id = some st ∧
            (¬ (headerLost (cellWord s id 0 x) y = true)) ∧ fateOf s st = .terminate) ∧
    (∃ (s : State) (p id : Nat) (rest : List Nat) (st : Stored) (x y : WordError), p < 96 ∧
        (portOf s p).backlog = id :: rest ∧ nextLookup s (p / 8) = some p ∧ packetOf s id = some st ∧
            (¬ (headerLost (cellWord s id 0 x) y = true)) ∧ fateOf s st = .forward ∧
            routeValid (routeOf s st.hdr.dst) = true) ∧
    (∃ (s : State) (p id : Nat) (rest : List Nat) (st : Stored) (x y : WordError), p < 96 ∧
        (portOf s p).backlog = id :: rest ∧ nextLookup s (p / 8) = some p ∧ packetOf s id = some st ∧
            (¬ (headerLost (cellWord s id 0 x) y = true)) ∧ fateOf s st = .forward ∧
            routeValid (routeOf s st.hdr.dst) = false) ∧
    (∃ (s : State) (p id : Nat) (rest : List Nat) (st : Stored) (x y : WordError), p < 96 ∧
        (portOf s p).backlog = id :: rest ∧ nextLookup s (p / 8) = some p ∧ packetOf s id = some st ∧
            (¬ (headerLost (cellWord s id 0 x) y = true)) ∧ fateOf s st = .drop) ∧
    (∃ (s : State) (p id : Nat) (rest : List Nat) (st : Stored) (x y : WordError), p < 96 ∧
        (portOf s p).backlog = id :: rest ∧ nextLookup s (p / 8) = some p ∧ packetOf s id = some st ∧
            (headerLost (cellWord s id 0 x) y = true)) ∧
    (∃ (s : State) (p : Nat), (portOf s p).backlog.length ≠ 32) ∧
    (∃ (s : State) (p id : Nat) (st : Stored), (portOf s p).backlog.length = 32 ∧ packetOf s id = some st ∧
        st.ingress = some p ∧ (portOf s p).washing = false ∧ st.stage = .queued ∧
            st.copies.all (fun c => belowThreshold s c.port c.vc) = false) ∧
    (∃ (s : State), s.policy.rwLo ≤ s.policy.rwHi ∧ (∀ p, p < 96 → s.policy.rwLo ≤ (portOf s p).rw ∧
        (portOf s p).rw ≤ s.policy.rwHi) ∧ s.ports.length = 96) ∧
    (∃ (s : State) (id : Nat) (st : Stored) (c : Copy), packetOf s id = some st ∧ st.copies = [c] ∧
        headWaits st = true ∧ (c.vc = 1 ∨ c.vc = 2) ∧ (roleIs s c.port 2 || roleIs s c.port 3) = true ∧
            st.queuedAt + s.policy.escapeTimer ≤ s.now ∧ routeValid (routeOf s st.hdr.dst) = true ∧
            st.hdr.ord = false) ∧
    (∃ (s : State) (id p v : Nat) (st : Stored), packetOf s id = some st ∧ routeValid (routeOf s st.hdr.dst) = true ∧
        (isDown st.hdr && roleIs s (escPort (routeOf s st.hdr.dst)) 2) = false ∧ (v = 1 ∨ v = 2) ∧
            (portOf s (escPort (routeOf s st.hdr.dst))).admitted = true ∧ p ≠ escPort (routeOf s st.hdr.dst) ∧
            isEdge s (escPort (routeOf s st.hdr.dst)) = false) ∧
    (∃ (s : State) (id p v : Nat) (st : Stored), packetOf s id = some st ∧ routeValid (routeOf s st.hdr.dst) = true ∧
        (isDown st.hdr && roleIs s (escPort (routeOf s st.hdr.dst)) 2) = false ∧ (v = 1 ∨ v = 2) ∧
            (portOf s (escPort (routeOf s st.hdr.dst))).admitted = true ∧ p ≠ escPort (routeOf s st.hdr.dst) ∧
            isEdge s (escPort (routeOf s st.hdr.dst)) = true ∧
            holdApplies s st (escPort (routeOf s st.hdr.dst)) = false) ∧
    (∃ (s : State) (id p v : Nat) (st : Stored), packetOf s id = some st ∧ routeValid (routeOf s st.hdr.dst) = true ∧
        (isDown st.hdr && roleIs s (escPort (routeOf s st.hdr.dst)) 2) = false ∧ (v = 1 ∨ v = 2) ∧
            (portOf s (escPort (routeOf s st.hdr.dst))).admitted = true ∧ p ≠ escPort (routeOf s st.hdr.dst) ∧
            isEdge s (escPort (routeOf s st.hdr.dst)) = true ∧
            holdApplies s st (escPort (routeOf s st.hdr.dst)) = true ∧ holdOf s (flowOf st.hdr) = none ∧
            holdFull s = false ∧ putLength st.hdr < msgLen st.hdr) ∧
    (∃ (s : State) (id : Nat) (st : Stored), packetOf s id = some st ∧ routeValid (routeOf s st.hdr.dst) = true ∧
        (isDown st.hdr && roleIs s (escPort (routeOf s st.hdr.dst)) 2) = false ∧
            (portOf s (escPort (routeOf s st.hdr.dst))).admitted = false ∧
            (portOf s (escPort (routeOf s st.hdr.dst))).grace = none) ∧
    (∃ (s : State) (id : Nat) (st : Stored) (c : Copy), packetOf s id = some st ∧ st.copies = [c] ∧
        s.now < st.queuedAt + s.policy.escapeTimer) :=
  ⟨⟨{ rd with pending := [.refclkLoss, .powerOn] }, 95,
    by decide +kernel⟩,
  ⟨{ rd with pending := [.refclkLoss, .powerOn] }, 95,
    by decide +kernel⟩,
  ⟨(pkt { queued with stage := .backlog, vcIn := 4 } (port { up with backlog := [7] } rd)), 11,
      ((nextLookup (pkt { queued with stage := .backlog, vcIn := 4 }
          (port { up with backlog := [7] } rd)) 11).getD default),
    by decide +kernel⟩,
  ⟨(pkt { queued with stage := .backlog, vcIn := 4, hdr := { queued.hdr with dst := 1 } }
      (port { up with backlog := [7] } (named rd))), 95, (((portOf
          (pkt { queued with stage := .backlog, vcIn := 4, hdr := { queued.hdr with dst := 1 } }
          (port { up with backlog := [7] } (named rd))) 95).backlog).headD default),
          (((portOf (pkt { queued with stage := .backlog, vcIn := 4, hdr := { queued.hdr with dst := 1 } }
          (port { up with backlog := [7] } (named rd))) 95).backlog).tail),
          ((packetOf (pkt { queued with stage := .backlog, vcIn := 4, hdr := { queued.hdr with dst := 1 } }
          (port { up with backlog := [7] } (named rd))) (((portOf
          (pkt { queued with stage := .backlog, vcIn := 4, hdr := { queued.hdr with dst := 1 } }
          (port { up with backlog := [7] } (named rd))) 95).backlog).headD default)).getD default), {},
          { errors := [(3, 5), (4, 6)] },
    by decide +kernel⟩,
  ⟨(pkt { queued with stage := .backlog } (port { up with backlog := [7] } (named (routed rd)))), 95,
      (((portOf (pkt { queued with stage := .backlog } (port { up with backlog := [7] } (named
          (routed rd)))) 95).backlog).headD default), (((portOf (pkt { queued with stage := .backlog }
          (port { up with backlog := [7] } (named (routed rd)))) 95).backlog).tail),
          ((packetOf (pkt { queued with stage := .backlog } (port { up with backlog := [7] } (named (routed rd))))
          (((portOf (pkt { queued with stage := .backlog } (port { up with backlog := [7] } (named
          (routed rd)))) 95).backlog).headD default)).getD default), {}, { errors := [(3, 5), (4, 6)] },
    by decide +kernel⟩,
  ⟨(pkt { queued with stage := .backlog } (port { up with backlog := [7] } (named rd))), 95,
      (((portOf (pkt { queued with stage := .backlog } (port { up with backlog := [7] }
          (named rd))) 95).backlog).headD default), (((portOf (pkt { queued with stage := .backlog }
          (port { up with backlog := [7] } (named rd))) 95).backlog).tail),
          ((packetOf (pkt { queued with stage := .backlog } (port { up with backlog := [7] } (named rd))) (((portOf
          (pkt { queued with stage := .backlog } (port { up with backlog := [7] }
          (named rd))) 95).backlog).headD default)).getD default), {}, { errors := [(3, 5), (4, 6)] },
    by decide +kernel⟩,
  ⟨(pkt { queued with stage := .backlog } (port { up with backlog := [7] } rd)), 95,
      (((portOf (pkt { queued with stage := .backlog }
          (port { up with backlog := [7] } rd)) 95).backlog).headD default),
          (((portOf (pkt { queued with stage := .backlog } (port { up with backlog := [7] } rd)) 95).backlog).tail),
          ((packetOf (pkt { queued with stage := .backlog } (port { up with backlog := [7] } rd)) (((portOf
          (pkt { queued with stage := .backlog }
          (port { up with backlog := [7] } rd)) 95).backlog).headD default)).getD default), {},
          { errors := [(3, 5), (4, 6)] },
    by decide +kernel⟩,
  ⟨(pkt { queued with stage := .backlog } (port { up with backlog := [7] } rd)), 95,
      (((portOf (pkt { queued with stage := .backlog }
          (port { up with backlog := [7] } rd)) 95).backlog).headD default),
          (((portOf (pkt { queued with stage := .backlog } (port { up with backlog := [7] } rd)) 95).backlog).tail),
          ((packetOf (pkt { queued with stage := .backlog } (port { up with backlog := [7] } rd)) (((portOf
          (pkt { queued with stage := .backlog }
          (port { up with backlog := [7] } rd)) 95).backlog).headD default)).getD default),
          { errors := [(3, 5), (4, 6)] }, { errors := [(3, 5), (4, 6)] },
    by decide +kernel⟩,
  ⟨rd, 95,
    by decide +kernel⟩,
  ⟨(updSwitch (fun x => { x with packets := [(7, queued), (8, { cells := 1572863 })] })
      (port { up with backlog := List.range 32 } rd)), ((((packetOf (updSwitch
          (fun x => { x with packets := [(7, queued), (8, { cells := 1572863 })] })
          (port { up with backlog := List.range 32 } rd)) 7).getD default).ingress).getD default), 7,
          ((packetOf (updSwitch (fun x => { x with packets := [(7, queued), (8, { cells := 1572863 })] })
          (port { up with backlog := List.range 32 } rd)) 7).getD default),
    by decide +kernel⟩,
  ⟨{ rd with pending := [.refclkLoss, .powerOn] },
    by decide +kernel⟩,
  ⟨(pkt { queued with hdr := { queued.hdr with adpt := true } } (updSketch
      (fun x => { x with roles := List.replicate 96 { role := 2 } }) (routed rd))), 7,
          ((packetOf (pkt { queued with hdr := { queued.hdr with adpt := true } } (updSketch
          (fun x => { x with roles := List.replicate 96 { role := 2 } }) (routed rd))) 7).getD default),
          ((((packetOf (pkt { queued with hdr := { queued.hdr with adpt := true } } (updSketch
          (fun x => { x with roles := List.replicate 96 { role := 2 } })
          (routed rd))) 7).getD default).copies).headD default),
    by decide +kernel⟩,
  ⟨(pkt queued (port { up with cause := 0 } (updSketch
      (fun x => { x with roles := List.replicate 96 { role := 2 } }) (routed rd)))), 7, 7, 1,
          ((packetOf (pkt queued (port { up with cause := 0 } (updSketch
          (fun x => { x with roles := List.replicate 96 { role := 2 } }) (routed rd)))) 7).getD default),
    by decide +kernel⟩,
  ⟨(pkt queued (port { up with backlog := [7] } (named (routed rd)))), 7, 7, 1,
      ((packetOf (pkt queued (port { up with backlog := [7] } (named (routed rd)))) 7).getD default),
    by decide +kernel⟩,
  ⟨(pkt { queued with hdr := { queued.hdr with length := 256, last := true, opA := 257 } }
      (port { up with cause := 0 } (updSketch (fun x => { x with roles := List.replicate 96 { role := 1 } })
          (routed rd)))), 7, 94, 1, ((packetOf
          (pkt { queued with hdr := { queued.hdr with length := 256, last := true, opA := 257 } }
          (port { up with cause := 0 } (updSketch (fun x => { x with roles := List.replicate 96 { role := 1 } })
          (routed rd)))) 7).getD default),
    by decide +kernel⟩,
  ⟨(pkt { queued with hdr := { queued.hdr with adpt := true } } (updSketch
      (fun x => { x with roles := List.replicate 96 { role := 2 } }) (routed rd))), 7,
          ((packetOf (pkt { queued with hdr := { queued.hdr with adpt := true } } (updSketch
          (fun x => { x with roles := List.replicate 96 { role := 2 } }) (routed rd))) 7).getD default),
    by decide +kernel⟩,
  ⟨(pkt { queued with queuedAt := 99999999000 } rd), 7, ((packetOf
      (pkt { queued with queuedAt := 99999999000 } rd) 7).getD default),
          ((((packetOf (pkt { queued with queuedAt := 99999999000 } rd) 7).getD default).copies).headD default),
    by decide +kernel⟩⟩

theorem witness_HoldsStallsAndTermination :
    (∃ (s : State) (f : Flow) (h : Hold) (id : Nat) (st : Stored) (u : Nat), holdOf s f = some h ∧ h.held = some id ∧
        packetOf s id = some st ∧ h.timer = some u ∧ u ≤ s.now) ∧
    (∃ (s : State) (f : Flow) (h : Hold) (u : Nat), holdOf s f = some h ∧ h.timer = some u ∧ s.now < u) ∧
    (∃ (s : State) (f : Flow) (h : Hold) (u : Nat), holdOf s f = some h ∧ h.held = none ∧ h.owedSince = some u ∧
        u + 1000 * s.policy.holdTimeout ≤ s.now) ∧
    (∃ (s : State) (f : Flow) (h : Hold) (u : Nat), holdOf s f = some h ∧ h.held = none ∧ h.owedSince = some u ∧
        s.now < u + 1000 * s.policy.holdTimeout) ∧
    (∃ (s : State) (f : Flow) (h : Hold), holdOf s f = some h ∧ h.held = none ∧
        h.idleSince + 4000 * s.policy.holdTimeout ≤ s.now) ∧
    (∃ (s : State) (p v id : Nat) (st : Stored) (c : Copy), p < 96 ∧ v < 8 ∧ tget (portOf s p).fetching v = some id ∧
        packetOf s id = some st ∧ copyOn st p v = some c ∧ st.complete = false ∧ st.cells ≤ c.sent ∧
            st.lastCell + 1000 * s.policy.stallVoid ≤ s.now) ∧
    (∃ (s : State) (p v : Nat), p < 96 ∧ v < 8 ∧ tget (portOf s p).fetching v = none) ∧
    (∃ (s : State) (i : Nat) (o : Originate), s.switch.originate[i]? = some o ∧ originRoom s o = true ∧ o.slot = none) ∧
    (∃ (s : State) (i : Nat) (o : Originate) (k : SlotKey), s.switch.originate[i]? = some o ∧ originRoom s o = true ∧
        o.slot = some k) ∧
    (∃ (s : State) (i : Nat) (o : Originate), s.switch.originate[i]? = some o ∧ originRoom s o = false) ∧
    (∃ (s : State) (o : Originate), o.multicast = false ∧ o.viaPort = none ∧ toDevice s o.pkt.hdr.dst = true) ∧
    (∃ (s : State) (id c : Nat) (st : Stored), terminatedOf s id = some st ∧ findingOf st = .discard c) ∧
    (∃ (s : State) (id c : Nat) (st : Stored) (x : W16), terminatedOf s id = some st ∧ findingOf st = .answer c x) :=
  ⟨⟨(updSwitch (fun x => { x with holds := [{ hold with held := some 7 }] }) (pkt queued rd)), ⟨9, 3, 0⟩,
      ((holdOf (updSwitch (fun x => { x with holds := [{ hold with held := some 7 }] }) (pkt queued rd)) ⟨9, 3,
          0⟩).getD default), ((((holdOf (updSwitch (fun x => { x with holds := [{ hold with held := some 7 }] })
          (pkt queued rd)) ⟨9, 3, 0⟩).getD default).held).getD default),
          ((packetOf (updSwitch (fun x => { x with holds := [{ hold with held := some 7 }] }) (pkt queued rd))
          ((((holdOf (updSwitch (fun x => { x with holds := [{ hold with held := some 7 }] }) (pkt queued rd)) ⟨9, 3,
          0⟩).getD default).held).getD default)).getD default),
          ((((holdOf (updSwitch (fun x => { x with holds := [{ hold with held := some 7 }] }) (pkt queued rd)) ⟨9, 3,
          0⟩).getD default).timer).getD default),
    by decide +kernel⟩,
  ⟨(updSwitch (fun x => { x with holds := [{ hold with timer := some 100000000001 }] }) rd), ⟨9, 3, 0⟩,
      ((holdOf (updSwitch (fun x => { x with holds := [{ hold with timer := some 100000000001 }] }) rd) ⟨9, 3,
          0⟩).getD default), ((((holdOf (updSwitch
          (fun x => { x with holds := [{ hold with timer := some 100000000001 }] }) rd) ⟨9, 3,
          0⟩).getD default).timer).getD default),
    by decide +kernel⟩,
  ⟨(updSwitch (fun x => { x with holds := [{ hold with owedSince := some 99999950000 }] }) rd), ⟨9, 3, 0⟩,
      ((holdOf (updSwitch (fun x => { x with holds := [{ hold with owedSince := some 99999950000 }] }) rd) ⟨9, 3,
          0⟩).getD default), ((((holdOf (updSwitch
          (fun x => { x with holds := [{ hold with owedSince := some 99999950000 }] }) rd) ⟨9, 3,
          0⟩).getD default).owedSince).getD default),
    by decide +kernel⟩,
  ⟨(updSwitch (fun x => { x with holds := [{ hold with owedSince := some 99999950001 }] }) rd), ⟨9, 3, 0⟩,
      ((holdOf (updSwitch (fun x => { x with holds := [{ hold with owedSince := some 99999950001 }] }) rd) ⟨9, 3,
          0⟩).getD default), ((((holdOf (updSwitch
          (fun x => { x with holds := [{ hold with owedSince := some 99999950001 }] }) rd) ⟨9, 3,
          0⟩).getD default).owedSince).getD default),
    by decide +kernel⟩,
  ⟨(updSwitch (fun x => { x with holds := [hold] }) rd), ⟨9, 3, 0⟩,
      ((holdOf (updSwitch (fun x => { x with holds := [hold] }) rd) ⟨9, 3, 0⟩).getD default),
    by decide +kernel⟩,
  ⟨(pkt { queued with complete := false, copies := [{ port := 95, vc := 7, dst := 3, offset := 0, sent := 1 }], lastCell := 99999992000 } (port { up with fetching := [(7, 7)] } rd)), 95, 7, ((tget (portOf (pkt { queued with complete := false, copies := [{ port := 95, vc := 7, dst := 3, offset := 0, sent := 1 }], lastCell := 99999992000 } (port { up with fetching := [(7, 7)] } rd)) 95).fetching 7).getD default), ((packetOf (pkt { queued with complete := false, copies := [{ port := 95, vc := 7, dst := 3, offset := 0, sent := 1 }], lastCell := 99999992000 } (port { up with fetching := [(7, 7)] } rd)) ((tget (portOf (pkt { queued with complete := false, copies := [{ port := 95, vc := 7, dst := 3, offset := 0, sent := 1 }], lastCell := 99999992000 } (port { up with fetching := [(7, 7)] } rd)) 95).fetching 7).getD default)).getD default), ((copyOn ((packetOf (pkt { queued with complete := false, copies := [{ port := 95, vc := 7, dst := 3, offset := 0, sent := 1 }], lastCell := 99999992000 } (port { up with fetching := [(7, 7)] } rd)) ((tget (portOf (pkt { queued with complete := false, copies := [{ port := 95, vc := 7, dst := 3, offset := 0, sent := 1 }], lastCell := 99999992000 } (port { up with fetching := [(7, 7)] } rd)) 95).fetching 7).getD default)).getD default) 95 7).getD default),
    by decide +kernel⟩,
  ⟨{ rd with pending := [.refclkLoss, .powerOn] }, 95, 7,
    by decide +kernel⟩,
  ⟨(updSwitch (fun x => { x with originate := [{}] }) rd), 0,
      (((updSwitch (fun x => { x with originate := [{}] }) rd).switch.originate[0]?).getD default),
    by decide +kernel⟩,
  ⟨(updSwitch (fun x => { x with originate := [{ slot := some ⟨5, 0, 0⟩ }] }) rd), 0,
      (((updSwitch
          (fun x => { x with originate := [{ slot := some ⟨5, 0, 0⟩ }] }) rd).switch.originate[0]?).getD default),
          (((((updSwitch
          (fun x => { x with originate := [{ slot := some ⟨5, 0, 0⟩ }] }) rd).switch.originate[0]?).getD default).slot).getD default),
    by decide +kernel⟩,
  ⟨(updSwitch (fun x => { x with originate := [{}], packets := [(0, { cells := 1572864 })] }) rd), 0,
      (((updSwitch
          (fun x => { x with originate := [{}], packets := [(0, { cells := 1572864 })] }) rd).switch.originate[0]?).getD default),
    by decide +kernel⟩,
  ⟨{ rd with pending := [.refclkLoss, .powerOn] }, { pkt := { hdr := { dst := 0xFFFF } } },
    by decide +kernel⟩,
  ⟨(pkt (term (hd opNop 0 1 0) []) rd), 7, 9, ((terminatedOf (pkt (term (hd opNop 0 1 0) []) rd) 7).getD default),
    by decide +kernel⟩,
  ⟨(pkt (term (hd opPut 9 1 0) []) rd), 7, 7, ((terminatedOf (pkt (term (hd opPut 9 1 0) []) rd) 7).getD default),
      stBadParam,
    by decide +kernel⟩⟩

theorem witness_SegmentsSubscriptionsAndTiles :
    (∃ (s : State) (id : Nat) (st : Stored), terminatedOf s id = some st ∧ findingOf st = .act ∧
        st.hdr.window = 0x02 ∧ st.hdr.opcode = opPut ∧ engineRuns s = true ∧ st.putAccepted = false ∧
            putAllowed s st.hdr = true) ∧
    (∃ (s : State) (id : Nat) (st : Stored), terminatedOf s id = some st ∧ findingOf st = .act ∧
        st.hdr.window = 0x02 ∧ st.hdr.opcode = opPut ∧ engineRuns s = true ∧ st.putAccepted = false ∧
            putAllowed s st.hdr = false) ∧
    (∃ (s : State) (id : Nat) (st : Stored), terminatedOf s id = some st ∧ findingOf st = .act ∧
        st.hdr.window = 0x02 ∧ st.hdr.opcode = opPut ∧ engineRuns s = false) ∧
    (∃ (s : State) (id : Nat) (st : Stored), packetOf s id = some st ∧ st.putAccepted = true ∧
        fenceWaits s id st = false) ∧
    (∃ (s : State) (id : Nat) (st : Stored), packetOf s id = some st ∧ st.putAccepted = true ∧
        fenceWaits s id st = true) ∧
    (∃ (s : State) (id : Nat) (st : Stored), terminatedOf s id = some st ∧ findingOf st = .act ∧
        st.hdr.window = 0x02 ∧ st.hdr.opcode = opSubscribe ∧ isCancel st.hdr = false ∧
            subscribeStatus s st.hdr = stOk) ∧
    (∃ (s : State) (id : Nat) (st : Stored), terminatedOf s id = some st ∧ findingOf st = .act ∧
        st.hdr.window = 0x02 ∧ st.hdr.opcode = opSubscribe ∧ isCancel st.hdr = false ∧
            subscribeStatus s st.hdr ≠ stOk) ∧
    (∃ (s : State) (id : Nat) (st : Stored), terminatedOf s id = some st ∧ findingOf st = .act ∧
        st.hdr.window = 0x02 ∧ st.hdr.opcode = opSubscribe ∧ isCancel st.hdr = true ∧ st.hdr.opB ≠ 0) ∧
    (∃ (s : State) (id : Nat) (st : Stored), terminatedOf s id = some st ∧ findingOf st = .act ∧
        st.hdr.window = 0x02 ∧ st.hdr.opcode = opSubscribe ∧ isCancel st.hdr = true ∧ st.hdr.opB = 0) ∧
    (∃ (s : State) (id : Nat) (st : Stored), terminatedOf s id = some st ∧ findingOf st = .act ∧
        st.hdr.window = 0x05 ∧ telemetryOk st.hdr = false) ∧
    (∃ (s : State) (id : Nat) (st : Stored), terminatedOf s id = some st ∧ findingOf st = .act ∧
        st.hdr.window = 0x05 ∧ telemetryOk st.hdr = true) ∧
    (∃ (s : State) (i : Nat) (t : Tile), tget s.streams.tiles i = some t ∧ nextWaiting s = some i ∧
        engineRuns s = true ∧ stagingUsed s + t.bytes ≤ 536870912 ∧ t.host = none ∧
            sgLocal (segAt s t.segment) = true ∧ sgReady (segAt s t.segment) = true) ∧
    (∃ (s : State) (i : Nat) (t : Tile), tget s.streams.tiles i = some t ∧ nextWaiting s = some i ∧
        (engineRuns s = false ∨ 536870912 < stagingUsed s + t.bytes)) ∧
    (∃ (s : State) (i : Nat) (t : Tile), tget s.streams.tiles i = some t ∧ nextWaiting s = some i ∧
        engineRuns s = true ∧ stagingUsed s + t.bytes ≤ 536870912 ∧ t.host = none ∧
            (sgLocal (segAt s t.segment) = false ∨ sgReady (segAt s t.segment) = false)) ∧
    (∃ (s : State) (i : Nat) (t : Tile), tget s.streams.tiles i = some t ∧ t.state = .reading ∧ t.host = none ∧
        wordsBad s t.address t.bytes = false) ∧
    (∃ (s : State) (i : Nat) (t : Tile) (hp : HostPort), tget s.streams.tiles i = some t ∧ t.state = .reading ∧
        t.host = some hp ∧ masters (fnOf s hp) = true ∧ (fnOf s hp).linkUp = true) ∧
    (∃ (s : State) (i : Nat) (t : Tile) (l : List (Nat × WordError)), tget s.streams.tiles i = some t ∧
        t.state = .reading ∧ t.host = none ∧ wordsBad s t.address t.bytes = false ∧ (∀ x ∈ l, x.1 < t.bytes)) ∧
    (∃ (e : WordError), eccOf e = .uncorrectable ∧ e.path = false) ∧
    (∃ (s : State) (i : Nat) (t : Tile) (hp : HostPort), tget s.streams.tiles i = some t ∧ t.state = .reading ∧
        t.host = some hp) :=
  ⟨⟨(pkt (term { hd opPut 0x02 1 16 with offset := 5 * 2 ^ 26 + 65520 } (zeros 16)) (updStreams
      (fun x => { x with segments := [(5, 257)] }) rd)), 7, ((terminatedOf (pkt
          (term { hd opPut 0x02 1 16 with offset := 5 * 2 ^ 26 + 65520 } (zeros 16)) (updStreams
          (fun x => { x with segments := [(5, 257)] }) rd)) 7).getD default),
    by decide +kernel⟩,
  ⟨(pkt (term { hd opPut 0x02 1 16 with offset := 5 * 2 ^ 26 + 65521 } (zeros 16)) (updStreams
      (fun x => { x with segments := [(5, 257)] }) rd)), 7, ((terminatedOf (pkt
          (term { hd opPut 0x02 1 16 with offset := 5 * 2 ^ 26 + 65521 } (zeros 16)) (updStreams
          (fun x => { x with segments := [(5, 257)] }) rd)) 7).getD default),
    by decide +kernel⟩,
  ⟨(pkt (term { hd opPut 0x02 1 16 with offset := 5 * 2 ^ 26 + 65520 } (zeros 16)) (updPower
      (fun x => { x with mode := 2 }) rd)), 7, ((terminatedOf (pkt
          (term { hd opPut 0x02 1 16 with offset := 5 * 2 ^ 26 + 65520 } (zeros 16)) (updPower
          (fun x => { x with mode := 2 }) rd)) 7).getD default),
    by decide +kernel⟩,
  ⟨(pkt { (term { hd opPut 0x02 1 16 with offset := 5 * 2 ^ 26 + 65520 } (zeros 16)) with putAccepted := true }
      (updStreams (fun x => { x with segments := [(5, 257)] }) rd)), 7,
          ((packetOf
          (pkt { (term { hd opPut 0x02 1 16 with offset := 5 * 2 ^ 26 + 65520 } (zeros 16)) with putAccepted := true } (updStreams (fun x => { x with segments := [(5, 257)] }) rd)) 7).getD default),
    by decide +kernel⟩,
  ⟨(updSwitch
      (fun w => { w with packets := [(6, (term { hd opPut 0x02 1 16 with offset := 5 * 2 ^ 26 + 65520 } (zeros 16))), (7, { (term (hd opPut 0x02 1 0) []) with putAccepted := true })] }) rd), 7, ((packetOf (updSwitch (fun w => { w with packets := [(6, (term { hd opPut 0x02 1 16 with offset := 5 * 2 ^ 26 + 65520 } (zeros 16))), (7, { (term (hd opPut 0x02 1 0) []) with putAccepted := true })] }) rd) 7).getD default),
    by decide +kernel⟩,
  ⟨(pkt (term { hd opSubscribe 0x02 1 0 with opA := 5, opB := 1 } []) (updStreams
      (fun x => { x with streams := [(5, 1)] }) rd)), 7, ((terminatedOf (pkt
          (term { hd opSubscribe 0x02 1 0 with opA := 5, opB := 1 } []) (updStreams
          (fun x => { x with streams := [(5, 1)] }) rd)) 7).getD default),
    by decide +kernel⟩,
  ⟨(pkt (term { hd opSubscribe 0x02 1 0 with opA := 5, opB := 1 } []) rd), 7,
      ((terminatedOf (pkt (term { hd opSubscribe 0x02 1 0 with opA := 5, opB := 1 } []) rd) 7).getD default),
    by decide +kernel⟩,
  ⟨(pkt (term { hd opSubscribe 0x02 1 0 with opA := 0x10005, opB := 1 } []) rd), 7,
      ((terminatedOf (pkt (term { hd opSubscribe 0x02 1 0 with opA := 0x10005, opB := 1 } []) rd) 7).getD default),
    by decide +kernel⟩,
  ⟨(pkt (term { hd opSubscribe 0x02 1 0 with opA := 0x10005, opB := 0 } []) rd), 7,
      ((terminatedOf (pkt (term { hd opSubscribe 0x02 1 0 with opA := 0x10005, opB := 0 } []) rd) 7).getD default),
    by decide +kernel⟩,
  ⟨(pkt (term { hd opGet 0x05 5 8 with offset := 0x3000000 } []) rd), 7,
      ((terminatedOf (pkt (term { hd opGet 0x05 5 8 with offset := 0x3000000 } []) rd) 7).getD default),
    by decide +kernel⟩,
  ⟨(pkt (term { hd opGet 0x05 5 8 with offset := 0x2FFFFF8 } []) rd), 7,
      ((terminatedOf (pkt (term { hd opGet 0x05 5 8 with offset := 0x2FFFFF8 } []) rd) 7).getD default),
    by decide +kernel⟩,
  ⟨(updStreams (fun x => { x with tiles := [(3, tile)], segments := [(5, 9)] }) rd),
      ((nextWaiting (updStreams (fun x => { x with tiles := [(3, tile)], segments := [(5, 9)] }) rd)).getD default),
          ((tget (updStreams (fun x => { x with tiles := [(3, tile)], segments := [(5, 9)] }) rd).streams.tiles
          ((nextWaiting (updStreams
          (fun x => { x with tiles := [(3, tile)], segments := [(5, 9)] }) rd)).getD default)).getD default),
    by decide +kernel⟩,
  ⟨(updStreams (fun x => { x with tiles := [(3, tile)] }) (updPower (fun x => { x with mode := 2 }) rd)),
      ((nextWaiting (updStreams (fun x => { x with tiles := [(3, tile)] }) (updPower
          (fun x => { x with mode := 2 }) rd))).getD default),
          ((tget (updStreams (fun x => { x with tiles := [(3, tile)] }) (updPower
          (fun x => { x with mode := 2 }) rd)).streams.tiles ((nextWaiting (updStreams
          (fun x => { x with tiles := [(3, tile)] }) (updPower
          (fun x => { x with mode := 2 }) rd))).getD default)).getD default),
    by decide +kernel⟩,
  ⟨(updStreams (fun x => { x with tiles := [(3, tile)] }) rd),
      ((nextWaiting (updStreams (fun x => { x with tiles := [(3, tile)] }) rd)).getD default),
          ((tget (updStreams (fun x => { x with tiles := [(3, tile)] }) rd).streams.tiles ((nextWaiting (updStreams
          (fun x => { x with tiles := [(3, tile)] }) rd)).getD default)).getD default),
    by decide +kernel⟩,
  ⟨(updStreams (fun x => { x with tiles := [(3, { tile with state := .reading })] }) rd), 3,
      ((tget (updStreams
          (fun x => { x with tiles := [(3, { tile with state := .reading })] }) rd).streams.tiles 3).getD default),
    by decide +kernel⟩,
  ⟨(updStreams (fun x => { x with tiles := [(3, { tile with state := .reading, host := some .a })] }) rd), 3,
      ((tget (updStreams
          (fun x => { x with tiles := [(3, { tile with state := .reading, host := some .a })] }) rd).streams.tiles 3).getD default), ((((tget (updStreams (fun x => { x with tiles := [(3, { tile with state := .reading, host := some .a })] }) rd).streams.tiles 3).getD default).host).getD default),
    by decide +kernel⟩,
  ⟨(updStreams (fun x => { x with tiles := [(3, { tile with state := .reading })] }) rd), 3,
      ((tget (updStreams
          (fun x => { x with tiles := [(3, { tile with state := .reading })] }) rd).streams.tiles 3).getD default), [],
    by decide +kernel⟩,
  ⟨{ errors := [(3, 5), (4, 6)] },
    by decide +kernel⟩,
  ⟨(updStreams (fun x => { x with tiles := [(3, { tile with state := .reading, host := some .a })] }) rd), 3,
      ((tget (updStreams
          (fun x => { x with tiles := [(3, { tile with state := .reading, host := some .a })] }) rd).streams.tiles 3).getD default), ((((tget (updStreams (fun x => { x with tiles := [(3, { tile with state := .reading, host := some .a })] }) rd).streams.tiles 3).getD default).host).getD default),
    by decide +kernel⟩⟩

theorem witness_CanvasPacketsAndTimeouts :
    (∃ (s : State) (id : Nat) (st : Stored), terminatedOf s id = some st ∧ findingOf st = .act ∧
        st.hdr.window = 0x01 ∧ st.deferred = false ∧ engineRuns s = true ∧ st.hdr.opcode = opReduceContrib) ∧
    (∃ (s : State) (id : Nat) (st : Stored), terminatedOf s id = some st ∧ findingOf st = .act ∧
        st.hdr.window = 0x01 ∧ st.deferred = false ∧ engineRuns s = true ∧ st.hdr.opcode = opCombineContrib) ∧
    (∃ (s : State) (id : Nat) (st : Stored), terminatedOf s id = some st ∧ findingOf st = .act ∧
        st.hdr.window = 0x01 ∧ st.deferred = false ∧ engineRuns s = true ∧ st.hdr.opcode = opReduceResult) ∧
    (∃ (s : State) (id : Nat) (st : Stored), terminatedOf s id = some st ∧ findingOf st = .act ∧
        st.hdr.window = 0x01 ∧ st.deferred = false ∧ engineRuns s = false ∧ st.hdr.opcode = opReduceContrib) ∧
    (∃ (s : State) (id c : Nat) (st : Stored), packetOf s id = some st ∧ st.waited.contains c = true) ∧
    (∃ (s : State) (id : Nat) (st : Stored), terminatedOf s id = some st ∧ st.deferred = true ∧
        st.hdr.window = 0x01 ∧ findingOf st ≠ .act ∧ st.why = 1) ∧
    (∃ (s : State) (id : Nat) (st : Stored), terminatedOf s id = some st ∧ st.deferred = true ∧
        st.hdr.window = 0x01 ∧ findingOf st ≠ .act ∧ st.why = 2) ∧
    (∃ (s : State) (id : Nat) (st : Stored), terminatedOf s id = some st ∧ st.deferred = true ∧
        st.hdr.window = 0x01 ∧ findingOf st ≠ .act ∧ st.why = 3) ∧
    (∃ (s : State) (id : Nat) (st : Stored), terminatedOf s id = some st ∧ st.deferred = true ∧ engineRuns s = true ∧
        st.hdr.window = 0x01 ∧ findingOf st = .act ∧ st.hdr.opcode = opReduceContrib ∧ st.why = 1) ∧
    (∃ (s : State) (id : Nat) (st : Stored), terminatedOf s id = some st ∧ st.deferred = true ∧ engineRuns s = true ∧
        st.hdr.window = 0x01 ∧ findingOf st = .act ∧ st.hdr.opcode = opReduceContrib ∧ st.why = 2) ∧
    (∃ (s : State) (id : Nat) (st : Stored), terminatedOf s id = some st ∧ st.deferred = true ∧ engineRuns s = true ∧
        st.hdr.window = 0x01 ∧ findingOf st = .act ∧ st.hdr.opcode = opReduceContrib ∧ st.why = 3) ∧
    (∃ (s : State) (id : Nat) (st : Stored), terminatedOf s id = some st ∧ st.deferred = true ∧ engineRuns s = true ∧
        st.hdr.window = 0x01 ∧ findingOf st = .act ∧ st.hdr.opcode = opReduceContrib ∧ st.why ≠ 1) ∧
    (∃ (s : State) (id : Nat) (st : Stored), terminatedOf s id = some st ∧ st.deferred = true ∧ engineRuns s = true ∧
        st.hdr.window = 0x01 ∧ findingOf st = .act ∧ st.hdr.opcode = opReduceContrib ∧ st.why ≠ 2) ∧
    (∃ (s : State) (id : Nat) (st : Stored), terminatedOf s id = some st ∧ st.deferred = true ∧ engineRuns s = true ∧
        st.hdr.window = 0x01 ∧ findingOf st = .act ∧ st.hdr.opcode = opReduceContrib ∧ st.why ≠ 3) ∧
    (∃ (s : State) (st : Stored), groupOf s (keyOf st.hdr).group = none) ∧
    (∃ (s : State) (st : Stored) (x : Slot), slotOf s (keyOf st.hdr) = some x ∧ (x.state = .up ∨ x.state = .out)) ∧
    (∃ (s : State) (k : SlotKey) (x : Slot) (m : W64), slotOf s k = some x ∧ parentOf x.group = some m ∧
        engineRuns s = true ∧ (x.state = .open_ ∨ x.state = .failed) ∧ x.opDeadline < s.canvas.clock) ∧
    (∃ (s : State) (k : SlotKey) (x : Slot), slotOf s k = some x ∧ s.canvas.clock ≤ x.opDeadline) ∧
    (∃ (s : State) (k : SlotKey) (x : Slot), slotOf s k = some x ∧ engineRuns s = true ∧ x.state = .up ∧
        x.upDeadline ≤ s.canvas.clock ∧ x.counted = false) ∧
    (∃ (s : State) (k : SlotKey) (pos : Nat) (c : Bool) (st : Stored) (x : Slot) (d : Desc), slotOf s k = some x ∧
        x.state = .open_ ∧ x.digest = some st.hdr.opA ∧ slotDesc x = some d ∧ partFault d c st.hdr = none ∧
            ((covers (partOf d pos c (min (if c then fitStripes d.accFmt else d.partStripes)
            (stripeCount d st.hdr.offset.toNat - st.hdr.ftag.toNat)) st.hdr.ftag.toNat st.hdr
            (payloadOf st.hdr st.data)) x.frontier.length).any
            (fun i => nth x.frontier i > pos) = true ∨ x.parked.any (fun y => y.pos = pos && y.first =
            (partOf d pos c (min (if c then fitStripes d.accFmt else d.partStripes)
            (stripeCount d st.hdr.offset.toNat - st.hdr.ftag.toNat)) st.hdr.ftag.toNat st.hdr
            (payloadOf st.hdr st.data)).first) = true)) ∧
    (∃ (s : State) (k : SlotKey) (pos : Nat) (c : Bool) (st : Stored) (x : Slot) (d : Desc), slotOf s k = some x ∧
        x.state = .open_ ∧ x.digest = some st.hdr.opA ∧ slotDesc x = some d ∧ partFault d c st.hdr = none ∧
            (¬ ((covers (partOf d pos c (min (if c then fitStripes d.accFmt else d.partStripes)
            (stripeCount d st.hdr.offset.toNat - st.hdr.ftag.toNat)) st.hdr.ftag.toNat st.hdr
            (payloadOf st.hdr st.data)) x.frontier.length).any
            (fun i => nth x.frontier i > pos) = true ∨ x.parked.any (fun y => y.pos = pos && y.first =
            (partOf d pos c (min (if c then fitStripes d.accFmt else d.partStripes)
            (stripeCount d st.hdr.offset.toNat - st.hdr.ftag.toNat)) st.hdr.ftag.toNat st.hdr
            (payloadOf st.hdr st.data)).first) = true)) ∧ inOrder x (partOf d pos c (min
            (if c then fitStripes d.accFmt else d.partStripes)
            (stripeCount d st.hdr.offset.toNat - st.hdr.ftag.toNat)) st.hdr.ftag.toNat st.hdr
            (payloadOf st.hdr st.data)) = false) ∧
    (∃ (s : State) (k : SlotKey) (id pos : Nat) (c : Bool) (st : Stored) (x : Slot) (d : Desc) (y : _),
        slotOf s k = some x ∧ x.state = .open_ ∧ x.digest = some st.hdr.opA ∧ slotDesc x = some d ∧
            partFault d c st.hdr = none ∧ (¬ ((covers (partOf d pos c (min
            (if c then fitStripes d.accFmt else d.partStripes)
            (stripeCount d st.hdr.offset.toNat - st.hdr.ftag.toNat)) st.hdr.ftag.toNat st.hdr
            (payloadOf st.hdr st.data)) x.frontier.length).any
            (fun i => nth x.frontier i > pos) = true ∨ x.parked.any (fun y => y.pos = pos && y.first =
            (partOf d pos c (min (if c then fitStripes d.accFmt else d.partStripes)
            (stripeCount d st.hdr.offset.toNat - st.hdr.ftag.toNat)) st.hdr.ftag.toNat st.hdr
            (payloadOf st.hdr st.data)).first) = true)) ∧ inOrder x (partOf d pos c (min
            (if c then fitStripes d.accFmt else d.partStripes)
            (stripeCount d st.hdr.offset.toNat - st.hdr.ftag.toNat)) st.hdr.ftag.toNat st.hdr
            (payloadOf st.hdr st.data)) = true ∧ slotOf (foldParked d k (x.parked.length + 1) {} (foldPart d k
            (partOf d pos c (min (if c then fitStripes d.accFmt else d.partStripes)
            (stripeCount d st.hdr.offset.toNat - st.hdr.ftag.toNat)) st.hdr.ftag.toNat st.hdr
            (payloadOf st.hdr st.data)) (updSlot k (arrive pos) (dropPacket id false s)))) k = some y) ∧
    (∃ (s : State) (k : SlotKey) (d : Desc) (x y : Slot) (p : Part) (i : _), slotOf s k = some x ∧
        slotOf (foldPart d k p s) k = some y ∧ i < x.frontier.length) ∧
    (∃ (s : State) (k : SlotKey) (d : Desc) (x y : Slot) (p : Part) (j : _), slotOf s k = some x ∧
        slotOf (foldPart d k p s) k = some y ∧ (j < 256 * p.first ∨ 256 * p.first + p.values.length ≤ j)) ∧
    (∃ (s : State) (k : SlotKey) (d : Desc) (x y : Slot) (p : Part) (j : _), slotOf s k = some x ∧
        slotOf (foldPart d k p s) k = some y ∧ j < p.values.length ∧ 256 * p.first + j < x.acc.length) ∧
    (∃ (s : State) (k : SlotKey) (x : Slot) (a b : Part), slotOf s k = some x ∧ x.parked = [] ∧ b.first = a.first ∧
        b.stripes = a.stripes ∧ b.pos = a.pos + 1 ∧ partLost s b {} = false) ∧
    (∃ (s : State) (k : SlotKey) (x : Slot) (b : Part) (e : WordError), slotOf s k = some x ∧ x.parked = [b] ∧
        inOrder x b = true ∧ partLost s b e = true) ∧
    (∃ (s : State) (k : SlotKey) (d : Desc) (n : Nat) (x y : Slot), slotOf s k = some x ∧ x.parked.length < n ∧
        slotOf (foldParked d k n {} s) k = some y) ∧
    (∃ (s u : State) (g : Group) (k : SlotKey) (id b : Nat) (x : Slot) (st : Stored), slotOf s k = some x ∧
        packetOf s id = some st ∧ ((takePiece (gSched g.header) s) = some (b,
            u) ∨ ((takePiece (gSched g.header) s) = none ∧
            (if gSched g.header then takePiece false s else none) = some (b, u)))) ∧
    (∃ (s : State) (g : Group) (k : SlotKey) (id : Nat) (x : Slot) (st : Stored), slotOf s k = some x ∧
        packetOf s id = some st ∧ (takePiece (gSched g.header) s) = none ∧
            (if gSched g.header then takePiece false s else none) = none ∧
            s.policy.parkCells < s.canvas.parkedCells + st.cells ∧ mayDefer s st = true) ∧
    (∃ (s : State) (g : Group) (k : SlotKey) (id : Nat) (x : Slot) (st : Stored), slotOf s k = some x ∧
        packetOf s id = some st ∧ (takePiece (gSched g.header) s) = none ∧
            (if gSched g.header then takePiece false s else none) = none ∧
            (s.canvas.parkedCells + st.cells ≤ s.policy.parkCells ∨ mayDefer s st = false)) ∧
    (∃ (s : State) (g : Group) (pos : Nat) (st : Stored) (d : Desc) (exp : _),
        groupOf s (keyOf st.hdr).group = some g ∧ positionOf g st.hdr.src = some pos ∧ vcFits g st = true ∧
            slotOf s (keyOf st.hdr) = none ∧ descByDigest s g st.hdr.opA = some d ∧ d.op ≠ opGather ∧
            d.elemCount ≠ 0 ∧ st.hdr.opcode = namedOpcode d ((childrenOf g).any
            (fun m => mEndpoint m = st.hdr.src)) ∧ cached s.canvas.refusals (keyOf st.hdr) s.canvas.clock = some exp) ∧
    (∃ (s : State) (g : Group) (pos : Nat) (st : Stored) (d : Desc), groupOf s (keyOf st.hdr).group = some g ∧
        positionOf g st.hdr.src = some pos ∧ vcFits g st = true ∧ slotOf s (keyOf st.hdr) = none ∧
            descByDigest s g st.hdr.opA = some d ∧ d.op ≠ opGather ∧ d.elemCount ≠ 0 ∧
            st.hdr.opcode = namedOpcode d ((childrenOf g).any (fun m => mEndpoint m = st.hdr.src)) ∧
            cached s.canvas.refusals (keyOf st.hdr) s.canvas.clock = none ∧
            (cached s.canvas.doneCache (keyOf st.hdr) s.canvas.clock).isSome = true) ∧
    (∃ (s : State) (g : Group) (pos : Nat) (st : Stored) (d : Desc), groupOf s (keyOf st.hdr).group = some g ∧
        positionOf g st.hdr.src = some pos ∧ vcFits g st = true ∧ slotOf s (keyOf st.hdr) = none ∧
            descByDigest s g st.hdr.opA = some d ∧ d.op ≠ opGather ∧ d.elemCount ≠ 0 ∧
            st.hdr.opcode = namedOpcode d ((childrenOf g).any (fun m => mEndpoint m = st.hdr.src)) ∧
            cached s.canvas.refusals (keyOf st.hdr) s.canvas.clock = none ∧
            cached s.canvas.doneCache (keyOf st.hdr) s.canvas.clock = none) ∧
    (∃ (s : State) (g : Group), gSched g.header = false ∧ (poolFree s false = 0 ∨ refusalsFull s = true)) ∧
    (∃ (s : State) (g : Group), gSched g.header = true ∧ poolFree s true = 0 ∧ poolFree s false = 0) ∧
    (∃ (s : State) (g : Group) (pool : _), (gSched g.header = true ∨ refusalsFull s = false) ∧
        blockFor s (gSched g.header) = some pool) ∧
    (∃ (s : State) (k : SlotKey), slotOf s k = none) ∧
    (∃ (s : State), (alive s.canvas.refusals s.canvas.clock).length < 4096) ∧
    (∃ (s : State), 4096 ≤ (alive s.canvas.refusals s.canvas.clock).length) ∧
    (∃ (s : State) (g : Group), (blockFor s (gSched g.header) = none ∨ (gSched g.header = false ∧
        refusalsFull s = true))) :=
  ⟨⟨(pkt (term { hd opReduceContrib 0x01 4 0 with opB := 5 } []) rd), 7,
      ((terminatedOf (pkt (term { hd opReduceContrib 0x01 4 0 with opB := 5 } []) rd) 7).getD default),
    by decide +kernel⟩,
  ⟨(pkt (term { hd opCombineContrib 0x01 4 0 with opB := 5 } []) rd), 7,
      ((terminatedOf (pkt (term { hd opCombineContrib 0x01 4 0 with opB := 5 } []) rd) 7).getD default),
    by decide +kernel⟩,
  ⟨(pkt (term { hd opReduceResult 0x01 4 0 with opB := 5 } []) rd), 7,
      ((terminatedOf (pkt (term { hd opReduceResult 0x01 4 0 with opB := 5 } []) rd) 7).getD default),
    by decide +kernel⟩,
  ⟨(pkt (term { hd opReduceContrib 0x01 4 0 with opB := 5 } []) (updPower (fun x => { x with mode := 2 }) rd)), 7,
      ((terminatedOf (pkt (term { hd opReduceContrib 0x01 4 0 with opB := 5 } []) (updPower
          (fun x => { x with mode := 2 }) rd)) 7).getD default),
    by decide +kernel⟩,
  ⟨(pkt { (term { hd opReduceContrib 0x01 4 0 with opB := 5 } []) with deferred := true, why := 2, waited := [14] } rd), 7, 14, ((packetOf (pkt { (term { hd opReduceContrib 0x01 4 0 with opB := 5 } []) with deferred := true, why := 2, waited := [14] } rd) 7).getD default),
    by decide +kernel⟩,
  ⟨(pkt { (term { hd opReduceContrib 0x01 4 0 with opB := 5 } []) with deferred := true, why := 1, hdr := { ((term { hd opReduceContrib 0x01 4 0 with opB := 5 } [])).hdr with pois := true } } rd), 7, ((terminatedOf (pkt { (term { hd opReduceContrib 0x01 4 0 with opB := 5 } []) with deferred := true, why := 1, hdr := { ((term { hd opReduceContrib 0x01 4 0 with opB := 5 } [])).hdr with pois := true } } rd) 7).getD default),
    by decide +kernel⟩,
  ⟨(pkt { (term { hd opReduceContrib 0x01 4 0 with opB := 5 } []) with deferred := true, why := 2, hdr := { ((term { hd opReduceContrib 0x01 4 0 with opB := 5 } [])).hdr with pois := true } } rd), 7, ((terminatedOf (pkt { (term { hd opReduceContrib 0x01 4 0 with opB := 5 } []) with deferred := true, why := 2, hdr := { ((term { hd opReduceContrib 0x01 4 0 with opB := 5 } [])).hdr with pois := true } } rd) 7).getD default),
    by decide +kernel⟩,
  ⟨(pkt { (term { hd opReduceContrib 0x01 4 0 with opB := 5 } []) with deferred := true, why := 3, hdr := { ((term { hd opReduceContrib 0x01 4 0 with opB := 5 } [])).hdr with pois := true } } rd), 7, ((terminatedOf (pkt { (term { hd opReduceContrib 0x01 4 0 with opB := 5 } []) with deferred := true, why := 3, hdr := { ((term { hd opReduceContrib 0x01 4 0 with opB := 5 } [])).hdr with pois := true } } rd) 7).getD default),
    by decide +kernel⟩,
  ⟨(pkt { (term { hd opReduceContrib 0x01 4 0 with opB := 5 } []) with deferred := true, why := 1 } rd), 7,
      ((terminatedOf
          (pkt { (term { hd opReduceContrib 0x01 4 0 with opB := 5 } []) with deferred := true, why := 1 } rd) 7).getD default),
    by decide +kernel⟩,
  ⟨(pkt { (term { hd opReduceContrib 0x01 4 0 with opB := 5 } []) with deferred := true, why := 2 } rd), 7,
      ((terminatedOf
          (pkt { (term { hd opReduceContrib 0x01 4 0 with opB := 5 } []) with deferred := true, why := 2 } rd) 7).getD default),
    by decide +kernel⟩,
  ⟨(pkt { (term { hd opReduceContrib 0x01 4 0 with opB := 5 } []) with deferred := true, why := 3 } rd), 7,
      ((terminatedOf
          (pkt { (term { hd opReduceContrib 0x01 4 0 with opB := 5 } []) with deferred := true, why := 3 } rd) 7).getD default),
    by decide +kernel⟩,
  ⟨(pkt { (term { hd opReduceContrib 0x01 4 0 with opB := 5 } []) with deferred := true } rd), 7,
      ((terminatedOf
          (pkt { (term { hd opReduceContrib 0x01 4 0 with opB := 5 } []) with deferred := true } rd) 7).getD default),
    by decide +kernel⟩,
  ⟨(pkt { (term { hd opReduceContrib 0x01 4 0 with opB := 5 } []) with deferred := true } rd), 7,
      ((terminatedOf
          (pkt { (term { hd opReduceContrib 0x01 4 0 with opB := 5 } []) with deferred := true } rd) 7).getD default),
    by decide +kernel⟩,
  ⟨(pkt { (term { hd opReduceContrib 0x01 4 0 with opB := 5 } []) with deferred := true } rd), 7,
      ((terminatedOf
          (pkt { (term { hd opReduceContrib 0x01 4 0 with opB := 5 } []) with deferred := true } rd) 7).getD default),
    by decide +kernel⟩,
  ⟨rd, (term { hd opReduceContrib 0x01 4 0 with opB := 5 } []),
    by decide +kernel⟩,
  ⟨(updCanvas (fun x => { x with slots := [{ slot with state := .out }] }) rd),
      (term { hd opReduceContrib 0x01 4 0 with opB := 5 } []),
          ((slotOf (updCanvas (fun x => { x with slots := [{ slot with state := .out }] }) rd) (keyOf
          (term { hd opReduceContrib 0x01 4 0 with opB := 5 } []).hdr)).getD default),
    by decide +kernel⟩,
  ⟨(updCanvas (fun x => { x with slots := [slot], clock := 6 }) rd), ⟨5, 0, 0⟩,
      ((slotOf (updCanvas (fun x => { x with slots := [slot], clock := 6 }) rd) ⟨5, 0, 0⟩).getD default),
          ((parentOf ((slotOf (updCanvas (fun x => { x with slots := [slot], clock := 6 }) rd) ⟨5, 0,
          0⟩).getD default).group).getD default),
    by decide +kernel⟩,
  ⟨(updCanvas (fun x => { x with slots := [slot], clock := 5 }) rd), ⟨5, 0, 0⟩,
      ((slotOf (updCanvas (fun x => { x with slots := [slot], clock := 5 }) rd) ⟨5, 0, 0⟩).getD default),
    by decide +kernel⟩,
  ⟨(updCanvas
      (fun x => { x with slots := [{ slot with state := .up }], groups := [(5, ⟨1, [0x2000000]⟩)], clock := 5 }) rd),
          ⟨5, 0, 0⟩, ((slotOf (updCanvas
          (fun x => { x with slots := [{ slot with state := .up }], groups := [(5, ⟨1, [0x2000000]⟩)], clock := 5 }) rd) ⟨5, 0, 0⟩).getD default),
    by decide +kernel⟩,
  ⟨(folding [{ open1 with frontier := [1] }] rd), ⟨5, 0, 0⟩, 0, false, part,
      ((slotOf (folding [{ open1 with frontier := [1] }] rd) ⟨5, 0, 0⟩).getD default),
          ((slotDesc ((slotOf (folding [{ open1 with frontier := [1] }] rd) ⟨5, 0, 0⟩).getD default)).getD default),
    by decide +kernel⟩,
  ⟨(folding [open1] rd), ⟨5, 0, 0⟩, 1, false, part, ((slotOf (folding [open1] rd) ⟨5, 0, 0⟩).getD default),
      ((slotDesc ((slotOf (folding [open1] rd) ⟨5, 0, 0⟩).getD default)).getD default),
    by decide +kernel⟩,
  ⟨(folding [open1] rd), ⟨5, 0, 0⟩, 7, 0, false, part, ((slotOf (folding [open1] rd) ⟨5, 0, 0⟩).getD default),
      ((slotDesc ((slotOf (folding [open1] rd) ⟨5, 0, 0⟩).getD default)).getD default), ((slotOf (foldParked sum ⟨5,
          0, 0⟩ 1 {} (foldPart sum ⟨5, 0, 0⟩ (partOf sum 0 false 1 0 part.hdr (payloadOf part.hdr part.data))
          (updSlot ⟨5, 0, 0⟩ (arrive 0) (dropPacket 7 false (folding [open1] rd))))) ⟨5, 0, 0⟩).getD open1),
    by decide +kernel⟩,
  ⟨(folding [{ open1 with frontier := [0] }] rd), ⟨5, 0, 0⟩, sum,
      ((slotOf (folding [{ open1 with frontier := [0] }] rd) ⟨5, 0, 0⟩).getD default), ((slotOf (foldPart sum ⟨5, 0,
          0⟩ (piece 0) (folding [{ open1 with frontier := [0] }] rd)) ⟨5, 0, 0⟩).getD default), (piece 0), 0,
    by decide +kernel⟩,
  ⟨(folding [{ open1 with frontier := [0] }] rd), ⟨5, 0, 0⟩, sum,
      ((slotOf (folding [{ open1 with frontier := [0] }] rd) ⟨5, 0, 0⟩).getD default), ((slotOf (foldPart sum ⟨5, 0,
          0⟩ (piece 0) (folding [{ open1 with frontier := [0] }] rd)) ⟨5, 0, 0⟩).getD default), (piece 0), 1,
    by decide +kernel⟩,
  ⟨(folding [{ open1 with frontier := [0] }] rd), ⟨5, 0, 0⟩, sum,
      ((slotOf (folding [{ open1 with frontier := [0] }] rd) ⟨5, 0, 0⟩).getD default), ((slotOf (foldPart sum ⟨5, 0,
          0⟩ (piece 0) (folding [{ open1 with frontier := [0] }] rd)) ⟨5, 0, 0⟩).getD default), (piece 0), 0,
    by decide +kernel⟩,
  ⟨(folding [{ open1 with frontier := [0] }] rd), ⟨5, 0, 0⟩,
      ((slotOf (folding [{ open1 with frontier := [0] }] rd) ⟨5, 0, 0⟩).getD default), (piece 0), (piece 1),
    by decide +kernel⟩,
  ⟨(pkt { part with hdr := { part.hdr with pois := true } }
      (folding [{ open1 with frontier := [0], parked := [{ (piece 0) with place := .buffer 7 }] }] rd)), ⟨5, 0, 0⟩,
          ((slotOf (pkt { part with hdr := { part.hdr with pois := true } }
          (folding [{ open1 with frontier := [0], parked := [{ (piece 0) with place := .buffer 7 }] }] rd)) ⟨5, 0,
          0⟩).getD default), ((((slotOf (pkt { part with hdr := { part.hdr with pois := true } }
          (folding [{ open1 with frontier := [0], parked := [{ (piece 0) with place := .buffer 7 }] }] rd)) ⟨5, 0,
          0⟩).getD default).parked).headD default), {},
    by decide +kernel⟩,
  ⟨(folding [{ open1 with frontier := [0], parked := [(piece 1), (piece 2)] }] rd), ⟨5, 0, 0⟩, sum, 3,
      ((slotOf (folding [{ open1 with frontier := [0], parked := [(piece 1), (piece 2)] }] rd) ⟨5, 0,
          0⟩).getD default), ((slotOf (foldParked sum ⟨5, 0,
          0⟩ 3 {} (folding [{ open1 with frontier := [0], parked := [(piece 1), (piece 2)] }] rd)) ⟨5, 0,
          0⟩).getD default),
    by decide +kernel⟩,
  ⟨(pkt part (folding [open1] rd)), (updCanvas
      (fun c => { c with staging := tset c.staging (newBlock c) (false, 1) }) (pkt part (folding [open1] rd))), pair,
          ⟨5, 0, 0⟩, 7, (newBlock (pkt part (folding [open1] rd)).canvas), open1, part,
    ⟨rfl, rfl, .inl rfl⟩⟩,
  ⟨(cramped 0 (pkt part (folding [open1] rd))), pair, ⟨5, 0, 0⟩, 7,
      ((slotOf (cramped 0 (pkt part (folding [open1] rd))) ⟨5, 0, 0⟩).getD default),
          ((packetOf (cramped 0 (pkt part (folding [open1] rd))) 7).getD default),
    by decide +kernel⟩,
  ⟨(cramped 1 (pkt part (folding [open1] rd))), pair, ⟨5, 0, 0⟩, 7,
      ((slotOf (cramped 1 (pkt part (folding [open1] rd))) ⟨5, 0, 0⟩).getD default),
          ((packetOf (cramped 1 (pkt part (folding [open1] rd))) 7).getD default),
    by decide +kernel⟩,
  ⟨(updCanvas (fun c => { c with refusals := [(⟨5, 0, 0⟩, 1)] }) (folding [] rd)),
      ((groupOf (updCanvas (fun c => { c with refusals := [(⟨5, 0, 0⟩, 1)] }) (folding [] rd))
          (keyOf part.hdr).group).getD default), ((positionOf ((groupOf (updCanvas
          (fun c => { c with refusals := [(⟨5, 0, 0⟩, 1)] }) (folding [] rd))
          (keyOf part.hdr).group).getD default) part.hdr.src).getD default), part,
          ((descByDigest (updCanvas (fun c => { c with refusals := [(⟨5, 0, 0⟩, 1)] }) (folding [] rd)) ((groupOf
          (updCanvas (fun c => { c with refusals := [(⟨5, 0, 0⟩, 1)] }) (folding [] rd))
          (keyOf part.hdr).group).getD default) part.hdr.opA).getD default),
          ((cached (updCanvas (fun c => { c with refusals := [(⟨5, 0, 0⟩, 1)] }) (folding [] rd)).canvas.refusals
          (keyOf part.hdr) (updCanvas (fun c => { c with refusals := [(⟨5, 0, 0⟩, 1)] })
          (folding [] rd)).canvas.clock).getD default),
    by decide +kernel⟩,
  ⟨(updCanvas (fun c => { c with doneCache := [(⟨5, 0, 0⟩, 1)] }) (folding [] rd)),
      ((groupOf (updCanvas (fun c => { c with doneCache := [(⟨5, 0, 0⟩, 1)] }) (folding [] rd))
          (keyOf part.hdr).group).getD default), ((positionOf ((groupOf (updCanvas
          (fun c => { c with doneCache := [(⟨5, 0, 0⟩, 1)] }) (folding [] rd))
          (keyOf part.hdr).group).getD default) part.hdr.src).getD default), part,
          ((descByDigest (updCanvas (fun c => { c with doneCache := [(⟨5, 0, 0⟩, 1)] }) (folding [] rd)) ((groupOf
          (updCanvas (fun c => { c with doneCache := [(⟨5, 0, 0⟩, 1)] }) (folding [] rd))
          (keyOf part.hdr).group).getD default) part.hdr.opA).getD default),
    by decide +kernel⟩,
  ⟨(folding [] rd), ((groupOf (folding [] rd) (keyOf part.hdr).group).getD default),
      ((positionOf ((groupOf (folding [] rd) (keyOf part.hdr).group).getD default) part.hdr.src).getD default), part,
          ((descByDigest (folding [] rd) ((groupOf (folding [] rd)
          (keyOf part.hdr).group).getD default) part.hdr.opA).getD default),
    by decide +kernel⟩,
  ⟨(updCanvas (fun c => { c with schedBlocks := 16384 }) (folding [] rd)), pair,
    by decide +kernel⟩,
  ⟨(updCanvas (fun c => { c with constBlocks := 16384 }) (folding [] rd)), { pair with header := pair.header ||| 2 },
    by decide +kernel⟩,
  ⟨(folding [] rd), pair, ((blockFor (folding [] rd) (gSched pair.header)).getD default),
    by decide +kernel⟩,
  ⟨(folding [] rd), ⟨5, 0, 0⟩,
    by decide +kernel⟩,
  ⟨(pkt part (folding [] rd)),
    by decide +kernel⟩,
  ⟨(pkt part (updCanvas (fun c => { c with refusals := List.replicate 4096 (⟨5, 0, 0⟩, 1) }) (folding [] rd))),
    by decide +kernel⟩,
  ⟨(updCanvas (fun c => { c with schedBlocks := 16384 }) (folding [] rd)), pair,
    by decide +kernel⟩⟩

theorem witness_ArithmeticRoundsAndOrders :
    (∃ (a b : Val), (a = .nan ∨ b = .nan)) ∧
    (∃ (a b : Val), a ≠ .nan ∧ b ≠ .nan) ∧
    (∃ (m n : Nat), (m ≠ 0 ∨ n ≠ 0)) ∧
    (∃ (k : FoldSet), k.op = opMin) ∧
    (∃ (k : FoldSet), k.op = opMax) ∧
    (∃ (k : FoldSet), k.op = opMin) ∧
    (∃ (k : FoldSet), k.op = opMax) ∧
    (∃ (F : Fmt) (mode : Nat) (neg : Bool) (m : Nat) (e : Int), F ∈ floatFormats ∧ m ≠ 0 ∧
        beyond F (dirOf mode neg) (ratOf (.fin false m e)) = true) ∧
    (∃ (F : Fmt) (m : Nat) (e : Int), F ∈ floatFormats ∧ m ≠ 0 ∧ ratOf (.fin false m e) < pow2 F.eMin ∧
        F.flush = true) ∧
    (∃ (F : Fmt) (mode : Nat) (neg : Bool) (m : Nat) (e : Int), F ∈ floatFormats ∧ m ≠ 0 ∧
        beyond F (dirOf mode neg) (ratOf (.fin false m e)) = false ∧
            (F.flush = true → pow2 F.eMin ≤ ratOf (.fin false m e))) ∧
    (∃ (F : Fmt) (mode : Nat), F ∈ floatFormats ∧ (F.hasInf = true ∨ mode ≤ 1)) ∧
    (∃ (F : Fmt), F.hasInf = true) ∧
    (∃ (x y : Bool) (m n : Nat) (e f : Int), ratOf (.fin x m e) + ratOf (.fin y n f) ≠ 0) ∧
    (∃ (x y : Bool) (m n : Nat) (e f : Int), ratOf (.fin x m e) + ratOf (.fin y n f) = 0 ∧ (m ≠ 0 ∨ n ≠ 0 ∨ x ≠ y)) ∧
    (∃ (m n : Nat), 1 ≤ m ∧ m ≤ 2048 ∧ 1 ≤ n ∧ n ≤ 2048) ∧
    (∃ (m : Nat), m ≠ 0) ∧
    (∃ (f : Nat), 3 ≤ f ∧ f ≤ 6) ∧
    (∃ (k : FoldSet), (k.op = opSum ∨ k.op = opCombine)) ∧
    (∃ (v : VarnishSet), isInteger v.accFmt = true ∧ isInteger v.outFmt = true ∧ isIdentity v = true) ∧
    (∃ (v : VarnishSet) (acc : Nat) (x y : Bool) (m n : Nat) (e f : Int), isFloat v.accFmt = true ∧ v.biasMode = 0 ∧
        (decodeFloat fp32 v.scale).2 = .fin x m e ∧ decodeFloat (fmtOf v.accFmt) acc = (0, .fin y n f)) ∧
    (∃ (v : VarnishSet) (bias acc : Nat) (x y w : Bool) (m n p : Nat) (e f q : Int), isFloat v.accFmt = true ∧
        v.biasMode ≠ 0 ∧ (decodeFloat fp32 v.scale).2 = .fin x m e ∧ decodeFloat (fmtOf v.accFmt) acc = (0,
            .fin y n f) ∧ decodeFloat fp32 bias = (0, .fin w p q) ∧
            ratOf (.fin x m e) * ratOf (.fin y n f) + ratOf (.fin w p q) ≠ 0) ∧
    (∃ (v : VarnishSet), isFloat v.outFmt = true) ∧
    (∃ (fmt : Nat), isInteger fmt = true) ∧
    (∃ (fmt : Nat), isInteger fmt = true) ∧
    (∃ (F : Fmt) (x : Val), F ∈ floatFormats ∧ x ≠ .nan ∧ F.hasInf = true) ∧
    (∃ (F : Fmt) (x : Val) (code : Nat), F ∈ floatFormats ∧ x ≠ .nan ∧ (decodeFloat F code).2 ≠ .nan ∧
        ieeeLt (decodeFloat F code).2 x = false) ∧
    (∃ (F : Fmt) (x : Val) (code : Nat), F ∈ floatFormats ∧ x ≠ .nan ∧ (decodeFloat F code).2 ≠ .nan ∧
        ieeeLt x (decodeFloat F code).2 = false) ∧
    (∃ (x : Val), x ≠ .nan ∧ ieeeLt (maxVal e4m3 false) x = false) ∧
    (∃ (x : Val), x ≠ .nan ∧ ieeeLt (maxVal e4m3 false) x = true) ∧
    (∃ (F : Fmt) (l h code : Nat), (decodeFloat F code).2 ≠ .nan ∧
        ieeeLt (decodeFloat F code).2 (boundLow F (decodeFloat fp32 l).2) = false ∧
            ieeeLt (boundHigh F (decodeFloat fp32 h).2) (decodeFloat F code).2 = false) ∧
    (∃ (F : Fmt) (l h code : Nat), (decodeFloat F code).2 ≠ .nan ∧
        ieeeLt (decodeFloat F code).2 (boundLow F (decodeFloat fp32 l).2) = true ∧
            ieeeLt (boundHigh F (decodeFloat fp32 h).2) (boundLow F (decodeFloat fp32 l).2) = false) ∧
    (∃ (F : Fmt) (l h code : Nat), (decodeFloat F code).2 ≠ .nan ∧
        ieeeLt (decodeFloat F code).2 (boundLow F (decodeFloat fp32 l).2) = false ∧
            ieeeLt (boundHigh F (decodeFloat fp32 h).2) (decodeFloat F code).2 = true) ∧
    (∃ (F : Fmt) (l h code : Nat), F ∈ floatFormats ∧ (decodeFloat F code).2 ≠ .nan ∧ (decodeFloat fp32 l).2 ≠ .nan ∧
        (decodeFloat fp32 h).2 ≠ .nan ∧ ieeeLt (boundHigh F (decodeFloat fp32 h).2) (boundLow F
            (decodeFloat fp32 l).2) = true) ∧
    (∃ (F : Fmt) (code : Nat), (decodeFloat F code).2 = .nan) :=
  ⟨⟨.nan, .nan,
    by decide +kernel⟩,
  ⟨(.inf true), (.inf true),
    by decide +kernel⟩,
  ⟨95, 95,
    by decide +kernel⟩,
  ⟨{ op := opMin, accFmt := 0, mode := 0, sat := true },
    by decide +kernel⟩,
  ⟨{ op := opMax, accFmt := 0, mode := 0, sat := true },
    by decide +kernel⟩,
  ⟨{ op := opMin, accFmt := 0, mode := 0, sat := true },
    by decide +kernel⟩,
  ⟨{ op := opMax, accFmt := 0, mode := 0, sat := true },
    by decide +kernel⟩,
  ⟨fp64, 95, true, 95, 1199,
    by decide +kernel⟩,
  ⟨fp16, 1, (-15),
    by decide +kernel⟩,
  ⟨fp64, 95, true, 95, 0,
    by decide +kernel⟩,
  ⟨fp64, 95,
    by decide +kernel⟩,
  ⟨fp64,
    by decide +kernel⟩,
  ⟨true, true, 95, 95, 0, 0,
    by decide +kernel⟩,
  ⟨true, false, 95, 95, 0, 0,
    by decide +kernel⟩,
  ⟨95, 95,
    by decide +kernel⟩,
  ⟨95,
    by decide +kernel⟩,
  ⟨5,
    by decide +kernel⟩,
  ⟨{ op := opSum, accFmt := 2, mode := 0, sat := false },
    by decide +kernel⟩,
  ⟨{ accFmt := 10, outFmt := 8, rtz := false, sat := false, scale := 0x3F800000, biasMode := 0, clip := none },
    by decide +kernel⟩,
  ⟨{ accFmt := 2, outFmt := 2, rtz := false, sat := false, scale := 0x3F800000, biasMode := 0, clip := none },
      0x3F800000, false, false, 8388608, 8388608, (-23), (-23),
    by decide +kernel⟩,
  ⟨{ accFmt := 2, outFmt := 2, rtz := false, sat := false, scale := 0x3F800000, biasMode := 1, clip := none },
      0x3F800000, 0x3F800000, false, false, false, 8388608, 8388608, 8388608, (-23), (-23), (-23),
    by decide +kernel⟩,
  ⟨{ accFmt := 2, outFmt := 2, rtz := false, sat := false, scale := 0x3F800000, biasMode := 0, clip := none },
    by decide +kernel⟩,
  ⟨8,
    by decide +kernel⟩,
  ⟨8,
    by decide +kernel⟩,
  ⟨fp64, (.inf true),
    by decide +kernel⟩,
  ⟨fp64, (.inf true), 95,
    by decide +kernel⟩,
  ⟨fp64, (.inf false), 95,
    by decide +kernel⟩,
  ⟨(.inf true),
    by decide +kernel⟩,
  ⟨(.inf false),
    by decide +kernel⟩,
  ⟨fp64, 0, 95, 95,
    by decide +kernel⟩,
  ⟨fp64, 95, 95, 95,
    by decide +kernel⟩,
  ⟨fp64, 0, 0, 95,
    by decide +kernel⟩,
  ⟨fp64, 95, 7, 95,
    by decide +kernel⟩,
  ⟨bf16, 65535,
    by decide +kernel⟩⟩

theorem witness_IntegersSaturateOrWrap :
    (∃ (w : Nat) (a b : Int), 1 ≤ w ∧ -(2 ^ (w - 1)) ≤ a + b ∧ a + b < 2 ^ (w - 1)) ∧
    (∃ (w : Nat) (a b : Int), 1 ≤ w ∧ 2 ^ (w - 1) ≤ a + b) ∧
    (∃ (w : Nat) (a b : Int), 1 ≤ w ∧ a + b < -(2 ^ (w - 1))) ∧
    (∃ (w : Nat) (a b : Int), 1 ≤ w ∧ (a + b < -(2 ^ (w - 1)) ∨ 2 ^ (w - 1) ≤ a + b)) ∧
    (∃ (f : Nat) (x : Int), 1 ≤ fmtBytes f ∧ -(2 ^ (8 * fmtBytes f - 1)) ≤ x ∧ x < 2 ^ (8 * fmtBytes f - 1)) ∧
    (∃ (f : Nat) (x : Int), 1 ≤ fmtBytes f ∧ 2 ^ (8 * fmtBytes f - 1) ≤ x) ∧
    (∃ (f : Nat) (x : Int), 1 ≤ fmtBytes f ∧ x < -(2 ^ (8 * fmtBytes f - 1))) ∧
    (∃ (f : Nat) (x : Int), 1 ≤ fmtBytes f ∧ (x < -(2 ^ (8 * fmtBytes f - 1)) ∨ 2 ^ (8 * fmtBytes f - 1) ≤ x)) :=
  ⟨⟨8, -128, 1,
    by decide +kernel⟩,
  ⟨8, 127, 1,
    by decide +kernel⟩,
  ⟨8, -128, -1,
    by decide +kernel⟩,
  ⟨8, -128, -1,
    by decide +kernel⟩,
  ⟨8, -128,
    by decide +kernel⟩,
  ⟨8, 128,
    by decide +kernel⟩,
  ⟨8, -129,
    by decide +kernel⟩,
  ⟨8, -129,
    by decide +kernel⟩⟩

theorem witness_TicksAndTheirSources :
    (∃ (s : State), s.tick.running = true ∧ boundaryWork s = false ∧ tickMode s ≠ some 2 ∧
        s.tick.next ≤ (s.now : Rat)) ∧
    (∃ (s : State), (s.tick.running = false ∨ (s.now : Rat) < s.tick.next)) ∧
    (∃ (s : State), tickMode s ≠ some 2) ∧
    (∃ (s : State), tickMode s = some 2 ∧ boundaryWork s = false ∧ s.tick.running = true ∧ s.tick.framePos = none ∧
        absRat ((s.now : Rat) - (s.tick.inputDelay : Rat) / 10 - s.tick.next) ≤ (periodOf s : Rat) / 20) ∧
    (∃ (s : State), tickMode s = some 2 ∧ boundaryWork s = false ∧ s.tick.running = true ∧ s.tick.holdover = false ∧
        s.tick.badEdges < 3 ∧ (periodOf s : Rat) / 20 < absRat ((s.now : Rat) -
            (s.tick.inputDelay : Rat) / 10 - s.tick.next)) ∧
    (∃ (s : State), tickMode s = some 2 ∧ s.tick.running = true ∧ s.tick.holdover = false ∧
        s.tick.next + (periodOf s : Rat) / 20 < (s.now : Rat)) ∧
    (∃ (s : State) (ts : TickSettings) (p q : Nat), s.sketch.tickSet = some ts ∧ s.tick.port = some p ∧ ts.mode = 0 ∧
        4 ≤ s.tick.silent ∧ (searchOrder ts.ports p).find? (fun x => (markerPorts s).contains x) = some q) ∧
    (∃ (s : State) (ts : TickSettings) (p : Nat), s.sketch.tickSet = some ts ∧ s.tick.port = some p ∧ ts.mode = 0 ∧
        4 ≤ s.tick.silent ∧ (searchOrder ts.ports p).find? (fun x => (markerPorts s).contains x) = none ∧
            s.tick.holdover = false) ∧
    (∃ (s : State), s.tick.running = true ∧ boundaryWork s = false ∧ tickMode s ≠ some 2 ∧
        s.tick.next ≤ (s.now : Rat)) ∧
    (∃ (s : State), engineRuns s = false) ∧
    (∃ (s : State), engineRuns s = true) ∧
    (∃ (s : State) (n : W32) (kind : Nat), (tgetD (lateTable s.tick kind) n.toNat 0) = 0) ∧
    (∃ (s : State) (n : W32) (kind : Nat), 0 < (tgetD (lateTable s.tick kind) n.toNat 0)) ∧
    (∃ (s : State) (u : Nat), s.sketch.overrunAt = some u ∧ s.now < u + 1000000) ∧
    (∃ (s : State) (r : Bytes) (l : List Bytes), s.sketch.overrunPending = r :: l ∧ (∀ u,
        s.sketch.overrunAt = some u → u + 1000000 ≤ s.now)) ∧
    (∃ (s : State) (n : W32), (s.tick.running = false ∨ laterTick s.tick.number (n + 1) = false)) ∧
    (∃ (s : State) (n : W32), s.tick.running = true ∧ laterTick s.tick.number (n + 1) = true) ∧
    (∃ (s : State) (n c v : W32) (i : Nat), s.streams.rewinds = [(i, c, v)] ∧ laterTick c n = false) ∧
    (∃ (s : State) (e : W64) (ts : TickSettings), gateEntry s (s.tick.number + 2) = some e ∧
        settingsAt s (s.tick.number + 1) = some ts ∧ isSource s = true ∧ sourceSet ts = true ∧
            bitOf e.toNat 28 = true ∧ engineRuns s = true) ∧
    (∃ (s : State) (e : W64) (ts : TickSettings), gateEntry s (s.tick.number + 2) = some e ∧
        settingsAt s (s.tick.number + 1) = some ts ∧
            (isSource s = false ∨ sourceSet ts = false ∨ bitOf e.toNat 28 = false ∨ engineRuns s = false)) ∧
    (∃ (s : State), gateEntry s (s.tick.number + 2) = none) ∧
    (∃ (s : State) (p : Nat), p < 96 ∧ s.ports.length = 96) ∧
    (∃ (s : State), engineRuns s = false) ∧
    (∃ (s : State) (x : W64), engineRuns s = true ∧ s.streams.rewinds = [] ∧
        (stValid (streamAt s (itStream x)) = false ∨ ((streamTables s).tiles (streamAt s (itStream x))) = 0)) ∧
    (∃ (s : State) (x : W64), engineRuns s = true ∧ s.streams.rewinds = [] ∧
        stValid (streamAt s (itStream x)) = true ∧ ((streamTables s).tiles (streamAt s (itStream x))) ≠ 0 ∧
            ((streamTables s).tiles (streamAt s (itStream x))) ≤ 2 ^ 32) ∧
    (∃ (s : State) (t : Nat) (x : W64) (k g off : Nat), tilePlace s (streamAt s (itStream x)) t = some (k, g, off) ∧
        badEntry s 9 k = false ∧ sgValid (segAt s g) = true ∧ sgRes (segAt s g) = 2) ∧
    (∃ (s : State) (t : Nat) (x : W64) (k g off : Nat), tilePlace s (streamAt s (itStream x)) t = some (k, g, off) ∧
        badEntry s 9 k = false ∧ sgLocal (segAt s g) = true ∧ sgReady (segAt s g) = false) ∧
    (∃ (s : State) (t : Nat) (x : W64) (k g off : Nat), tilePlace s (streamAt s (itStream x)) t = some (k, g, off) ∧
        badEntry s 9 k = false ∧ sgLocal (segAt s g) = true ∧ sgReady (segAt s g) = true) ∧
    (∃ (s : State), 0 < periodOf s) ∧
    (∃ (s : State) (p : Nat) (b : Bytes) (ts : TickSettings), s.sketch.tickSet = some ts ∧ (¬ (ts.mode = 0 ∧
        (portOf s p).features.getLsbD 2 = true ∧ leAt b 12 2 = ts.source.toNat ∧
            (s.tick.port = some p ∨ (s.tick.port = none ∧ ts.ports.contains p = true))))) ∧
    (∃ (s : State) (p : Nat) (b : Bytes) (ts : TickSettings), s.sketch.tickSet = some ts ∧ (ts.mode = 0 ∧
        (portOf s p).features.getLsbD 2 = true ∧ leAt b 12 2 = ts.source.toNat ∧
            (s.tick.port = some p ∨ (s.tick.port = none ∧ ts.ports.contains p = true))) ∧
            bitOf (leAt b 15 1) 1 = false) ∧
    (∃ (s : State) (k : Marker), s.tick.running = true ∧ (s.tick.locked = false ∨ 1000 < absRat
        (k.start - localStart s k.tick)) ∧ s.tick.lengthen.wf = true ∧ (∀ x ∈ s.tick.lengthen, x.1 < 2 ^ 32)) ∧
    (∃ (s : State) (k : Marker), s.tick.running = true ∧ (¬ (s.tick.locked = false ∨ 1000 < absRat
        (k.start - localStart s k.tick))) ∧ 1 ≤ tickDiff k.tick s.tick.number) :=
  ⟨⟨(sent 0x13 (zeros 4 ++ leBytes 4 115) (updSketch (fun x => { x with plans := some { entries := [[]] } })
      (updTick (fun x => { x with locked := true, running := true, number := 100 }) rd))),
    by decide +kernel⟩,
  ⟨{ rd with pending := [.refclkLoss, .powerOn] },
    by decide +kernel⟩,
  ⟨{ rd with pending := [.refclkLoss, .powerOn] },
    by decide +kernel⟩,
  ⟨(updSketch (fun x => { x with tickSet := some { ts with mode := 2 } }) (updTick
      (fun x => { x with running := true, next := 100000000200 }) rd)),
    by decide +kernel⟩,
  ⟨(updSketch (fun x => { x with tickSet := some { ts with mode := 2 } }) (updTick
      (fun x => { x with running := true, next := 100000000201, badEdges := 2 }) rd)),
    by decide +kernel⟩,
  ⟨(updSketch (fun x => { x with tickSet := some { ts with mode := 2 } }) (updTick
      (fun x => { x with running := true, next := 99999999799 }) rd)),
    by decide +kernel⟩,
  ⟨(updSketch (fun x => { x with tickSet := some ts }) (updTick (fun x => { x with port := some 95, silent := 4 })
      (updPort 94 (fun _ => { up with features := 4 }) rd))),
          (((updSketch (fun x => { x with tickSet := some ts }) (updTick
          (fun x => { x with port := some 95, silent := 4 }) (updPort 94
          (fun _ => { up with features := 4 }) rd))).sketch.tickSet).getD default),
          (((updSketch (fun x => { x with tickSet := some ts }) (updTick
          (fun x => { x with port := some 95, silent := 4 }) (updPort 94
          (fun _ => { up with features := 4 }) rd))).tick.port).getD default),
          (((searchOrder (((updSketch (fun x => { x with tickSet := some ts }) (updTick
          (fun x => { x with port := some 95, silent := 4 }) (updPort 94
          (fun _ => { up with features := 4 }) rd))).sketch.tickSet).getD default).ports (((updSketch
          (fun x => { x with tickSet := some ts }) (updTick (fun x => { x with port := some 95, silent := 4 })
          (updPort 94 (fun _ => { up with features := 4 }) rd))).tick.port).getD default)).find? (fun x =>
          (markerPorts (updSketch (fun x => { x with tickSet := some ts }) (updTick
          (fun x => { x with port := some 95, silent := 4 }) (updPort 94
          (fun _ => { up with features := 4 }) rd)))).contains x)).getD default),
    by decide +kernel⟩,
  ⟨(updSketch (fun x => { x with tickSet := some ts }) (updTick
      (fun x => { x with port := some 95, silent := 4 }) rd)),
          (((updSketch (fun x => { x with tickSet := some ts }) (updTick
          (fun x => { x with port := some 95, silent := 4 }) rd)).sketch.tickSet).getD default),
          (((updSketch (fun x => { x with tickSet := some ts }) (updTick
          (fun x => { x with port := some 95, silent := 4 }) rd)).tick.port).getD default),
    by decide +kernel⟩,
  ⟨(updTick (fun x => { x with running := true, locked := true, number := 5, start := 99999996000, next := 100000000000 }) rd),
    by decide +kernel⟩,
  ⟨(updPower (fun x => { x with mode := 2 }) (updCanvas
      (fun x => { x with slots := [{ slot with item := some (1, 0, 0, 2) }] }) (updTick
          (fun x => { x with running := true, locked := true, number := 5, start := 99999996000, next := 100000000000 }) rd))),
    by decide +kernel⟩,
  ⟨(updCanvas (fun x => { x with slots := [{ slot with item := some (1, 0, 0, 2) }] }) (updTick
      (fun x => { x with running := true, locked := true, number := 5, start := 99999996000, next := 100000000000 }) rd)),
    by decide +kernel⟩,
  ⟨(updTick (fun x => { x with running := true, locked := true, number := 5, start := 99999996000, next := 100000000000 }) rd), 5, 1,
    by decide +kernel⟩,
  ⟨(updTick (fun x => { x with running := true, locked := true, number := 5, start := 99999996000, next := 100000000000, lateStream := [(5, 3)], lateReduce := [(5, 3)], lateEgress := [(5, 3)] }) rd), 5, 1,
    by decide +kernel⟩,
  ⟨(updSketch (fun x => { x with overrunAt := some 99999000001 }) rd),
      (((updSketch (fun x => { x with overrunAt := some 99999000001 }) rd).sketch.overrunAt).getD default),
    by decide +kernel⟩,
  ⟨(updSketch (fun x => { x with overrunPending := [[]], overrunAt := some 99999000000 }) rd),
      (((updSketch
          (fun x => { x with overrunPending := [[]], overrunAt := some 99999000000 }) rd).sketch.overrunPending).headD default), (((updSketch (fun x => { x with overrunPending := [[]], overrunAt := some 99999000000 }) rd).sketch.overrunPending).tail),
    by decide +kernel⟩,
  ⟨(updTick (fun x => { x with running := true, locked := true, number := 5, start := 99999996000, next := 100000000000 }) rd), 4,
    by decide +kernel⟩,
  ⟨(updTick (fun x => { x with running := true, locked := true, number := 5, start := 99999996000, next := 100000000000 }) rd), 3,
    by decide +kernel⟩,
  ⟨(updStreams (fun x => { x with rewinds := [(7, 5, 0)], streams := [(7, 1 + 8 * 2 ^ 8 + 2 ^ 82 + 2 ^ 128)] }) rd),
      5, ((((updStreams
          (fun x => { x with rewinds := [(7, 5, 0)], streams := [(7, 1 + 8 * 2 ^ 8 + 2 ^ 82 + 2 ^ 128)] }) rd).streams.rewinds).headD default).2.1), ((((updStreams (fun x => { x with rewinds := [(7, 5, 0)], streams := [(7, 1 + 8 * 2 ^ 8 + 2 ^ 82 + 2 ^ 128)] }) rd).streams.rewinds).headD default).2.2), ((((updStreams (fun x => { x with rewinds := [(7, 5, 0)], streams := [(7, 1 + 8 * 2 ^ 8 + 2 ^ 82 + 2 ^ 128)] }) rd).streams.rewinds).headD default).1),
    by decide +kernel⟩,
  ⟨(updTick (fun x => { x with running := true, locked := true, number := 5, start := 99999996000, next := 100000000000 }) (updSketch (fun x => { x with tickSet := some { ts with mode := 1, gateMax := 5 }, plans := some { entries := [[2 ^ 28]] }, running := some (0, 1) }) rd)), ((gateEntry (updTick (fun x => { x with running := true, locked := true, number := 5, start := 99999996000, next := 100000000000 }) (updSketch (fun x => { x with tickSet := some { ts with mode := 1, gateMax := 5 }, plans := some { entries := [[2 ^ 28]] }, running := some (0, 1) }) rd)) ((updTick (fun x => { x with running := true, locked := true, number := 5, start := 99999996000, next := 100000000000 }) (updSketch (fun x => { x with tickSet := some { ts with mode := 1, gateMax := 5 }, plans := some { entries := [[2 ^ 28]] }, running := some (0, 1) }) rd)).tick.number + 2)).getD default), ((settingsAt (updTick (fun x => { x with running := true, locked := true, number := 5, start := 99999996000, next := 100000000000 }) (updSketch (fun x => { x with tickSet := some { ts with mode := 1, gateMax := 5 }, plans := some { entries := [[2 ^ 28]] }, running := some (0, 1) }) rd)) ((updTick (fun x => { x with running := true, locked := true, number := 5, start := 99999996000, next := 100000000000 }) (updSketch (fun x => { x with tickSet := some { ts with mode := 1, gateMax := 5 }, plans := some { entries := [[2 ^ 28]] }, running := some (0, 1) }) rd)).tick.number + 1)).getD default),
    by decide +kernel⟩,
  ⟨(updPower (fun x => { x with mode := 2 }) (updTick
      (fun x => { x with running := true, locked := true, number := 5, start := 99999996000, next := 100000000000 })
          (updSketch
          (fun x => { x with tickSet := some { ts with mode := 1, gateMax := 5 }, plans := some { entries := [[2 ^ 28]] }, running := some (0, 1) }) rd))), ((gateEntry (updPower (fun x => { x with mode := 2 }) (updTick (fun x => { x with running := true, locked := true, number := 5, start := 99999996000, next := 100000000000 }) (updSketch (fun x => { x with tickSet := some { ts with mode := 1, gateMax := 5 }, plans := some { entries := [[2 ^ 28]] }, running := some (0, 1) }) rd))) ((updPower (fun x => { x with mode := 2 }) (updTick (fun x => { x with running := true, locked := true, number := 5, start := 99999996000, next := 100000000000 }) (updSketch (fun x => { x with tickSet := some { ts with mode := 1, gateMax := 5 }, plans := some { entries := [[2 ^ 28]] }, running := some (0, 1) }) rd))).tick.number + 2)).getD default), ((settingsAt (updPower (fun x => { x with mode := 2 }) (updTick (fun x => { x with running := true, locked := true, number := 5, start := 99999996000, next := 100000000000 }) (updSketch (fun x => { x with tickSet := some { ts with mode := 1, gateMax := 5 }, plans := some { entries := [[2 ^ 28]] }, running := some (0, 1) }) rd))) ((updPower (fun x => { x with mode := 2 }) (updTick (fun x => { x with running := true, locked := true, number := 5, start := 99999996000, next := 100000000000 }) (updSketch (fun x => { x with tickSet := some { ts with mode := 1, gateMax := 5 }, plans := some { entries := [[2 ^ 28]] }, running := some (0, 1) }) rd))).tick.number + 1)).getD default),
    by decide +kernel⟩,
  ⟨rd,
    by decide +kernel⟩,
  ⟨(port { up with features := 4 } (updTick
      (fun x => { x with running := true, locked := true, number := 5, start := 99999996000, next := 100000000000 })
          (updSketch
          (fun x => { x with tickSet := some { ts with mode := 1, gateMax := 5 }, plans := some { entries := [[2 ^ 28]] }, running := some (0, 1) }) rd))), 95,
    by decide +kernel⟩,
  ⟨(updPower (fun x => { x with mode := 2 }) rd),
    by decide +kernel⟩,
  ⟨(updTick (fun x => { x with running := true, locked := true, number := 5, start := 99999996000, next := 100000000000 }) (updStreams (fun x => { x with segments := [(5, 0x109)], segList := [(0, 5)], streams := [(7, 1 + 8 * 2 ^ 8 + 2 ^ 82)] }) rd)), 8,
    by decide +kernel⟩,
  ⟨(updTick (fun x => { x with running := true, locked := true, number := 5, start := 99999996000, next := 100000000000 }) (updStreams (fun x => { x with segments := [(5, 0x109)], segList := [(0, 5)], streams := [(7, 1 + 8 * 2 ^ 8 + 2 ^ 82)] }) rd)), (7 + 3 * 2 ^ 16),
    by decide +kernel⟩,
  ⟨(updTick (fun x => { x with running := true, locked := true, number := 5, start := 99999996000, next := 100000000000 }) (updStreams (fun x => { x with segments := [(5, 0x105)], segList := [(0, 5)], streams := [(7, 1 + 8 * 2 ^ 8 + 2 ^ 82)] }) rd)), 15, (7 + 3 * 2 ^ 16), (((tilePlace (updTick (fun x => { x with running := true, locked := true, number := 5, start := 99999996000, next := 100000000000 }) (updStreams (fun x => { x with segments := [(5, 0x105)], segList := [(0, 5)], streams := [(7, 1 + 8 * 2 ^ 8 + 2 ^ 82)] }) rd)) (streamAt (updTick (fun x => { x with running := true, locked := true, number := 5, start := 99999996000, next := 100000000000 }) (updStreams (fun x => { x with segments := [(5, 0x105)], segList := [(0, 5)], streams := [(7, 1 + 8 * 2 ^ 8 + 2 ^ 82)] }) rd)) (itStream (7 + 3 * 2 ^ 16))) 15).getD default).1), (((tilePlace (updTick (fun x => { x with running := true, locked := true, number := 5, start := 99999996000, next := 100000000000 }) (updStreams (fun x => { x with segments := [(5, 0x105)], segList := [(0, 5)], streams := [(7, 1 + 8 * 2 ^ 8 + 2 ^ 82)] }) rd)) (streamAt (updTick (fun x => { x with running := true, locked := true, number := 5, start := 99999996000, next := 100000000000 }) (updStreams (fun x => { x with segments := [(5, 0x105)], segList := [(0, 5)], streams := [(7, 1 + 8 * 2 ^ 8 + 2 ^ 82)] }) rd)) (itStream (7 + 3 * 2 ^ 16))) 15).getD default).2.1), (((tilePlace (updTick (fun x => { x with running := true, locked := true, number := 5, start := 99999996000, next := 100000000000 }) (updStreams (fun x => { x with segments := [(5, 0x105)], segList := [(0, 5)], streams := [(7, 1 + 8 * 2 ^ 8 + 2 ^ 82)] }) rd)) (streamAt (updTick (fun x => { x with running := true, locked := true, number := 5, start := 99999996000, next := 100000000000 }) (updStreams (fun x => { x with segments := [(5, 0x105)], segList := [(0, 5)], streams := [(7, 1 + 8 * 2 ^ 8 + 2 ^ 82)] }) rd)) (itStream (7 + 3 * 2 ^ 16))) 15).getD default).2.2),
    by decide +kernel⟩,
  ⟨(updTick (fun x => { x with running := true, locked := true, number := 5, start := 99999996000, next := 100000000000 }) (updStreams (fun x => { x with segments := [(5, 0x101)], segList := [(0, 5)], streams := [(7, 1 + 8 * 2 ^ 8 + 2 ^ 82)] }) rd)), 15, (7 + 3 * 2 ^ 16), (((tilePlace (updTick (fun x => { x with running := true, locked := true, number := 5, start := 99999996000, next := 100000000000 }) (updStreams (fun x => { x with segments := [(5, 0x101)], segList := [(0, 5)], streams := [(7, 1 + 8 * 2 ^ 8 + 2 ^ 82)] }) rd)) (streamAt (updTick (fun x => { x with running := true, locked := true, number := 5, start := 99999996000, next := 100000000000 }) (updStreams (fun x => { x with segments := [(5, 0x101)], segList := [(0, 5)], streams := [(7, 1 + 8 * 2 ^ 8 + 2 ^ 82)] }) rd)) (itStream (7 + 3 * 2 ^ 16))) 15).getD default).1), (((tilePlace (updTick (fun x => { x with running := true, locked := true, number := 5, start := 99999996000, next := 100000000000 }) (updStreams (fun x => { x with segments := [(5, 0x101)], segList := [(0, 5)], streams := [(7, 1 + 8 * 2 ^ 8 + 2 ^ 82)] }) rd)) (streamAt (updTick (fun x => { x with running := true, locked := true, number := 5, start := 99999996000, next := 100000000000 }) (updStreams (fun x => { x with segments := [(5, 0x101)], segList := [(0, 5)], streams := [(7, 1 + 8 * 2 ^ 8 + 2 ^ 82)] }) rd)) (itStream (7 + 3 * 2 ^ 16))) 15).getD default).2.1), (((tilePlace (updTick (fun x => { x with running := true, locked := true, number := 5, start := 99999996000, next := 100000000000 }) (updStreams (fun x => { x with segments := [(5, 0x101)], segList := [(0, 5)], streams := [(7, 1 + 8 * 2 ^ 8 + 2 ^ 82)] }) rd)) (streamAt (updTick (fun x => { x with running := true, locked := true, number := 5, start := 99999996000, next := 100000000000 }) (updStreams (fun x => { x with segments := [(5, 0x101)], segList := [(0, 5)], streams := [(7, 1 + 8 * 2 ^ 8 + 2 ^ 82)] }) rd)) (itStream (7 + 3 * 2 ^ 16))) 15).getD default).2.2),
    by decide +kernel⟩,
  ⟨(updTick (fun x => { x with running := true, locked := true, number := 5, start := 99999996000, next := 100000000000 }) (updStreams (fun x => { x with segments := [(5, 0x109)], segList := [(0, 5)], streams := [(7, 1 + 8 * 2 ^ 8 + 2 ^ 82)] }) rd)), 15, (7 + 3 * 2 ^ 16), (((tilePlace (updTick (fun x => { x with running := true, locked := true, number := 5, start := 99999996000, next := 100000000000 }) (updStreams (fun x => { x with segments := [(5, 0x109)], segList := [(0, 5)], streams := [(7, 1 + 8 * 2 ^ 8 + 2 ^ 82)] }) rd)) (streamAt (updTick (fun x => { x with running := true, locked := true, number := 5, start := 99999996000, next := 100000000000 }) (updStreams (fun x => { x with segments := [(5, 0x109)], segList := [(0, 5)], streams := [(7, 1 + 8 * 2 ^ 8 + 2 ^ 82)] }) rd)) (itStream (7 + 3 * 2 ^ 16))) 15).getD default).1), (((tilePlace (updTick (fun x => { x with running := true, locked := true, number := 5, start := 99999996000, next := 100000000000 }) (updStreams (fun x => { x with segments := [(5, 0x109)], segList := [(0, 5)], streams := [(7, 1 + 8 * 2 ^ 8 + 2 ^ 82)] }) rd)) (streamAt (updTick (fun x => { x with running := true, locked := true, number := 5, start := 99999996000, next := 100000000000 }) (updStreams (fun x => { x with segments := [(5, 0x109)], segList := [(0, 5)], streams := [(7, 1 + 8 * 2 ^ 8 + 2 ^ 82)] }) rd)) (itStream (7 + 3 * 2 ^ 16))) 15).getD default).2.1), (((tilePlace (updTick (fun x => { x with running := true, locked := true, number := 5, start := 99999996000, next := 100000000000 }) (updStreams (fun x => { x with segments := [(5, 0x109)], segList := [(0, 5)], streams := [(7, 1 + 8 * 2 ^ 8 + 2 ^ 82)] }) rd)) (streamAt (updTick (fun x => { x with running := true, locked := true, number := 5, start := 99999996000, next := 100000000000 }) (updStreams (fun x => { x with segments := [(5, 0x109)], segList := [(0, 5)], streams := [(7, 1 + 8 * 2 ^ 8 + 2 ^ 82)] }) rd)) (itStream (7 + 3 * 2 ^ 16))) 15).getD default).2.2),
    by decide +kernel⟩,
  ⟨rd,
    by decide +kernel⟩,
  ⟨(port { up with rxPath := 313, linkDelay := 1960, features := 4 } (updSketch
      (fun x => { x with tickSet := some { ports := [95], source := 0x0200 } }) (updTick
          (fun x => { x with running := true, locked := true, number := 5, start := 99999996000, next := 100000000000, port := some 95 }) rd))), 94, (leBytes 4 6 ++ leBytes 4 0 ++ leBytes 4 4000 ++ leBytes 2 0x0200 ++ zeros 10), (((port { up with rxPath := 313, linkDelay := 1960, features := 4 } (updSketch (fun x => { x with tickSet := some { ports := [95], source := 0x0200 } }) (updTick (fun x => { x with running := true, locked := true, number := 5, start := 99999996000, next := 100000000000, port := some 95 }) rd))).sketch.tickSet).getD default),
    by decide +kernel⟩,
  ⟨(port { up with rxPath := 313, linkDelay := 1960, features := 4 } (updSketch
      (fun x => { x with tickSet := some { ports := [95], source := 0x0200 } }) (updTick
          (fun x => { x with running := true, locked := true, number := 5, start := 99999996000, next := 100000000000, port := some 95 }) rd))), 95, (leBytes 4 6 ++ leBytes 4 0 ++ leBytes 4 4000 ++ leBytes 2 0x0200 ++ zeros 10), (((port { up with rxPath := 313, linkDelay := 1960, features := 4 } (updSketch (fun x => { x with tickSet := some { ports := [95], source := 0x0200 } }) (updTick (fun x => { x with running := true, locked := true, number := 5, start := 99999996000, next := 100000000000, port := some 95 }) rd))).sketch.tickSet).getD default),
    by decide +kernel⟩,
  ⟨(updTick (fun x => { x with running := true, number := 5, start := 99999996000, next := 100000000000, locked := true, good := 15 }) (updSketch (fun x => { x with tickSet := some { ports := [95] } }) rd)), { tick := 6, start := 100000001001, depth := 1 },
    by decide +kernel⟩,
  ⟨(updTick (fun x => { x with running := true, number := 5, start := 99999996000, next := 100000000000, locked := true, good := 15 }) (updSketch (fun x => { x with tickSet := some { ports := [95] } }) rd)), { tick := 6, start := 100000000000, depth := 1 },
    by decide +kernel⟩⟩

theorem witness_CoolingLoopsAndAlarms :
    (∃ (s : State), runsTray s = true ∧ pumpsHeld s = false ∧ 10 ≤ s.tray.pumpDuty ∧ s.tray.pumpDuty ≤ 990 ∧
        10 ≤ s.tray.fanDuty ∧ s.tray.fanDuty ≤ 990) ∧
    (∃ (s : State) (o : TempReading), runsTray s = true ∧ pumpsHeld s = false ∧ o.plausible = true ∧
        10 ≤ s.policy.pumpLo ∧ s.policy.pumpLo ≤ s.tray.pumpDuty ∧ s.tray.pumpDuty ≤ s.policy.pumpHi ∧
            s.policy.pumpHi ≤ 990) ∧
    (∃ (s : State) (air : List TempReading) (a : Int), runsTray s = true ∧ s.tray.coolantHot = false ∧
        hottestAir air = some a ∧ 10 ≤ s.policy.fanLo ∧ s.policy.fanLo ≤ s.tray.fanDuty ∧
            s.tray.fanDuty ≤ s.policy.fanHi ∧ s.policy.fanHi ≤ 990) ∧
    (∃ (s : State), runsTray s = false) ∧
    (∃ (s : State), runsTray s = true ∧ s.tray.pumpAlarm ≠ 0) ∧
    (∃ (s : State) (n : Nat) (tach : PulseTrain), n < 2 ∧ runsTray s = true ∧
        tachRpm tach < nth s.policy.pumpTachMin n ∧ 200 ≤ nth s.tray.pumpDrive n ∧ alarmOn s (.pump n) = false) ∧
    (∃ (s : State) (n : Nat) (tach : PulseTrain), n < 2 ∧ runsTray s = true ∧
        (nth s.policy.pumpTachMin n ≤ tachRpm tach ∨ nth s.tray.pumpDrive n < 200)) ∧
    (∃ (s : State) (a b : Reading) (x : Nat), awake s = true ∧ s.boot.role.toNat ≤ 1 ∧ lowerPlausible a b = some x ∧
        s.policy.flowMin ≤ flowRate s x) ∧
    (∃ (s : State) (a b : Reading) (x : Nat), runsTray s = true ∧ s.boot.role.toNat ≤ 1 ∧
        lowerPlausible a b = some x ∧ flowRate s x < s.policy.flowMin ∧ s.tray.flowLow = 4 ∧ s.tray.flowAlarm = false) ∧
    (∃ (a b : Reading), a.plausible = true ∧ b.plausible = true) ∧
    (∃ (a b : Reading), a.plausible = false ∧ b.plausible = false) ∧
    (∃ (s : State) (o : Int), runsTray s = true ∧ (s.policy.coolTarget : Int) + 100 < o ∧ s.tray.coolantHot = false) ∧
    (∃ (s : State) (o : Int), o ≤ (s.policy.coolTarget : Int) + 100) ∧
    (∃ (s : State) (n : Nat) (tach : PulseTrain), n < 8 ∧ runsTray s = true ∧ s.tray.coolantHot = false ∧
        tachRpm tach < nth s.policy.fanTachMin n) ∧
    (∃ (s : State) (n : Nat) (tach : PulseTrain), n < 8 ∧ nth s.policy.fanTachMin n ≤ tachRpm tach) ∧
    (∃ (s : State) (a : Alarm), a.ok = true ∧ awake s = true ∧ s.tray.own = .active ∧ alarmOn s a = true ∧
        tgetD s.tray.alarmSeen (alarmNumber a) 0 + 10000000000 ≤ s.now) ∧
    (∃ (s : State) (a : Alarm), a.ok = true ∧
        (s.tray.own ≠ .active ∨ alarmOn s a = false ∨ s.now < tgetD s.tray.alarmSeen
            (alarmNumber a) 0 + 10000000000)) :=
  ⟨⟨{ rd with pending := [.refclkLoss, .powerOn] },
    by decide +kernel⟩,
  ⟨{ rd with pending := [.refclkLoss, .powerOn] }, ⟨400, true⟩,
    by decide +kernel⟩,
  ⟨{ rd with pending := [.refclkLoss, .powerOn] }, [⟨250, true⟩], ((hottestAir [⟨250, true⟩]).getD default),
    by decide +kernel⟩,
  ⟨(updBoot (fun x => { x with powered := false }) rd),
    by decide +kernel⟩,
  ⟨(updTray (fun x => { x with pumpAlarm := 1 }) rd),
    by decide +kernel⟩,
  ⟨{ rd with pending := [.refclkLoss, .powerOn] }, 0, { span := 1000000000, widths := [] },
    by decide +kernel⟩,
  ⟨{ rd with pending := [.refclkLoss, .powerOn] }, 0, { span := 1000000000, widths := List.replicate 1000 10000 },
    by decide +kernel⟩,
  ⟨rd, { value := 134000, plausible := true }, { value := 5000000, plausible := true },
      ((lowerPlausible { value := 134000, plausible := true } { value := 5000000, plausible := true }).getD default),
    by decide +kernel⟩,
  ⟨(updTray (fun x => { x with flowLow := 4 }) rd), rdg, rdg, ((lowerPlausible rdg rdg).getD default),
    by decide +kernel⟩,
  ⟨rdg, rdg,
    by decide +kernel⟩,
  ⟨{ rdg with plausible := false }, { rdg with plausible := false },
    by decide +kernel⟩,
  ⟨{ rd with pending := [.refclkLoss, .powerOn] }, 1199,
    by decide +kernel⟩,
  ⟨{ rd with pending := [.refclkLoss, .powerOn] }, 0,
    by decide +kernel⟩,
  ⟨{ rd with pending := [.refclkLoss, .powerOn] }, 7, { span := 1000000000, widths := [] },
    by decide +kernel⟩,
  ⟨{ rd with pending := [.refclkLoss, .powerOn] }, 7, { span := 1000000000, widths := List.replicate 1000 10000 },
    by decide +kernel⟩,
  ⟨(updTray (fun x => { x with fanFault := 0x80, alarmSeen := [(11, 90000000000)] }) rd), (.fan 7),
    by decide +kernel⟩,
  ⟨{ rd with pending := [.refclkLoss, .powerOn] }, (.fan 7),
    by decide +kernel⟩⟩

theorem witness_TwinLinkAndEpochs :
    (∃ (s : State) (l n : Nat) (g : List CodeGroup) (inv : Bool), l < 4 ∧ hasTwin s = true ∧ readLaneSet g = some (n,
        inv)) ∧
    (∃ (l : Nat) (g : List CodeGroup), l < 4 ∧ readLaneSet g = none) ∧
    (∃ (s : State) (l n : Nat), l < 4 ∧ hasTwin s = true ∧ tget s.tray.twin.lanes l = some n) ∧
    (∃ (s : State), hasTwin s = true ∧ s.tray.twin.up = true) ∧
    (∃ (s : State) (f : List (List CodeGroup)) (b : Bytes), hasTwin s = true ∧ s.tray.twin.up = true ∧
        receivedFrame s.tray.twin f = some (1, b) ∧ b.length = 32 ∧ s.tray.twin.heard = false ∧ s.tray.twin.run = 2 ∧
            s.tray.own = .isolated) ∧
    (∃ (s : State) (f : List (List CodeGroup)) (b : Bytes), hasTwin s = true ∧ s.tray.twin.up = true ∧
        receivedFrame s.tray.twin f = some (1, b) ∧ b.length = 32 ∧ s.tray.twin.heard = false ∧ s.tray.twin.run < 2 ∧
            s.tray.own ≠ .active) ∧
    (∃ (s : State) (f : List (List CodeGroup)), hasTwin s = true ∧ s.tray.twin.up = true ∧
        receivedFrame s.tray.twin f = none) ∧
    (∃ (s : State), hasTwin s = true ∧ s.tray.twin.heard = true ∧ s.tray.twin.lastHeard + 500000 ≤ s.now ∧
        s.tray.own = .standby ∧ s.tray.lineLow = true ∧ s.tray.recvEpoch = none) ∧
    (∃ (s : State), s.now < s.tray.twin.lastHeard + 500000) ∧
    (∃ (s : State) (f : List (List CodeGroup)) (p : Bytes), hasTwin s = true ∧ s.tray.twin.up = true ∧
        receivedFrame s.tray.twin f = some (6, p)) ∧
    (∃ (s : State) (f : List (List CodeGroup)) (p : Bytes), hasTwin s = true ∧ s.tray.twin.up = true ∧
        receivedFrame s.tray.twin f = some (2, p) ∧ s.tray.own = .standby ∧ 8 ≤ p.length ∧ p.length ≤ 65544 ∧
            leAt p 4 4 + (p.length - 8) ≤ 4194304 ∧ (s.tray.recvEpoch = none ∨ s.tray.recvEpoch = some (w32
            (leAt p 0 4)))) ∧
    (∃ (s : State) (f : List (List CodeGroup)) (p : Bytes), hasTwin s = true ∧ s.tray.twin.up = true ∧
        receivedFrame s.tray.twin f = some (3, p) ∧ s.tray.own = .standby ∧ p.length = 16 ∧
            s.tray.recvEpoch = some (w32 (leAt p 0 4)) ∧ (leAt p 4 4) ≤ 4194304 ∧
            ((leAt p 4 4) = 0 ∨ ∃ r ∈ s.tray.recvCovered, r.1 = 0 ∧ (leAt p 4 4) ≤ r.2) ∧
            imageEpoch (mreadN s.tray.recv 0 (leAt p 4 4)) = (w32 (leAt p 0 4)) ∧
            w32 (leAt p 8 4) = crc32 (mreadN s.tray.recv 0 (leAt p 4 4)) ∧
            (s.tray.committed = none ∨ laterTick (w32 (leAt p 0 4)) s.tray.committedEpoch = true)) ∧
    (∃ (s : State) (f : List (List CodeGroup)) (p : Bytes), hasTwin s = true ∧ s.tray.twin.up = true ∧
        receivedFrame s.tray.twin f = some (3, p) ∧ s.tray.own = .standby ∧ p.length = 16 ∧
            (s.tray.recvEpoch = none ∨ (s.tray.recvEpoch = some (w32 (leAt p 0 4)) ∧
            (imageEpoch (mreadN s.tray.recv 0 (min (leAt p 4 4) 4194304)) ≠ w32 (leAt p 0 4) ∨ crc32
            (mreadN s.tray.recv 0 (min (leAt p 4 4) 4194304)) ≠ w32 (leAt p 8 4) ∨ (leAt p 4 4 ≠ 0 ∧
            ∀ r ∈ s.tray.recvCovered, r.1 = 0 → r.2 < leAt p 4 4))))) ∧
    (∃ (s : State) (f : List (List CodeGroup)) (p : Bytes), hasTwin s = true ∧ s.tray.twin.up = true ∧
        receivedFrame s.tray.twin f = some (4, p) ∧ s.tray.own = .active ∧ p.length = 8 ∧ s.tray.handover = none) ∧
    (∃ (s : State) (f : List (List CodeGroup)) (p : Bytes) (src : CmdSrc) (d : Nat), hasTwin s = true ∧
        s.tray.twin.up = true ∧ receivedFrame s.tray.twin f = some (4, p) ∧ s.tray.own = .active ∧ p.length = 8 ∧
            s.tray.handover = some (src, w32 (leAt p 0 4), d)) ∧
    (∃ (s : State) (f : List (List CodeGroup)) (p : Bytes), hasTwin s = true ∧ s.tray.twin.up = true ∧
        receivedFrame s.tray.twin f = some (5, p) ∧ s.tray.own = .active) ∧
    (∃ (s : State), awake s = true ∧ s.tray.own = .active ∧ s.tray.cycleAt + cycleNs s ≤ s.now ∧
        s.tray.nextCopyMode = none) ∧
    (∃ (s : State), (s.tray.own ≠ .active ∨ s.now < s.tray.cycleAt + cycleNs s)) ∧
    (∃ (s : State) (b : Bytes), hasTwin s = true ∧ snapshotDue s = true ∧ s.tray.own ≠ .active ∧
        s.tray.newest = some b) :=
  ⟨⟨rd, 3, (((readLaneSet ((laneSet 3).1)).getD default).1), (laneSet 3).1,
      (((readLaneSet ((laneSet 3).1)).getD default).2),
    by decide +kernel⟩,
  ⟨0, [],
    by decide +kernel⟩,
  ⟨(updTwin (fun x => { x with lanes := [(3, 0)] }) rd), 3, ((tget (updTwin
      (fun x => { x with lanes := [(3, 0)] }) rd).tray.twin.lanes 3).getD default),
    by decide +kernel⟩,
  ⟨(updTwin (fun x => { x with up := true, heard := false }) (updTray (fun x => { x with own := .standby }) rd)),
    by decide +kernel⟩,
  ⟨(linked (fun x => { x with run := 2 }) (updTray (fun x => { x with own := .isolated }) rd)), (twf 1 (zeros 32)),
      (((receivedFrame (linked (fun x => { x with run := 2 }) (updTray
          (fun x => { x with own := .isolated }) rd)).tray.twin (twf 1 (zeros 32))).getD default).2),
    by decide +kernel⟩,
  ⟨(linked (fun x => { x with run := 1 }) (updTray (fun x => { x with own := .isolated }) rd)), (twf 1 (zeros 32)),
      (((receivedFrame (linked (fun x => { x with run := 1 }) (updTray
          (fun x => { x with own := .isolated }) rd)).tray.twin (twf 1 (zeros 32))).getD default).2),
    by decide +kernel⟩,
  ⟨(updTwin (fun x => { x with up := true, heard := false }) (updTray (fun x => { x with own := .standby }) rd)), [],
    by decide +kernel⟩,
  ⟨(updTwin (fun x => { x with up := true, heard := true, lastHeard := 99999500000 }) (updTray
      (fun x => { x with own := .standby }) rd)),
    by decide +kernel⟩,
  ⟨{ State.reset with now := 10000 },
    by decide +kernel⟩,
  ⟨(linked id (updTray (fun x => { x with own := .standby, lineLow := true }) rd)), (twf 6 (zeros 4)),
      (((receivedFrame (linked id (updTray (fun x => { x with own := .standby, lineLow := true }) rd)).tray.twin
          (twf 6 (zeros 4))).getD default).2),
    by decide +kernel⟩,
  ⟨(linked id (updTray (fun x => { x with own := .standby }) rd)), (twf 2 (leBytes 4 5 ++ leBytes 4 4194300 ++ [1, 2,
      3, 4])), (((receivedFrame (linked id (updTray (fun x => { x with own := .standby }) rd)).tray.twin (twf 2
          (leBytes 4 5 ++ leBytes 4 4194300 ++ [1, 2, 3, 4]))).getD default).2),
    by decide +kernel⟩,
  ⟨(linked id (updTray
      (fun x => { x with own := .standby, recvEpoch := some 5, recvCovered := [(0, 44)], recv := mwrite [] 0 imageB }) rd)), (twf 3 (leBytes 4 5 ++ leBytes 4 44 ++ leBytes 4 (crc32 imageB).toNat ++ zeros 4)), (((receivedFrame (linked id (updTray (fun x => { x with own := .standby, recvEpoch := some 5, recvCovered := [(0, 44)], recv := mwrite [] 0 imageB }) rd)).tray.twin (twf 3 (leBytes 4 5 ++ leBytes 4 44 ++ leBytes 4 (crc32 imageB).toNat ++ zeros 4))).getD default).2),
    by decide +kernel⟩,
  ⟨(linked id (updTray
      (fun x => { x with own := .standby, recvEpoch := some 5, recvCovered := [(0, 44)], recv := mwrite [] 0 imageB }) rd)), (twf 3 (leBytes 4 5 ++ leBytes 4 44 ++ zeros 8)), (((receivedFrame (linked id (updTray (fun x => { x with own := .standby, recvEpoch := some 5, recvCovered := [(0, 44)], recv := mwrite [] 0 imageB }) rd)).tray.twin (twf 3 (leBytes 4 5 ++ leBytes 4 44 ++ zeros 8))).getD default).2),
    by decide +kernel⟩,
  ⟨(linked id (updTray (fun x => { x with own := .active }) rd)), (twf 4 (leBytes 8 5)),
      (((receivedFrame (linked id (updTray (fun x => { x with own := .active }) rd)).tray.twin (twf 4
          (leBytes 8 5))).getD default).2),
    by decide +kernel⟩,
  ⟨(linked id (updTray (fun x => { x with own := .active, handover := some (ra, 5, 9) }) rd)), (twf 4 (leBytes 8 5)),
      (((receivedFrame (linked id (updTray
          (fun x => { x with own := .active, handover := some (ra, 5, 9) }) rd)).tray.twin (twf 4
          (leBytes 8 5))).getD default).2), ra, 9,
    by decide +kernel⟩,
  ⟨(linked id (updTray (fun x => { x with own := .active }) rd)), (twf 5 []),
      (((receivedFrame (linked id (updTray (fun x => { x with own := .active }) rd)).tray.twin
          (twf 5 [])).getD default).2),
    by decide +kernel⟩,
  ⟨{ rd with pending := [.refclkLoss, .powerOn] },
    by decide +kernel⟩,
  ⟨{ State.reset with now := 10000 },
    by decide +kernel⟩,
  ⟨(updTray (fun x => { x with own := .standby, newest := some [] }) { rd with now := 300000000000 }),
      (((updTray (fun x => { x with own := .standby, newest := some [] }) { rd with now := 300000000000 }).tray.newest).getD []),
    by decide +kernel⟩⟩

theorem witness_ControlIsTakenAndReleased :
    (∃ (s : State), mayClaim s = true) ∧
    (∃ (s : State), mayClaim s = false) ∧
    (∃ (s : State) (b : _), s.tray.twin.lastBetter = some b) ∧
    (∃ (s : State) (u : Nat) (c : ConfigContents), s.tray.claimUntil = some u ∧ u ≤ s.now ∧ awake s = true ∧
        s.tray.own = .active ∧ s.tray.restore = none ∧ s.boot.config = some c) ∧
    (∃ (s : State) (u : Nat) (b : Bytes), s.tray.claimUntil = some u ∧ u ≤ s.now ∧ awake s = true ∧
        s.tray.own = .active ∧ s.tray.restore = some b) ∧
    (∃ (s : State), hasTwin s = true ∧ s.tray.own = .claiming) ∧
    (∃ (s : State), mayTakeOver s = true ∧ s.tray.recvEpoch = none) ∧
    (∃ (s : State), mayTakeOver s = false) ∧
    (∃ (s : State) (c : ConfigContents), awake s = true ∧ s.tray.own = .active ∧ s.tray.claimUntil = none ∧
        s.tray.activated = false ∧ s.tray.restore = none ∧ s.boot.config = some c) ∧
    (∃ (s : State) (n : Nat), n < 4 ∧ runsTray s = true) ∧
    (∃ (s : State) (c : Instr), (c = .lockstepMismatch ∨ c = .controlWatchdogExpire ∨ c = .controlMemoryFault) ∧
        awake s = true ∧ s.tray.own = .active) ∧
    (∃ (s : State) (c : Instr), (c = .lockstepMismatch ∨ c = .controlWatchdogExpire ∨ c = .controlMemoryFault) ∧
        s.tray.own ≠ .active) ∧
    (∃ (s : State), awake s = true ∧ s.tray.own = .active ∧ s.tray.drives = true) ∧
    (∃ (s : State), awake s = true ∧ s.tray.own = .released ∧ s.tray.lineFault = false) ∧
    (∃ (s : State), awake s = true ∧ s.tray.own = .released ∧ s.tray.lineFault = true) ∧
    (∃ (s : State) (a b : TachReading) (c d : Reading), awake s = true ∧ s.tray.own = .active ∧
        ((s.tray.twin.heard = false ∧ a.plausible = true ∧ b.plausible = true ∧ c.plausible = true ∧
            d.plausible = true) ∨ (s.tray.twin.heard = true ∧ bitOf s.tray.twin.diag.toNat 3 = false))) ∧
    (∃ (s : State) (a : TachReading), awake s = true ∧ s.tray.own = .active ∧
        (s.tray.twin.heard = false ∨ bitOf s.tray.twin.diag.toNat 3 = true) ∧ a.plausible = false ∧
            s.tray.plausBad < 9) ∧
    (∃ (s : State) (a : TachReading), awake s = true ∧ s.tray.own = .active ∧
        (s.tray.twin.heard = false ∨ bitOf s.tray.twin.diag.toNat 3 = true) ∧ a.plausible = false ∧
            9 ≤ s.tray.plausBad ∧ s.tray.twin.heard = true) ∧
    (∃ (s : State) (a : TachReading), awake s = true ∧ s.tray.own = .active ∧
        (s.tray.twin.heard = false ∨ bitOf s.tray.twin.diag.toNat 3 = true) ∧ a.plausible = false ∧
            9 ≤ s.tray.plausBad ∧ s.tray.twin.heard = false) :=
  ⟨⟨(updTray (fun x => { x with own := .claiming, lineLow := false }) rd),
    by decide +kernel⟩,
  ⟨{ rd with pending := [.refclkLoss, .powerOn] },
    by decide +kernel⟩,
  ⟨(updTwin (fun x => { x with lastBetter := some 5 }) rd), (((updTwin
      (fun x => { x with lastBetter := some 5 }) rd).tray.twin.lastBetter).getD default),
    by decide +kernel⟩,
  ⟨(updTray (fun x => { x with claimUntil := some 100000000000 }) rd),
      (((updTray (fun x => { x with claimUntil := some 100000000000 }) rd).tray.claimUntil).getD default),
          (((updTray (fun x => { x with claimUntil := some 100000000000 }) rd).boot.config).getD default),
    by decide +kernel⟩,
  ⟨(updTray (fun x => { x with claimUntil := some 100000000000, restore := some imageB }) rd),
      (((updTray (fun x => { x with claimUntil := some 100000000000, restore := some imageB }) rd).tray.claimUntil).getD default), (((updTray (fun x => { x with claimUntil := some 100000000000, restore := some imageB }) rd).tray.restore).getD []),
    by decide +kernel⟩,
  ⟨(updTray (fun x => { x with own := .claiming, lineLow := false }) rd),
    by decide +kernel⟩,
  ⟨(sent 0x70 (leBytes 2 0x104 ++ leBytes 2 0 ++ leBytes 4 450) (updTray (fun x => { x with own := .standby }) rd)),
    by decide +kernel⟩,
  ⟨{ rd with pending := [.refclkLoss, .powerOn] },
    by decide +kernel⟩,
  ⟨{ rd with pending := [.refclkLoss, .powerOn] },
      (({ rd with pending := [.refclkLoss, .powerOn] }.boot.config).getD default),
    by decide +kernel⟩,
  ⟨{ rd with pending := [.refclkLoss, .powerOn] }, 0,
    by decide +kernel⟩,
  ⟨rd, .lockstepMismatch,
    by decide +kernel⟩,
  ⟨(updTray (fun x => { x with own := .passive }) rd), .lockstepMismatch,
    by decide +kernel⟩,
  ⟨{ rd with pending := [.refclkLoss, .powerOn] },
    by decide +kernel⟩,
  ⟨(updTray (fun x => { x with own := .released }) (updBoot
      (fun x => { x with restarting := true, restartCause := 2, role := 1 }) rd)),
    by decide +kernel⟩,
  ⟨(updTray (fun x => { x with own := .released, lineFault := true, coresDown := true }) rd),
    by decide +kernel⟩,
  ⟨{ rd with pending := [.refclkLoss, .powerOn] }, tr, tr, rdg, rdg,
    by decide +kernel⟩,
  ⟨{ rd with pending := [.refclkLoss, .powerOn] }, { tr with plausible := false },
    by decide +kernel⟩,
  ⟨(updTwin (fun x => { x with heard := true, diag := 8 }) (updTray (fun x => { x with plausBad := 9 }) rd)),
      { tr with plausible := false },
    by decide +kernel⟩,
  ⟨(updTray (fun x => { x with plausBad := 9 }) rd), { tr with plausible := false },
    by decide +kernel⟩⟩

theorem witness_RackMessages :
    (∃ (s : State) (f : MgmtFrame) (m : Bytes) (c : ConfigContents), m = frameMessage f ∧ awake s = true ∧
        s.boot.config = some c ∧ rackMsgOk s c.rmKey m = false) ∧
    (∃ (s : State) (key m : Bytes), rackMsgOk s key m = true) ∧
    (∃ (s : State) (f : MgmtFrame) (m : Bytes) (c : ConfigContents), m = frameMessage f ∧ awake s = true ∧
        s.boot.config = some c ∧ rackMsgOk s c.rmKey m = true ∧ msgType m = 1 ∧ s.tray.rmSilent = false) ∧
    (∃ (s : State) (f : MgmtFrame) (m : Bytes) (c : ConfigContents), m = frameMessage f ∧ awake s = true ∧
        s.boot.config = some c ∧ rackMsgOk s c.rmKey m = true ∧ msgType m = 1 ∧ s.tray.rmSilent = true) ∧
    (∃ (s : State) (f : MgmtFrame) (m : Bytes) (c : ConfigContents), m = frameMessage f ∧ awake s = true ∧
        s.boot.config = some c ∧ rackMsgOk s c.rmKey m = true ∧ msgType m = 2 ∧
            rackPolicyStatus (acceptMsg m s) (msgBody m) = stOk) ∧
    (∃ (s : State) (f : MgmtFrame) (m : Bytes) (c : ConfigContents), m = frameMessage f ∧ awake s = true ∧
        s.boot.config = some c ∧ rackMsgOk s c.rmKey m = true ∧ msgType m = 2 ∧
            rackPolicyStatus (acceptMsg m s) (msgBody m) ≠ stOk) ∧
    (∃ (s : State), awake s = true ∧ s.tray.rmSilent = false ∧ s.tray.rmAt + 3000000000 ≤ s.now) ∧
    (∃ (s : State), s.now < s.tray.rmAt + 3000000000) ∧
    (∃ (s : State) (c : ConfigContents), awake s = true ∧ s.boot.config = some c) :=
  ⟨⟨rd, { inverted := false, bytes := [] }, [], cfg,
    ⟨rfl, rfl, rfl, rfl⟩⟩,
  ⟨rd, cfg.rmKey, (rack hbB),
    rack_hb⟩,
  ⟨rd, { inverted := false, bytes := rack hbB }, (rack hbB), cfg,
    ⟨rfl, rfl, rfl, rack_hb, rfl, rfl⟩⟩,
  ⟨(updTray (fun x => { x with rmSilent := true }) rd), { inverted := false, bytes := rack hbB }, (rack hbB), cfg,
    ⟨rfl, rfl, rfl, rack_hb, rfl, rfl⟩⟩,
  ⟨rd, { inverted := false, bytes := rack (polB 430) }, (rack (polB 430)), cfg,
    ⟨rfl, rfl, rfl, rack_pol _, rfl, by rw [rack_body _ (by decide)]; decide +kernel⟩⟩,
  ⟨rd, { inverted := false, bytes := rack (polB 0) }, (rack (polB 0)), cfg,
    ⟨rfl, rfl, rfl, rack_pol _, rfl, by rw [rack_body _ (by decide)]; decide +kernel⟩⟩,
  ⟨{ rd with pending := [.refclkLoss, .powerOn] },
    by decide +kernel⟩,
  ⟨{ State.reset with now := 10000 },
    by decide +kernel⟩,
  ⟨{ rd with pending := [.refclkLoss, .powerOn] },
      (({ rd with pending := [.refclkLoss, .powerOn] }.boot.config).getD default),
    by decide +kernel⟩⟩

theorem witness_PowerIsGoverned :
    (∃ (s : State), Live s ∧ s.power.alert = false ∧ s.power.mode ≤ 3 ∧ s.power.commanded ≤ 3 ∧ s.power.ceiling ≤ 3 ∧
        s.power.thermal ≤ 3) ∧
    (∃ (s : State), Live s ∧ s.power.alert = true) ∧
    (∃ (s : State) (u : Nat), s.power.alertHold = some u ∧ u ≤ s.now) ∧
    (∃ (s : State) (u : Nat), s.power.alertHold = some u ∧ s.now < u) ∧
    (∃ (s : State) (w : Nat), Live s ∧ ((w : Rat) / 1000 ≤ powerCap s)) ∧
    (∃ (s : State) (w : Nat), Live s ∧ powerCap s < (w : Rat) / 1000 ∧ govFloor s < s.power.theta) ∧
    (∃ (s : State), Live s ∧ s.power.refSet = true) ∧
    (∃ (s : State), s.power.refSet = false) ∧
    (∃ (s : State) (l : List Int), Live s ∧ 1000 ≤ (hottest l).2 ∧ (hottest l).2 ≤ 1050 ∧ s.power.thermal < 2) ∧
    (∃ (s : State) (l : List Int), Live s ∧ 950 ≤ (hottest l).2 ∧ (hottest l).2 < 1000 ∧ s.power.thermal = 0) ∧
    (∃ (s : State) (l : List Int) (u : Nat), Live s ∧ (hottest l).2 < 970 ∧ s.power.thermal = 2 ∧
        s.power.coolSince = some u ∧ u + 100000000 ≤ s.now) ∧
    (∃ (s : State) (l : List Int), Live s ∧ s.power.thermal = 1 ∧ (hottest l).2 < 1000) ∧
    (∃ (s : State) (l : List Int), Live s ∧ s.power.thermal = 2 ∧ 1050 < (hottest l).2) ∧
    (∃ (s : State) (l : List Int), Live s ∧ (hottest l).2 < 950 ∧ s.power.thermal = 0) ∧
    (∃ (s : State) (l : List Nat), Live s ∧ (∀ n, n < 6 → overRated n (nth l n) = false)) ∧
    (∃ (s : State) (l : List Nat) (n : Nat), Live s ∧ n < 6 ∧ overRated n (nth l n) = true ∧
        1 ≤ nth s.power.railHigh n ∧ s.power.ocRails.contains n = false) ∧
    (∃ (s : State) (u : Nat), s.power.overcurrent = true ∧ s.power.calmSince = some u ∧ u + 10000000 ≤ s.now) ∧
    (∃ (s : State) (tj : Int), Live s ∧ s.boot.thermTrip = false ∧ 1150 ≤ tj) ∧
    (∃ (tj : Int), tj < 1150) :=
  ⟨⟨{ rd with pending := [.refclkLoss, .powerOn] },
    by unfold Live; decide +kernel⟩,
  ⟨(updPower (fun x => { x with alert := true }) rd),
    by unfold Live; decide +kernel⟩,
  ⟨(updPower (fun x => { x with alertHold := some 100000000000 }) rd),
      (((updPower (fun x => { x with alertHold := some 100000000000 }) rd).power.alertHold).getD default),
    by decide +kernel⟩,
  ⟨(updPower (fun x => { x with alertHold := some 100000000001 }) rd),
      (((updPower (fun x => { x with alertHold := some 100000000001 }) rd).power.alertHold).getD default),
    by decide +kernel⟩,
  ⟨{ rd with pending := [.refclkLoss, .powerOn] }, 95,
    by unfold Live; decide +kernel⟩,
  ⟨{ rd with pending := [.refclkLoss, .powerOn] }, 100000000000,
    by unfold Live; decide +kernel⟩,
  ⟨(updPower (fun x => { x with refSet := true }) rd),
    by unfold Live; decide +kernel⟩,
  ⟨{ rd with pending := [.refclkLoss, .powerOn] },
    by decide +kernel⟩,
  ⟨{ rd with pending := [.refclkLoss, .powerOn] }, [1050],
    by unfold Live; decide +kernel⟩,
  ⟨rd, [950],
    by unfold Live; decide +kernel⟩,
  ⟨(updPower (fun x => { x with thermal := 2, coolSince := some 5 }) rd), [949],
      (((updPower (fun x => { x with thermal := 2, coolSince := some 5 }) rd).power.coolSince).getD default),
    by unfold Live; decide +kernel⟩,
  ⟨(updPower (fun x => { x with thermal := 1 }) rd), [919],
    by unfold Live; decide +kernel⟩,
  ⟨(updPower (fun x => { x with thermal := 2 }) rd), [1051],
    by unfold Live; decide +kernel⟩,
  ⟨{ rd with pending := [.refclkLoss, .powerOn] }, [],
    by unfold Live; decide +kernel⟩,
  ⟨rd, [],
    by unfold Live; decide +kernel⟩,
  ⟨(updPower (fun x => { x with railHigh := [1, 0, 0, 0, 0, 0] }) rd), [1000000], 0,
    by unfold Live; decide +kernel⟩,
  ⟨(updPower (fun x => { x with overcurrent := true, calmSince := some 99990000000 }) rd),
      (((updPower
          (fun x => { x with overcurrent := true, calmSince := some 99990000000 }) rd).power.calmSince).getD default),
    by decide +kernel⟩,
  ⟨{ rd with pending := [.refclkLoss, .powerOn] }, 1199,
    by unfold Live; decide +kernel⟩,
  ⟨0,
    by decide +kernel⟩⟩

theorem witness_ScrubbingAndSelfTests :
    (∃ (s : State) (x : ScrubSite) (e : WordError), x.ok = true ∧ siteMarked s x = false ∧ eccOf e = .clean) ∧
    (∃ (s : State) (x : ScrubSite), x.ok = true ∧ siteMarked s x = true) ∧
    (∃ (s : State) (k r w : Nat) (e : WordError), (ScrubSite.hbm k r w).ok = true ∧
        siteMarked s (.hbm k r w) = false ∧ eccOf e = .corrected ∧ e.path = false ∧ s.health.tests = []) ∧
    (∃ (s : State) (k r w : Nat) (e : WordError), (ScrubSite.hbm k r w).ok = true ∧ eccOf e = .uncorrectable ∧
        e.path = false ∧ s.health.tests = []) ∧
    (∃ (s : State) (k r w : Nat) (e : WordError), (ScrubSite.hbm k r w).ok = true ∧
        siteMarked s (.hbm k r w) = false ∧ eccOf e = .corrected ∧ e.path = true ∧ e.marked = false) ∧
    (∃ (tbl i : Nat) (e : WordError), (ScrubSite.table tbl i).ok = true ∧ eccOf e = .uncorrectable ∧ e.path = false) ∧
    (∃ (p : Nat) (d : Byte), p < 35 ∧ d ≠ 0) ∧
    (∃ (p q : Nat) (c d : Byte), p < q ∧ q < 35 ∧ c ≠ 0 ∧ d ≠ 0) ∧
    (∃ (s : State) (tbl i : Nat), badEntry s tbl i = true ∧ (tbl, i) ∉ s.health.lostTables) ∧
    (∃ (s : State) (tbl i : Nat), badEntry s tbl i = true ∧ (tbl, i) ∉ s.health.lostTables) ∧
    (∃ (s : State) (tbl i : Nat), badEntry s tbl i = false) ∧
    (∃ (s : State) (n : Nat) (t : Test), n < 32 ∧ s.canvas.palettes.length = 32 ∧ findTest s (.palette n) = some t ∧
        t.stage = .queued ∧ roomToTest s (.palette n) = true ∧ awake s = true) ∧
    (∃ (s : State) (r : TestRes), r.ok = true ∧ findTest s r = none) ∧
    (∃ (s : State) (r : TestRes) (t : Test), r.ok = true ∧ isRow r = true ∧ findTest s r = some t ∧
        t.stage = .running) ∧
    (∃ (s : State) (r : TestRes) (t : Test), r.ok = true ∧ isRow r = true ∧ findTest s r = some t ∧
        t.stage = .copied ∧ t.src = none ∧ s.flash.retired = [] ∧ s.health.retiredNow = []) ∧
    (∃ (s : State) (n : Nat) (t : Test), n < 32 ∧ s.canvas.palettes.length = 32 ∧ findTest s (.palette n) = some t ∧
        t.stage = .running ∧ t.src = none ∧ t.commanded = false ∧ s.health.transients = []) ∧
    (∃ (s : State) (p l : Nat) (t : Test), p < 96 ∧ l < 8 ∧ findTest s (.lane p l) = some t ∧ t.stage = .running ∧
        t.src = none ∧ (portOf s p).state = .running ∧ (portOf s p).leftRunning = t.left ∧ 2097152 ≤ t.bits ∧
            t.flips ≤ 20 ∧ s.policy.fomWarn ≤ (laneOf s p l).fom.toNat ∧ t.commanded = false ∧
            s.health.transients = []) ∧
    (∃ (s : State) (p l : Nat) (t : Test), p < 96 ∧ l < 8 ∧ findTest s (.lane p l) = some t ∧ t.stage = .running ∧
        t.src = none ∧ (portOf s p).state = .running ∧ (portOf s p).leftRunning = t.left ∧ 2097152 ≤ t.bits ∧
            (20 < t.flips ∨ (laneOf s p l).fom.toNat < s.policy.fomWarn) ∧ s.ports.length = 96 ∧
            (portOf s p).lanes.length = 8) ∧
    (∃ (s : State) (p l : Nat) (t : Test), p < 96 ∧ l < 8 ∧ findTest s (.lane p l) = some t ∧ t.stage = .running ∧
        (portOf s p).state = .running ∧ (portOf s p).leftRunning = t.left ∧ t.bits < 2097152 ∧
            t.began + 1000000 ≤ s.now) ∧
    (∃ (s : State) (p l : Nat) (t : Test), p < 96 ∧ l < 8 ∧ findTest s (.lane p l) = some t ∧ t.stage = .running ∧
        (portOf s p).state = .running ∧ (portOf s p).leftRunning = t.left ∧ t.bits < 2097152 ∧
            s.now < t.began + 1000000) ∧
    (∃ (s : State) (p l : Nat) (t : Test), p < 96 ∧ l < 8 ∧ findTest s (.lane p l) = some t ∧ t.stage = .running ∧
        t.src = none ∧ (portOf s p).state = .running ∧ (portOf s p).leftRunning ≠ t.left ∧
            (laneOf s p l).rxPass = true ∧ t.commanded = false ∧ s.health.transients = []) ∧
    (∃ (s : State) (p l : Nat), p < 96 ∧ l < 8 ∧ findTest s (.lane p l) = none) ∧
    (∃ (s : State) (n : Nat) (t : Test) (src : CmdSrc), n < 32 ∧ s.canvas.palettes.length = 32 ∧
        findTest s (.palette n) = some t ∧ t.stage = .running ∧ t.src = some src ∧ t.commanded = true) ∧
    (∃ (s : State) (r : TestRes) (t : Test) (src : CmdSrc), r.ok = true ∧ isRow r = true ∧ findTest s r = some t ∧
        t.stage = .copied ∧ t.src = some src ∧ t.commanded = true) ∧
    (∃ (s : State) (p l : Nat) (t : Test) (src : CmdSrc), p < 96 ∧ l < 8 ∧ findTest s (.lane p l) = some t ∧
        t.stage = .running ∧ t.src = some src ∧ t.commanded = true ∧ (portOf s p).state = .running ∧
            ((portOf s p).leftRunning ≠ t.left ∨ 2097152 ≤ t.bits)) ∧
    (∃ (t : Test), t.commanded = true) ∧
    (∃ (s : State) (r : TestRes) (t : Test) (src : CmdSrc), r.ok = true ∧ findTest s r = some t ∧ t.stage = .queued ∧
        t.src = some src ∧ roomToTest s r = true ∧ awake s = true ∧ isRow r = true ∧ sparesFree s r = 0) ∧
    (∃ (s : State) (r : TestRes) (t : Test) (src : CmdSrc) (p l : _), r.ok = true ∧ findTest s r = some t ∧
        t.stage = .queued ∧ t.src = some src ∧ roomToTest s r = true ∧ awake s = true ∧ r = .lane p l ∧
            laneTestable s p l = false) :=
  ⟨⟨{ rd with pending := [.refclkLoss, .powerOn] }, (.easel 0 0 0 false), {},
    by decide +kernel⟩,
  ⟨(updHealth (fun x => { x with badSites := [.table 0 0] }) rd), (.table 0 0),
    by decide +kernel⟩,
  ⟨{ rd with pending := [.refclkLoss, .powerOn] }, 0, 95, 7, { errors := [(3, 5)] },
    by decide +kernel⟩,
  ⟨{ rd with pending := [.refclkLoss, .powerOn] }, 0, 95, 7, { errors := [(3, 5), (4, 6)] },
    by decide +kernel⟩,
  ⟨{ rd with pending := [.refclkLoss, .powerOn] }, 0, 95, 7, { errors := [(3, 5)], path := true },
    by decide +kernel⟩,
  ⟨95, 95, { errors := [(3, 5), (4, 6)] },
    by decide +kernel⟩,
  ⟨7, 1,
    by decide +kernel⟩,
  ⟨7, 31, 1, 1,
    by decide +kernel⟩,
  ⟨(updHealth (fun x => { x with badTables := [(3, 5)] }) rd), 3, 5,
    by decide +kernel⟩,
  ⟨(updHealth (fun x => { x with badTables := [(3, 5)] }) rd), 3, 5,
    by decide +kernel⟩,
  ⟨{ rd with pending := [.refclkLoss, .powerOn] }, 95, 95,
    by decide +kernel⟩,
  ⟨(updHealth (fun x => { x with tests := [{ res := .palette 31, stage := .queued }] }) rd), 31,
      ((findTest (updHealth (fun x => { x with tests := [{ res := .palette 31, stage := .queued }] }) rd)
          (.palette 31)).getD default),
    by decide +kernel⟩,
  ⟨{ rd with pending := [.refclkLoss, .powerOn] }, (.sramRow 2047 255),
    by decide +kernel⟩,
  ⟨(updHealth (fun x => { x with tests := [{ res := (.sramRow 2047 255), stage := .running }] }) rd),
      (.sramRow 2047 255), ((findTest (updHealth
          (fun x => { x with tests := [{ res := (.sramRow 2047 255), stage := .running }] }) rd)
          (.sramRow 2047 255)).getD default),
    by decide +kernel⟩,
  ⟨(updHealth (fun x => { x with tests := [{ res := (.sramRow 2047 255), stage := .copied }] }) rd),
      (.sramRow 2047 255), ((findTest (updHealth
          (fun x => { x with tests := [{ res := (.sramRow 2047 255), stage := .copied }] }) rd)
          (.sramRow 2047 255)).getD default),
    by decide +kernel⟩,
  ⟨(updHealth (fun x => { x with tests := [{ res := .palette 31, stage := .running }] }) rd), 31,
      ((findTest (updHealth (fun x => { x with tests := [{ res := .palette 31, stage := .running }] }) rd)
          (.palette 31)).getD default),
    by decide +kernel⟩,
  ⟨(port up (updHealth
      (fun x => { x with tests := [{ res := .lane 95 7, stage := .running, bits := 2097152, flips := 20 }] }) rd)),
          95, 7, ((findTest (port up (updHealth
          (fun x => { x with tests := [{ res := .lane 95 7, stage := .running, bits := 2097152, flips := 20 }] }) rd)) (.lane 95 7)).getD default),
    by decide +kernel⟩,
  ⟨(port up (updHealth
      (fun x => { x with tests := [{ res := .lane 95 7, stage := .running, bits := 2097152, flips := 21 }] }) rd)),
          95, 7, ((findTest (port up (updHealth
          (fun x => { x with tests := [{ res := .lane 95 7, stage := .running, bits := 2097152, flips := 21 }] }) rd)) (.lane 95 7)).getD default),
    by decide +kernel⟩,
  ⟨(port up (updHealth
      (fun x => { x with tests := [{ res := .lane 95 7, stage := .running, bits := 2097151 }] }) rd)), 95, 7,
          ((findTest (port up (updHealth
          (fun x => { x with tests := [{ res := .lane 95 7, stage := .running, bits := 2097151 }] }) rd))
          (.lane 95 7)).getD default),
    by decide +kernel⟩,
  ⟨(port up (updHealth
      (fun x => { x with tests := [{ res := .lane 95 7, stage := .running, bits := 2097151, began := 100000000000 }] }) rd)), 95, 7, ((findTest (port up (updHealth (fun x => { x with tests := [{ res := .lane 95 7, stage := .running, bits := 2097151, began := 100000000000 }] }) rd)) (.lane 95 7)).getD default),
    by decide +kernel⟩,
  ⟨(port up (updHealth (fun x => { x with tests := [{ res := .lane 95 7, stage := .running, left := 1 }] }) rd)), 95,
      7, ((findTest (port up (updHealth
          (fun x => { x with tests := [{ res := .lane 95 7, stage := .running, left := 1 }] }) rd))
          (.lane 95 7)).getD default),
    by decide +kernel⟩,
  ⟨{ rd with pending := [.refclkLoss, .powerOn] }, 95, 7,
    by decide +kernel⟩,
  ⟨(updHealth
      (fun x => { x with tests := [{ res := .palette 31, stage := .running, commanded := true, src := some ra }] }) rd), 31, ((findTest (updHealth (fun x => { x with tests := [{ res := .palette 31, stage := .running, commanded := true, src := some ra }] }) rd) (.palette 31)).getD default), ((((findTest (updHealth (fun x => { x with tests := [{ res := .palette 31, stage := .running, commanded := true, src := some ra }] }) rd) (.palette 31)).getD default).src).getD default),
    by decide +kernel⟩,
  ⟨(updHealth
      (fun x => { x with tests := [{ res := .sramRow 2047 255, stage := .copied, commanded := true, src := some ra }] }) rd), (.sramRow 2047 255), ((findTest (updHealth (fun x => { x with tests := [{ res := .sramRow 2047 255, stage := .copied, commanded := true, src := some ra }] }) rd) (.sramRow 2047 255)).getD default), ((((findTest (updHealth (fun x => { x with tests := [{ res := .sramRow 2047 255, stage := .copied, commanded := true, src := some ra }] }) rd) (.sramRow 2047 255)).getD default).src).getD default),
    by decide +kernel⟩,
  ⟨(port up (updHealth
      (fun x => { x with tests := [{ res := .lane 95 7, stage := .running, commanded := true, src := some ra, bits := 2097152, flips := 20 }] }) rd)), 95, 7, ((findTest (port up (updHealth (fun x => { x with tests := [{ res := .lane 95 7, stage := .running, commanded := true, src := some ra, bits := 2097152, flips := 20 }] }) rd)) (.lane 95 7)).getD default), ((((findTest (port up (updHealth (fun x => { x with tests := [{ res := .lane 95 7, stage := .running, commanded := true, src := some ra, bits := 2097152, flips := 20 }] }) rd)) (.lane 95 7)).getD default).src).getD default),
    by decide +kernel⟩,
  ⟨{ res := .palette 31, commanded := true },
    by decide +kernel⟩,
  ⟨(updHealth
      (fun x => { x with tests := [{ res := .sramRow 2047 255, src := some ra }], remapped := (List.range 4).map (fun i => .sramRow 2047 i) }) rd), (.sramRow 2047 255), ((findTest (updHealth (fun x => { x with tests := [{ res := .sramRow 2047 255, src := some ra }], remapped := (List.range 4).map (fun i => .sramRow 2047 i) }) rd) (.sramRow 2047 255)).getD default), ((((findTest (updHealth (fun x => { x with tests := [{ res := .sramRow 2047 255, src := some ra }], remapped := (List.range 4).map (fun i => .sramRow 2047 i) }) rd) (.sramRow 2047 255)).getD default).src).getD default),
    by decide +kernel⟩,
  ⟨(updHealth (fun x => { x with tests := [{ res := .lane 95 7, src := some ra }] }) rd), (.lane 95 7),
      ((findTest (updHealth (fun x => { x with tests := [{ res := .lane 95 7, src := some ra }] }) rd)
          (.lane 95 7)).getD default), ((((findTest (updHealth
          (fun x => { x with tests := [{ res := .lane 95 7, src := some ra }] }) rd)
          (.lane 95 7)).getD default).src).getD default), 95, 7,
    by decide +kernel⟩⟩

end Sys2Proof.Tests
end

section
/-! PROOFS. The interrupt causes (R11, R328): what sending a message, releasing held ones and setting a cause do to the
cause bits, and that these operations change the host functions and the output alone. -/

namespace Sys2Proof.Machine

/-! ### The state beside the host functions and the output -/

/-- A state without its host part and its output: what the interrupt operations leave as it is. -/
def besideHost (s : State) : State := { s with host := {}, out := [] }

theorem eq_of_besideHost_eq {s t : State} (h : besideHost t = besideHost s) :
    t = { s with host := t.host, out := t.out } :=
  calc t = { besideHost t with host := t.host, out := t.out } := rfl
    _ = { besideHost s with host := t.host, out := t.out } := by rw [h]

@[simp] theorem besideHost_updFn (hp : HostPort) (f : HostFn → HostFn) (s : State) :
    besideHost (updFn hp f s) = besideHost s := by cases hp <;> rfl

@[simp] theorem besideHost_emit (o : Output) (s : State) : besideHost (emit o s) = besideHost s := rfl

/-- What every single change of a fold leaves as it is, the fold leaves as it is. -/
theorem forEach_keeps {α β : Type} (g : State → β) {f : α → State → State} (h : ∀ a t, g (f a t) = g t) (l : List α)
    (s : State) : g (forEach l f s) = g s := by
  unfold forEach
  induction l generalizing s with
  | nil => rfl
  | cons a l ih => rw [List.foldl_cons, ih, h]

@[simp] theorem forEach_nil {α : Type} (f : α → State → State) (s : State) : forEach [] f s = s := rfl

@[simp] theorem forEach_cons {α : Type} (a : α) (l : List α) (f : α → State → State) (s : State) :
    forEach (a :: l) f s = forEach l f (f a s) := rfl

@[simp] theorem fnOf_emit (o : Output) (s : State) (hp : HostPort) : fnOf (emit o s) hp = fnOf s hp := by
  cases hp <;> rfl

/-! ### Messages -/

@[simp] theorem besideHost_sendVector (hp : HostPort) (v : BitVec 6) (s : State) :
    besideHost (sendVector hp v s) = besideHost s := by
  simp only [sendVector]; (repeat' split) <;> simp

@[simp] theorem intCause_sendVector (hp : HostPort) (v : BitVec 6) (s : State) :
    (fnOf (sendVector hp v s) hp).intCause = (fnOf s hp).intCause := by
  simp only [sendVector]; (repeat' split) <;> simp [fnOf_updFn]

@[simp] theorem besideHost_sendCause (hp : HostPort) (i : Nat) (s : State) :
    besideHost (sendCause hp i s) = besideHost s := besideHost_sendVector ..

@[simp] theorem intCause_sendCause (hp : HostPort) (i : Nat) (s : State) :
    (fnOf (sendCause hp i s) hp).intCause = (fnOf s hp).intCause := intCause_sendVector ..

@[simp] theorem besideHost_releaseHeld (hp : HostPort) (s : State) : besideHost (releaseHeld hp s) = besideHost s := by
  simp only [releaseHeld]
  split
  · rfl
  · rw [forEach_keeps besideHost (besideHost_sendCause hp), besideHost_updFn]

@[simp] theorem intCause_releaseHeld (hp : HostPort) (s : State) :
    (fnOf (releaseHeld hp s) hp).intCause = (fnOf s hp).intCause := by
  simp only [releaseHeld]
  split
  · rfl
  · rw [forEach_keeps (fun t => (fnOf t hp).intCause) (intCause_sendCause hp), fnOf_updFn]

/-! ### Causes -/

@[simp] theorem besideHost_setCause (hp : HostPort) (i : Nat) (s : State) :
    besideHost (setCause hp i s) = besideHost s := by
  simp only [setCause]; (repeat' split) <;> simp

/-- A bit that is set stands in its word already. -/
theorem or_one_shiftLeft_of_getLsbD {w : Nat} {x : BitVec w} {i : Nat} (h : x.getLsbD i = true) :
    x ||| 1#w <<< i = x := by
  ext j hj
  by_cases hij : j = i
  · subst hij; simp [← BitVec.getLsbD_eq_getElem, h]
  · simp; omega

theorem intCause_setCause (hp : HostPort) (i : Nat) (s : State) :
    (fnOf (setCause hp i s) hp).intCause = (fnOf s hp).intCause ||| 1#10 <<< i := by
  simp only [setCause]
  split
  next h => rw [or_one_shiftLeft_of_getLsbD h]
  next => (repeat' split) <;> simp [fnOf_updFn]

theorem getLsbD_intCause_setCauses (hp : HostPort) (l : List Nat) {j : Nat} (hj : j < 10) (s : State) :
    (fnOf (forEach l (setCause hp) s) hp).intCause.getLsbD j =
      (decide (j ∈ l) || (fnOf s hp).intCause.getLsbD j) := by
  induction l generalizing s with
  | nil => simp
  | cons i l ih =>
    have hbit : (1#10 <<< i).getLsbD j = decide (j = i) := by
      rw [BitVec.getLsbD_shiftLeft, BitVec.getLsbD_one, decide_eq_true hj]
      grind
    rw [forEach_cons, ih, intCause_setCause, BitVec.getLsbD_or, hbit]
    simp only [List.mem_cons, Bool.decide_or]
    cases decide (j = i) <;> simp

theorem mem_maskList_toNat {w i : Nat} {x : BitVec w} : i ∈ maskList w x.toNat ↔ x.getLsbD i = true := by
  have hbit : bitOf x.toNat i = x.getLsbD i := Nat.testBit_eq_decide_div_mod_eq.symm
  simp only [maskList, List.mem_filter, List.mem_range, hbit, and_iff_right_iff_imp]
  exact BitVec.lt_of_getLsbD

/-! ### INT_CAUSE_CLEAR -/

theorem besideHost_clearCauses (hp : HostPort) (v : W32) (raised : BitVec 10) (s : State) :
    besideHost (clearCauses hp v raised s) = besideHost s := by
  rw [clearCauses, forEach_keeps besideHost (besideHost_setCause hp)]
  simp only [when]; split <;> simp

theorem getLsbD_intCause_clearCauses {s : State} {hp : HostPort} (hb : barOk s hp = true) (v : W32) (raised : BitVec 10)
    {i : Nat} (hi : i < 10) :
    (fnOf (clearCauses hp v raised s) hp).intCause.getLsbD i =
      (raised.getLsbD i || ((fnOf s hp).intCause.getLsbD i && !v.getLsbD i)) := by
  rw [clearCauses, getLsbD_intCause_setCauses hp _ hi]
  simp only [mem_maskList_toNat, when, hb, if_true, fnOf_updFn, Bool.decide_eq_true]
  cases hr : raised.getLsbD i <;> simp [-BitVec.getLsbD_eq_getElem, hi, hr]

theorem clearCauses_noneRaised {s : State} {hp : HostPort} (hb : barOk s hp = true) (v : W32) :
    clearCauses hp v 0 s = updFn hp (fun f => { f with intCause := f.intCause &&& ~~~(v.setWidth 10) }) s := by
  have hmask : v.setWidth 10 &&& ~~~(0 : BitVec 10) = v.setWidth 10 := BitVec.and_allOnes
  have hnone : maskList 10 (0 : BitVec 10).toNat = [] := rfl
  rw [clearCauses, hnone, forEach_nil, when, hb, if_pos rfl, hmask]

theorem exec_intCauseClear {s t : State} {hp : HostPort} {v : W32} {raised : BitVec 10}
    (h : clearCauses hp v raised s = t) : exec (.intCauseClear hp v raised) s = .next t := congrArg Host.Outcome.next h

/-- Settles O25: the causes raised in the cycle are set after the clearing (R11), each by `setCause`, which adds its bit
and takes none away. -/
theorem causesAreNotLost : Obligations.CausesAreNotLost := by
  unfold Obligations.CausesAreNotLost
  refine ⟨fun s hp v raised hb => ⟨clearCauses hp v raised s, exec_intCauseClear rfl, ?_, ?_⟩, fun s hp v hb => ?_⟩
  · exact fun i hi => getLsbD_intCause_clearCauses hb v raised hi
  · exact eq_of_besideHost_eq (besideHost_clearCauses hp v raised s)
  · exact exec_intCauseClear (clearCauses_noneRaised hb v)

end Sys2Proof.Machine
end

section
/-! PROOFS. Accesses to BAR0 (R324 to R326): which of them act, and what single registers do. -/

namespace Sys2Proof.Machine

/-! ### Whether BAR0 answers -/

theorem linkOk_of_barOk {s : State} {hp : HostPort} (h : barOk s hp = true) : linkOk s hp = true := by
  simp only [barOk, Bool.and_eq_true] at h
  obtain ⟨⟨⟨hlink, _⟩, _⟩, _⟩ := h
  exact hlink

/-- A change of a function that leaves its link, its power state and its BAR0 as they are. -/
theorem barOk_updFn {hp : HostPort} {f : HostFn → HostFn} {s : State}
    (hlink : ∀ x, (f x).linkUp = x.linkUp ∧ (f x).perst = x.perst)
    (hbar : ∀ x, (f x).d3hot = x.d3hot ∧ (f x).barSet = x.barSet ∧ (f x).mse = x.mse) :
    barOk (updFn hp f s) hp = barOk s hp := by
  simp [barOk, linkOk, fnOf_updFn, hlink, hbar]

@[simp] theorem barOk_updRing (hp : HostPort) (r : Nat) (f : Ring → Ring) (s : State) :
    barOk (updRing hp r f s) hp = barOk s hp :=
  barOk_updFn (fun _ => ⟨rfl, rfl⟩) (fun _ => ⟨rfl, rfl, rfl⟩)

/-! ### Accesses of a size or at a place that R324 does not accept -/

theorem accessFits_eq_false {o n : Nat} (h4 : n ≠ 4 ∨ o % 4 ≠ 0) (h8 : n ≠ 8 ∨ o % 8 ≠ 0) : accessFits o n = false := by
  simp only [accessFits, Bool.or_eq_false_iff, Bool.and_eq_false_iff, decide_eq_false_iff_not]
  exact ⟨h4, h8⟩

theorem badAccess_counts {s : State} {hp : HostPort} {o n : Nat} (hb : barOk s hp = true) (hf : accessFits o n = false) :
    badAccess hp o n s = hostCount 7 1 s := by
  simp [badAccess, when, hb, hf]

theorem exec_bar0BadAccess {s t : State} {hp : HostPort} {o n : Nat} {w : Bool} (h : badAccess hp o n s = t) :
    exec (.bar0BadAccess hp o n w) s = .next t := congrArg Host.Outcome.next h

/-! ### Writes by the host -/

theorem exec_registerWrite {s t : State} {hp : HostPort} {w : RegWrite} (h : writeRegister hp w s = t) :
    exec (.registerWrite hp w) s = .next t := congrArg Host.Outcome.next h

theorem writeRegister_bar0 {s : State} {hp : HostPort} {o : Nat} (hb : barOk s hp = true) (hf : accessFits o 4 = true)
    (v : W32) : writeRegister hp (.bar0 o v) s = writeBar0 hp o v s := by
  simp [writeRegister, linkOk_of_barOk hb, hf]

theorem writeRegister_bar0_bad {s : State} {hp : HostPort} {o : Nat} (hb : barOk s hp = true)
    (hf : accessFits o 4 = false) (v : W32) : writeRegister hp (.bar0 o v) s = hostCount 7 1 s := by
  simp [writeRegister, linkOk_of_barOk hb, hf, badAccess_counts hb hf]

theorem writeRegister_bar0Wide {s : State} {hp : HostPort} {o : Nat} (hb : barOk s hp = true)
    (hf : accessFits o 8 = true) (v : W64) :
    writeRegister hp (.bar0Wide o v) s =
      writeBar0 hp (o + 4) ((v >>> 32).setWidth 32) (writeBar0 hp o (v.setWidth 32) s) := by
  simp [writeRegister, linkOk_of_barOk hb, hf]

theorem writeRegister_bar0Wide_bad {s : State} {hp : HostPort} {o : Nat} (hb : barOk s hp = true)
    (hf : accessFits o 8 = false) (v : W64) : writeRegister hp (.bar0Wide o v) s = hostCount 7 1 s := by
  simp [writeRegister, linkOk_of_barOk hb, hf, badAccess_counts hb hf]

/-! ### Single registers -/

theorem writeBar0_scratch {s : State} {hp : HostPort} (hb : barOk s hp = true) (v : W32) :
    writeBar0 hp 0x1C v s = updFn hp (fun f => { f with scratch := v }) s := by
  simp [writeBar0, hb]

theorem readBar0_scratch {s : State} {hp : HostPort} (hb : barOk s hp = true) :
    readBar0 s hp 0x1C = (fnOf s hp).scratch := by
  simp [readBar0, hb]

theorem barOk_updScratch (hp : HostPort) (v : W32) (s : State) :
    barOk (updFn hp (fun f => { f with scratch := v }) s) hp = barOk s hp :=
  barOk_updFn (fun _ => ⟨rfl, rfl⟩) (fun _ => ⟨rfl, rfl, rfl⟩)

/-- A write to the scratch register is read back: it leaves the port's BAR0 answering. -/
theorem readBar0_scratch_of_write {s : State} {hp : HostPort} (hb : barOk s hp = true) (v : W32) :
    readBar0 (updFn hp (fun f => { f with scratch := v }) s) hp 0x1C = v := by
  rw [readBar0_scratch ((barOk_updScratch hp v s).trans hb), fnOf_updFn]

/-- A write changes nothing at the identity registers and in the gaps between the blocks below the MSI-X table. -/
theorem writeBar0_noRegister {o : Nat} (ho : o < 0x1C ∨ (0x30 < o ∧ o < 0x100) ∨ (0x318 ≤ o ∧ o < 0xE000))
    (hp : HostPort) (v : W32) (s : State) : writeBar0 hp o v s = s := by
  simp (disch := omega) only [writeBar0, Bool.and_eq_true, decide_eq_true_eq, if_neg, ite_self]

/-! ### Registers of a command ring -/

/-- A change of a ring counts by what it makes of that ring. -/
theorem updRing_congr {hp : HostPort} {r : Nat} {f g : Ring → Ring} {s : State}
    (h : f (ringOf s hp r) = g (ringOf s hp r)) : updRing hp r f s = updRing hp r g s := by
  have hrings : (fnOf s hp).rings.modify r f = (fnOf s hp).rings.modify r g := by
    refine List.ext_getElem? fun i => ?_
    by_cases hi : r = i
    · subst hi
      cases hx : (fnOf s hp).rings[r]? with
      | none => simp [hx]
      | some x => simpa [List.getElem?_modify, hx, ringOf, List.getD_eq_getElem?_getD] using h
    · simp [hi]
  cases hp <;> simp_all [updRing, updFn]

/-- What a change of the rings leaves as it is reads the same afterwards. -/
theorem ringOf_updRing_keeps {β : Type} (g : Ring → β) {f : Ring → Ring} (h : ∀ x, g (f x) = g x) (hp : HostPort)
    (q r : Nat) (s : State) : g (ringOf (updRing hp q f s) hp r) = g (ringOf s hp r) := by
  simp only [ringOf, updRing, fnOf_updFn, List.getD_eq_getElem?_getD, List.getElem?_modify]
  cases (fnOf s hp).rings[r]? with
  | none => rfl
  | some x => by_cases hq : q = r <;> simp [hq, h]

/-- A base register, which stands still while its ring is enabled (R329), takes a write while it is not. -/
theorem updRing_unlessEnabled {hp : HostPort} {r : Nat} {s : State} (hoff : (ringOf s hp r).enable = false)
    (f : Ring → Ring) : updRing hp r (fun x => if x.enable then x else f x) s = updRing hp r f s :=
  updRing_congr (by simp [hoff])

theorem writeBar0_crBaseLo {s : State} {hp : HostPort} (hb : barOk s hp = true) (hoff : (ringOf s hp 0).enable = false)
    (v : W32) : writeBar0 hp 0x200 v s = updRing hp 0 (fun x => { x with crBaseLo := v }) s := by
  simp [writeBar0, writeRingReg, hb, updRing_unlessEnabled hoff]

theorem writeBar0_crBaseHi {s : State} {hp : HostPort} (hb : barOk s hp = true) (hoff : (ringOf s hp 0).enable = false)
    (v : W32) : writeBar0 hp 0x204 v s = updRing hp 0 (fun x => { x with crBaseHi := v }) s := by
  simp [writeBar0, writeRingReg, hb, updRing_unlessEnabled hoff]

/-- A 64-bit write of the base of command ring 0: the lower register first (R324). -/
theorem writeRegister_crBase {s : State} {hp : HostPort} (hb : barOk s hp = true) (hoff : (ringOf s hp 0).enable = false)
    (v : W64) :
    writeRegister hp (.bar0Wide 0x200 v) s =
      updRing hp 0 (fun x => { x with crBaseHi := (v >>> 32).setWidth 32 })
        (updRing hp 0 (fun x => { x with crBaseLo := v.setWidth 32 }) s) := by
  rw [writeRegister_bar0Wide hb rfl, writeBar0_crBaseLo hb hoff]
  refine writeBar0_crBaseHi ((barOk_updRing ..).trans hb) ?_ _
  rw [ringOf_updRing_keeps Ring.enable]
  · exact hoff
  · exact fun _ => rfl

/-! ### Reads -/

theorem readBar0_unanswered {s : State} {hp : HostPort} (hb : barOk s hp = false) (o : Nat) :
    readBar0 s hp o = BitVec.allOnes 32 := by
  simp [readBar0, hb]

theorem readBar0_misaligned {s : State} {hp : HostPort} {o : Nat} (hb : barOk s hp = true) (ho : o % 4 ≠ 0) :
    readBar0 s hp o = 0 := by
  simp [readBar0, hb, ho]

/-- Identity and revision of first silicon, `chip_tag` and the tick (R6, R326). -/
theorem readBar0_identity {s : State} {hp : HostPort} (hb : barOk s hp = true) :
    readBar0 s hp 0x00 = 0x05719600 ∧ readBar0 s hp 0x04 = 0x00000100 ∧
      readBar0 s hp 0x08 = s.boot.chipTag ∧ readBar0 s hp 0x18 = s.tick.number := by
  simp [readBar0, hb, ygIdent, ygRevision, w32]

/-! ### The obligation -/

/-- Settles O27, access by access: what does not fit is counted, what fits goes to its one register. -/
theorem registerAccess : Obligations.RegisterAccess := by
  unfold Obligations.RegisterAccess
  refine ⟨?bad, ?badWrite, ?badWide, ?scratch, ?ignored, ?wide, ?reads, ?unanswered⟩
  case bad => exact fun s hp o n w hb h4 h8 => exec_bar0BadAccess (badAccess_counts hb (accessFits_eq_false h4 h8))
  case badWrite =>
    intro s hp o v hb ho
    have hf : accessFits o 4 = false := accessFits_eq_false (.inr ho) (.inl (by decide))
    exact ⟨exec_registerWrite (writeRegister_bar0_bad hb hf v), readBar0_misaligned hb ho⟩
  case badWide =>
    intro s hp o v hb ho
    exact exec_registerWrite (writeRegister_bar0Wide_bad hb (accessFits_eq_false (.inl (by decide)) (.inr ho)) v)
  case scratch =>
    intro s hp v hb
    refine ⟨_, exec_registerWrite ((writeRegister_bar0 hb rfl v).trans (writeBar0_scratch hb v)), rfl, ?_⟩
    exact readBar0_scratch_of_write hb v
  case ignored =>
    intro s hp v o hb ho
    have hfree : o < 0x1C ∨ (0x30 < o ∧ o < 0x100) ∨ (0x318 ≤ o ∧ o < 0xE000) := by
      revert o; decide
    have hf : accessFits o 4 = true := by
      revert o; decide
    exact exec_registerWrite ((writeRegister_bar0 hb hf v).trans (writeBar0_noRegister hfree hp v s))
  case wide => exact fun s hp v hb hoff => exec_registerWrite (writeRegister_crBase hb hoff v)
  case reads => exact fun s hp hb => readBar0_identity hb
  case unanswered => exact fun s hp o hb => readBar0_unanswered hb o

end Sys2Proof.Machine
end

section
/-! PROOFS. Little-endian fields (R9): what a field that was written reads as. -/

namespace Sys2Proof.Machine

@[simp] theorem length_leBytes (n x : Nat) : (leBytes n x).length = n := by
  induction n generalizing x with
  | zero => rfl
  | succ n ih => simp [leBytes, ih]

theorem leVal_leBytes (n x : Nat) : leVal (leBytes n x) = x % 256 ^ n := by
  induction n generalizing x with
  | zero => simp [leBytes, leVal, Nat.mod_one]
  | succ n ih => simp [leBytes, leVal, ih, Nat.pow_succ', Nat.mod_mul]

/-- A field in the middle of a byte string. -/
theorem leAt_append_leBytes_append {pre : Bytes} {off : Nat} (h : pre.length = off) (n x : Nat) (post : Bytes) :
    leAt (pre ++ (leBytes n x ++ post)) off n = x % 256 ^ n := by
  subst h
  simp [leAt, leVal_leBytes]

theorem leAt_append_leBytes {pre : Bytes} {off : Nat} (h : pre.length = off) (n x : Nat) :
    leAt (pre ++ leBytes n x) off n = x % 256 ^ n := by
  simpa using leAt_append_leBytes_append h n x []

theorem leAt_leBytes_append (n x : Nat) (post : Bytes) : leAt (leBytes n x ++ post) 0 n = x % 256 ^ n :=
  leAt_append_leBytes_append (pre := []) rfl n x post

theorem leAt_leBytes (n x : Nat) : leAt (leBytes n x) 0 n = x % 256 ^ n := by
  simpa using leAt_leBytes_append n x []

theorem leAt_append_of_le {a : Bytes} {off n : Nat} (h : off + n ≤ a.length) (b : Bytes) :
    leAt (a ++ b) off n = leAt a off n := by
  rw [leAt, leAt, List.drop_append_of_le_length (by omega), List.take_append_of_le_length (by simp; omega)]

/-- Pieces of `k` elements each, one after the other. -/
theorem length_flatMap_of_length {α β : Type} {k : Nat} {f : α → List β} (hf : ∀ x, (f x).length = k) (l : List α) :
    (l.flatMap f).length = k * l.length := by
  induction l with
  | nil => rfl
  | cons x xs ih => rw [List.flatMap_cons, List.length_append, hf x, ih, List.length_cons, Nat.mul_succ, Nat.add_comm]

theorem length_wordBytes (k : Nat) (f : Nat → Nat) (m : Nat) :
    ((List.range m).flatMap (fun i => leBytes k (f i))).length = k * m := by
  rw [length_flatMap_of_length (fun i => length_leBytes k (f i)), List.length_range]

/-- Word `i` of a row of words. -/
theorem leAt_wordBytes (k : Nat) (f : Nat → Nat) {i m : Nat} (h : i < m) :
    leAt ((List.range m).flatMap (fun i => leBytes k (f i))) (k * i) k = f i % 256 ^ k := by
  induction m with
  | zero => omega
  | succ m ih =>
    rw [List.range_succ, List.flatMap_append, List.flatMap_singleton]
    rcases Nat.lt_succ_iff_lt_or_eq.mp h with hlt | rfl
    · have hword : k * i + k ≤ k * m := Nat.mul_le_mul_left k hlt
      rw [leAt_append_of_le ((length_wordBytes k f m).symm ▸ hword), ih hlt]
    · exact leAt_append_leBytes (length_wordBytes k f i) k (f i)

theorem padTo_of_length {n : Nat} {b : Bytes} (h : b.length = n) : padTo n b = b := by
  simp [padTo, zeros, ← h]

theorem boolNat_le_one (b : Bool) : boolNat b ≤ 1 := by
  cases b <;> decide

/-- A bit field read from a number, as an equation between numbers. -/
theorem ofNat_eq_iff {w n : Nat} {x : BitVec w} : BitVec.ofNat w n = x ↔ n % 2 ^ w = x.toNat := by
  rw [← BitVec.toNat_inj, BitVec.toNat_ofNat]

/-- A single bit read from a number, as an equation between numbers. -/
theorem bitOf_eq_iff {x i : Nat} {b : Bool} : bitOf x i = b ↔ x / 2 ^ i % 2 = boolNat b := by
  cases b <;> simp [bitOf, boolNat]

end Sys2Proof.Machine
end

section
/-! PROOFS. Packet headers (R137), slot headers and flits (R109 to R113) and twin frames (R366) read back as they were
written. -/

namespace Sys2Proof.Machine

/-! ### Packet headers -/

theorem leAt_headerBytes (h : Header) {i : Nat} (hi : i < 8) :
    leAt (headerBytes h) (4 * i) 4 = headerWord h i % 2 ^ 32 :=
  leAt_wordBytes 4 (headerWord h) hi

theorem parseHeader_headerBytes (h : Header) : parseHeader (headerBytes h) = h := by
  obtain ⟨gen, vc, colour, rsv0, opcode, length, dst, src, ttag, ftag, offset, window, ord, last, adpt, cmk, pois, ackReq,
    ordFault, rsv4, opA, opB, hops, routeHint, hcheck⟩ := h
  have := boolNat_le_one rsv0
  have := boolNat_le_one ord
  have := boolNat_le_one last
  have := boolNat_le_one adpt
  have := boolNat_le_one cmk
  have := boolNat_le_one pois
  have := boolNat_le_one ackReq
  have := boolNat_le_one ordFault
  have := boolNat_le_one rsv4
  simp only [parseHeader, leAt_headerBytes, Nat.reduceLT, headerWord, Header.mk.injEq, w16, w32, ofNat_eq_iff, bitOf_eq_iff]
  and_intros <;> omega

/-! ### D-block headers -/

theorem parseDHeader_dHeaderBytes (h : DHeader) : parseDHeader (dHeaderBytes h) = h := by
  obtain ⟨bseq, retValue, retKind, pcReq, pcOn, replay⟩ := h
  have := boolNat_le_one pcReq
  have := boolNat_le_one pcOn
  have := boolNat_le_one replay
  simp only [parseDHeader, dHeaderBytes, leAt_leBytes, DHeader.mk.injEq, w16, ofNat_eq_iff, bitOf_eq_iff]
  and_intros <;> omega

/-! ### C-run headers -/

@[simp] theorem length_cHeaderBytes (h : CHeader) : (cHeaderBytes h).length = 8 := by
  simp [cHeaderBytes]

/-- The check of a copy passes, and its 48 bits give the fields back. -/
theorem parseCHeaderCopy_cHeaderBytes (h : CHeader) : parseCHeaderCopy (cHeaderBytes h) = some h := by
  obtain ⟨back, cack, nakB, nakC, pcReq, pcOn⟩ := h
  have := boolNat_le_one nakB
  have := boolNat_le_one nakC
  have := boolNat_le_one pcReq
  have := boolNat_le_one pcOn
  have hcrc (c : BitVec 16) : c.toNat % 256 ^ 2 = c.toNat := Nat.mod_eq_of_lt c.isLt
  simp only [parseCHeaderCopy, cHeaderBytes, List.take_left' (length_leBytes ..), leAt_append_leBytes (length_leBytes ..),
    hcrc, bne_self_eq_false, Bool.false_eq_true, if_false, leAt_leBytes_append, Option.some.injEq, CHeader.mk.injEq, w16,
    ofNat_eq_iff, bitOf_eq_iff]
  and_intros <;> omega

theorem parseCHeader_cHeaderBytes (h : CHeader) (rest : Bytes) :
    parseCHeader (cHeaderBytes h ++ cHeaderBytes h ++ rest) = some h := by
  rw [List.append_assoc, parseCHeader, List.take_left' (length_cHeaderBytes h), List.drop_left' (length_cHeaderBytes h),
    List.take_left' (length_cHeaderBytes h), parseCHeaderCopy_cHeaderBytes]
  exact if_pos rfl

/-! ### Flits -/

/-- What stands where in a flit of 256 bytes: head, the head's check, content. -/
theorem flit_layout (head : Nat) (check : Byte) {content : Bytes} (hc : content.length = 252) :
    let b := leBytes 3 head ++ [check] ++ content
    b.take 3 = leBytes 3 head ∧ leAt b 0 3 = head % 2 ^ 24 ∧ b.getD 3 0 = check ∧ (b.drop 4).take 252 = content := by
  refine ⟨by simp, ?_, by simp, ?_⟩
  · rw [List.append_assoc]
    exact leAt_leBytes_append ..
  · rw [List.drop_left' (by simp), List.take_of_length_le (Nat.le_of_eq hc)]

theorem parseFlit_flitBytes {f : Flit} (hf : f.content.length = 252) : parseFlit (flitBytes f) = some f := by
  obtain ⟨htake, hhead, hcheck, hcontent⟩ := flit_layout (flitHead f) (crc8 (leBytes 3 (flitHead f))) hf
  simp only [parseFlit, flitBytes, padTo_of_length hf, htake, hhead, hcheck, hcontent, bne_self_eq_false, Bool.false_eq_true,
    if_false]
  obtain ⟨kind, vc, sop, eop, fin, nbytes, content⟩ := f
  have := boolNat_le_one sop
  have := boolNat_le_one eop
  simp only [flitHead, Option.some.injEq, Flit.mk.injEq, ofNat_eq_iff, bitOf_eq_iff, and_true]
  and_intros <;> omega

/-- What stands where in a control flit of 64 bytes: head, content, sequence number, acknowledge and check. -/
theorem cflit_layout (head : Nat) {content : Bytes} (hc : content.length = 52) (cseq cack : Nat) (check : Bytes) :
    let b := leBytes 4 head ++ content ++ leBytes 2 cseq ++ leBytes 2 cack
    b.length = 60 ∧ leAt (b ++ check) 0 4 = head % 2 ^ 32 ∧ ((b ++ check).drop 4).take 52 = content ∧
      leAt (b ++ check) 56 2 = cseq % 2 ^ 16 ∧ leAt (b ++ check) 58 2 = cack % 2 ^ 16 := by
  refine ⟨by simp [hc], ?_, ?_, ?_, ?_⟩ <;> simp only [List.append_assoc]
  · exact leAt_leBytes_append ..
  · rw [List.drop_left' (length_leBytes ..), List.take_left' hc]
  · rw [← List.append_assoc]
    exact leAt_append_leBytes_append (by simp [hc]) ..
  · rw [← List.append_assoc, ← List.append_assoc]
    exact leAt_append_leBytes_append (by simp [hc]) ..

theorem parseCflit_cflitBytes (k : W16) {c : CFlit} (hc : c.content.length = 52) :
    parseCflit (cflitBytes k c) = some (c, k) := by
  have hcrc (x : BitVec 32) : x.toNat % 256 ^ 4 = x.toNat := Nat.mod_eq_of_lt x.isLt
  simp only [parseCflit, cflitBytes, padTo_of_length hc]
  generalize hb : leBytes 4 _ ++ c.content ++ leBytes 2 c.cseq.toNat ++ leBytes 2 k.toNat = b
  obtain ⟨hlen, hhead, hcontent, hseq, hack⟩ := hb ▸ cflit_layout _ hc c.cseq.toNat k.toNat (leBytes 4 (crc32 b).toNat)
  simp only [List.take_left' hlen, leAt_append_leBytes hlen, hcrc, hhead, hcontent, hseq, hack, bne_self_eq_false,
    Bool.false_eq_true, if_false]
  obtain ⟨kind, sub, nbytes, seqd, content, cseq⟩ := c
  have := boolNat_le_one seqd
  simp only [Option.some.injEq, Prod.mk.injEq, CFlit.mk.injEq, w16, ofNat_eq_iff, bitOf_eq_iff, true_and]
  and_intros <;> omega

/-! ### Twin frames -/

/-- What stands where in a twin frame: type, payload length, payload and check (R366). -/
theorem twinFrame_layout {typ : Nat} (ht : typ < 256) (q : Nat) {p : Bytes} (hp : p.length < 4294967296) (check : Bytes) :
    let b := [BitVec.ofNat 8 typ, 0] ++ leBytes 2 q ++ leBytes 4 p.length ++ p
    leAt (b ++ check) 0 1 = typ ∧ leAt (b ++ check) 4 4 = p.length ∧ ((b ++ check).drop 8).take p.length = p := by
  refine ⟨by simp [leAt, leVal, Nat.mod_eq_of_lt ht], ?_, ?_⟩
  · simp only [List.append_assoc]
    rw [← List.append_assoc]
    exact (leAt_append_leBytes_append (by simp) ..).trans (Nat.mod_eq_of_lt hp)
  · rw [List.append_assoc, List.drop_left' (by simp), List.take_left' rfl]

/-- A string with these parts passes when its check follows it. -/
theorem frameContent_append_check {typ : Nat} {b p : Bytes} (hlen : b.length = p.length + 8)
    (hparts : ∀ check : Bytes, leAt (b ++ check) 0 1 = typ ∧ leAt (b ++ check) 4 4 = p.length ∧
      ((b ++ check).drop 8).take p.length = p) :
    frameContent (b ++ leBytes 4 (crc32 b).toNat) = some (typ, p) := by
  obtain ⟨htyp, hsize, hpayload⟩ := hparts (leBytes 4 (crc32 b).toNat)
  have hcheck : leAt (b ++ leBytes 4 (crc32 b).toNat) (p.length + 8) 4 = (crc32 b).toNat :=
    (leAt_append_leBytes hlen 4 _).trans (Nat.mod_eq_of_lt (crc32 b).isLt)
  simp only [frameContent, htyp, hsize, hpayload, hcheck, List.take_left' hlen]
  exact if_pos (by simp [hlen])

theorem frameContent_twinFrame {typ : Nat} (ht : typ < 256) (q : W16) {p : Bytes} (hp : p.length < 4294967296) :
    frameContent (twinFrame typ q p) = some (typ, p) :=
  frameContent_append_check (by simp; omega) (twinFrame_layout ht q.toNat hp)

end Sys2Proof.Machine
end

section
/-! PROOFS. The symbols of a slot (R106, R107) and the levels of a lane (R70, R85, R102) read back as they were written. -/

namespace Sys2Proof.Machine

/-! ### Pieces of a list -/

theorem chunks_succ {α : Type} (k n : Nat) {l : List α} (hl : 0 < l.length) :
    chunks k (n + 1) l = l.take k :: chunks k n (l.drop k) := by
  cases l with
  | nil => simp at hl
  | cons x xs => rfl

theorem chunks_flatMap {α β : Type} {k : Nat} {f : α → List β} (hf : ∀ x, (f x).length = k) (hk : 0 < k)
    (l : List α) : chunks k l.length (l.flatMap f) = l.map f := by
  induction l with
  | nil => rfl
  | cons x xs ih =>
    have hpos : 0 < (f x ++ xs.flatMap f).length := by
      rw [List.length_append, hf x]
      omega
    rw [List.flatMap_cons, List.length_cons, chunks_succ k _ hpos, List.take_left' (hf x), List.drop_left' (hf x), ih,
      List.map_cons]

theorem flatten_chunks {α : Type} {k n : Nat} {l : List α} (hk : 0 < k) (hl : l.length = k * n) :
    (chunks k n l).flatten = l := by
  induction n generalizing l with
  | zero => simpa [chunks, eq_comm] using hl
  | succ n ih =>
    have hpos : 0 < l.length := hl ▸ Nat.mul_pos hk n.succ_pos
    rw [chunks_succ k n hpos, List.flatten_cons, ih (by simp [hl, Nat.mul_succ]), List.take_append_drop]

theorem length_of_mem_chunks {α : Type} {k n : Nat} {l c : List α} (hk : 0 < k) (hl : l.length = k * n)
    (hc : c ∈ chunks k n l) : c.length = k := by
  induction n generalizing l with
  | zero => simp [chunks] at hc
  | succ n ih =>
    rw [chunks_succ k n (hl ▸ Nat.mul_pos hk n.succ_pos), List.mem_cons] at hc
    rcases hc with rfl | hc
    · simp [hl, Nat.mul_succ]
    · exact ih (by simp [hl, Nat.mul_succ]) hc

/-! ### Bits -/

@[simp] theorem length_toBits (n x : Nat) : (toBits n x).length = n := by
  simp [toBits]

theorem toBits_succ (n x : Nat) : toBits (n + 1) x = bitOf x 0 :: toBits n (x / 2) := by
  simp [toBits, List.range_succ_eq_map, bitOf, Function.comp_def, Nat.pow_succ', Nat.div_div_eq_div_mul]

theorem boolNat_bitOf_zero (x : Nat) : boolNat (bitOf x 0) = x % 2 :=
  (bitOf_eq_iff.mp rfl).symm.trans (by simp)

theorem ofBits_toBits (n x : Nat) : ofBits (toBits n x) = x % 2 ^ n := by
  induction n generalizing x with
  | zero => simp [toBits, ofBits, Nat.mod_one]
  | succ n ih => rw [toBits_succ, ofBits, boolNat_bitOf_zero, ih, Nat.pow_succ', Nat.mod_mul]

theorem ofBits_lt (l : List Bool) : ofBits l < 2 ^ l.length := by
  induction l with
  | nil => decide
  | cons b bs ih =>
    have := boolNat_le_one b
    rw [ofBits, List.length_cons, Nat.pow_succ]
    omega

theorem toBits_ofBits (l : List Bool) : toBits l.length (ofBits l) = l := by
  induction l with
  | nil => rfl
  | cons b bs ih =>
    have := boolNat_le_one b
    have hrest : (boolNat b + 2 * ofBits bs) / 2 = ofBits bs := by omega
    have hfirst : bitOf (boolNat b + 2 * ofBits bs) 0 = b := bitOf_eq_iff.mpr (by omega)
    rw [List.length_cons, toBits_succ, ofBits, hrest, hfirst, ih]

/-- A word written as bits and read back. -/
theorem ofNat_ofBits_toBits {w : Nat} (x : BitVec w) : BitVec.ofNat w (ofBits (toBits w x.toNat)) = x := by
  rw [ofBits_toBits, Nat.mod_eq_of_lt x.isLt, BitVec.ofNat_toNat, BitVec.setWidth_eq]

/-- Bits read as a word and written again. -/
theorem toBits_ofNat_ofBits {w : Nat} {l : List Bool} (hl : l.length = w) :
    toBits w (BitVec.ofNat w (ofBits l)).toNat = l := by
  subst hl
  rw [BitVec.toNat_ofNat, Nat.mod_eq_of_lt (ofBits_lt l), toBits_ofBits]

/-! ### Symbols (R107) -/

/-- The bits of the packed symbols are the bits of the bytes, where these fill the symbols. -/
theorem bits_packSymbols {n : Nat} {b : Bytes} (hb : 8 * b.length = 10 * n) :
    (packSymbols n b).flatMap (fun x => toBits 10 x.toNat) = b.flatMap (fun x => toBits 8 x.toNat) := by
  have hbits : (b.flatMap (fun x => toBits 8 x.toNat)).length = 10 * n :=
    (length_flatMap_of_length (fun x => length_toBits 8 x.toNat) b).trans hb
  have hpiece : ∀ c ∈ chunks 10 n (b.flatMap (fun x => toBits 8 x.toNat)),
      toBits 10 (BitVec.ofNat 10 (ofBits c)).toNat = c := fun c hc =>
    toBits_ofNat_ofBits (length_of_mem_chunks (by decide) hbits hc)
  rw [packSymbols, List.flatMap_map, List.flatMap_def, List.map_congr_left hpiece, List.map_id',
    flatten_chunks (by decide) hbits]

theorem unpackBytes_packSymbols {n : Nat} {b : Bytes} (hb : 8 * b.length = 10 * n) :
    unpackBytes b.length (packSymbols n b) = b := by
  rw [unpackBytes, bits_packSymbols hb,
    chunks_flatMap (f := fun x : Byte => toBits 8 x.toNat) (fun _ => length_toBits ..) (by decide), List.map_map]
  simp [Function.comp_def, ofNat_ofBits_toBits]

/-! ### The scrambler (R106) -/

/-- Two scramblers in one state undo each other and end in one state: the mask does not depend on the symbols. -/
theorem scramble_scramble (r : BitVec 31) (l : List Sym) : scramble r (scramble r l).2 = ((scramble r l).1, l) := by
  induction l generalizing r with
  | nil => rfl
  | cons x xs ih => simp only [scramble, ih, BitVec.xor_assoc, BitVec.xor_self, BitVec.xor_zero]

theorem decodeC_encodeC (r : BitVec 31) {b : Bytes} (hb : b.length = 1360) :
    decodeC r (encodeC r b).2 = ((encodeC r b).1, b) := by
  have hdrop : (encodeC r b).2.drop 2 = (scramble r (packSymbols 1088 b)).2 := rfl
  rw [decodeC, hdrop, scramble_scramble, ← hb, unpackBytes_packSymbols (by rw [hb])]
  rfl

/-! ### Levels (R70, R85, R102) -/

theorem levelBits_grayLevel (b : BitVec 2) : levelBits (grayLevel b) = b := by
  revert b; decide

@[simp] theorem length_pairLevels (n x : Nat) : (pairLevels n x).length = n := by
  induction n generalizing x with
  | zero => rfl
  | succ n ih => simp [pairLevels, ih]

/-- The levels of a number spell its `n` low pairs after what was read before them. -/
theorem foldl_pairLevels (n x a : Nat) :
    (pairLevels n x).foldl (fun x l => 4 * x + (levelBits l).toNat) a = 4 ^ n * a + x % 4 ^ n := by
  induction n generalizing x a with
  | zero => simp [pairLevels, Nat.mod_one]
  | succ n ih =>
    have hsplit : x % 4 ^ (n + 1) = x % 4 ^ n + 4 ^ n * (x / 4 ^ n % 2 ^ 2) := Nat.mod_mul
    have hshift : 4 ^ (n + 1) * a = 4 ^ n * (4 * a) := by rw [Nat.pow_succ, Nat.mul_assoc]
    rw [pairLevels, List.foldl_cons, ih, levelBits_grayLevel, BitVec.toNat_ofNat, Nat.mod_mod, hsplit, hshift, Nat.mul_add,
      Nat.add_assoc, Nat.add_comm (x % 4 ^ n)]

theorem pairValue_pairLevels (n x : Nat) : pairValue (pairLevels n x) = x % 4 ^ n := by
  rw [pairValue, foldl_pairLevels, Nat.mul_zero, Nat.zero_add]

/-- Words sent as `k` levels each, and read in groups of `k`. -/
theorem chunks_levels {w k : Nat} (hw : 2 ^ w = 4 ^ k) (hk : 0 < k) (l : List (BitVec w)) :
    (chunks k l.length (l.flatMap (fun x => pairLevels k x.toNat))).map (fun c => BitVec.ofNat w (pairValue c)) = l := by
  have hword (x : BitVec w) : BitVec.ofNat w (pairValue (pairLevels k x.toNat)) = x :=
    ofNat_eq_iff.mpr (by rw [pairValue_pairLevels, ← hw, Nat.mod_mod, Nat.mod_eq_of_lt x.isLt])
  rw [chunks_flatMap (f := fun x : BitVec w => pairLevels k x.toNat) (fun _ => length_pairLevels ..) hk, List.map_map]
  simp [Function.comp_def, hword]

theorem levelsToSymbols_symbolsToLevels (l : List Sym) : levelsToSymbols l.length (symbolsToLevels l) = l :=
  chunks_levels (w := 10) (k := 5) (by decide) (by decide) l

theorem levelsToBytes_bytesToLevels (b : Bytes) : levelsToBytes b.length (bytesToLevels b) = b :=
  chunks_levels (w := 8) (k := 4) (by decide) (by decide) b

theorem invertLevels_invertLevels (inv : Bool) (l : List Level) : invertLevels inv (invertLevels inv l) = l := by
  cases inv <;> simp [invertLevels, Function.comp_def]

theorem invertGroups_invertGroups (inv : Bool) (l : List CodeGroup) : invertGroups inv (invertGroups inv l) = l := by
  cases inv <;> simp [invertGroups, Function.comp_def]

end Sys2Proof.Machine
end

section
/-! PROOFS. The 8b/10b code (R66) and the lanes of a twin frame (R366) read back as they were written. -/

namespace Sys2Proof.Machine

/-! ### Code groups -/

/-- The forms of the 6-bit blocks at one running disparity are distinct. -/
theorem sixAt_injective : ∀ (rd : Bool) (x x' : Fin 32),
    sixAt rd (nth sixTable x) = sixAt rd (nth sixTable x') → x = x' := by
  decide

/-- The 4-bit block that stands for `y`, where `alt` says whether D.x.7 takes its alternate form. -/
def fourFor (rd alt : Bool) (y : Nat) : BitVec 4 := fourAt rd (nth fourTable (if y = 7 && alt then 8 else y))

/-- The forms of the 4-bit blocks after one 6-bit block are distinct. -/
theorem fourFor_injective : ∀ (rd alt : Bool) (y y' : Fin 8), fourFor rd alt y = fourFor rd alt y' → y = y' := by
  decide

/-- The code group of byte 32 y + x: the 6-bit block of x, then the 4-bit block of y. -/
theorem encodeData_eq_append (rd : Bool) {x y : Nat} (hx : x < 32) (hy : y < 8) :
    encodeData rd (BitVec.ofNat 8 (32 * y + x)) = sixAt rd (nth sixTable x) ++
      fourFor (sixAfter rd (sixAt rd (nth sixTable x))) (alternate7 (sixAfter rd (sixAt rd (nth sixTable x))) x) y := by
  have hbyte : (BitVec.ofNat 8 (32 * y + x)).toNat = 32 * y + x := by
    rw [BitVec.toNat_ofNat]
    omega
  have hmod : (32 * y + x) % 32 = x := by omega
  have hdiv : (32 * y + x) / 32 = y := by omega
  simp only [encodeData, hbyte, hmod, hdiv, fourFor]

/-- Where a control code group has the 6-bit block of some `x` (23, 27 or 29), its 4-bit block is none that follows there. -/
theorem four_of_encodeControl : ∀ (rd : Bool) (k : Control) (x : Fin 32),
    sixAt rd (nth sixTable x) = (encodeControl rd k).extractLsb' 4 6 → ∀ y : Fin 8,
      fourFor (sixAfter rd (sixAt rd (nth sixTable x))) (alternate7 (sixAfter rd (sixAt rd (nth sixTable x))) x) y ≠
        (encodeControl rd k).extractLsb' 0 4 := by
  intro rd k
  cases k <;> revert rd <;> decide

/-- No control code group is the code group of a data byte. -/
theorem encodeControl_ne_encodeData (rd : Bool) (k : Control) {x y : Nat} (hx : x < 32) (hy : y < 8) :
    encodeControl rd k ≠ encodeData rd (BitVec.ofNat 8 (32 * y + x)) := by
  intro h
  rw [encodeData_eq_append rd hx hy] at h
  refine four_of_encodeControl rd k ⟨x, hx⟩ ?_ ⟨y, hy⟩ ?_ <;> rw [h]
  · exact BitVec.extractLsb'_append_eq_left.symm
  · exact BitVec.extractLsb'_append_eq_right.symm

theorem find_range_of_unique {n i : Nat} {p : Nat → Bool} (hi : i < n) (hp : p i = true)
    (hu : ∀ j < n, p j = true → j = i) : (List.range n).find? p = some i := by
  rw [List.find?_range_eq_some]
  refine ⟨hp, List.mem_range.mpr hi, fun j hj => ?_⟩
  rw [Bool.not_eq_true', Bool.eq_false_iff]
  exact fun h => Nat.ne_of_lt hj (hu j (Nat.lt_trans hj hi) h)

theorem find_six (rd : Bool) {x : Nat} (hx : x < 32) :
    (List.range 32).find? (fun j => sixAt rd (nth sixTable j) = sixAt rd (nth sixTable x)) = some x :=
  find_range_of_unique hx (by simp) fun j hj h =>
    congrArg Fin.val (sixAt_injective rd ⟨j, hj⟩ ⟨x, hx⟩ (of_decide_eq_true h))

theorem find_four (rd : Bool) {x y : Nat} (hx : x < 32) (hy : y < 8) :
    (List.range 8).find? (fun j => encodeData rd (BitVec.ofNat 8 (32 * j + x)) =
      encodeData rd (BitVec.ofNat 8 (32 * y + x))) = some y := by
  refine find_range_of_unique hy (by simp) fun j hj h => ?_
  have hgroup := of_decide_eq_true h
  rw [encodeData_eq_append rd hx hj, encodeData_eq_append rd hx hy] at hgroup
  have hfour := congrArg (BitVec.extractLsb' 0 4) hgroup
  simp only [BitVec.extractLsb'_append_eq_right] at hfour
  exact congrArg Fin.val (fourFor_injective _ _ ⟨j, hj⟩ ⟨y, hy⟩ hfour)

theorem decodeGroup_encodeData (rd : Bool) (b : Byte) : decodeGroup rd (encodeData rd b) = some (.data b) := by
  obtain ⟨x, y, hx, hy, rfl⟩ : ∃ x y, x < 32 ∧ y < 8 ∧ b = BitVec.ofNat 8 (32 * y + x) :=
    ⟨b.toNat % 32, b.toNat / 32, Nat.mod_lt _ (by decide), by omega, (ofNat_eq_iff.mpr (by omega)).symm⟩
  have hsix : (encodeData rd (BitVec.ofNat 8 (32 * y + x))).extractLsb' 4 6 = sixAt rd (nth sixTable x) := by
    rw [encodeData_eq_append rd hx hy]
    exact BitVec.extractLsb'_append_eq_left
  have hcontrol : [Control.k28_5, .k27_7, .k29_7].find? (fun k =>
      encodeControl rd k = encodeData rd (BitVec.ofNat 8 (32 * y + x))) = none := by
    simp [encodeControl_ne_encodeData rd _ hx hy]
  simp only [decodeGroup, hsix, hcontrol, find_six rd hx, find_four rd hx hy, Option.map_some]

theorem decodeGroup_encodeControl (rd : Bool) (k : Control) : decodeGroup rd (encodeControl rd k) = some (.control k) := by
  cases rd <;> cases k <;> rfl

/-! ### Runs of code groups -/

theorem decodeRun_encodeRun_append (rd : Bool) (b : Bytes) (gs : List CodeGroup) :
    decodeRun rd ((encodeRun rd b).1 ++ gs) = b.map (fun x => some (.data x)) ++ decodeRun (encodeRun rd b).2 gs := by
  induction b generalizing rd with
  | nil => rfl
  | cons x xs ih => simp [encodeRun, decodeRun, decodeGroup_encodeData, ih]

theorem decodeRun_encodeRun (rd : Bool) (b : Bytes) :
    decodeRun rd (encodeRun rd b).1 = b.map (fun x => some (.data x)) := by
  simpa [decodeRun] using decodeRun_encodeRun_append rd b []

/-! ### Lanes of a twin frame -/

theorem closedBytes_data_append (b : Bytes) :
    closedBytes (b.map (fun x => some (.data x)) ++ [some (.control .k29_7)]) = some b := by
  induction b with
  | nil => rfl
  | cons x xs ih => simp [closedBytes, ih]

/-- The opening K27.7 tells the running disparity before it. -/
theorem opening_tells_disparity (rd : Bool) : decide (encodeControl rd .k27_7 = encodeControl true .k27_7) = rd := by
  cases rd <;> rfl

theorem opening_isK27_7 (rd : Bool) : (rd || decide (encodeControl rd .k27_7 = encodeControl false .k27_7)) = true := by
  cases rd <;> rfl

theorem receivedLane_frameLane (inv rd : Bool) (b : Bytes) :
    receivedLane inv (invertGroups inv (frameLane rd b).1) = some b := by
  have hrun := decodeRun_encodeRun_append (disparityAfter rd (encodeControl rd .k27_7)) b
    [encodeControl (encodeRun (disparityAfter rd (encodeControl rd .k27_7)) b).2 .k29_7]
  simp only [decodeRun, decodeGroup_encodeControl] at hrun
  simp only [receivedLane, invertGroups_invertGroups, frameLane, List.cons_append, List.headD_cons, opening_tells_disparity,
    opening_isK27_7, if_true, List.drop_succ_cons, List.drop_zero, hrun, closedBytes_data_append]

end Sys2Proof.Machine
end

section
/-! PROOFS. What the device writes it reads back (O14). -/

namespace Sys2Proof.Machine

/-- Settles O14: every writer of the line and of the twin link is undone by its reader. -/
theorem encodingsReadBack : Obligations.EncodingsReadBack := by
  unfold Obligations.EncodingsReadBack
  exact ⟨parseHeader_headerBytes, parseDHeader_dHeaderBytes, parseCHeader_cHeaderBytes, fun _ => parseFlit_flitBytes,
    fun k _ => parseCflit_cflitBytes k, fun r _ => decodeC_encodeC r, levelsToSymbols_symbolsToLevels,
    levelsToBytes_bytesToLevels, invertLevels_invertLevels, decodeRun_encodeRun, receivedLane_frameLane,
    fun _ q _ ht hp => frameContent_twinFrame ht q hp⟩

end Sys2Proof.Machine
end

section
/-! PROOFS. Reports of an error or an event (R328, R334, R407, R418): what they change, and that they leave the ports, the
switch, the Canvas and every table as they are. -/

namespace Sys2Proof.Machine

/-! ### The state beside the reports -/

/-- A state without its host part, its output, its health records (but for the entries found bad) and the counter of free
values: what a report leaves as it is. -/
def besideReports (s : State) : State :=
  { besideHost s with free := 0, health := { badTables := s.health.badTables } }

@[simp] theorem besideReports_updFn (hp : HostPort) (f : HostFn → HostFn) (s : State) :
    besideReports (updFn hp f s) = besideReports s := by cases hp <;> rfl

@[simp] theorem besideReports_emit (o : Output) (s : State) : besideReports (emit o s) = besideReports s := rfl

@[simp] theorem besideReports_hostCount (i n : Nat) (s : State) : besideReports (hostCount i n s) = besideReports s := rfl

@[simp] theorem besideReports_healthCount (i n : Nat) (s : State) :
    besideReports (healthCount i n s) = besideReports s := rfl

theorem besideReports_updHealth {f : Health → Health} (hf : ∀ h, (f h).badTables = h.badTables) (s : State) :
    besideReports (updHealth f s) = besideReports s := by
  simp only [besideReports, updHealth_health, hf]
  rfl

theorem besideReports_withFree {f : Nat → State → State} (hf : ∀ n t, besideReports (f n t) = besideReports t)
    (s : State) : besideReports (withFree f s) = besideReports s := hf ..

theorem besideReports_when {f : State → State} (hf : ∀ t, besideReports (f t) = besideReports t) (b : Bool) (s : State) :
    besideReports (when b f s) = besideReports s := by
  cases b
  · rfl
  · exact hf s

/-- The interrupt operations change less than a report does. -/
theorem besideReports_of_besideHost {s t : State} (h : besideHost t = besideHost s) : besideReports t = besideReports s :=
  calc besideReports t = { besideHost t with free := 0, health := { badTables := (besideHost t).health.badTables } } := rfl
    _ = besideReports s := by rw [h]; rfl

/-! ### Events and flight records -/

@[simp] theorem besideReports_notePosted (hp : HostPort) (s : State) : besideReports (notePosted hp s) = besideReports s :=
  besideReports_updFn ..

@[simp] theorem besideReports_eventTo (code : Nat) (ev : Bytes) (hp : HostPort) (s : State) :
    besideReports (eventTo code ev hp s) = besideReports s := by
  simp only [eventTo]
  split
  · rfl
  split
  · rw [besideReports_of_besideHost (besideHost_setCause ..), besideReports_hostCount]
  · rw [besideReports_of_besideHost (besideHost_releaseHeld ..), besideReports_of_besideHost (besideHost_setCause ..)]
    simp

@[simp] theorem besideReports_record (rtype code resource address : Nat) (detail : Bytes) (s : State) :
    besideReports (record rtype code resource address detail s) = besideReports s := by
  simp only [record, putRecord]
  split <;> exact besideReports_updHealth (fun _ => rfl) s

@[simp] theorem besideReports_raise (code source : Nat) (data : Bytes) (s : State) :
    besideReports (raise code source data s) = besideReports s := by
  simp [raise, raiseWith]

@[simp] theorem besideReports_raisePinned (loop source : Nat) (upper : Bool) (s : State) :
    besideReports (raisePinned loop source upper s) = besideReports s := besideReports_raise ..

/-! ### Memory errors -/

@[simp] theorem besideReports_queueTest (r : TestRes) (s : State) : besideReports (queueTest r s) = besideReports s := by
  simp only [queueTest]
  split
  · rfl
  split
  · simp
  · exact besideReports_updHealth (fun _ => rfl) s

@[simp] theorem besideReports_memEvent (mem kind : Nat) (s : State) :
    besideReports (memEvent mem kind s) = besideReports s := by
  unfold memEvent
  extract_lets n unc due now
  split
  · exact besideReports_updHealth (fun _ => rfl) s
  · rw [besideReports_raise]
    exact besideReports_updHealth (fun _ => rfl) s

@[simp] theorem besideReports_memError (mem kind : Nat) (row : TestRes) (resource address : Nat) (detail : Bytes)
    (s : State) : besideReports (memError mem kind row resource address detail s) = besideReports s := by
  simp only [memError]
  split <;> simp

@[simp] theorem besideReports_pathError (mem : Nat) (unc : Bool) (resource address : Nat) (detail : Bytes) (s : State) :
    besideReports (pathError mem unc resource address detail s) = besideReports s := by
  simp [pathError]

@[simp] theorem besideReports_sramRead (mem : Nat) (e : WordError) (s : State) :
    besideReports (sramRead mem e s) = besideReports s := by
  simp only [sramRead]
  split
  · rfl
  · refine besideReports_withFree (fun n t => ?_) s
    split <;> simp

@[simp] theorem besideReports_markSite (x : ScrubSite) (s : State) : besideReports (markSite x s) = besideReports s :=
  besideReports_updHealth (fun _ => rfl) s

@[simp] theorem besideReports_readCell (id n : Nat) (e : WordError) (s : State) :
    besideReports (readCell id n e s) = besideReports s := by
  rw [readCell, besideReports_when (besideReports_markSite _), besideReports_sramRead]

@[simp] theorem besideReports_readHeader (id : Nat) (cell copy : WordError) (s : State) :
    besideReports (readHeader id cell copy s) = besideReports s := by
  rw [readHeader, besideReports_when (besideReports_sramRead 0 copy), besideReports_readCell]

end Sys2Proof.Machine
end

section
/-! PROOFS. The shared buffer (R163, R189): packets, queues and cells withheld, and what each operation on them leaves as it
is. -/

namespace Sys2Proof.Machine

/-! ### Tables and counters -/

theorem tget_map {α β : Type} (f : α → β) (t : Table α) (i : Nat) :
    tget (t.map (fun e => (e.1, f e.2))) i = (tget t i).map f := by
  induction t with
  | nil => rfl
  | cons e t ih =>
    obtain ⟨k, v⟩ := e
    simp only [List.map_cons, tget_cons, ih]
    split <;> rfl

theorem tget_tmod_self {α : Type} (t : Table α) (i : Nat) (f : α → α) : tget (tmod t i f) i = (tget t i).map f := by
  induction t with
  | nil => rfl
  | cons e t ih =>
    obtain ⟨k, v⟩ := e
    simp only [tmod, List.map_cons] at ih ⊢
    by_cases hk : k = i <;> simp [tget_cons, hk, ih]

theorem tget_tmod_ne {α : Type} (t : Table α) {i j : Nat} (f : α → α) (h : i ≠ j) : tget (tmod t i f) j = tget t j := by
  induction t with
  | nil => rfl
  | cons e t ih =>
    obtain ⟨k, v⟩ := e
    simp only [tmod, List.map_cons] at ih ⊢
    by_cases hk : k = i
    · subst hk; simp [tget_cons, h, ih]
    · simp [tget_cons, hk, ih]

theorem mem_of_tget {α : Type} {t : Table α} {i : Nat} {v : α} (h : tget t i = some v) : (i, v) ∈ t := by
  induction t with
  | nil => simp [tget] at h
  | cons e t ih =>
    obtain ⟨k, w⟩ := e
    rw [tget_cons] at h
    split at h
    next hk => rw [hk, Option.some.inj h]; exact List.mem_cons_self
    next => exact List.mem_cons_of_mem _ (ih h)

theorem bump_zero (i : Nat) (l : List W64) : bump i 0 l = l := by
  simp only [bump, BitVec.add_zero]
  exact List.modify_id i l

theorem bump_bump (i m n : Nat) (l : List W64) : bump i m (bump i n l) = bump i (n + m) l := by
  simp only [bump, List.modify_modify_eq]
  congr 1
  funext x
  simp [BitVec.ofNat_add, BitVec.add_assoc]

/-- What every single change of a fold preserves, the fold preserves. -/
theorem forEach_preserves {α : Type} {P : State → Prop} {f : α → State → State} (h : ∀ a t, P t → P (f a t)) (l : List α)
    {s : State} (hs : P s) : P (forEach l f s) := by
  induction l generalizing s with
  | nil => exact hs
  | cons a l ih => exact ih (h a s hs)

theorem forEach_append {α : Type} (l m : List α) (f : α → State → State) (s : State) :
    forEach (l ++ m) f s = forEach m f (forEach l f s) := List.foldl_append

/-! ### Packets -/

theorem packetOf_updPacket (id : Nat) (f : Stored → Stored) (s : State) :
    packetOf (updPacket id f s) id = (packetOf s id).map f := tget_tmod_self ..

theorem packetOf_updPacket_ne {id j : Nat} (h : id ≠ j) (f : Stored → Stored) (s : State) :
    packetOf (updPacket id f s) j = packetOf s j := tget_tmod_ne _ f h

@[simp] theorem packetOf_swCount (i n id : Nat) (s : State) : packetOf (swCount i n s) id = packetOf s id := rfl

/-! ### Queues -/

theorem queueKey_ne {p q v w : Nat} (hv : v < 8) (hw : w < 8) (h : p ≠ q) : queueKey p v ≠ queueKey q w := by
  unfold queueKey; omega

theorem queueOf_setQueue (p v : Nat) (l : List Nat) (s : State) : queueOf (setQueue p v l s) p v = l := by
  cases l <;> simp [queueOf, setQueue, tgetD, tget_tdel_self, tget_tset_self]

theorem queueOf_setQueue_ne {p q v w : Nat} (h : queueKey p v ≠ queueKey q w) (l : List Nat) (s : State) :
    queueOf (setQueue p v l s) q w = queueOf s q w := by
  cases l <;> simp [queueOf, setQueue, tgetD, tget_tdel_ne _ h, tget_tset_ne _ _ h]

theorem queueOf_pushQueue (p v id : Nat) (s : State) : queueOf (pushQueue p v id s) p v = queueOf s p v ++ [id] :=
  queueOf_setQueue ..

theorem queueOf_dropFromQueue_ne {p q v w : Nat} (h : queueKey p v ≠ queueKey q w) (id : Nat) (s : State) :
    queueOf (dropFromQueue p v id s) q w = queueOf s q w := queueOf_setQueue_ne h ..

/-! ### Packets that leave the buffer -/

/-- A state without its ports, its stored packets and its queues: what taking a packet out of the buffer leaves as it is. -/
def besidePackets (s : State) : State := { s with ports := [], switch := { s.switch with packets := [], queues := [] } }

@[simp] theorem besidePackets_updPort (p : Nat) (f : Port → Port) (s : State) :
    besidePackets (updPort p f s) = besidePackets s := rfl

@[simp] theorem besidePackets_discardRest (p v : Nat) (tail : Bool) (s : State) :
    besidePackets (discardRest p v tail s) = besidePackets s := rfl

@[simp] theorem besidePackets_releaseCredit (p v n : Nat) (s : State) :
    besidePackets (releaseCredit p v n s) = besidePackets s := by
  simp only [releaseCredit]; split <;> rfl

@[simp] theorem besidePackets_updPacket (id : Nat) (f : Stored → Stored) (s : State) :
    besidePackets (updPacket id f s) = besidePackets s := rfl

@[simp] theorem besidePackets_releaseAll (id : Nat) (s : State) : besidePackets (releaseAll id s) = besidePackets s := by
  simp only [releaseAll]; (repeat' split) <;> simp

@[simp] theorem besidePackets_dropFromQueue (p v id : Nat) (s : State) :
    besidePackets (dropFromQueue p v id s) = besidePackets s := rfl

@[simp] theorem besidePackets_delete (id : Nat) (s : State) :
    besidePackets (updSwitch (fun w => { w with packets := tdel w.packets id }) s) = besidePackets s := rfl

@[simp] theorem besidePackets_updPorts (l : List Copy) (f : Copy → Port → Port) (s : State) :
    besidePackets (forEach l (fun c t => updPort c.port (f c) t) s) = besidePackets s :=
  forEach_keeps besidePackets (f := fun c t => updPort c.port (f c) t) (fun _ _ => rfl) l s

@[simp] theorem besidePackets_dropFromQueues (l : List Copy) (id : Nat) (s : State) :
    besidePackets (forEach l (fun c => dropFromQueue c.port c.vc id) s) = besidePackets s :=
  forEach_keeps besidePackets (f := fun c => dropFromQueue c.port c.vc id) (fun _ _ => rfl) l s

theorem besidePackets_dropPacket (id : Nat) (tail : Bool) (s : State) :
    besidePackets (dropPacket id tail s) = besidePackets s := by
  unfold dropPacket
  split
  next => rfl
  next =>
    dsimp only
    split
    next => simp
    next => split <;> simp

@[simp] theorem dropPacket_ctr (id : Nat) (tail : Bool) (s : State) : (dropPacket id tail s).switch.ctr = s.switch.ctr :=
  congrArg (fun t => t.switch.ctr) (besidePackets_dropPacket id tail s)
@[simp] theorem dropPacket_turn (id : Nat) (tail : Bool) (s : State) : (dropPacket id tail s).switch.turn = s.switch.turn :=
  congrArg (fun t => t.switch.turn) (besidePackets_dropPacket id tail s)
@[simp] theorem dropPacket_preAdmit (id : Nat) (tail : Bool) (s : State) :
    (dropPacket id tail s).switch.preAdmit = s.switch.preAdmit :=
  congrArg (fun t => t.switch.preAdmit) (besidePackets_dropPacket id tail s)
@[simp] theorem dropPacket_sketch (id : Nat) (tail : Bool) (s : State) : (dropPacket id tail s).sketch = s.sketch :=
  (congrArg State.sketch (besidePackets_dropPacket id tail s) :)
@[simp] theorem dropPacket_canvas (id : Nat) (tail : Bool) (s : State) : (dropPacket id tail s).canvas = s.canvas :=
  (congrArg State.canvas (besidePackets_dropPacket id tail s) :)
@[simp] theorem dropPacket_streams (id : Nat) (tail : Bool) (s : State) : (dropPacket id tail s).streams = s.streams :=
  (congrArg State.streams (besidePackets_dropPacket id tail s) :)

/-- A dropped packet is no longer in the buffer. -/
@[simp] theorem packetOf_dropPacket (id : Nat) (tail : Bool) (s : State) : packetOf (dropPacket id tail s) id = none := by
  unfold dropPacket
  split
  next h => exact h
  next =>
    dsimp only
    (repeat' split) <;> exact tget_tdel_self ..

/-! ### Cells withheld at a threshold -/

/-- A packet without its count of withheld cells. -/
def clearWithheld (x : Stored) : Stored := { x with withheld := 0 }

/-- A state without the counts of withheld cells: what counting them leaves as it is. -/
def besideWithheld (s : State) : State :=
  updSwitch (fun w => { w with packets := w.packets.map (fun e => (e.1, clearWithheld e.2)), ctr := [] }) s

theorem besideWithheld_updWithheld (id n : Nat) (s : State) :
    besideWithheld (updPacket id (fun x => { x with withheld := n }) s) = besideWithheld s := by
  have hmap : (tmod s.switch.packets id (fun x => { x with withheld := n })).map
      (fun e => (e.1, clearWithheld e.2)) = s.switch.packets.map (fun e => (e.1, clearWithheld e.2)) := by
    rw [tmod, List.map_map]
    refine List.map_congr_left fun e _ => ?_
    simp only [Function.comp_apply]
    split <;> rfl
  simp only [besideWithheld, updPacket, updSwitch, hmap]

@[simp] theorem besideWithheld_swCount (i n : Nat) (s : State) : besideWithheld (swCount i n s) = besideWithheld s := rfl

/-- What `noteWithheld` can do: nothing, or count once the cells of a packet that its queue keeps back (R189). -/
theorem noteWithheld_cases (id : Nat) (s : State) : noteWithheld id s = s ∨
    ∃ st n, packetOf s id = some st ∧
      noteWithheld id s = swCount 6 n (updPacket id (fun x => { x with withheld := st.cells }) s) := by
  unfold noteWithheld
  split
  next => exact .inl rfl
  next st hst =>
    split
    next => exact .inl rfl
    next =>
      dsimp only
      split
      · exact .inr ⟨st, _, hst, rfl⟩
      · exact .inl rfl

@[simp] theorem besideWithheld_noteWithheld (id : Nat) (s : State) :
    besideWithheld (noteWithheld id s) = besideWithheld s := by
  rcases noteWithheld_cases id s with h | ⟨st, n, _, h⟩
  · rw [h]
  · rw [h, besideWithheld_swCount, besideWithheld_updWithheld]

theorem noteWithheld_ctr (id : Nat) (s : State) : ∃ n, (noteWithheld id s).switch.ctr = bump 6 n s.switch.ctr := by
  rcases noteWithheld_cases id s with h | ⟨st, n, _, h⟩
  · exact ⟨0, by rw [h, bump_zero]⟩
  · exact ⟨n, by rw [h]; rfl⟩

@[simp] theorem noteWithheld_ports (id : Nat) (s : State) : (noteWithheld id s).ports = s.ports :=
  (congrArg State.ports (besideWithheld_noteWithheld id s) :)

@[simp] theorem queueOf_noteWithheld (id p v : Nat) (s : State) : queueOf (noteWithheld id s) p v = queueOf s p v :=
  (congrArg (fun t => queueOf t p v) (besideWithheld_noteWithheld id s) :)

@[simp] theorem holdOf_noteWithheld (id : Nat) (f : Flow) (s : State) : holdOf (noteWithheld id s) f = holdOf s f :=
  (congrArg (fun t => holdOf t f) (besideWithheld_noteWithheld id s) :)

theorem packetOf_besideWithheld (s : State) (id : Nat) :
    packetOf (besideWithheld s) id = (packetOf s id).map clearWithheld :=
  tget_map clearWithheld s.switch.packets id

/-- A packet is the same, but for its withheld cells, in states that are the same but for withheld cells. -/
theorem packetOf_of_besideWithheld {s t : State} (h : besideWithheld t = besideWithheld s) {id : Nat} {st : Stored}
    (hst : packetOf s id = some st) :
    ∃ u, packetOf t id = some u ∧ clearWithheld u = clearWithheld st := by
  have hid := congrArg (fun r => packetOf r id) h
  simp only [packetOf_besideWithheld, hst, Option.map_some, Option.map_eq_some_iff] at hid
  exact hid

theorem belowThreshold_besideWithheld (s : State) (p v : Nat) :
    belowThreshold (besideWithheld s) p v = belowThreshold s p v := by
  have hlen : queueLen (besideWithheld s) p v = queueLen s p v := List.foldl_map
  have hocc : occupancy (besideWithheld s) = occupancy s := List.foldl_map
  simp only [belowThreshold, threshold, freeCells, hlen, hocc]
  rfl

theorem belowThreshold_of_besideWithheld {s t : State} (h : besideWithheld t = besideWithheld s) (p v : Nat) :
    belowThreshold t p v = belowThreshold s p v := by
  rw [← belowThreshold_besideWithheld t, h, belowThreshold_besideWithheld]

/-- Every cell of the packet has its credit released or is counted in `threshold_withholds`. -/
def WithheldCounted (id : Nat) (s : State) : Prop := ∃ u, packetOf s id = some u ∧ u.cells ≤ max u.released u.withheld

theorem withheldCounted_noteWithheld {id : Nat} {s : State} (h : WithheldCounted id s) (j : Nat) :
    WithheldCounted id (noteWithheld j s) := by
  obtain ⟨u, hu, hle⟩ := h
  rcases noteWithheld_cases j s with hn | ⟨st, n, hst, hn⟩
  · exact ⟨u, by rw [hn, hu], hle⟩
  by_cases hj : j = id
  · subst hj
    obtain rfl : u = st := Option.some.inj (hu.symm.trans hst)
    refine ⟨{ u with withheld := u.cells }, ?_, Nat.le_max_right ..⟩
    rw [hn, packetOf_swCount, packetOf_updPacket, hu, Option.map_some]
  · exact ⟨u, by rw [hn, packetOf_swCount, packetOf_updPacket_ne hj, hu], hle⟩

/-- The queue of a packet keeps its cells' credits: afterwards each of them is counted (R189). -/
theorem noteWithheld_counts {s : State} {id p : Nat} {st : Stored} (hst : packetOf s id = some st)
    (hin : st.ingress = some p) (hwash : (portOf s p).washing = false) (hlog : (portOf s p).backlog.length ≤ 32)
    (hq : st.stage = .queued) (hfull : st.copies.all (fun c => belowThreshold s c.port c.vc) = false) :
    WithheldCounted id (noteWithheld id s) := by
  by_cases hc : max st.released st.withheld < st.cells
  · refine ⟨{ st with withheld := st.cells }, ?_, Nat.le_max_right ..⟩
    have hn : noteWithheld id s = swCount 6 (st.cells - max st.released st.withheld)
        (updPacket id (fun x => { x with withheld := st.cells }) s) := by
      simp [noteWithheld, hst, hin, hwash, hlog, hq, hfull, hc]
    rw [hn, packetOf_swCount, packetOf_updPacket, hst, Option.map_some]
  · exact withheldCounted_noteWithheld ⟨st, hst, Nat.le_of_not_lt hc⟩ id

end Sys2Proof.Machine
end

section
/-! PROOFS. Lookups (R168, R172, R174, R198) and the deferral of credits that ends with them (R189). -/

namespace Sys2Proof.Machine

/-! ### The backlog has come down to 32 packets -/

theorem deferralOver_of_ne {s : State} {p : Nat} (h : (portOf s p).backlog.length ≠ 32) : deferralOver p s = s := if_neg h

/-- What `deferralOver` does for one stored packet. -/
def withheldAt (p : Nat) (e : Nat × Stored) (s : State) : State :=
  if e.2.ingress = some p then noteWithheld e.1 s else s

theorem deferralOver_eq {s : State} {p : Nat} (h : (portOf s p).backlog.length = 32) :
    deferralOver p s = forEach s.switch.packets (withheldAt p) s := if_pos h

@[simp] theorem besideWithheld_withheldAt (p : Nat) (e : Nat × Stored) (s : State) :
    besideWithheld (withheldAt p e s) = besideWithheld s := by
  unfold withheldAt; split <;> simp

theorem besideWithheld_deferralOver (p : Nat) (s : State) : besideWithheld (deferralOver p s) = besideWithheld s := by
  by_cases h : (portOf s p).backlog.length = 32
  · rw [deferralOver_eq h, forEach_keeps besideWithheld (besideWithheld_withheldAt p)]
  · rw [deferralOver_of_ne h]

theorem withheldAt_ctr (p : Nat) (e : Nat × Stored) (s : State) :
    ∃ n, (withheldAt p e s).switch.ctr = bump 6 n s.switch.ctr := by
  unfold withheldAt
  split
  · exact noteWithheld_ctr e.1 s
  · exact ⟨0, (bump_zero ..).symm⟩

theorem deferralOver_ctr (p : Nat) (s : State) : ∃ n, (deferralOver p s).switch.ctr = bump 6 n s.switch.ctr := by
  by_cases h : (portOf s p).backlog.length = 32
  · rw [deferralOver_eq h]
    refine forEach_preserves (P := fun t => ∃ n, t.switch.ctr = bump 6 n s.switch.ctr) ?_ _ ⟨0, (bump_zero ..).symm⟩
    rintro e t ⟨n, hn⟩
    obtain ⟨m, hm⟩ := withheldAt_ctr p e t
    exact ⟨n + m, by rw [hm, hn, bump_bump]⟩
  · exact ⟨0, by rw [deferralOver_of_ne h, bump_zero]⟩

theorem withheldCounted_withheldAt {id : Nat} (p : Nat) (e : Nat × Stored) {s : State} (h : WithheldCounted id s) :
    WithheldCounted id (withheldAt p e s) := by
  unfold withheldAt
  split
  · exact withheldCounted_noteWithheld h e.1
  · exact h

/-- The fold reaches the packet in a state that differs in withheld cells alone, so its queue still keeps its credits there;
once counted, its cells stay counted. -/
theorem deferralOver_counts {s : State} {id p : Nat} {st : Stored} (hlog : (portOf s p).backlog.length = 32)
    (hst : packetOf s id = some st) (hin : st.ingress = some p) (hwash : (portOf s p).washing = false)
    (hq : st.stage = .queued) (hfull : st.copies.all (fun c => belowThreshold s c.port c.vc) = false) :
    WithheldCounted id (deferralOver p s) := by
  obtain ⟨before, after, hsplit⟩ := List.append_of_mem (mem_of_tget hst)
  rw [deferralOver_eq hlog, hsplit, forEach_append, forEach_cons]
  refine forEach_preserves (fun e t => withheldCounted_withheldAt p e) after ?_
  rw [withheldAt, if_pos hin]
  have hsame : besideWithheld (forEach before (withheldAt p) s) = besideWithheld s :=
    forEach_keeps besideWithheld (besideWithheld_withheldAt p) before s
  generalize forEach before (withheldAt p) s = t at hsame ⊢
  have hport : portOf t p = portOf s p := (congrArg (fun r => portOf r p) hsame :)
  obtain ⟨u, hu, hclear⟩ := packetOf_of_besideWithheld hsame hst
  have hcopies : u.copies = st.copies := (congrArg Stored.copies hclear :)
  refine noteWithheld_counts hu ?_ (hport ▸ hwash) (Nat.le_of_eq (hport ▸ hlog)) ?_ ?_
  · exact (congrArg Stored.ingress hclear :).trans hin
  · exact (congrArg Stored.stage hclear :).trans hq
  · simpa only [hcopies, belowThreshold_of_besideWithheld hsame] using hfull

/-! ### What a lookup reads -/

@[simp] theorem readHeader_switch (id : Nat) (cell copy : WordError) (s : State) :
    (readHeader id cell copy s).switch = s.switch :=
  (congrArg State.switch (besideReports_readHeader id cell copy s) :)
@[simp] theorem readHeader_sketch (id : Nat) (cell copy : WordError) (s : State) :
    (readHeader id cell copy s).sketch = s.sketch :=
  (congrArg State.sketch (besideReports_readHeader id cell copy s) :)
@[simp] theorem readHeader_canvas (id : Nat) (cell copy : WordError) (s : State) :
    (readHeader id cell copy s).canvas = s.canvas :=
  (congrArg State.canvas (besideReports_readHeader id cell copy s) :)
@[simp] theorem readHeader_streams (id : Nat) (cell copy : WordError) (s : State) :
    (readHeader id cell copy s).streams = s.streams :=
  (congrArg State.streams (besideReports_readHeader id cell copy s) :)

@[simp] theorem packetOf_readHeader (i : Nat) (cell copy : WordError) (s : State) (id : Nat) :
    packetOf (readHeader i cell copy s) id = packetOf s id :=
  (congrArg (fun t => packetOf t id) (besideReports_readHeader i cell copy s) :)
@[simp] theorem portOf_readHeader (i : Nat) (cell copy : WordError) (s : State) (p : Nat) :
    portOf (readHeader i cell copy s) p = portOf s p :=
  (congrArg (fun t => portOf t p) (besideReports_readHeader i cell copy s) :)
@[simp] theorem fateOf_readHeader (id : Nat) (cell copy : WordError) (s : State) (st : Stored) :
    fateOf (readHeader id cell copy s) st = fateOf s st :=
  (congrArg (fun t => fateOf t st) (besideReports_readHeader id cell copy s) :)
@[simp] theorem routeOf_readHeader (id : Nat) (cell copy : WordError) (s : State) (dst : W16) :
    routeOf (readHeader id cell copy s) dst = routeOf s dst :=
  (congrArg (fun t => routeOf t dst) (besideReports_readHeader id cell copy s) :)

/-! ### The fates of a packet -/

section
variable {p id : Nat} {s : State} {st : Stored} {x y : WordError} (hst : packetOf s id = some st)
include hst

theorem takeLookup_lost (hl : headerLost (cellWord s id 0 x) y = true) :
    takeLookup p id x y s = discardCounted id 22 (readHeader id (cellWord s id 0 x) y s) := by
  simp [takeLookup, hst, hl]

theorem takeLookup_terminate (hl : ¬ headerLost (cellWord s id 0 x) y = true) (hf : fateOf s st = .terminate) :
    takeLookup p id x y s =
      updPacket id (fun x => { x with stage := .terminated }) (readHeader id (cellWord s id 0 x) y s) := by
  simp [takeLookup, hst, hl, hf]

theorem takeLookup_drop (hl : ¬ headerLost (cellWord s id 0 x) y = true) (hf : fateOf s st = .drop) :
    takeLookup p id x y s = updSwitch (fun w => { w with preAdmit := w.preAdmit + 1 })
      (dropPacket id false (readHeader id (cellWord s id 0 x) y s)) := by
  simp [takeLookup, hst, hl, hf]

theorem takeLookup_forward (hl : ¬ headerLost (cellWord s id 0 x) y = true) (hf : fateOf s st = .forward)
    (hr : routeValid (routeOf s st.hdr.dst) = true) :
    takeLookup p id x y s = routePacket id (portOf s p).rot
      (if adaptive st.hdr st.vcIn then
        updPort p (fun q => { q with rot := q.rot + 1 }) (readHeader id (cellWord s id 0 x) y s)
      else readHeader id (cellWord s id 0 x) y s) := by
  simp [takeLookup, hst, hl, hf, hr, when]

theorem takeLookup_noRoute (hl : ¬ headerLost (cellWord s id 0 x) y = true) (hf : fateOf s st = .forward)
    (hr : routeValid (routeOf s st.hdr.dst) = false) :
    takeLookup p id x y s = noRoute st.hdr.dst st.ingress
      (dropPacket id false (readHeader id (cellWord s id 0 x) y s)) := by
  simp [takeLookup, hst, hl, hf, hr, when, routePacket]

end

/-! ### A packet without a route -/

/-- A missing route is counted; its event notes the time and reports (R174). -/
theorem besideReports_noRoute (dst : W16) (ingress : Option Nat) (s : State) :
    ∃ a, besideReports (noRoute dst ingress s) =
      besideReports (updSwitch (fun w => { w with noRouteAt := a }) (swCount 0 1 s)) := by
  unfold noRoute
  extract_lets t due
  split
  · exact ⟨_, besideReports_raise ..⟩
  · exact ⟨s.switch.noRouteAt, rfl⟩

@[simp] theorem noRoute_ctr (dst : W16) (ingress : Option Nat) (s : State) :
    (noRoute dst ingress s).switch.ctr = bump 0 1 s.switch.ctr := by
  obtain ⟨a, h⟩ := besideReports_noRoute dst ingress s
  exact (congrArg (fun t => t.switch.ctr) h :)
@[simp] theorem noRoute_turn (dst : W16) (ingress : Option Nat) (s : State) :
    (noRoute dst ingress s).switch.turn = s.switch.turn := by
  obtain ⟨a, h⟩ := besideReports_noRoute dst ingress s
  exact (congrArg (fun t => t.switch.turn) h :)
@[simp] theorem noRoute_canvas (dst : W16) (ingress : Option Nat) (s : State) :
    (noRoute dst ingress s).canvas = s.canvas := by
  obtain ⟨a, h⟩ := besideReports_noRoute dst ingress s
  exact (congrArg State.canvas h :)
@[simp] theorem noRoute_streams (dst : W16) (ingress : Option Nat) (s : State) :
    (noRoute dst ingress s).streams = s.streams := by
  obtain ⟨a, h⟩ := besideReports_noRoute dst ingress s
  exact (congrArg State.streams h :)
@[simp] theorem packetOf_noRoute (dst : W16) (ingress : Option Nat) (s : State) (id : Nat) :
    packetOf (noRoute dst ingress s) id = packetOf s id := by
  obtain ⟨a, h⟩ := besideReports_noRoute dst ingress s
  exact (congrArg (fun t => packetOf t id) h :)

/-! ### Turns -/

/-- Port `p` has its turn: the group's rotation goes on to the next port, and `rest` is left of the backlog (R168). -/
def takeTurn (p : Nat) (rest : List Nat) (s : State) : State :=
  updPort p (fun q => { q with backlog := rest })
    (updSwitch (fun w => { w with turn := w.turn.set (p / 8) ((p % 8 + 1) % 8) }) s)

theorem rot_takeTurn (p : Nat) (rest : List Nat) (s : State) : (portOf (takeTurn p rest s) p).rot = (portOf s p).rot := by
  simp only [takeTurn, portOf, updPort_ports, updSwitch_ports, List.getD_eq_getElem?_getD, List.getElem?_modify, if_pos]
  cases s.ports[p]? <;> rfl

theorem exec_lookup_outOfTurn {s : State} {p : Nat} (hp : p < 96) (h : nextLookup s (p / 8) ≠ some p) (x y : WordError) :
    exec (.lookup p x y) s = .next s := by
  simp [exec, execLookup, onUnit, portOk, hp, lookupInTurn, h]

theorem exec_lookup_inTurn {s : State} {p id : Nat} {rest : List Nat} (hp : p < 96) (h : nextLookup s (p / 8) = some p)
    (hb : (portOf s p).backlog = id :: rest) (x y : WordError) :
    exec (.lookup p x y) s = .next (deferralOver p (takeLookup p id x y (takeTurn p rest s))) := by
  have hb' : ∀ f, (portOf (updSwitch f s) p).backlog = id :: rest := fun _ => hb
  simp [exec, execLookup, onUnit, portOk, hp, lookupInTurn, h, lookup, hb', takeTurn]

theorem nextLookup_some {s : State} {g p : Nat} (h : nextLookup s g = some p) : p / 8 = g ∧ (portOf s p).backlog ≠ [] := by
  have hwaits := List.find?_some h
  obtain ⟨i, _, hi⟩ := List.mem_map.mp (List.mem_of_find?_eq_some h)
  exact ⟨by omega, by simpa using hwaits⟩

end Sys2Proof.Machine
end

section
/-! PROOFS. Depth samples and route weights (R173). -/

namespace Sys2Proof.Machine

/-! ### Depth samples -/

theorem portOf_sampleDepths {s : State} {p : Nat} (hp : p < s.ports.length) :
    portOf (sampleDepths s) p = { portOf s p with
      depthSum := (portOf s p).depthSum + losslessDepth s p, depthSamples := (portOf s p).depthSamples + 1 } := by
  simp [portOf, sampleDepths, hp]

/-! ### A weight moves -/

/-- The weight `w` moved by `d` and kept between the policy's bounds. -/
def movedWeight (s : State) (w : Nat) (d : Int) : Nat := (clampInt s.policy.rwLo s.policy.rwHi (w + d)).toNat

/-- Beside the weight itself a move changes nothing but reports. -/
theorem besideReports_moveWeight (p : Nat) (d : Int) (s : State) :
    besideReports (moveWeight p d s) =
      besideReports (updPort p (fun q => { q with rw := movedWeight s (portOf s p).rw d }) s) := by
  simp only [moveWeight]
  (repeat' split)
  · exact besideReports_raisePinned ..
  · exact besideReports_raisePinned ..
  · rfl

@[simp] theorem moveWeight_sketch (p : Nat) (d : Int) (s : State) : (moveWeight p d s).sketch = s.sketch :=
  (congrArg State.sketch (besideReports_moveWeight p d s) :)
@[simp] theorem moveWeight_policy (p : Nat) (d : Int) (s : State) : (moveWeight p d s).policy = s.policy :=
  (congrArg State.policy (besideReports_moveWeight p d s) :)
theorem moveWeight_ports (p : Nat) (d : Int) (s : State) :
    (moveWeight p d s).ports = s.ports.modify p (fun q => { q with rw := movedWeight s (portOf s p).rw d }) :=
  (congrArg State.ports (besideReports_moveWeight p d s) :)
@[simp] theorem moveWeight_length (p : Nat) (d : Int) (s : State) : (moveWeight p d s).ports.length = s.ports.length := by
  simp [moveWeight_ports]

theorem portOf_moveWeight {s : State} {p : Nat} (hp : p < s.ports.length) (d : Int) :
    portOf (moveWeight p d s) p = { portOf s p with rw := movedWeight s (portOf s p).rw d } :=
  (congrArg (fun t => portOf t p) (besideReports_moveWeight p d s)).trans (portOf_updPort _ s hp)

theorem portOf_moveWeight_ne {p q : Nat} (h : p ≠ q) (d : Int) (s : State) :
    portOf (moveWeight p d s) q = portOf s q :=
  (congrArg (fun t => portOf t q) (besideReports_moveWeight p d s)).trans (portOf_updPort_ne h _ s)

/-! ### The weights of one role -/

theorem weightChange_bounds (a b : Rat) : -1 ≤ weightChange a b ∧ weightChange a b ≤ 1 := by
  unfold weightChange
  (repeat' split) <;> decide

/-- Port `p` of `t` is that of `s`, or that with its weight moved by at most one. -/
def WeightMoved (s t : State) (p : Nat) : Prop :=
  ∃ d : Int, -1 ≤ d ∧ d ≤ 1 ∧ portOf t p = { portOf s p with rw := movedWeight s (portOf s p).rw d }

theorem movedWeight_congr {s t : State} (h : t.policy = s.policy) : movedWeight t = movedWeight s := by
  unfold movedWeight; rw [h]

theorem portOf_forEach_moveWeight_of_notMem {ps : List Nat} {q : Nat} (hq : q ∉ ps) (change : Nat → Int) (s : State) :
    portOf (forEach (ps.map (fun p => (p, change p))) (fun e => moveWeight e.1 e.2) s) q = portOf s q := by
  induction ps generalizing s with
  | nil => rfl
  | cons p ps ih =>
    obtain ⟨hne, hps⟩ : q ≠ p ∧ q ∉ ps := by simpa using hq
    rw [List.map_cons, forEach_cons, ih hps, portOf_moveWeight_ne hne.symm]

/-- Each port of a list without repetitions moves once. -/
theorem portOf_forEach_moveWeight_of_mem {ps : List Nat} {q : Nat} (hd : ps.Nodup) (hq : q ∈ ps) (change : Nat → Int)
    {s : State} (hlen : q < s.ports.length) :
    portOf (forEach (ps.map (fun p => (p, change p))) (fun e => moveWeight e.1 e.2) s) q =
      { portOf s q with rw := movedWeight s (portOf s q).rw (change q) } := by
  induction ps generalizing s with
  | nil => cases hq
  | cons p ps ih =>
    obtain ⟨hp, hd⟩ := List.nodup_cons.mp hd
    rw [List.map_cons, forEach_cons]
    by_cases hpq : p = q
    · subst hpq
      rw [portOf_forEach_moveWeight_of_notMem hp, portOf_moveWeight hlen]
    · have hmem : q ∈ ps := (List.mem_cons.mp hq).resolve_left (Ne.symm hpq)
      rw [ih hd hmem (by simpa using hlen), portOf_moveWeight_ne hpq, movedWeight_congr (moveWeight_policy ..)]

/-- Only an eligible port of the role moves its weight, and by at most one. -/
theorem portOf_updateRole {s : State} {role p : Nat} (hp : p < s.ports.length) :
    portOf (updateRole role s) p = portOf s p ∨ roleIs s p role = true ∧ WeightMoved s (updateRole role s) p := by
  simp only [updateRole]
  by_cases hmem : p ∈ weighed s role
  · right
    obtain ⟨_, hrole⟩ := List.mem_filter.mp hmem
    obtain ⟨hrole, _⟩ := (Bool.and_eq_true ..).mp hrole
    obtain ⟨hlo, hhi⟩ := weightChange_bounds (meanDepth (portOf s p))
      (meanOf ((weighed s role).map (fun p => meanDepth (portOf s p))))
    exact ⟨hrole, _, hlo, hhi, portOf_forEach_moveWeight_of_mem (List.nodup_range.filter _) hmem _ hp⟩
  · exact .inl (portOf_forEach_moveWeight_of_notMem hmem _ s)

theorem updateRole_policy (role : Nat) (s : State) : (updateRole role s).policy = s.policy :=
  forEach_keeps State.policy (fun _ _ => moveWeight_policy ..) _ s
theorem updateRole_sketch (role : Nat) (s : State) : (updateRole role s).sketch = s.sketch :=
  forEach_keeps State.sketch (fun _ _ => moveWeight_sketch ..) _ s
theorem updateRole_length (role : Nat) (s : State) : (updateRole role s).ports.length = s.ports.length :=
  forEach_keeps (fun t => t.ports.length) (fun _ _ => moveWeight_length ..) _ s

theorem roleIs_updateRole (role : Nat) (s : State) (p r : Nat) : roleIs (updateRole role s) p r = roleIs s p r := by
  unfold roleIs roleOf; rw [updateRole_sketch]

/-! ### Both roles -/

/-- A port has one role, so at most one of the two passes moves its weight. -/
theorem portOf_updateRoles {s : State} {p : Nat} (hp : p < s.ports.length) :
    portOf (updateRole 3 (updateRole 2 s)) p = portOf s p ∨
      (roleIs s p 2 || roleIs s p 3) = true ∧ WeightMoved s (updateRole 3 (updateRole 2 s)) p := by
  have hsecond := portOf_updateRole (s := updateRole 2 s) (role := 3) (p := p) (by rwa [updateRole_length])
  rw [roleIs_updateRole] at hsecond
  rcases portOf_updateRole (role := 2) hp with h2 | ⟨hr2, d, hlo, hhi, h2⟩
  · rcases hsecond with h3 | ⟨hr3, d, hlo, hhi, h3⟩
    · exact .inl (h3.trans h2)
    · refine .inr ⟨by simp [hr3], d, hlo, hhi, ?_⟩
      rw [h3, h2, movedWeight_congr (updateRole_policy 2 s)]
  · have hr3 : ¬ roleIs s p 3 = true := by
      simp only [roleIs, decide_eq_true_eq] at hr2 ⊢
      omega
    rcases hsecond with h3 | ⟨hr, _⟩
    · exact .inr ⟨by simp [hr2], d, hlo, hhi, h3.trans h2⟩
    · exact absurd hr hr3

theorem portOf_updateWeights {s : State} {p : Nat} (hp : p < s.ports.length) :
    portOf (updateWeights s) p =
      { portOf (updateRole 3 (updateRole 2 s)) p with depthSum := 0, depthSamples := 0 } := by
  have hlen : p < (updateRole 3 (updateRole 2 s)).ports.length := by rwa [updateRole_length, updateRole_length]
  simp [portOf, updateWeights, hlen]

/-- A weight between the bounds stays between them and moves by at most one. -/
theorem movedWeight_bounds {s : State} {w : Nat} {d : Int} (hle : s.policy.rwLo ≤ s.policy.rwHi)
    (hw : s.policy.rwLo ≤ w ∧ w ≤ s.policy.rwHi) (hd : -1 ≤ d ∧ d ≤ 1) :
    s.policy.rwLo ≤ movedWeight s w d ∧ movedWeight s w d ≤ s.policy.rwHi ∧
      movedWeight s w d ≤ w + 1 ∧ w ≤ movedWeight s w d + 1 := by
  simp only [movedWeight, clampInt]
  omega

theorem rw_updateWeights {s : State} {p : Nat} (hle : s.policy.rwLo ≤ s.policy.rwHi)
    (hw : s.policy.rwLo ≤ (portOf s p).rw ∧ (portOf s p).rw ≤ s.policy.rwHi) (hp : p < s.ports.length) :
    s.policy.rwLo ≤ (portOf (updateWeights s) p).rw ∧ (portOf (updateWeights s) p).rw ≤ s.policy.rwHi ∧
      (portOf (updateWeights s) p).rw ≤ (portOf s p).rw + 1 ∧ (portOf s p).rw ≤ (portOf (updateWeights s) p).rw + 1 ∧
      (roleIs s p 2 = false → roleIs s p 3 = false → (portOf (updateWeights s) p).rw = (portOf s p).rw) := by
  simp only [portOf_updateWeights hp]
  rcases portOf_updateRoles hp with h | ⟨hrole, d, hlo, hhi, h⟩
  · rw [h]
    exact ⟨hw.1, hw.2, by omega, by omega, fun _ _ => rfl⟩
  · obtain ⟨hl, hh, hup, hdown⟩ := movedWeight_bounds hle hw ⟨hlo, hhi⟩
    rw [h]
    exact ⟨hl, hh, hup, hdown, fun h2 h3 => by simp [h2, h3] at hrole⟩

end Sys2Proof.Machine
end

section
/-! PROOFS. The last-hop hold (R181 to R184) and the escape (R176 to R178). -/

namespace Sys2Proof.Machine

/-! ### Entries of the holding table -/

theorem holdOf_updHold {g : Hold → Hold} (hg : ∀ h, (g h).flow = h.flow) (f : Flow) (s : State) :
    holdOf (updHold f g s) f = (holdOf s f).map g := by
  simp only [holdOf, updHold, updSwitch_switch]
  induction s.switch.holds with
  | nil => rfl
  | cons h l ih =>
    by_cases hf : h.flow = f
    · simp [hf, hg]
    · simpa [hf] using ih

theorem holdOf_freeHold (f : Flow) (s : State) : holdOf (freeHold f s) f = none := by
  simp [holdOf, freeHold]

theorem holdOf_newHold {f : Flow} {s : State} (h : holdOf s f = none) :
    holdOf (newHold f s) f = some { flow := f, idleSince := s.now } := by
  simp only [holdOf] at h
  simp [holdOf, newHold, h]

/-- The count with the held packet's own length is short of the message: the packet stays held (R183). -/
theorem releaseIfDue_short {f : Flow} {s : State} {h : Hold} {id : Nat} {st : Stored} (hf : holdOf s f = some h)
    (hh : h.held = some id) (hst : packetOf s id = some st) (hlt : h.count + putLength st.hdr < msgLen st.hdr) :
    releaseIfDue f s = s := by
  have hle : ¬ (msgLen st.hdr).toNat < (h.count + putLength st.hdr).toNat := Nat.lt_asymm hlt
  simp only [releaseIfDue, hf, hh, hst, if_neg (BitVec.ne_of_lt hlt), if_neg hle]

/-- The packet flag-held. -/
def flagHeld (x : Stored) : Stored := { x with stage := .held }

@[simp] theorem flagHeld_hdr (x : Stored) : (flagHeld x).hdr = x.hdr := rfl

/-- Packet `id` is held under a new entry of its flow, the timer started. -/
def holdNew (id : Nat) (f : Flow) (s : State) : State :=
  updHold f (fun x => { x with held := some id, timer := some (s.now + 1000 * s.policy.holdTimeout), owedSince := none
                               limit := s.policy.holdTimeout })
    (updPacket id flagHeld (newHold f s))

theorem holdOf_holdNew {f : Flow} {s : State} (h : holdOf s f = none) (id : Nat) :
    ∃ x, holdOf (holdNew id f s) f = some x ∧ x.held = some id ∧ x.count = 0 := by
  refine ⟨_, (holdOf_updHold ?_ f _).trans (congrArg _ (holdOf_newHold h)), rfl, rfl⟩
  exact fun _ => rfl

theorem packetOf_holdNew (id : Nat) (f : Flow) (s : State) :
    packetOf (holdNew id f s) id = (packetOf s id).map flagHeld :=
  packetOf_updPacket id flagHeld (newHold f s)

theorem queueOf_holdNew (id : Nat) (f : Flow) (p v : Nat) (s : State) : queueOf (holdNew id f s) p v = queueOf s p v := rfl

/-- A PUT with `last` set whose message is not complete takes a free entry of the holding table (R183). -/
theorem arriveLast_new {id : Nat} {s : State} {st : Stored} (hst : packetOf s id = some st)
    (hnone : holdOf s (flowOf st.hdr) = none) (hfull : holdFull s = false) (hlt : putLength st.hdr < msgLen st.hdr) :
    arriveLast id s = holdNew id (flowOf st.hdr) s := by
  obtain ⟨x, hx, hheld, hcount⟩ := holdOf_holdNew hnone id
  have hkeep : releaseIfDue (flowOf st.hdr) (holdNew id (flowOf st.hdr) s) = holdNew id (flowOf st.hdr) s := by
    refine releaseIfDue_short hx hheld ((packetOf_holdNew ..).trans (congrArg _ hst)) ?_
    simpa [hcount] using hlt
  rw [← hkeep]
  simp only [arriveLast, hst, hnone, hfull, BitVec.ne_of_lt hlt, Option.isSome_none, Bool.not_false, decide_false,
    Bool.and_false, Bool.false_eq_true, if_false]
  rfl

/-! ### The move to the escape queue -/

/-- A packet on its way to channel `w` of port `e`, where it waits from `now` on. -/
def headedFor (e w now : Nat) (x : Stored) : Stored :=
  { x with queuedAt := now, copies := x.copies.map (fun c => { c with port := e, vc := w }) }

/-- Packet `id` has left queue (p, v) for channel `w` of port `e`, counted, and is in no queue yet. -/
def leftFor (e w id p v ctr : Nat) (s : State) : State :=
  updPacket id (headedFor e w s.now) (swCount ctr 1 (dropFromQueue p v id s))

theorem packetOf_leftFor (e w id p v ctr : Nat) (s : State) :
    packetOf (leftFor e w id p v ctr s) id = (packetOf s id).map (headedFor e w s.now) :=
  packetOf_updPacket ..

theorem queueOf_leftFor {p v q u : Nat} (h : queueKey p v ≠ queueKey q u) (e w id ctr : Nat) (s : State) :
    queueOf (leftFor e w id p v ctr s) q u = queueOf s q u := queueOf_dropFromQueue_ne h id s

section
variable {s : State} {id p v ctr : Nat} {st : Stored} (hst : packetOf s id = some st)
  (hr : routeValid (routeOf s st.hdr.dst) = true)
  (hdown : (isDown st.hdr && roleIs s (escPort (routeOf s st.hdr.dst)) 2) = false)
include hst hr hdown

/-- An admitted deterministic port: the packet joins its queue, or the last-hop hold judges it first. -/
theorem escapeMove_admitted (hadm : (portOf s (escPort (routeOf s st.hdr.dst))).admitted = true) :
    escapeMove id p v ctr s =
      (let e := escPort (routeOf s st.hdr.dst)
       let t := leftFor e (edgeVc s e (v + 5)) id p v ctr s
       noteWithheld id (if holdApplies s st e then arriveLast id t else pushQueue e (edgeVc s e (v + 5)) id t)) := by
  unfold escapeMove
  simp only [hst, hr, hdown, hadm, Bool.not_true, Bool.false_and, Bool.false_eq_true, if_false]
  rfl

theorem escapeMove_cut (hadm : (portOf s (escPort (routeOf s st.hdr.dst))).admitted = false)
    (hgrace : (portOf s (escPort (routeOf s st.hdr.dst))).grace = none) :
    escapeMove id p v ctr s = linkCount (escPort (routeOf s st.hdr.dst)) 18 1 (dropPacket id false s) := by
  simp [escapeMove, hst, hr, hdown, hadm, hgrace]

/-- Where the hold does not judge the packet, it goes to the tail of channel `w` of the deterministic port. -/
theorem escapeMove_joins {w : Nat} (hadm : (portOf s (escPort (routeOf s st.hdr.dst))).admitted = true)
    (hhold : holdApplies s st (escPort (routeOf s st.hdr.dst)) = false)
    (hw : edgeVc s (escPort (routeOf s st.hdr.dst)) (v + 5) = w)
    (hkey : queueKey p v ≠ queueKey (escPort (routeOf s st.hdr.dst)) w) :
    queueOf (escapeMove id p v ctr s) (escPort (routeOf s st.hdr.dst)) w =
        queueOf s (escPort (routeOf s st.hdr.dst)) w ++ [id] ∧
      (∃ n, (escapeMove id p v ctr s).switch.ctr = bump 6 n (bump ctr 1 s.switch.ctr)) ∧
      (escapeMove id p v ctr s).ports = s.ports := by
  rw [escapeMove_admitted hst hr hdown hadm]
  simp only [hhold, hw, Bool.false_eq_true, if_false]
  refine ⟨?_, noteWithheld_ctr .., noteWithheld_ports ..⟩
  rw [queueOf_noteWithheld, queueOf_pushQueue, queueOf_leftFor hkey]

/-- A PUT with `last` set whose message is not complete is held at the edge port. -/
theorem escapeMove_holds {w : Nat} (hadm : (portOf s (escPort (routeOf s st.hdr.dst))).admitted = true)
    (hhold : holdApplies s st (escPort (routeOf s st.hdr.dst)) = true) (hnone : holdOf s (flowOf st.hdr) = none)
    (hfull : holdFull s = false) (hlt : putLength st.hdr < msgLen st.hdr)
    (hkey : queueKey p v ≠ queueKey (escPort (routeOf s st.hdr.dst)) w) :
    (packetOf (escapeMove id p v ctr s) id).map (·.stage) = some .held ∧
      queueOf (escapeMove id p v ctr s) (escPort (routeOf s st.hdr.dst)) w =
        queueOf s (escPort (routeOf s st.hdr.dst)) w ∧
      ∃ h, holdOf (escapeMove id p v ctr s) (flowOf st.hdr) = some h ∧ h.held = some id := by
  rw [escapeMove_admitted hst hr hdown hadm]
  simp only [hhold, if_true]
  have hleft := (packetOf_leftFor (escPort (routeOf s st.hdr.dst))
    (edgeVc s (escPort (routeOf s st.hdr.dst)) (v + 5)) id p v ctr s).trans (congrArg _ hst)
  have hqueue := queueOf_leftFor hkey (escPort (routeOf s st.hdr.dst))
    (edgeVc s (escPort (routeOf s st.hdr.dst)) (v + 5)) id ctr s
  generalize ht : leftFor _ _ id p v ctr s = t at hleft hqueue ⊢
  have hnone : holdOf t (flowOf st.hdr) = none := ht ▸ hnone
  rw [arriveLast_new hleft hnone (ht ▸ hfull) hlt]
  obtain ⟨x, hx, hheld, _⟩ := holdOf_holdNew hnone id
  refine ⟨?_, ?_, x, (holdOf_noteWithheld ..).trans hx, hheld⟩
  · obtain ⟨u, hu, hclear⟩ := packetOf_of_besideWithheld (besideWithheld_noteWithheld id _)
      ((packetOf_holdNew id (flowOf st.hdr) t).trans (congrArg _ hleft))
    exact (congrArg _ hu).trans (congrArg some (congrArg Stored.stage hclear :))
  · rw [queueOf_noteWithheld, queueOf_holdNew, hqueue]

end

end Sys2Proof.Machine
end

section
/-! PROOFS. Lookups, route weights and the escape (O48). -/

namespace Sys2Proof.Machine

/-! ### What a lookup leaves behind -/

section
variable {s : State} {p id : Nat} {rest : List Nat} {st : Stored} {x y : WordError}

/-- A packet without a valid route is gone and counted as such. -/
theorem takeLookup_noRoute_spec (hst : packetOf s id = some st) (hl : ¬ headerLost (cellWord s id 0 x) y = true)
    (hf : fateOf s st = .forward) (hr : routeValid (routeOf s st.hdr.dst) = false) :
    let t := takeLookup p id x y (takeTurn p rest s)
    packetOf t id = none ∧ t.switch.ctr = bump 0 1 s.switch.ctr ∧ t.switch.turn = (takeTurn p rest s).switch.turn ∧
      t.canvas = s.canvas ∧ t.streams = s.streams := by
  rw [takeLookup_noRoute (s := takeTurn p rest s) hst hl hf hr]
  simp [takeTurn]

/-- A packet that R31 does not let through is gone and counted apart from the counters of R203. -/
theorem takeLookup_drop_spec (hst : packetOf s id = some st) (hl : ¬ headerLost (cellWord s id 0 x) y = true)
    (hf : fateOf s st = .drop) :
    let t := takeLookup p id x y (takeTurn p rest s)
    packetOf t id = none ∧ t.switch.preAdmit = s.switch.preAdmit + 1 ∧ t.switch.ctr = s.switch.ctr ∧
      t.switch.turn = (takeTurn p rest s).switch.turn ∧ t.sketch = s.sketch ∧ t.canvas = s.canvas := by
  rw [takeLookup_drop (s := takeTurn p rest s) hst hl hf]
  refine ⟨packetOf_dropPacket .., ?_⟩
  simp [takeTurn]

/-- A packet whose header is lost in both copies is gone and counted (R198). -/
theorem takeLookup_lost_spec (hst : packetOf s id = some st) (hl : headerLost (cellWord s id 0 x) y = true) :
    let t := takeLookup p id x y (takeTurn p rest s)
    packetOf t id = none ∧ t.switch.ctr = bump 22 1 s.switch.ctr ∧ t.switch.turn = (takeTurn p rest s).switch.turn ∧
      t.sketch = s.sketch ∧ t.canvas = s.canvas := by
  rw [takeLookup_lost (s := takeTurn p rest s) hst hl]
  refine ⟨packetOf_dropPacket .., ?_⟩
  simp [discardCounted, swCount, takeTurn]

end

/-! ### The escape timer -/

theorem escapeExpire_inTime {s : State} {id : Nat} {st : Stored} {c : Copy} (hst : packetOf s id = some st)
    (hc : st.copies = [c]) (hnow : s.now < st.queuedAt + s.policy.escapeTimer) : escapeExpire id s = s := by
  simp [escapeExpire, hst, hc, hnow]

/-- An unordered head goes alone; an ordered one takes the ordered packets behind it along (R178). -/
theorem escapeExpire_unordered {s : State} {id : Nat} {st : Stored} {c : Copy} (hst : packetOf s id = some st)
    (hc : st.copies = [c]) (hhead : headWaits st = true) (hvc : c.vc = 1 ∨ c.vc = 2)
    (hrole : (roleIs s c.port 2 || roleIs s c.port 3) = true) (hnow : st.queuedAt + s.policy.escapeTimer ≤ s.now)
    (hr : routeValid (routeOf s st.hdr.dst) = true) (hord : st.hdr.ord = false) :
    escapeExpire id s = escapeMove id c.port c.vc 2 s := by
  rcases hvc with hvc | hvc <;>
    simp [escapeExpire, hst, hc, hhead, hvc, hrole, Nat.not_lt.mpr hnow, hr, hord]

theorem exec_escapeTimerExpire {s t : State} {id : Nat} (h : escapeExpire id s = t) :
    exec (.escapeTimerExpire id) s = .next t := congrArg Host.Outcome.next h

/-! ### The obligation -/

/-- Settles O48: each fate of a looked-up packet by `takeLookup`'s equation for it, the weights by one bounded move a port,
the escape by `escapeMove`'s equations. -/
theorem lookupWeightsAndEscape : Obligations.LookupWeightsAndEscape := by
  unfold Obligations.LookupWeightsAndEscape
  refine ⟨?outOfTurn, ?noneWaiting, ?next, ?fates, ?deferral, ?samples, ?weights, ?timer, ?move, ?cut, ?inTime⟩
  case outOfTurn => exact fun s p x y hp h => exec_lookup_outOfTurn hp h x y
  case noneWaiting => exact fun s p _ hb h => (nextLookup_some h).2 hb
  case next => exact fun s g p h => nextLookup_some h
  case fates =>
    intro s p id rest st x y hp hb hn hst
    have hexec := exec_lookup_inTurn hp hn hb x y
    refine ⟨fun hl hf => ?_, fun hl hf hr => ?_, fun hl hf hr => ?_, fun hl hf => ?_, fun hl => ?_⟩
    · rw [hexec, takeLookup_terminate (s := takeTurn p rest s) hst hl hf]
      rfl
    · rw [hexec, takeLookup_forward (s := takeTurn p rest s) hst hl hf hr, rot_takeTurn]
      rfl
    · exact ⟨_, hexec, takeLookup_noRoute_spec hst hl hf hr⟩
    · exact ⟨_, hexec, takeLookup_drop_spec hst hl hf⟩
    · exact ⟨_, hexec, takeLookup_lost_spec hst hl⟩
  case deferral =>
    refine fun s p => ⟨deferralOver_ctr p s, ?_, ?_, deferralOver_of_ne, fun hlog id st hst hin hwash hq hfull => ?_⟩
    · exact (congrArg State.ports (besideWithheld_deferralOver p s) :)
    · exact (congrArg State.canvas (besideWithheld_deferralOver p s) :)
    · exact deferralOver_counts hlog hst hin hwash hq hfull
  case samples =>
    refine fun s => ⟨rfl, fun p hp => ?_⟩
    rw [portOf_sampleDepths hp]
    exact ⟨rfl, rfl⟩
  case weights =>
    refine fun s hle hw hlen => ⟨updateWeights s, rfl, fun p hp => ?_⟩
    have hp' : p < s.ports.length := hlen ▸ hp
    obtain ⟨hlo, hhi, hup, hdown, hother⟩ := rw_updateWeights hle (hw p hp) hp'
    refine ⟨hlo, hhi, hup, hdown, hother, ?_⟩
    rw [portOf_updateWeights hp']
    exact ⟨rfl, rfl⟩
  case timer =>
    exact fun s id st c hst hc hhead hvc hrole hnow hr hord =>
      exec_escapeTimerExpire (escapeExpire_unordered hst hc hhead hvc hrole hnow hr hord)
  case move =>
    intro s id p v st hst hr hdown hv hadm hne
    refine ⟨fun hedge => ?_, fun hedge hhold => ?_, fun hedge hhold hnone hfull hlt => ?_⟩
    · have hhold : holdApplies s st (escPort (routeOf s st.hdr.dst)) = false := by simp [holdApplies, hedge]
      exact escapeMove_joins hst hr hdown hadm hhold (by simp [edgeVc, hedge]) (queueKey_ne (by omega) (by omega) hne)
    · have hvc : edgeVc s (escPort (routeOf s st.hdr.dst)) (v + 5) = v := by
        have hge : v + 5 ≥ 6 := by omega
        simp [edgeVc, hedge, hge]
      exact escapeMove_joins hst hr hdown hadm hhold hvc (queueKey_ne (by omega) (by omega) hne)
    · exact escapeMove_holds hst hr hdown hadm hhold hnone hfull hlt (queueKey_ne (by omega) (by omega) hne)
  case cut =>
    intro s id p v st hst hr hdown hadm hgrace
    rw [escapeMove_cut hst hr hdown hadm hgrace]
    exact ⟨packetOf_dropPacket .., dropPacket_ctr ..⟩
  case inTime => exact fun s id st c hst hc hnow => exec_escapeTimerExpire (escapeExpire_inTime hst hc hnow)

end Sys2Proof.Machine
end

section
/-! PROOFS. The timers of the last-hop hold, stalled packets, originated and terminated packets (O49). -/

namespace Sys2Proof.Machine

/-! ### The timers of the hold (R183, R184) -/

/-- A packet back in its queue after the hold's timer: its order may be broken. -/
def releasedLate (now : Nat) (x : Stored) : Stored :=
  { x with stage := .queued, queuedAt := now, hdr := { x.hdr with ordFault := true } }

theorem unholdPacket_late {id : Nat} {s : State} {st : Stored} (hst : packetOf s id = some st) :
    unholdPacket id true s =
      forEach st.copies (fun c => pushQueue c.port c.vc id) (updPacket id (releasedLate s.now) s) := by
  simp only [unholdPacket, hst, if_true]
  rfl

/-- Joining queues changes the queues alone. -/
theorem pushQueues_keeps {β : Type} {g : State → β} (hg : ∀ p v i t, g (pushQueue p v i t) = g t) (l : List Copy)
    (id : Nat) (s : State) : g (forEach l (fun c => pushQueue c.port c.vc id) s) = g s :=
  forEach_keeps g (fun c t => hg c.port c.vc id t) l s

section
variable {id : Nat} {s : State} {st : Stored} (hst : packetOf s id = some st)
include hst

theorem packetOf_unholdPacket_late : packetOf (unholdPacket id true s) id = some (releasedLate s.now st) := by
  rw [unholdPacket_late hst, pushQueues_keeps (g := fun t => packetOf t id) (fun _ _ _ _ => rfl), packetOf_updPacket, hst,
    Option.map_some]

theorem unholdPacket_late_ctr : (unholdPacket id true s).switch.ctr = s.switch.ctr := by
  rw [unholdPacket_late hst, pushQueues_keeps (g := fun t => t.switch.ctr) (fun _ _ _ _ => rfl)]
  rfl

theorem holdOf_unholdPacket_late (f : Flow) : holdOf (unholdPacket id true s) f = holdOf s f := by
  rw [unholdPacket_late hst, pushQueues_keeps (g := fun t => holdOf t f) (fun _ _ _ _ => rfl)]
  rfl

end

/-- The entry of a message whose packet `st` was released late: what is missing of it is owed from `now` on. -/
def owing (st : Stored) (now : Nat) (h : Hold) : Hold :=
  { h with owed := msgLen st.hdr - h.count - putLength st.hdr, count := 0, held := none
           timer := none, owedSince := some now }

theorem holdOf_owing {s : State} {f : Flow} {h : Hold} (hf : holdOf s f = some h) (st : Stored) (now : Nat) :
    holdOf (updHold f (owing st now) (swCount 13 1 s)) f = some (owing st now h) :=
  (holdOf_updHold (g := owing st now) (fun _ => rfl) f (swCount 13 1 s)).trans (congrArg (Option.map (owing st now)) hf)

theorem holdTimesOut_due {s : State} {f : Flow} {h : Hold} {id u : Nat} {st : Stored} (hf : holdOf s f = some h)
    (hh : h.held = some id) (hst : packetOf s id = some st) (ht : h.timer = some u) (hu : u ≤ s.now) :
    holdTimesOut f s = updHold f (owing st s.now) (swCount 13 1 (unholdPacket id true s)) := by
  simp only [holdTimesOut, hf, hh, hst, timerOver, ht, hu, decide_true, Bool.not_true, Bool.false_eq_true, if_false]
  rfl

theorem holdTimesOut_early {s : State} {f : Flow} {h : Hold} {u : Nat} (hf : holdOf s f = some h) (ht : h.timer = some u)
    (hu : s.now < u) : holdTimesOut f s = s := by
  have hover : timerOver s h = false := by simp [timerOver, ht, hu]
  simp only [holdTimesOut, hf]
  split
  next => rfl
  next =>
    split
    next => rfl
    next => simp [hover]

theorem owedEnds_due {s : State} {f : Flow} {h : Hold} {u : Nat} (hf : holdOf s f = some h) (hh : h.held = none)
    (ho : h.owedSince = some u) (hu : u + 1000 * s.policy.holdTimeout ≤ s.now) : owedEnds f s = freeHold f s := by
  simp [owedEnds, hf, hh, owedOver, ho, hu]

theorem owedEnds_early {s : State} {f : Flow} {h : Hold} {u : Nat} (hf : holdOf s f = some h)
    (ho : h.owedSince = some u) (hu : s.now < u + 1000 * s.policy.holdTimeout) : owedEnds f s = s := by
  simp [owedEnds, hf, owedOver, ho, Nat.not_le.mpr hu]

theorem holdIdles_due {s : State} {f : Flow} {h : Hold} (hf : holdOf s f = some h) (hh : h.held = none)
    (hi : h.idleSince + 4000 * s.policy.holdTimeout ≤ s.now) : holdIdles f s = freeHold f s := by
  simp [holdIdles, hf, hh, hi]

/-! ### Stalled packets (R199) -/

theorem stallVoids_stalled {s : State} {p v id : Nat} {st : Stored} {c : Copy}
    (hfetch : tget (portOf s p).fetching v = some id) (hst : packetOf s id = some st) (hc : copyOn st p v = some c)
    (hopen : st.complete = false) (hsent : st.cells ≤ c.sent)
    (hlate : st.lastCell + 1000 * s.policy.stallVoid ≤ s.now) :
    stallVoids p v s = swCount 23 1 (cutPacket id true s) := by
  simp [stallVoids, hfetch, hst, hc, hopen, Nat.not_lt.mpr hsent, Nat.not_lt.mpr hlate]

theorem stallVoids_idle {s : State} {p v : Nat} (hfetch : tget (portOf s p).fetching v = none) : stallVoids p v s = s := by
  simp [stallVoids, hfetch]

theorem exec_stallVoidExpire {s t : State} {p v : Nat} (hp : p < 96) (hv : v < 8) (h : stallVoids p v s = t) :
    exec (.stallVoidExpire p v) s = .next t := by
  simp [exec, execStallVoidExpire, onUnit, portOk, hp, hv, h]

/-! ### Originated packets (R191) -/

theorem originatedWrite_waiting {s : State} {i : Nat} {o : Originate} (ho : s.switch.originate[i]? = some o) :
    originatedWrite i s = writeOriginated i o s := by
  simp [originatedWrite, ho]

theorem writeOriginated_noRoom {s : State} {o : Originate} (hroom : originRoom s o = false) (i : Nat) :
    writeOriginated i o s = s := by
  simp [writeOriginated, hroom]

theorem writeOriginated_room {s : State} {o : Originate} (hroom : originRoom s o = true) (hslot : o.slot = none) (i : Nat) :
    writeOriginated i o s =
      createPacket o { s with switch := { s.switch with originate := s.switch.originate.eraseIdx i } } := by
  simp [writeOriginated, hroom, hslot, updSwitch]

theorem writeOriginated_room_slot {s : State} {o : Originate} {k : SlotKey} (hroom : originRoom s o = true)
    (hslot : o.slot = some k) (i : Nat) :
    writeOriginated i o s = slotWritten k
      (createPacket o { s with switch := { s.switch with originate := s.switch.originate.eraseIdx i } }) := by
  simp [writeOriginated, hroom, hslot, updSwitch]

theorem createPacket_own {s : State} {o : Originate} (hm : o.multicast = false) (hv : o.viaPort = none)
    (hd : toDevice s o.pkt.hdr.dst = true) :
    createPacket o s = addStored { originStored s o .terminated with hdr := sealHeader o.pkt.hdr } s := by
  simp [createPacket, hm, hv, hd]

theorem exec_originatedPacketWrite {s t : State} {i : Nat} {o : Originate} (ho : s.switch.originate[i]? = some o)
    (h : writeOriginated i o s = t) : exec (.originatedPacketWrite i) s = .next t :=
  congrArg Host.Outcome.next ((originatedWrite_waiting ho).trans h)

/-! ### Terminated packets (R147) -/

theorem exec_terminatedDiscard {s t : State} {id : Nat} {st : Stored} (hst : terminatedOf s id = some st)
    (hf : findingOf st ≠ .act) (h : applyFinding id st s = t) : exec (.terminatedDiscard id) s = .next t := by
  refine congrArg Host.Outcome.next ?_
  simp [atWindow, hst, hf, h]

/-! ### The obligation -/

/-- Settles O49, timer by timer and packet by packet: each command by the equation of its operation for the case at hand. -/
theorem holdsStallsAndTermination : Obligations.HoldsStallsAndTermination := by
  unfold Obligations.HoldsStallsAndTermination
  refine ⟨?timeout, ?timeoutEarly, ?owed, ?idle, ?freed, ?stall, ?noFetch, ?write, ?writeSlot, ?noRoom, ?own, ?discard,
    ?answer⟩
  case timeout =>
    intro s f h id st u hf hh hst ht hu
    refine ⟨_, congrArg Host.Outcome.next (holdTimesOut_due hf hh hst ht hu), ?_, ?_, ?_⟩
    · exact congrArg (bump 13 1) (unholdPacket_late_ctr hst)
    · exact congrArg (Option.map _) (packetOf_unholdPacket_late hst)
    · exact holdOf_owing ((holdOf_unholdPacket_late hst f).trans hf) st s.now
  case timeoutEarly =>
    exact fun s f h u hf ht hu => congrArg Host.Outcome.next (holdTimesOut_early hf ht hu)
  case owed =>
    exact fun s f h u hf hh ho => ⟨fun hu => congrArg Host.Outcome.next (owedEnds_due hf hh ho hu),
      fun hu => congrArg Host.Outcome.next (owedEnds_early hf ho hu)⟩
  case idle => exact fun s f h hf hh hi => congrArg Host.Outcome.next (holdIdles_due hf hh hi)
  case freed => exact fun s f => holdOf_freeHold f s
  case stall =>
    exact fun s p v id st c hp hv hfetch hst hc hopen hsent hlate =>
      exec_stallVoidExpire hp hv (stallVoids_stalled hfetch hst hc hopen hsent hlate)
  case noFetch => exact fun s p v hp hv hfetch => exec_stallVoidExpire hp hv (stallVoids_idle hfetch)
  case write =>
    exact fun s i o ho hroom hslot => exec_originatedPacketWrite ho (writeOriginated_room hroom hslot i)
  case writeSlot =>
    exact fun s i o k ho hroom hslot => exec_originatedPacketWrite ho (writeOriginated_room_slot hroom hslot i)
  case noRoom => exact fun s i o ho hroom => exec_originatedPacketWrite ho (writeOriginated_noRoom hroom i)
  case own => exact fun s o hm hv hd => createPacket_own hm hv hd
  case discard =>
    exact fun s id c st hst hf => exec_terminatedDiscard hst (by simp [hf]) (by simp [applyFinding, hf])
  case answer =>
    exact fun s id c st x hst hf => exec_terminatedDiscard hst (by simp [hf]) (by simp [applyFinding, hf])

end Sys2Proof.Machine
end

section
/-! PROOFS. Packets that the device sends of its own (R191, R224, R241): sending fills the list of packets that wait to be
written, counts ports that are not admitted, and leaves everything else as it is. -/

namespace Sys2Proof.Machine

/-! ### The state beside what waits to be written -/

/-- A state without the packets that wait to be written and the switch counters: what sending leaves as it is. -/
def besideSending (s : State) : State := { s with switch := { s.switch with originate := [], ctr := [] } }

@[simp] theorem besideSending_originate (o : Originate) (s : State) : besideSending (originate o s) = besideSending s := rfl

@[simp] theorem besideSending_swCount (i n : Nat) (s : State) : besideSending (swCount i n s) = besideSending s := rfl

/-- One multicast packet to members behind different ports. -/
def sendCopies (h : Header) (b : Bytes) (k : Option SlotKey) (part : List W64) : State → State :=
  originate { pkt := { hdr := h, payload := b }, copies := part.map (copyTo h), multicast := true, slot := k }

@[simp] theorem besideSending_sendMembers (h : Header) (b : Bytes) (k : Option SlotKey) (l : List W64) (s : State) :
    besideSending (sendMembers h b k l s) = besideSending s := by
  simp only [sendMembers]
  split
  · rfl
  · exact forEach_keeps besideSending (f := sendCopies h b k) (fun _ _ => rfl) (byPort l.length l) s

@[simp] theorem besideSending_sendParent (h : Header) (b : Bytes) (m : W64) (s : State) :
    besideSending (sendParent h b m s) = besideSending s := by
  simp only [sendParent]
  split <;> simp

@[simp] theorem besideSending_notifyPorts (h : Header) (mask : Nat) (s : State) :
    besideSending (notifyPorts h mask s) = besideSending s := by
  simp only [notifyPorts]
  split <;> simp

@[simp] theorem besideSending_sendFired (i : Nat) (o : SyncObj) (s : State) :
    besideSending (sendFired i o s) = besideSending s := by
  simp only [sendFired]
  (repeat' split) <;> simp

@[simp] theorem sendMembers_canvas (h : Header) (b : Bytes) (k : Option SlotKey) (l : List W64) (s : State) :
    (sendMembers h b k l s).canvas = s.canvas := (congrArg State.canvas (besideSending_sendMembers h b k l s) :)
@[simp] theorem sendParent_canvas (h : Header) (b : Bytes) (m : W64) (s : State) :
    (sendParent h b m s).canvas = s.canvas := (congrArg State.canvas (besideSending_sendParent h b m s) :)
@[simp] theorem sendFired_canvas (i : Nat) (o : SyncObj) (s : State) : (sendFired i o s).canvas = s.canvas :=
  (congrArg State.canvas (besideSending_sendFired i o s) :)

end Sys2Proof.Machine
end

section
/-! PROOFS. Synchronisation objects (R239 to R241): arming, arrivals and firing (O36). -/

namespace Sys2Proof.Machine

/-! ### Reading and writing an object -/

theorem syncOf_setSync (i : Nat) (o : SyncObj) (s : State) : syncOf (setSync i o s) i = o := by
  simp only [syncOf, setSync, updCanvas_canvas, tgetD]
  split
  next h => rw [tget_tdel_self, h]; rfl
  next => rw [tget_tset_self]; rfl

@[simp] theorem setSync_ctr (i : Nat) (o : SyncObj) (s : State) : (setSync i o s).canvas.ctr = s.canvas.ctr := rfl

@[simp] theorem canvasCount_ctr (i n : Nat) (s : State) : (canvasCount i n s).canvas.ctr = bump i n s.canvas.ctr := rfl

@[simp] theorem badEntry_dropPacket (id : Nat) (tail : Bool) (tbl i : Nat) (s : State) :
    badEntry (dropPacket id tail s) tbl i = badEntry s tbl i :=
  (congrArg (badEntry · tbl i) (besidePackets_dropPacket id tail s) :)

/-! ### Firing (R240) -/

/-- An object that has fired: armed still with the threshold taken off where it is `auto`, else *Fired*. -/
def firedObject (o : SyncObj) : SyncObj :=
  if o.auto then { o with counter := o.counter - o.threshold } else { o with state := 2 }

theorem firedObject_auto {o : SyncObj} (h : o.auto = true) :
    firedObject o = { o with counter := o.counter - o.threshold } := if_pos h

theorem firedObject_once {o : SyncObj} (h : o.auto = false) : firedObject o = { o with state := 2 } := by
  simp [firedObject, h]

theorem syncOf_fireSync (i : Nat) (s : State) : syncOf (fireSync i s) i = firedObject (syncOf s i) := syncOf_setSync ..

theorem fireSync_ctr (i : Nat) (s : State) : (fireSync i s).canvas.ctr = bump 18 1 s.canvas.ctr := by
  simp [fireSync]

theorem fireIfDue_due {i : Nat} {s : State} (harmed : (syncOf s i).state = 1)
    (h : (syncOf s i).threshold.toNat ≤ (syncOf s i).counter.toNat) : fireIfDue i s = fireSync i s := by
  simp [fireIfDue, harmed, h]

theorem fireIfDue_short {i : Nat} {s : State} (h : (syncOf s i).counter.toNat < (syncOf s i).threshold.toNat) :
    fireIfDue i s = s := by
  rw [fireIfDue, decide_eq_false (Nat.not_le.mpr h), Bool.and_false]
  rfl

theorem fireIfDue_notArmed {i : Nat} {s : State} (h : (syncOf s i).state ≠ 1) : fireIfDue i s = s := by
  rw [fireIfDue, decide_eq_false h]
  rfl

/-! ### Arrivals (R240) -/

/-- An object after an arrival of value `w`: its counter saturates at 2^32 − 1. -/
def countedObject (w : W32) (o : SyncObj) : SyncObj :=
  { o with counter := w32 (min (o.counter.toNat + w.toNat) 0xFFFFFFFF) }

/-- An arrival before anything fires: the object counts, and a saturation is counted. -/
def withArrival (i : Nat) (w : W32) (s : State) : State :=
  setSync i (countedObject w (syncOf s i))
    (when (decide ((syncOf s i).counter.toNat + w.toNat > 0xFFFFFFFF)) (canvasCount 19 1) s)

theorem addArrival_eq (i : Nat) (w : W32) (s : State) : addArrival i w s = fireIfDue i (withArrival i w s) := rfl

@[simp] theorem syncOf_withArrival (i : Nat) (w : W32) (s : State) :
    syncOf (withArrival i w s) i = countedObject w (syncOf s i) := syncOf_setSync ..

theorem withArrival_ctr (i : Nat) (w : W32) (s : State) : (withArrival i w s).canvas.ctr =
    if 0xFFFFFFFF < (syncOf s i).counter.toNat + w.toNat then bump 19 1 s.canvas.ctr else s.canvas.ctr := by
  simp only [withArrival, setSync_ctr, when, decide_eq_true_eq]
  split <;> rfl

/-- The counter as a number. -/
theorem countedObject_toNat (w : W32) (o : SyncObj) :
    (countedObject w o).counter.toNat = min (o.counter.toNat + w.toNat) 0xFFFFFFFF := by
  simp only [countedObject, w32, BitVec.toNat_ofNat]
  omega

/-- Below the saturation the value is added as it is. -/
theorem countedObject_small {w : W32} {o : SyncObj} (h : o.counter.toNat + w.toNat ≤ 0xFFFFFFFF) :
    countedObject w o = { o with counter := o.counter + w } := by
  simp [countedObject, w32, Nat.min_eq_left h, BitVec.ofNat_add]

theorem addArrival_due {i : Nat} {w : W32} {s : State} (harmed : (syncOf s i).state = 1)
    (h : (syncOf s i).threshold.toNat ≤ min ((syncOf s i).counter.toNat + w.toNat) 0xFFFFFFFF) :
    addArrival i w s = fireSync i (withArrival i w s) := by
  rw [addArrival_eq]
  refine fireIfDue_due ?_ ?_
  · rw [syncOf_withArrival]; exact harmed
  · rw [syncOf_withArrival, countedObject_toNat]; exact h

theorem addArrival_short {i : Nat} {w : W32} {s : State}
    (h : (syncOf s i).counter.toNat + w.toNat < (syncOf s i).threshold.toNat) :
    addArrival i w s = setSync i { syncOf s i with counter := (syncOf s i).counter + w } s := by
  have hsum : (syncOf s i).counter.toNat + w.toNat ≤ 0xFFFFFFFF := by
    have := (syncOf s i).threshold.isLt
    omega
  have hs : withArrival i w s = setSync i { syncOf s i with counter := (syncOf s i).counter + w } s := by
    rw [withArrival, countedObject_small hsum, when, decide_eq_false (Nat.not_lt.mpr hsum)]
    rfl
  rw [addArrival_eq, fireIfDue_short, hs]
  rw [syncOf_withArrival, countedObject_toNat]
  exact Nat.lt_of_le_of_lt (Nat.min_le_left ..) h

theorem addArrival_notArmed {i : Nat} {w : W32} {s : State} (h : (syncOf s i).state ≠ 1) :
    addArrival i w s = withArrival i w s := by
  rw [addArrival_eq, fireIfDue_notArmed]
  rw [syncOf_withArrival]
  exact h

theorem exec_syncArrive {s : State} {id : Nat} {st : Stored} (ht : terminatedOf s id = some st)
    (hf : findingOf st = .act) (hw : st.hdr.window = 0x03) :
    exec (.syncArrive id) s = .next (syncArrival id st s) := by
  refine congrArg Host.Outcome.next ?_
  simp [atWindow, ht, hf, hw]

section
variable {id : Nat} {st : Stored} {s : State}

/-- An offset without an object is counted. -/
theorem syncArrival_noObject (h : 65536 ≤ st.hdr.offset.toNat) :
    syncArrival id st s = canvasCount 20 1 (dropPacket id false s) := by
  simp [syncArrival, h]

theorem syncArrival_object (h : st.hdr.offset.toNat < 65536) (hbad : badEntry s 0 st.hdr.offset.toNat = false) :
    syncArrival id st s = if st.hdr.opA = 0 then dropPacket id false s
      else addArrival st.hdr.offset.toNat st.hdr.opA (dropPacket id false s) := by
  simp [syncArrival, hbad, Nat.not_le.mpr h]

end

/-! ### Arming (R240, R350) -/

/-- The object that SYNC_ARM writes. -/
def armedObject (s : State) (p : Bytes) : SyncObj where
  counter := if bitOf (leAt p 2 1) 0 || badEntry s 0 (leAt p 0 2) then 0 else (syncOf s (leAt p 0 2)).counter
  threshold := w32 (leAt p 4 4)
  state := 1
  auto := bitOf (leAt p 2 1) 1
  targetKind := BitVec.ofNat 2 (leAt p 3 1)
  target := BitVec.ofNat 14 (leAt p 8 2)
  fwdObj := w16 (leAt p 10 2)
  notifyOffset := BitVec.ofNat 48 (leAt p 12 6)

/-- The state with the armed object written, before anything fires. -/
def armedState (s : State) (p : Bytes) : State :=
  entryWritten 0 (leAt p 0 2) (setSync (leAt p 0 2) (armedObject s p) s)

@[simp] theorem syncOf_armedState (s : State) (p : Bytes) : syncOf (armedState s p) (leAt p 0 2) = armedObject s p :=
  syncOf_setSync ..

theorem leVal_lt (b : Bytes) : leVal b < 256 ^ b.length := by
  induction b with
  | nil => simp [leVal]
  | cons x b ih =>
    have hx := x.isLt
    simp only [leVal, List.length_cons, Nat.pow_succ]
    omega

theorem leAt_lt (b : Bytes) (off n : Nat) : leAt b off n < 256 ^ n :=
  Nat.lt_of_lt_of_le (leVal_lt _) (Nat.pow_le_pow_right (by decide) (List.length_take_le ..))

theorem armedObject_threshold (s : State) (p : Bytes) : (armedObject s p).threshold.toNat = leAt p 4 4 :=
  Nat.mod_eq_of_lt (leAt_lt p 4 4)

theorem armedObject_counter_reset {s : State} {p : Bytes} (h : bitOf (leAt p 2 1) 0 = true) :
    (armedObject s p).counter = 0 := by
  simp [armedObject, h]

theorem armedObject_counter_kept {s : State} {p : Bytes} (h : bitOf (leAt p 2 1) 0 = false)
    (hb : badEntry s 0 (leAt p 0 2) = false) : (armedObject s p).counter = (syncOf s (leAt p 0 2)).counter := by
  simp [armedObject, h, hb]

theorem armSync_ok {s : State} {src : CmdSrc} {p : Bytes} (h : targetOk s (leAt p 3 1) (leAt p 8 2) = true) :
    armSync src p s = finish src stOk [] (fireIfDue (leAt p 0 2) (armedState s p)) := by
  simp only [armSync, h]
  rfl

theorem armSync_badTarget {s : State} {src : CmdSrc} {p : Bytes} (h : targetOk s (leAt p 3 1) (leAt p 8 2) = false) :
    armSync src p s = finish src stBadParam [] s := by
  simp only [armSync, h]
  rfl

theorem exec_syncArm {s : State} {src : CmdSrc} {b : Bytes} (hg : Given s src b 0x60 24) (hc : s.sketch.commit = none) :
    exec (.syncArm src) s = .next (armSync src (cmdParams b) s) := by
  have hcmd := command_given (f := armSync src) hg hg.len (Or.inr hc)
  simp [exec, execSyncArm, onUnit, hg.ok, hcmd]

section
variable {s : State} {src : CmdSrc} {b : Bytes} (hg : Given s src b 0x60 24) (hc : s.sketch.commit = none)
  (ht : targetOk s (leAt (cmdParams b) 3 1) (leAt (cmdParams b) 8 2) = true)
include hg hc ht

/-- An object whose counter is below the threshold is armed, and that is all. -/
theorem exec_syncArm_short (h : (armedObject s (cmdParams b)).counter.toNat < leAt (cmdParams b) 4 4) :
    exec (.syncArm src) s = .next (finish src stOk [] (armedState s (cmdParams b))) := by
  rw [exec_syncArm hg hc, armSync_ok ht, fireIfDue_short]
  rw [syncOf_armedState, armedObject_threshold]
  exact h

/-- An object whose counter has reached the threshold fires at once. -/
theorem exec_syncArm_due (h : leAt (cmdParams b) 4 4 ≤ (armedObject s (cmdParams b)).counter.toNat) :
    exec (.syncArm src) s =
      .next (finish src stOk [] (fireSync (leAt (cmdParams b) 0 2) (armedState s (cmdParams b)))) := by
  rw [exec_syncArm hg hc, armSync_ok ht, fireIfDue_due]
  · rw [syncOf_armedState]; rfl
  · rw [syncOf_armedState, armedObject_threshold]; exact h

end

theorem syncOf_fireSync_armedState (s : State) (p : Bytes) :
    syncOf (fireSync (leAt p 0 2) (armedState s p)) (leAt p 0 2) = firedObject (armedObject s p) := by
  rw [syncOf_fireSync, syncOf_armedState]

/-! ### The obligation -/

/-- Settles O36: an object is armed or counts first, and fires after that when its counter has reached the threshold. -/
theorem syncObjectsFire : Obligations.SyncObjectsFire := by
  unfold Obligations.SyncObjectsFire
  refine ⟨?armReset, ?armKept, ?armReached, ?armZero, ?armRefused, ?arrives, ?arrivesNot, ?counts, ?countsOnly,
    ?firesAuto, ?firesOnce⟩
  case armReset =>
    intro s src b hg hc ht hreset hpos
    have hzero := armedObject_counter_reset (s := s) hreset
    refine ⟨_, exec_syncArm_short hg hc ht (by rw [hzero]; exact hpos), ?_, ?_, ?_, rfl, rfl, rfl⟩ <;>
      rw [syncOf_armedState]
    · rfl
    · exact hzero
    · rfl
  case armKept =>
    intro s src b hg hc ht hkeep hbad hlow
    have hsame := armedObject_counter_kept hkeep hbad
    refine ⟨_, exec_syncArm_short hg hc ht (by rw [hsame]; exact hlow), ?_, ?_, rfl, rfl⟩ <;> rw [syncOf_armedState]
    · rfl
    · exact hsame
  case armReached =>
    intro s src b hg hc ht hkeep hbad _ hreached
    have hsame := armedObject_counter_kept hkeep hbad
    refine ⟨_, exec_syncArm_due hg hc ht (by rw [hsame]; exact hreached), fireSync_ctr .., ?_, ?_⟩ <;>
      intro hauto <;> rw [syncOf_fireSync_armedState]
    · rw [firedObject_auto hauto, hsame]
      exact ⟨rfl, rfl⟩
    · rw [firedObject_once hauto]
      exact ⟨rfl, hsame⟩
  case armZero =>
    intro s src b hg hc ht hzero
    refine ⟨_, exec_syncArm_due hg hc ht (by rw [hzero]; exact Nat.zero_le _), fireSync_ctr .., ?_⟩
    rw [syncOf_fireSync_armedState]
    exact apply_ite SyncObj.state ..
  case armRefused =>
    intro s src b hg hc ht
    rw [exec_syncArm hg hc, armSync_badTarget ht]
  case arrives =>
    intro s id st ht hf hw hi hbad hval
    rw [exec_syncArrive ht hf hw, syncArrival_object hi hbad, if_neg hval]
  case arrivesNot =>
    intro s id st ht hf hw
    rw [exec_syncArrive ht hf hw]
    refine ⟨fun hi => ?_, fun hi hbad hval => ?_⟩
    · rw [syncArrival_noObject hi]
    · rw [syncArrival_object hi hbad, if_pos hval]
  case counts => exact fun s i w hlow _ => addArrival_short hlow
  case countsOnly =>
    intro s i w hstate
    rw [addArrival_notArmed hstate, syncOf_withArrival]
    rfl
  case firesAuto =>
    intro s i w harmed hauto hreached
    have hfired := firedObject_auto (o := countedObject w (syncOf s i)) hauto
    rw [addArrival_due harmed hreached, syncOf_fireSync, syncOf_withArrival, hfired]
    exact ⟨harmed, rfl⟩
  case firesOnce =>
    intro s i w harmed honce hreached
    have hmin : (syncOf s i).threshold.toNat ≤ min ((syncOf s i).counter.toNat + w.toNat) 0xFFFFFFFF :=
      Nat.le_min.mpr ⟨hreached, Nat.le_of_lt_succ (syncOf s i).threshold.isLt⟩
    have hfired := firedObject_once (o := countedObject w (syncOf s i)) honce
    rw [addArrival_due harmed hmin, syncOf_fireSync, syncOf_withArrival, hfired, fireSync_ctr, withArrival_ctr]
    exact ⟨rfl, rfl⟩

end Sys2Proof.Machine
end

section
/-! PROOFS. Slots of the Canvas (R204, R205, R218): reading a slot after it was changed, and what taking and freeing the
places of parked parts, counting an end and freeing a slot leave as they are. -/

namespace Sys2Proof.Machine

/-! ### A slot after a change -/

theorem slotOf_congr {s t : State} (h : t.canvas.slots = s.canvas.slots) (k : SlotKey) : slotOf t k = slotOf s k := by
  rw [slotOf, slotOf, h]

theorem slotOf_updSlot {f : Slot → Slot} (hf : ∀ x, (f x).key = x.key) (k : SlotKey) (s : State) :
    slotOf (updSlot k f s) k = (slotOf s k).map f := by
  simp only [slotOf, updSlot, updCanvas_canvas]
  induction s.canvas.slots with
  | nil => rfl
  | cons x l ih =>
    by_cases hx : x.key = k
    · simp [hx, hf]
    · simpa [hx] using ih

@[simp] theorem slotOf_canvasCount (i n : Nat) (s : State) (k : SlotKey) : slotOf (canvasCount i n s) k = slotOf s k := rfl

@[simp] theorem slotOf_dropPacket (id : Nat) (tail : Bool) (s : State) (k : SlotKey) :
    slotOf (dropPacket id tail s) k = slotOf s k := slotOf_congr (by rw [dropPacket_canvas]) k

@[simp] theorem slotOf_sramRead (mem : Nat) (e : WordError) (s : State) (k : SlotKey) :
    slotOf (sramRead mem e s) k = slotOf s k :=
  (congrArg (slotOf · k) (besideReports_sramRead mem e s) :)

@[simp] theorem slotOf_sendParent (h : Header) (b : Bytes) (m : W64) (s : State) (k : SlotKey) :
    slotOf (sendParent h b m s) k = slotOf s k := slotOf_congr (by rw [sendParent_canvas]) k

@[simp] theorem slotOf_paletteFlags (f : AFlags) (s : State) (k : SlotKey) : slotOf (paletteFlags f s) k = slotOf s k := by
  simp only [paletteFlags]
  split <;> rfl

@[simp] theorem packetOf_paletteFlags (f : AFlags) (s : State) (id : Nat) :
    packetOf (paletteFlags f s) id = packetOf s id := by
  simp only [paletteFlags]
  split <;> rfl

/-! ### Places of parked parts -/

/-- A Canvas without its staging pieces, the numbers of its constant blocks and the count of parked cells: what taking and
freeing places leaves as it is. -/
def besidePlaces (c : Canvas) : Canvas := { c with staging := [], constAt := [], parkedCells := 0 }

@[simp] theorem besidePlaces_placeConstants (n : Nat) (c : Canvas) :
    besidePlaces (placeConstants n c) = besidePlaces c := by
  induction n generalizing c with
  | zero => rfl
  | succ n ih =>
    simp only [placeConstants]
    split
    · rfl
    · rw [ih]; rfl

@[simp] theorem besidePlaces_blockFreed (s : State) : besidePlaces (blockFreed s).canvas = besidePlaces s.canvas :=
  besidePlaces_placeConstants 1 s.canvas

@[simp] theorem besidePlaces_freePiece (b : Nat) (s : State) :
    besidePlaces (freePiece b s).canvas = besidePlaces s.canvas := by
  simp only [freePiece]
  split
  · rfl
  · rw [besidePlaces_blockFreed]; rfl

@[simp] theorem besidePlaces_freePlace (p : Part) (s : State) :
    besidePlaces (freePlace p s).canvas = besidePlaces s.canvas := by
  simp only [freePlace]
  split
  · exact besidePlaces_freePiece ..
  · rw [updCanvas_canvas, dropPacket_canvas]; rfl

theorem besidePlaces_freePlaces (l : List Part) (s : State) :
    besidePlaces (forEach l freePlace s).canvas = besidePlaces s.canvas :=
  forEach_keeps (fun t => besidePlaces t.canvas) besidePlaces_freePlace l s

theorem besidePlaces_takePiece {sched : Bool} {s u : State} {b : Nat} (h : takePiece sched s = some (b, u)) :
    besidePlaces u.canvas = besidePlaces s.canvas := by
  simp only [takePiece] at h
  split at h
  next =>
    obtain ⟨_, rfl⟩ := Prod.mk.inj (Option.some.inj h)
    rfl
  next =>
    split at h
    next => cases h
    next =>
      obtain ⟨_, rfl⟩ := Prod.mk.inj (Option.some.inj h)
      rfl

theorem slotOf_of_besidePlaces {s t : State} (h : besidePlaces t.canvas = besidePlaces s.canvas) (k : SlotKey) :
    slotOf t k = slotOf s k := slotOf_congr (congrArg Canvas.slots h :) k

theorem ctr_of_besidePlaces {s t : State} (h : besidePlaces t.canvas = besidePlaces s.canvas) :
    t.canvas.ctr = s.canvas.ctr := (congrArg Canvas.ctr h :)

/-- A slot whose parked parts have been dropped. -/
def unparkAll (x : Slot) : Slot := { x with parked := [] }

theorem slotOf_freeParked (k : SlotKey) (s : State) : slotOf (freeParked k s) k = (slotOf s k).map unparkAll := by
  unfold freeParked
  split
  next h => rw [h]; rfl
  next x h =>
    exact (slotOf_updSlot (f := unparkAll) (fun _ => rfl) k _).trans
      (congrArg _ (slotOf_of_besidePlaces (besidePlaces_freePlaces x.parked s) k))

/-- Freeing the parked parts of a slot changes that slot and the places alone. -/
theorem freeParked_canvas (k : SlotKey) (s : State) :
    besidePlaces (freeParked k s).canvas = { besidePlaces s.canvas with slots := (freeParked k s).canvas.slots } := by
  unfold freeParked
  split
  next => rfl
  next x h =>
    have hfree := besidePlaces_freePlaces x.parked s
    calc besidePlaces (updSlot k unparkAll (forEach x.parked freePlace s)).canvas
        = { besidePlaces (forEach x.parked freePlace s).canvas with
            slots := (updSlot k unparkAll (forEach x.parked freePlace s)).canvas.slots } := rfl
      _ = _ := by rw [hfree]; rfl

@[simp] theorem freeParked_ctr (k : SlotKey) (s : State) : (freeParked k s).canvas.ctr = s.canvas.ctr :=
  (congrArg Canvas.ctr (freeParked_canvas k s) :)
@[simp] theorem freeParked_clock (k : SlotKey) (s : State) : (freeParked k s).canvas.clock = s.canvas.clock :=
  (congrArg Canvas.clock (freeParked_canvas k s) :)
@[simp] theorem freeParked_groups (k : SlotKey) (s : State) : (freeParked k s).canvas.groups = s.canvas.groups :=
  (congrArg Canvas.groups (freeParked_canvas k s) :)

/-! ### The end of a slot is counted (R243) -/

/-- A slot whose end has been counted. -/
def markCounted (x : Slot) : Slot := { x with counted := true }

theorem countEnd_counted {s : State} {k : SlotKey} {x : Slot} (hx : slotOf s k = some x) (hc : x.counted = true)
    (st : W16) : countEnd k st s = s := by
  simp [countEnd, hx, hc]

theorem countEnd_first {s : State} {k : SlotKey} {x : Slot} (hx : slotOf s k = some x) (hc : x.counted = false)
    (st : W16) : countEnd k st s = canvasCount (endCounter st) 1 (updSlot k markCounted s) := by
  simp only [countEnd, hx, hc]
  rfl

theorem slotOf_countEnd {s : State} {k : SlotKey} {x : Slot} (hx : slotOf s k = some x) (st : W16) :
    slotOf (countEnd k st s) k = some (markCounted x) := by
  cases hc : x.counted with
  | true => rw [countEnd_counted hx hc, hx, markCounted, ← hc]
  | false =>
    rw [countEnd_first hx hc, slotOf_canvasCount, slotOf_updSlot (f := markCounted) (fun _ => rfl), hx, Option.map_some]

theorem countEnd_clock (k : SlotKey) (st : W16) (s : State) : (countEnd k st s).canvas.clock = s.canvas.clock := by
  simp only [countEnd]
  (repeat' split) <;> rfl

theorem countEnd_groups (k : SlotKey) (st : W16) (s : State) : (countEnd k st s).canvas.groups = s.canvas.groups := by
  simp only [countEnd]
  (repeat' split) <;> rfl

/-! ### A slot becomes free (R218) -/

/-- The Canvas without a slot that becomes free; its key enters the done cache. -/
def withoutSlot (k : SlotKey) (x : Slot) (c : Canvas) : Canvas :=
  { c with slots := c.slots.filter (fun y => !(y.key = k))
           doneCache := cacheAdd c.doneCache k c.clock (c.clock + timeoutNs x.group) }

theorem slotFree_eq {s : State} {k : SlotKey} {x : Slot} (hx : slotOf s k = some x) :
    slotFree k s = blockFreed (updCanvas (withoutSlot k x) (freeParked k s)) := by
  simp only [slotFree, hx]
  rfl

theorem slotOf_withoutSlot (k : SlotKey) (x : Slot) (s : State) : slotOf (updCanvas (withoutSlot k x) s) k = none := by
  simp [slotOf, withoutSlot]

theorem slotOf_slotFree (k : SlotKey) (s : State) : slotOf (slotFree k s) k = none := by
  cases hx : slotOf s k with
  | none => simp only [slotFree, hx]
  | some x => rw [slotFree_eq hx, slotOf_of_besidePlaces (besidePlaces_blockFreed _), slotOf_withoutSlot]

theorem slotFree_ctr (k : SlotKey) (s : State) : (slotFree k s).canvas.ctr = s.canvas.ctr := by
  cases hx : slotOf s k with
  | none => simp only [slotFree, hx]
  | some x =>
    rw [slotFree_eq hx, ctr_of_besidePlaces (besidePlaces_blockFreed _), updCanvas_canvas, withoutSlot, freeParked_ctr]

end Sys2Proof.Machine
end

section
/-! PROOFS. Parts of a slot (R219 to R222): folding in member order and parking. -/

namespace Sys2Proof.Machine

/-! ### Folding one part (R220) -/

theorem nth_eq_getElem {α : Type} [Inhabited α] {l : List α} {i : Nat} (h : i < l.length) : nth l i = l[i] := by
  simp [nth, h]

theorem mem_covers {p : Part} {n i : Nat} : i ∈ covers p n ↔ i < n ∧ p.first ≤ i ∧ i < p.first + p.stripes := by
  simp [covers]

theorem inOrder_iff (x : Slot) (p : Part) : inOrder x p = true ↔
    ∀ i, i < x.frontier.length → p.first ≤ i → i < p.first + p.stripes → nth x.frontier i = p.pos := by
  simp only [inOrder, List.all_eq_true, mem_covers, decide_eq_true_eq]
  exact ⟨fun h i hi hlo hhi => h i ⟨hi, hlo, hhi⟩, fun h i ⟨hi, hlo, hhi⟩ => h i hi hlo hhi⟩

/-- The frontier after a part's stripes have moved on. -/
def movedFrontier (p : Part) (l : List Nat) : List Nat :=
  l.zipIdx.map (fun e => if p.first ≤ e.2 && e.2 < p.first + p.stripes then p.pos + 1 else e.1)

@[simp] theorem length_movedFrontier (p : Part) (l : List Nat) : (movedFrontier p l).length = l.length := by
  simp [movedFrontier]

theorem nth_movedFrontier (p : Part) {l : List Nat} {i : Nat} (hi : i < l.length) :
    nth (movedFrontier p l) i = if p.first ≤ i ∧ i < p.first + p.stripes then p.pos + 1 else nth l i := by
  rw [nth_eq_getElem (by simpa using hi), nth_eq_getElem hi]
  simp [movedFrontier]

/-- A slot with a part folded. -/
def foldedSlot (d : Desc) (k : SlotKey) (p : Part) (x : Slot) : Slot :=
  { x with acc := (foldAcc d k.chunk p x.acc).2
           flags := x.flags ||| (foldAcc d k.chunk p x.acc).1 ||| (if p.child then p.tag else 0)
           frontier := movedFrontier p x.frontier }

theorem slotOf_foldPart {s : State} {k : SlotKey} {x : Slot} (hx : slotOf s k = some x) (d : Desc) (p : Part) :
    slotOf (foldPart d k p s) k = some (foldedSlot d k p x) := by
  simp only [foldPart, hx, slotOf_canvasCount, slotOf_paletteFlags]
  refine (slotOf_updSlot ?_ k s).trans (congrArg _ hx)
  exact fun _ => rfl

theorem packetOf_foldPart (d : Desc) (k : SlotKey) (p : Part) (s : State) (id : Nat) :
    packetOf (foldPart d k p s) id = packetOf s id := by
  simp only [foldPart]
  split
  · rfl
  · exact packetOf_paletteFlags ..

/-! ### The accumulators after a fold (R220, R247) -/

/-- What a fold of flagged results leaves in the list: the result of each element. -/
theorem foldr_flagged_snd {α β : Type} (g : α → Flagged β) (l : List α) :
    (l.foldr (fun e r => ((g e).1 ||| r.1, (g e).2 :: r.2)) ((0, []) : Flagged (List β))).2 =
      l.map (fun e => (g e).2) := by
  induction l with
  | nil => rfl
  | cons a l ih => rw [List.foldr_cons, List.map_cons, ← ih]

/-- Element `i` of a part, folded into its accumulator. -/
def foldedElem (d : Desc) (chunk : Nat) (p : Part) (acc value i : Nat) : Nat :=
  (foldElem (foldSet d) (dRne d) d.wFmt (p.pos = 0) acc p.fmt value (weightAt d chunk p i)).2

theorem foldAcc_snd (d : Desc) (chunk : Nat) (p : Part) (acc : List Nat) :
    (foldAcc d chunk p acc).2 = acc.take (256 * p.first) ++
      (((acc.drop (256 * p.first)).take p.values.length).zip p.values).zipIdx.map
        (fun e => foldedElem d chunk p e.1.1 e.1.2 e.2) ++ acc.drop (256 * p.first + p.values.length) := by
  simp only [foldAcc]
  rw [foldr_flagged_snd (g := fun e : (Nat × Nat) × Nat =>
    foldElem (foldSet d) (dRne d) d.wFmt (p.pos = 0) e.1.1 p.fmt e.1.2 (weightAt d chunk p e.2))]
  rfl

theorem length_foldAcc (d : Desc) (chunk : Nat) (p : Part) (acc : List Nat) :
    (foldAcc d chunk p acc).2.length = acc.length := by
  rw [foldAcc_snd]
  simp only [List.length_append, List.length_take, List.length_map, List.length_zipIdx, List.length_zip, List.length_drop]
  omega

/-- Elements beside the part keep their accumulators. -/
theorem foldAcc_outside (d : Desc) (chunk : Nat) (p : Part) (acc : List Nat) {j : Nat}
    (hj : j < 256 * p.first ∨ 256 * p.first + p.values.length ≤ j) :
    (foldAcc d chunk p acc).2.getD j 0 = acc.getD j 0 := by
  simp only [List.getD_eq_getElem?_getD]
  by_cases hlen : j < acc.length
  · congr 1
    rw [foldAcc_snd]
    rcases hj with hlo | hhi
    · rw [List.append_assoc, List.getElem?_append_left (by simp; omega), List.getElem?_take_of_lt hlo]
    · have hcut : (acc.take (256 * p.first) ++ (((acc.drop (256 * p.first)).take p.values.length).zip p.values).zipIdx.map
          (fun e => foldedElem d chunk p e.1.1 e.1.2 e.2)).length = 256 * p.first + p.values.length := by
        simp; omega
      rw [List.getElem?_append_right (by omega), hcut, List.getElem?_drop, Nat.add_sub_cancel' hhi]
  · rw [List.getElem?_eq_none (by rw [length_foldAcc]; omega), List.getElem?_eq_none (by omega)]

/-- An element of the part folds its value into its accumulator. -/
theorem foldAcc_inside (d : Desc) (chunk : Nat) (p : Part) (acc : List Nat) {j : Nat} (hj : j < p.values.length)
    (ha : 256 * p.first + j < acc.length) : (foldAcc d chunk p acc).2.getD (256 * p.first + j) 0 =
      foldedElem d chunk p (acc.getD (256 * p.first + j) 0) (p.values.getD j 0) j := by
  have hpre : (acc.take (256 * p.first)).length = 256 * p.first := by simp; omega
  simp only [List.getD_eq_getElem?_getD]
  rw [foldAcc_snd, List.append_assoc, List.getElem?_append_right (by omega), hpre, Nat.add_sub_cancel_left,
    List.getElem?_append_left (by simp; omega)]
  simp [List.zip_eq_zipWith, List.getElem?_zipWith, hj, ha]

end Sys2Proof.Machine
end

section
/-! PROOFS. Parked parts (R221, R222): which of them are folded, and where a part parks. -/

namespace Sys2Proof.Machine

/-! ### Parts that are lost (R221, R229) -/

theorem partLost_iff (s : State) (p : Part) (e : WordError) : partLost s p e = true ↔ eccOf e = .uncorrectable ∨
    ∃ id st, p.place = .buffer id ∧ packetOf s id = some st ∧ poisoned st = true := by
  cases hp : p.place with
  | staging b => simp [partLost, hp]
  | buffer id => simp [partLost, hp, Option.any_eq_true]

theorem partLost_congr {s t : State} (h : ∀ id, packetOf t id = packetOf s id) (p : Part) (e : WordError) :
    partLost t p e = partLost s p e := by
  simp only [partLost, h]

/-! ### Folding parked parts -/

/-- A slot without one of its parked parts. -/
def unpark (p : Part) (x : Slot) : Slot := { x with parked := x.parked.filter (fun q => !(q = p)) }

/-- The state with a parked part of a slot read out: it is off the list, and its place is free. -/
def unparked (k : SlotKey) (p : Part) (word : WordError) (s : State) : State :=
  sramRead (placeMem p) word (freePlace p (updSlot k (unpark p) s))

theorem slotOf_unparked {s : State} {k : SlotKey} {x : Slot} (hx : slotOf s k = some x) (p : Part) (word : WordError) :
    slotOf (unparked k p word s) k = some (unpark p x) := by
  rw [unparked, slotOf_sramRead, slotOf_of_besidePlaces (besidePlaces_freePlace ..),
    slotOf_updSlot (f := unpark p) (fun _ => rfl), hx, Option.map_some]

theorem foldParked_stop {s : State} {k : SlotKey} {x : Slot} (hx : slotOf s k = some x)
    (hp : x.parked.find? (inOrder x) = none) (d : Desc) (n : Nat) (word : WordError) : foldParked d k n word s = s := by
  cases n with
  | zero => rfl
  | succ n => simp only [foldParked, hx, hp]

theorem foldParked_fold {s : State} {k : SlotKey} {x : Slot} {p : Part} (hx : slotOf s k = some x)
    (hp : x.parked.find? (inOrder x) = some p) {word : WordError} (hlost : partLost s p word = false) (d : Desc) (n : Nat) :
    foldParked d k (n + 1) word s = foldParked d k n {} (foldPart d k p (unparked k p word s)) := by
  simp only [foldParked, hx, hp, hlost]
  rfl

theorem foldParked_lost {s : State} {k : SlotKey} {x : Slot} {p : Part} (hx : slotOf s k = some x)
    (hp : x.parked.find? (inOrder x) = some p) {word : WordError} (hlost : partLost s p word = true) (d : Desc) (n : Nat) :
    foldParked d k (n + 1) word s = foldParked d k n {} (updSlot k (notArrived p.pos) (unparked k p word s)) := by
  simp only [foldParked, hx, hp, hlost]
  rfl

theorem notArrived_key (pos : Nat) (x : Slot) : (notArrived pos x).key = x.key := by
  simp only [notArrived]
  split <;> rfl

theorem notArrived_parked (pos : Nat) (x : Slot) : (notArrived pos x).parked = x.parked := by
  simp only [notArrived]
  split <;> rfl

theorem notArrived_acc (pos : Nat) (x : Slot) : (notArrived pos x).acc = x.acc := by
  simp only [notArrived]
  split <;> rfl

theorem notArrived_frontier (pos : Nat) (x : Slot) : (notArrived pos x).frontier = x.frontier := by
  simp only [notArrived]
  split <;> rfl

theorem length_unpark_lt {p : Part} {x : Slot} (hp : p ∈ x.parked) : (unpark p x).parked.length < x.parked.length :=
  List.length_filter_lt_length_iff_exists.mpr ⟨p, hp, by simp⟩

/-- Each step takes one part off the list, so that with fuel enough no part in order stays behind. -/
theorem foldParked_leaves_none (d : Desc) (k : SlotKey) {n : Nat} {word : WordError} {s : State} {x y : Slot}
    (hx : slotOf s k = some x) (hn : x.parked.length < n) (hy : slotOf (foldParked d k n word s) k = some y) :
    ∀ p ∈ y.parked, inOrder y p = false := by
  induction n generalizing word s x with
  | zero => omega
  | succ n ih =>
    cases hp : x.parked.find? (inOrder x) with
    | none =>
      rw [foldParked_stop hx hp, hx] at hy
      obtain rfl := Option.some.inj hy
      simpa using hp
    | some p =>
      have hfewer : (unpark p x).parked.length < n :=
        Nat.lt_of_lt_of_le (length_unpark_lt (List.mem_of_find?_eq_some hp)) (Nat.le_of_lt_succ hn)
      have htaken := slotOf_unparked hx p word
      cases hlost : partLost s p word with
      | false =>
        rw [foldParked_fold hx hp hlost] at hy
        exact ih (slotOf_foldPart htaken d p) hfewer hy
      | true =>
        have hgone : slotOf (updSlot k (notArrived p.pos) (unparked k p word s)) k =
            some (notArrived p.pos (unpark p x)) := by
          rw [slotOf_updSlot (notArrived_key p.pos), htaken, Option.map_some]
        rw [foldParked_lost hx hp hlost] at hy
        exact ih hgone (by rw [notArrived_parked]; exact hfewer) hy

/-! ### One parked part -/

section
variable {s : State} {k : SlotKey} {x : Slot} {b : Part} (hx : slotOf s k = some x) (hb : x.parked = [b])
include hb

theorem unpark_single : (unpark b x).parked = [] := by
  simp [unpark, hb]

include hx

/-- The only parked part, in order and not lost, is folded; after it nothing is parked. -/
theorem foldParked_single (hin : inOrder x b = true) (hlost : partLost s b {} = false) (d : Desc) :
    slotOf (foldParked d k 2 {} s) k = some (foldedSlot d k b (unpark b x)) := by
  have hfold := slotOf_foldPart (slotOf_unparked hx b {}) d b
  have hempty : (foldedSlot d k b (unpark b x)).parked = [] := unpark_single hb
  rw [foldParked_fold hx (by simp [hb, hin]) hlost, foldParked_stop hfold (by rw [hempty]; rfl), hfold]

/-- The only parked part, in order but lost, is not folded; nothing is parked after it. -/
theorem foldParked_single_lost (hin : inOrder x b = true) {e : WordError} (hlost : partLost s b e = true) (d : Desc) :
    slotOf (foldParked d k 2 e s) k = some (notArrived b.pos (unpark b x)) := by
  have hgone : slotOf (updSlot k (notArrived b.pos) (unparked k b e s)) k = some (notArrived b.pos (unpark b x)) := by
    rw [slotOf_updSlot (notArrived_key b.pos), slotOf_unparked hx, Option.map_some]
  have hempty : (notArrived b.pos (unpark b x)).parked = [] := by rw [notArrived_parked, unpark_single hb]
  rw [foldParked_lost hx (by simp [hb, hin]) hlost, foldParked_stop hgone (by rw [hempty]; rfl), hgone]

end

/-! ### The order in which parts arrive -/

/-- A part over the same stripes whose turn is the next one is in order once the part before it is folded. -/
theorem inOrder_next {a b : Part} (hfirst : b.first = a.first) (hstripes : b.stripes = a.stripes) (hpos : b.pos = a.pos + 1)
    (d : Desc) (k : SlotKey) (x : Slot) : inOrder (foldedSlot d k a x) b = true := by
  refine (inOrder_iff ..).mpr fun i hi hlo hhi => ?_
  have hi' : i < x.frontier.length := by simpa [foldedSlot] using hi
  have hmoved : nth (movedFrontier a x.frontier) i = a.pos + 1 := by
    rw [nth_movedFrontier a hi', if_pos ⟨by omega, by omega⟩]
  exact hmoved.trans hpos.symm

/-- Parts of consecutive positions over the same stripes give one result in whichever order they come: the later one
waits. -/
theorem foldParked_after_fold {s : State} {k : SlotKey} {x : Slot} {a b : Part} (hx : slotOf s k = some x)
    (hnone : x.parked = []) (hfirst : b.first = a.first) (hstripes : b.stripes = a.stripes) (hpos : b.pos = a.pos + 1)
    (hlost : partLost s b {} = false) (d : Desc) :
    (slotOf (foldParked d k 2 {} (foldPart d k a (updSlot k (fun y => { y with parked := [b] }) s))) k).map
        (fun y => (y.acc, y.flags, y.frontier, y.parked)) =
      (slotOf (foldPart d k b (foldPart d k a s)) k).map (fun y => (y.acc, y.flags, y.frontier, y.parked)) := by
  have hwait : slotOf (updSlot k (fun y => { y with parked := [b] }) s) k = some { x with parked := [b] } := by
    refine (slotOf_updSlot ?_ k s).trans (congrArg _ hx)
    exact fun _ => rfl
  have hlost' : partLost (foldPart d k a (updSlot k (fun y => { y with parked := [b] }) s)) b {} = false :=
    (partLost_congr (fun id => packetOf_foldPart d k a _ id) b {}).trans hlost
  have hearly := foldParked_single (slotOf_foldPart hwait d a) rfl (inOrder_next hfirst hstripes hpos d k _) hlost' d
  have hin := slotOf_foldPart (slotOf_foldPart hx d a) d b
  rw [hearly, hin]
  simp [foldedSlot, unpark, hnone]

/-! ### Where a part parks (R221, R222) -/

/-- A slot with a part of a contributor parked at `place`. -/
def withParked (p : Part) (place : Place) (x : Slot) : Slot :=
  arrive p.pos { x with parked := x.parked ++ [{ p with place := place }] }

/-- The state with a part parked in a staging piece. -/
def parkedInPiece (k : SlotKey) (id b : Nat) (p : Part) (s : State) : State :=
  canvasCount 7 1 (dropPacket id false (updSlot k (withParked p (.staging b)) s))

/-- The packet that carries a part stays in the buffer, its cells counted as parked. -/
def keptInBuffer (id cells : Nat) (s : State) : State :=
  updCanvas (fun c => { c with parkedCells := c.parkedCells + cells })
    (updPacket id (fun x => { x with stage := .parked, deferred := false }) s)

/-- The state with a part parked in the packet buffer. -/
def parkedInBuffer (k : SlotKey) (id cells : Nat) (p : Part) (s : State) : State :=
  canvasCount 8 1 (updSlot k (withParked p (.buffer id)) (keptInBuffer id cells s))

theorem slotOf_withParked {s : State} {k : SlotKey} {x : Slot} (hx : slotOf s k = some x) (p : Part) (place : Place) :
    (slotOf (updSlot k (withParked p place) s) k).map (·.parked) = some (x.parked ++ [{ p with place := place }]) := by
  rw [slotOf_updSlot (f := withParked p place) (fun _ => rfl), hx]
  rfl

theorem slotOf_parkedInPiece {s : State} {k : SlotKey} {x : Slot} (hx : slotOf s k = some x) (id b : Nat) (p : Part) :
    (slotOf (parkedInPiece k id b p s) k).map (·.parked) = some (x.parked ++ [{ p with place := .staging b }]) := by
  rw [parkedInPiece, slotOf_canvasCount, slotOf_dropPacket, slotOf_withParked hx]

theorem parkedInPiece_staging (k : SlotKey) (id b : Nat) (p : Part) (s : State) :
    (parkedInPiece k id b p s).canvas.staging = s.canvas.staging := by
  rw [parkedInPiece, canvasCount, updCanvas_canvas, dropPacket_canvas]
  rfl

theorem parkedInPiece_ctr (k : SlotKey) (id b : Nat) (p : Part) (s : State) :
    (parkedInPiece k id b p s).canvas.ctr = bump 7 1 s.canvas.ctr := by
  rw [parkedInPiece, canvasCount_ctr, dropPacket_canvas]
  rfl

theorem slotOf_parkedInBuffer {s : State} {k : SlotKey} {x : Slot} (hx : slotOf s k = some x) (id cells : Nat) (p : Part) :
    (slotOf (parkedInBuffer k id cells p s) k).map (·.parked) = some (x.parked ++ [{ p with place := .buffer id }]) :=
  slotOf_withParked (s := keptInBuffer id cells s) hx p (.buffer id)

theorem stage_parkedInBuffer {s : State} {id : Nat} {st : Stored} (hst : packetOf s id = some st) (k : SlotKey)
    (cells : Nat) (p : Part) : (packetOf (parkedInBuffer k id cells p s) id).map (·.stage) = some .parked := by
  have hpacket := packetOf_updPacket id (fun x => { x with stage := .parked, deferred := false }) s
  rw [hst] at hpacket
  exact congrArg (Option.map (·.stage)) hpacket

/-- The piece that parking takes: of the own pool, for a scheduled group then of the unscheduled one. -/
def parkingPiece (g : Group) (s : State) : Option (Nat × State) :=
  (takePiece (gSched g.header) s).or (if gSched g.header then takePiece false s else none)

theorem parkPart_piece {g : Group} {s u : State} {b : Nat} (h : parkingPiece g s = some (b, u)) (k : SlotKey) (id : Nat)
    (p : Part) : parkPart g k id p s = parkedInPiece k id b p u := by
  unfold parkingPiece at h
  cases hown : takePiece (gSched g.header) s with
  | some e =>
    rw [hown, Option.some_or] at h
    obtain rfl := Option.some.inj h
    simp only [parkPart, hown]
    rfl
  | none =>
    rw [hown, Option.none_or] at h
    simp only [parkPart, hown, h]
    rfl

section
variable {g : Group} {s : State} {id : Nat} {st : Stored} (h : parkingPiece g s = none) (hst : packetOf s id = some st)
include h hst

theorem parkPart_noPiece (k : SlotKey) (p : Part) : parkPart g k id p s =
    if s.canvas.parkedCells + st.cells > s.policy.parkCells && mayDefer s st then deferPacket id 1 9 s
    else parkedInBuffer k id st.cells p s := by
  obtain ⟨hown, hother⟩ := Option.or_eq_none_iff.mp h
  simp only [parkPart, hown, hother, hst]
  rfl

/-- Beyond the cells that parking may take, a part that may wait is deferred. -/
theorem parkPart_defers (hfull : s.policy.parkCells < s.canvas.parkedCells + st.cells) (hmay : mayDefer s st = true)
    (k : SlotKey) (p : Part) : parkPart g k id p s = deferPacket id 1 9 s := by
  rw [parkPart_noPiece h hst, hmay, Bool.and_true]
  exact if_pos (decide_eq_true hfull)

/-- Within those cells, or where it may not wait, it parks in the packet buffer. -/
theorem parkPart_buffer (hroom : s.canvas.parkedCells + st.cells ≤ s.policy.parkCells ∨ mayDefer s st = false)
    (k : SlotKey) (p : Part) : parkPart g k id p s = parkedInBuffer k id st.cells p s := by
  rw [parkPart_noPiece h hst]
  refine if_neg fun hwait => ?_
  obtain ⟨hfull, hmay⟩ := (Bool.and_eq_true ..).mp hwait
  rcases hroom with hle | hstay
  · exact Nat.not_lt.mpr hle (of_decide_eq_true hfull)
  · exact Bool.noConfusion (hstay.symm.trans hmay)

end

theorem besidePlaces_parkingPiece {g : Group} {s u : State} {b : Nat} (h : parkingPiece g s = some (b, u)) :
    besidePlaces u.canvas = besidePlaces s.canvas := by
  rcases Option.or_eq_some_iff.mp h with hown | ⟨_, hother⟩
  · exact besidePlaces_takePiece hown
  · split at hother
    · exact besidePlaces_takePiece hother
    · cases hother

end Sys2Proof.Machine
end

section
/-! PROOFS. Packets to window 0x01 (R217, R229, R235, R238): when they are judged, deferred or refused. -/

namespace Sys2Proof.Machine

/-! ### Deferring (R222, R238) -/

/-- A packet whose acceptance is deferred for reason `why`; the wait counts in counter `c`. -/
def markDeferred (why c : Nat) (x : Stored) : Stored :=
  { x with deferred := true, why := why, waited := x.waited.erase c ++ [c] }

theorem deferPacket_eq {s : State} {id : Nat} {st : Stored} (hst : packetOf s id = some st) (why c : Nat) :
    deferPacket id why c s = updPacket id (markDeferred why c) (if st.waited.contains c then s else canvasCount c 1 s) := by
  simp only [deferPacket, hst]
  rfl

theorem packetOf_deferPacket {s : State} {id : Nat} {st : Stored} (hst : packetOf s id = some st) (why c : Nat) :
    packetOf (deferPacket id why c s) id = some (markDeferred why c st) := by
  have hsame : packetOf (if st.waited.contains c then s else canvasCount c 1 s) id = packetOf s id := by
    split <;> rfl
  rw [deferPacket_eq hst, packetOf_updPacket, hsame, hst, Option.map_some]

/-- A packet counts once for each kind of wait. -/
theorem deferPacket_again {s : State} {id c : Nat} {st : Stored} (hst : packetOf s id = some st)
    (hc : st.waited.contains c = true) (why : Nat) : (deferPacket id why c s).canvas = s.canvas := by
  rw [deferPacket_eq hst, if_pos hc]
  rfl

/-! ### Packets at the window (R217) -/

theorem packetOf_of_terminatedOf {s : State} {id : Nat} {st : Stored} (h : terminatedOf s id = some st) :
    packetOf s id = some st := by
  simp only [terminatedOf] at h
  split at h
  next => cases h
  next st' hst =>
    split at h
    · rw [hst, h]
    · cases h

section
variable {s : State} {id : Nat} {st : Stored} (ht : terminatedOf s id = some st)
include ht

theorem canvasWindow_acts (hf : findingOf st = .act) (hw : st.hdr.window = 0x01) (hd : st.deferred = false)
    {o : BitVec 8} (ho : st.hdr.opcode = o) (ecc : CanvasEcc) : canvasWindow id o ecc s = canvasPacket id ecc st s := by
  simp [canvasWindow, atWindow, ht, hf, hw, ho, hd]

theorem judgeAgain_otherReason {why : Nat} (h : st.why ≠ why) (ecc : CanvasEcc) : judgeAgain id why ecc s = s := by
  simp [judgeAgain, ht, h]

variable (hd : st.deferred = true) (hw : st.hdr.window = 0x01)
include hd hw

theorem judgeAgain_acts {why : Nat} (h : st.why = why) (hf : findingOf st = .act) (ecc : CanvasEcc) :
    judgeAgain id why ecc s = canvasPacket id ecc st s := by
  simp [judgeAgain, ht, hd, hw, h, hf]

theorem judgeAgain_found {why : Nat} (h : st.why = why) (hf : findingOf st ≠ .act) (ecc : CanvasEcc) :
    judgeAgain id why ecc s = applyFinding id st s := by
  simp [judgeAgain, ht, hd, hw, h, hf]

end

theorem canvasPacket_deferred {s : State} (he : engineRuns s = false) (id : Nat) (ecc : CanvasEcc) (st : Stored) :
    canvasPacket id ecc st s = deferPacket id 1 9 s := by
  simp [canvasPacket, he]

theorem canvasPacket_result {s : State} {st : Stored} (he : engineRuns s = true) (ho : st.hdr.opcode = opReduceResult)
    (id : Nat) (ecc : CanvasEcc) : canvasPacket id ecc st s = judgeResult id st s := by
  simp [canvasPacket, he, ho]

theorem canvasPacket_contribution {s : State} {st : Stored} (he : engineRuns s = true)
    (ho : st.hdr.opcode = opReduceContrib ∨ st.hdr.opcode = opCombineContrib) (id : Nat) (ecc : CanvasEcc) :
    canvasPacket id ecc st s = judgeContribution id ecc st s := by
  have hne : st.hdr.opcode ≠ opReduceResult := by
    rcases ho with ho | ho <;> rw [ho] <;> decide
  simp [canvasPacket, he, hne]

/-! ### Contributions (R217) -/

theorem judgeContribution_noGroup {s : State} {st : Stored} (hg : groupOf s (keyOf st.hdr).group = none) (id : Nat)
    (ecc : CanvasEcc) :
    judgeContribution id ecc st s = answerStatus st stBadParam (canvasCount 15 1 (dropPacket id false s)) := by
  simp only [judgeContribution, hg]
  rfl

theorem judgeContribution_later {s : State} {g : Group} {pos : Nat} {st : Stored}
    (hg : groupOf s (keyOf st.hdr).group = some g) (hpos : positionOf g st.hdr.src = some pos) (hvc : vcFits g st = true)
    (id : Nat) (ecc : CanvasEcc) : judgeContribution id ecc st s =
      judgeLater g (keyOf st.hdr) id pos ((childrenOf g).any (fun m => mEndpoint m = st.hdr.src)) ecc st s := by
  simp [judgeContribution, hg, hpos, hvc]

section
variable {s : State} {g : Group} {k : SlotKey} {c : Bool} {st : Stored} {d : Desc} (hfree : slotOf s k = none)
  (hd : descByDigest s g st.hdr.opA = some d) (hop : d.op ≠ opGather) (hcount : d.elemCount ≠ 0)
  (hcode : st.hdr.opcode = namedOpcode d c)
include hfree hd hop hcount hcode

/-- The refusal cache answers the later parts of a chunk. -/
theorem judgeLater_refused {exp : Nat} (hr : cached s.canvas.refusals k s.canvas.clock = some exp) (id pos : Nat)
    (ecc : CanvasEcc) :
    judgeLater g k id pos c ecc st s = answerBusy st exp (canvasCount 12 1 (dropPacket id false s)) := by
  simp [judgeLater, discardPart, hfree, hd, hop, hcount, hcode, hr]

variable (hr : cached s.canvas.refusals k s.canvas.clock = none)
include hr

/-- A part of a slot that has ended is late. -/
theorem judgeLater_done (hdone : (cached s.canvas.doneCache k s.canvas.clock).isSome = true) (id pos : Nat)
    (ecc : CanvasEcc) : judgeLater g k id pos c ecc st s = canvasCount 11 1 (dropPacket id false s) := by
  simp [judgeLater, discardPart, hfree, hd, hop, hcount, hcode, hr, hdone]

theorem judgeLater_opens (hdone : cached s.canvas.doneCache k s.canvas.clock = none) (id pos : Nat) (ecc : CanvasEcc) :
    judgeLater g k id pos c ecc st s = openByPart g k id pos c ecc st s := by
  simp [judgeLater, hfree, hd, hop, hcount, hcode, hr, hdone]

end

/-! ### Parts in a slot (R218, R220) -/

theorem partInSlot_ended {s : State} {k : SlotKey} {x : Slot} (hx : slotOf s k = some x)
    (hstate : x.state = .up ∨ x.state = .out) (g : Group) (id pos : Nat) (c : Bool) (ecc : CanvasEcc) (st : Stored) :
    partInSlot g k id pos c ecc st s = canvasCount 10 1 (dropPacket id false s) := by
  rcases hstate with h | h <;> simp only [partInSlot, hx, h]

/-- The part that a packet of contributor `pos` carries. -/
def partFrom (d : Desc) (pos : Nat) (c : Bool) (st : Stored) : Part :=
  partOf d pos c
    (min (if c then fitStripes d.accFmt else d.partStripes) (stripeCount d st.hdr.offset.toNat - st.hdr.ftag.toNat))
    st.hdr.ftag.toNat st.hdr (payloadOf st.hdr st.data)

/-- A part of contributor `pos` is folded or parked already. -/
def cameBefore (x : Slot) (pos : Nat) (p : Part) : Bool :=
  (covers p x.frontier.length).any (fun i => nth x.frontier i > pos) ||
    x.parked.any (fun y => y.pos = pos && y.first = p.first)

theorem cameBefore_iff {x : Slot} {pos : Nat} {p : Part} : cameBefore x pos p = true ↔
    (covers p x.frontier.length).any (fun i => nth x.frontier i > pos) = true ∨
      x.parked.any (fun y => y.pos = pos && y.first = p.first) = true := by
  rw [cameBefore, Bool.or_eq_true]

/-- The state with a part folded, and the parked ones that follow it. -/
def foldedWithParked (d : Desc) (k : SlotKey) (id pos : Nat) (p : Part) (x : Slot) (s : State) : State :=
  foldParked d k (x.parked.length + 1) {} (foldPart d k p (updSlot k (arrive pos) (dropPacket id false s)))

/-- A slot to which every part has come is completed. -/
def completeIfDue (k : SlotKey) (s : State) : State :=
  match slotOf s k with
  | some y => if isComplete y then completeSlot k s else s
  | none => s

section
variable {s : State} {k : SlotKey} {pos : Nat} {c : Bool} {st : Stored} {x : Slot} {d : Desc} (hx : slotOf s k = some x)
  (hopen : x.state = .open_) (hdig : x.digest = some st.hdr.opA) (hd : slotDesc x = some d)
  (hfault : partFault d c st.hdr = none)
include hx hopen hdig hd hfault

theorem partInSlot_open (g : Group) (id : Nat) : partInSlot g k id pos c .clean st s =
    if cameBefore x pos (partFrom d pos c st) then canvasCount 10 1 (dropPacket id false s)
    else if !inOrder x (partFrom d pos c st) then parkPart g k id (partFrom d pos c st) s
    else completeIfDue k (foldedWithParked d k id pos (partFrom d pos c st) x s) := by
  simp only [partInSlot, hx, hopen, partOpen, hdig, bne_self_eq_false, hd, hfault]
  rfl

theorem partInSlot_again (g : Group) (id : Nat) (hagain : cameBefore x pos (partFrom d pos c st) = true) :
    partInSlot g k id pos c .clean st s = canvasCount 10 1 (dropPacket id false s) := by
  rw [partInSlot_open hx hopen hdig hd hfault, if_pos hagain]

theorem partInSlot_early (g : Group) (id : Nat) (hnew : ¬ cameBefore x pos (partFrom d pos c st) = true)
    (hwait : inOrder x (partFrom d pos c st) = false) :
    partInSlot g k id pos c .clean st s = parkPart g k id (partFrom d pos c st) s := by
  rw [partInSlot_open hx hopen hdig hd hfault, if_neg hnew, hwait]
  rfl

theorem partInSlot_folds (g : Group) (id : Nat) (hnew : ¬ cameBefore x pos (partFrom d pos c st) = true)
    (hin : inOrder x (partFrom d pos c st) = true) {y : Slot}
    (hy : slotOf (foldedWithParked d k id pos (partFrom d pos c st) x s) k = some y) :
    partInSlot g k id pos c .clean st s =
      if isComplete y then completeSlot k (foldedWithParked d k id pos (partFrom d pos c st) x s)
      else foldedWithParked d k id pos (partFrom d pos c st) x s := by
  rw [partInSlot_open hx hopen hdig hd hfault, if_neg hnew, hin]
  simp only [completeIfDue, hy]
  rfl

end

/-! ### Openings (R218, R234 to R237) -/

theorem blockFor_eq (s : State) (sched : Bool) : blockFor s sched = if sched = true ∧ 0 < poolFree s true then some true
    else if 0 < poolFree s false then some false else none := by
  simp [blockFor]

/-- Without a block, or with a full refusal cache, an unscheduled opening is refused. -/
theorem openByPart_refused {s : State} {g : Group} (hs : gSched g.header = false)
    (h : poolFree s false = 0 ∨ refusalsFull s = true) (k : SlotKey) (id pos : Nat) (c : Bool) (ecc : CanvasEcc)
    (st : Stored) : openByPart g k id pos c ecc st s = refuseOpening g k id st s := by
  cases hfull : refusalsFull s with
  | true => simp [openByPart, hs, hfull]
  | false =>
    have hnone : blockFor s false = none := by simpa [hfull, blockFor_eq] using h
    simp [openByPart, hs, hfull, hnone]

/-- Without a block a scheduled opening waits. -/
theorem openByPart_waits {s : State} {g : Group} (hs : gSched g.header = true) (hown : poolFree s true = 0)
    (hother : poolFree s false = 0) (k : SlotKey) (id pos : Nat) (c : Bool) (ecc : CanvasEcc) (st : Stored) :
    openByPart g k id pos c ecc st s = deferPacket id 2 14 s := by
  have hnone : blockFor s true = none := by simp [blockFor_eq, hown, hother]
  simp [openByPart, hs, hnone]

theorem openByPart_opens {s : State} {g : Group} (h : gSched g.header = true ∨ refusalsFull s = false) {pool : Bool}
    (hb : blockFor s (gSched g.header) = some pool) (k : SlotKey) (id pos : Nat) (c : Bool) (ecc : CanvasEcc)
    (st : Stored) : openByPart g k id pos c ecc st s = if rateAllows s
      then partInSlot g k id pos c ecc st (openSlot g k pool (some st.hdr.opA) s) else deferPacket id 3 9 s := by
  have hroom : (!gSched g.header && refusalsFull s) = false := by
    rcases h with h | h <;> simp [h]
  simp only [openByPart, hroom, hb]
  cases rateAllows s <;> rfl

/-- A child's status that can open no slot is discarded. -/
theorem openByStatus_discarded {s : State} {g : Group}
    (h : blockFor s (gSched g.header) = none ∨ (gSched g.header = false ∧ refusalsFull s = true)) (k : SlotKey)
    (id pos : Nat) (status : W16) :
    openByStatus g k id pos status s = canvasCount 16 1 (dropPacket id false s) := by
  rcases h with hnone | ⟨hs, hfull⟩
  · simp only [openByStatus, hnone]
    exact ite_self _
  · simp [openByStatus, hs, hfull]

theorem refuseOpening_room {s : State} (h : (alive s.canvas.refusals s.canvas.clock).length < 4096) (g : Group)
    (k : SlotKey) (id : Nat) (st : Stored) : refuseOpening g k id st s =
      answerBusy st (s.canvas.clock + timeoutNs g) (updCanvas (fun c => { c with
        refusals := alive s.canvas.refusals s.canvas.clock ++ [(k, s.canvas.clock + timeoutNs g)] })
        (canvasCount 12 1 (dropPacket id false s))) := by
  simp only [refuseOpening]
  exact if_neg (Nat.not_le.mpr h)

theorem refuseOpening_full {s : State} (h : 4096 ≤ (alive s.canvas.refusals s.canvas.clock).length) (g : Group)
    (k : SlotKey) (id : Nat) (st : Stored) : refuseOpening g k id st s =
      answerBusy st (((alive s.canvas.refusals s.canvas.clock).head?.map (·.2)).getD s.canvas.clock)
        (canvasCount 13 1 (canvasCount 12 1 (dropPacket id false s))) := by
  simp only [refuseOpening]
  exact if_pos h

/-- Counting an opening against the plan leaves the Canvas as it is. -/
theorem countOpening_canvas (n : Nat) (s : State) : (countOpening n s).1.canvas = s.canvas := by
  simp only [countOpening]
  split
  · rfl
  · split <;> rfl

/-- The state in which a slot is made, and its reduce item: a scheduled group's opening has been counted. -/
def opening (g : Group) (k : SlotKey) (s : State) : State × Option (W32 × Nat × Nat × Nat) :=
  if gSched g.header then countOpening k.group s else (s, none)

theorem opening_canvas (g : Group) (k : SlotKey) (s : State) : (opening g k s).1.canvas = s.canvas := by
  unfold opening
  split
  · exact countOpening_canvas ..
  · rfl

/-- A slot as it opens on a digest (R218). -/
def openedSlot (g : Group) (k : SlotKey) (pool : Bool) (w : W32) (s : State) : Slot :=
  let d := descByDigest s g w
  let o := opening g k s
  let dead := (palettesIn o.1).isEmpty
  { key := k, block := newBlock o.1.canvas, group := g, desc := descBytes o.1 g w, scheduled := pool
    state := if d.isNone || dead then .failed else .open_, digest := some w
    frontier := List.replicate ((d.map (fun d => stripeCount d k.chunk)).getD 0) 0
    acc := List.replicate ((d.map (fun d => chunkLen d k.chunk)).getD 0) 0
    mismatch := d.isNone, internal := dead, opDeadline := o.1.canvas.clock + timeoutNs g
    leftAt := (contributors g).map (fun m => (portOf o.1 (mPort m)).leftRunning), item := o.2 }

theorem openSlot_canvas (g : Group) (k : SlotKey) (pool : Bool) (w : W32) (s : State) :
    (openSlot g k pool (some w) s).canvas = { s.canvas with
      slots := s.canvas.slots ++ [openedSlot g k pool w s], lastOpen := some (1000 * (opening g k s).1.now)
      ctr := bump 0 1 s.canvas.ctr } := by
  rw [← opening_canvas g k s]
  rfl

theorem slotOf_openSlot {s : State} {k : SlotKey} (h : slotOf s k = none) (g : Group) (pool : Bool) (w : W32) :
    slotOf (openSlot g k pool (some w) s) k = some (openedSlot g k pool w s) := by
  have hkey : (openedSlot g k pool w s).key = k := rfl
  have hnone : s.canvas.slots.find? (fun x => x.key = k) = none := h
  rw [slotOf, openSlot_canvas, List.find?_append, hnone]
  simp [hkey]

end Sys2Proof.Machine
end

section
/-! PROOFS. How slots end by time (R219, R225, R232), the ends of cache entries (R228, R235), and the packets to the
Canvas's window (O51). -/

namespace Sys2Proof.Machine

/-! ### The operation timer (R219, R225) -/

/-- The state in which a slot's end with status `st` has been counted and, for a mismatch, logged. -/
def endNoted (k : SlotKey) (x : Slot) (st : W16) (s : State) : State :=
  if st = stMismatch then
    updCanvas (fun c => { c with mismatchLog := (mismatchEntry (countEnd k st s) x :: c.mismatchLog).take 64 })
      (countEnd k st s)
  else countEnd k st s

theorem slotOf_endNoted {s : State} {k : SlotKey} {x : Slot} (hx : slotOf s k = some x) (st : W16) :
    slotOf (endNoted k x st s) k = some (markCounted x) := by
  rw [← slotOf_countEnd hx st]
  unfold endNoted
  split <;> rfl

theorem endNoted_clock (k : SlotKey) (x : Slot) (st : W16) (s : State) :
    (endNoted k x st s).canvas.clock = s.canvas.clock := by
  rw [← countEnd_clock k st s]
  unfold endNoted
  split <;> rfl

theorem endNoted_groups (k : SlotKey) (x : Slot) (st : W16) (s : State) :
    (endNoted k x st s).canvas.groups = s.canvas.groups := by
  rw [← countEnd_groups k st s]
  unfold endNoted
  split <;> rfl

/-- A slot that waits in *Up* until `t`. -/
def enterUp (t : Nat) (x : Slot) : Slot := { x with state := .up, upDeadline := t }

section
variable {s : State} {k : SlotKey} {x : Slot} {m : W64} (hx : slotOf s k = some x) (hm : parentOf x.group = some m)
include hx hm

theorem endSlot_parent (expired : Bool) :
    let st := finalStatus s x expired
    let t := freeParked k (endNoted k x st s)
    endSlot k expired s = sendParent (resultHeader t x.group k 0x01 0 0 (resultWord st false x.flags 0)) [] m
      (updSlot k (enterUp (t.canvas.clock + 2 * timeoutNs x.group)) t) := by
  simp only [endSlot, hx, hm]
  rfl

theorem slotOf_endSlot_parent (expired : Bool) : slotOf (endSlot k expired s) k =
    some (enterUp (s.canvas.clock + 2 * timeoutNs x.group) (unparkAll (markCounted x))) := by
  rw [endSlot_parent hx hm, slotOf_sendParent, freeParked_clock, endNoted_clock,
    slotOf_updSlot (f := enterUp (s.canvas.clock + 2 * timeoutNs x.group)) (fun _ => rfl), slotOf_freeParked,
    slotOf_endNoted hx, Option.map_some, Option.map_some]

theorem endSlot_parent_groups (expired : Bool) : (endSlot k expired s).canvas.groups = s.canvas.groups := by
  rw [endSlot_parent hx hm, sendParent_canvas]
  exact (freeParked_groups ..).trans (endNoted_groups ..)

end

theorem opTimesOut_due {s : State} {k : SlotKey} {x : Slot} (hx : slotOf s k = some x) (he : engineRuns s = true)
    (hstate : x.state = .open_ ∨ x.state = .failed) (hlate : x.opDeadline < s.canvas.clock) :
    opTimesOut k s = endSlot k true s := by
  simp [opTimesOut, hx, he, hstate, hlate]

theorem opTimesOut_inTime {s : State} {k : SlotKey} {x : Slot} (hx : slotOf s k = some x)
    (h : s.canvas.clock ≤ x.opDeadline) : opTimesOut k s = s := by
  simp [opTimesOut, hx, Nat.not_lt.mpr h]

/-! ### The up timer (R232) -/

theorem upTimesOut_due {s : State} {k : SlotKey} {x : Slot} (hx : slotOf s k = some x) (he : engineRuns s = true)
    (hstate : x.state = .up) (hlate : x.upDeadline ≤ s.canvas.clock) :
    let t := countEnd k stMemberLost s
    upTimesOut k s = slotFree k (sendMembers
      (resultHeader t x.group k 0x00 0 0 (resultWord stMemberLost false x.flags 0)) [] none (endpointsOf x.group) t) := by
  simp [upTimesOut, hx, he, hstate, hlate]

theorem upTimesOut_ctr {s : State} {k : SlotKey} {x : Slot} (hx : slotOf s k = some x) (he : engineRuns s = true)
    (hstate : x.state = .up) (hlate : x.upDeadline ≤ s.canvas.clock) (hc : x.counted = false) :
    (upTimesOut k s).canvas.ctr = bump 4 1 s.canvas.ctr := by
  have hlost : endCounter stMemberLost = 4 := by decide
  rw [upTimesOut_due hx he hstate hlate, slotFree_ctr, sendMembers_canvas, countEnd_first hx hc, hlost]
  rfl

/-! ### Cache entries (R228, R235) -/

theorem mem_expire {l : List (SlotKey × Nat)} {k : SlotKey} {now : Nat} {e : SlotKey × Nat} :
    e ∈ expire l k now ↔ e ∈ l ∧ ¬ (e.1 = k ∧ e.2 ≤ now) := by
  rw [expire, List.mem_filter, Bool.not_eq_true', ← Bool.not_eq_true, Bool.and_eq_true, decide_eq_true_eq,
    decide_eq_true_eq]

/-! ### The obligation -/

/-- Settles O51, step by step of R217: each packet by the equation of its judgement for the case at hand, each slot by what
folding, parking and ending make of it. -/
theorem canvasPacketsAndTimeouts : Obligations.CanvasPacketsAndTimeouts := by
  unfold Obligations.CanvasPacketsAndTimeouts
  refine ⟨?judged, ?deferred, ?waits, ?found, ?again, ?noGroup, ?ended, ?opTimeout, ?opInTime, ?upTimeout, ?doneCache,
    ?refusals, ?part, ?inOrder, ?folded, ?anyOrder, ?lost, ?lostPart, ?noneLeft, ?parks, ?caches, ?opens, ?pools, ?opened,
    ?refused, ?status⟩
  case judged =>
    intro s id e st ht hf hw hd he
    refine ⟨fun ho => ?_, fun ho => ?_, fun ho => ?_⟩ <;> refine congrArg Host.Outcome.next ?_ <;>
      rw [canvasWindow_acts ht hf hw hd ho]
    · exact canvasPacket_contribution he (.inl ho) id e
    · exact canvasPacket_contribution he (.inr ho) id e
    · exact canvasPacket_result he ho id .clean
  case deferred =>
    intro s id e st ht hf hw hd he ho
    refine congrArg Host.Outcome.next ?_
    rw [canvasWindow_acts ht hf hw hd ho, canvasPacket_deferred he, deferPacket_eq (packetOf_of_terminatedOf ht)]
    rfl
  case waits =>
    intro s id why c st hst
    refine ⟨?_, fun hc => deferPacket_again hst hc why⟩
    rw [packetOf_deferPacket hst]
    simp [markDeferred]
  case found =>
    intro s id e st ht hd hw hf
    refine ⟨fun h => ?_, fun h => ?_, fun h => ?_⟩ <;>
      exact congrArg Host.Outcome.next (judgeAgain_found ht hd hw h hf e)
  case again =>
    intro s id e st ht hd he hw hf ho
    have hmine : ∀ why, st.why = why → judgeAgain id why e s = judgeContribution id e st s := fun why h =>
      (judgeAgain_acts ht hd hw h hf e).trans (canvasPacket_contribution he (.inl ho) id e)
    have hother : ∀ why, st.why ≠ why → judgeAgain id why e s = s := fun why h => judgeAgain_otherReason ht h e
    exact ⟨fun h => congrArg Host.Outcome.next (hmine 1 h), fun h => congrArg Host.Outcome.next (hmine 2 h),
      fun h => congrArg Host.Outcome.next (hmine 3 h), fun h => congrArg Host.Outcome.next (hother 1 h),
      fun h => congrArg Host.Outcome.next (hother 2 h), fun h => congrArg Host.Outcome.next (hother 3 h)⟩
  case noGroup => exact fun s id e st hg => judgeContribution_noGroup hg id e
  case ended => exact fun s g id pos c e st x hx hstate => partInSlot_ended hx hstate g id pos c e st
  case opTimeout =>
    intro s k x m hx hm he hstate hlate
    have hslot := slotOf_endSlot_parent hx hm true
    exact ⟨_, congrArg Host.Outcome.next (opTimesOut_due hx he hstate hlate), congrArg (Option.map (·.state)) hslot,
      congrArg (Option.map (·.upDeadline)) hslot, endSlot_parent_groups hx hm true⟩
  case opInTime => exact fun s k x hx h => congrArg Host.Outcome.next (opTimesOut_inTime hx h)
  case upTimeout =>
    intro s k x hx he hstate hlate hc
    refine ⟨upTimesOut k s, rfl, ?_, upTimesOut_ctr hx he hstate hlate hc⟩
    rw [upTimesOut_due hx he hstate hlate, slotOf_slotFree]
  case doneCache => exact fun s k => ⟨_, rfl, rfl, fun e => mem_expire⟩
  case refusals => exact fun s k => ⟨_, rfl, rfl, fun e => mem_expire⟩
  case part =>
    intro s g k id pos c st x d hx hopen hdig hd hfault
    refine ⟨fun h => ?_, fun h hwait => ?_, fun h hin y hy => ?_⟩
    · exact partInSlot_again hx hopen hdig hd hfault g id (cameBefore_iff.mpr h)
    · exact partInSlot_early hx hopen hdig hd hfault g id (fun hc => h (cameBefore_iff.mp hc)) hwait
    · exact partInSlot_folds hx hopen hdig hd hfault g id (fun hc => h (cameBefore_iff.mp hc)) hin hy
  case inOrder => exact inOrder_iff
  case folded =>
    intro s k d x y p hx hy
    obtain rfl := Option.some.inj ((slotOf_foldPart hx d p).symm.trans hy)
    exact ⟨fun i hi => nth_movedFrontier p hi, fun j hj => foldAcc_outside d k.chunk p x.acc hj,
      fun j hj ha => foldAcc_inside d k.chunk p x.acc hj ha, rfl⟩
  case anyOrder =>
    exact fun s k d x a b hx hnone hfirst hstripes hpos hlost =>
      foldParked_after_fold hx hnone hfirst hstripes hpos hlost d
  case lost => exact partLost_iff
  case lostPart =>
    intro s k d x b e hx hb hin hlost
    rw [foldParked_single_lost hx hb hin hlost, Option.map_some, notArrived_acc, notArrived_frontier, notArrived_parked,
      unpark_single hb]
    rfl
  case noneLeft => exact fun s k d n x y hx hn hy => foldParked_leaves_none d k hx hn hy
  case parks =>
    intro s u g k id b p x st hx hst
    refine ⟨fun h => ?_, fun hown hother => ?_⟩
    · have hpiece : parkingPiece g s = some (b, u) := Option.or_eq_some_iff.mpr h
      have hplaces := besidePlaces_parkingPiece hpiece
      rw [parkPart_piece hpiece, ← ctr_of_besidePlaces hplaces]
      exact ⟨slotOf_parkedInPiece ((slotOf_of_besidePlaces hplaces k).trans hx) id b p, packetOf_dropPacket ..,
        parkedInPiece_staging .., parkedInPiece_ctr ..⟩
    · have hnone : parkingPiece g s = none := Option.or_eq_none_iff.mpr ⟨hown, hother⟩
      refine ⟨fun hfull hmay => parkPart_defers hnone hst hfull hmay k p, fun hroom => ?_⟩
      rw [parkPart_buffer hnone hst hroom]
      exact ⟨slotOf_parkedInBuffer hx id st.cells p, stage_parkedInBuffer hst k st.cells p, rfl, rfl⟩
  case caches =>
    intro s g id pos e st d hg hpos hvc hfree hd hop hcount k c hcode
    rw [judgeContribution_later hg hpos hvc]
    exact ⟨fun exp hr => judgeLater_refused hfree hd hop hcount hcode hr id pos e,
      fun hr hdone => judgeLater_done hfree hd hop hcount hcode hr hdone id pos e,
      fun hr hdone => judgeLater_opens hfree hd hop hcount hcode hr hdone id pos e⟩
  case opens =>
    exact fun s g k id pos c e st => ⟨fun hs h => openByPart_refused hs h k id pos c e st,
      fun hs hown hother => openByPart_waits hs hown hother k id pos c e st,
      fun h pool hb => openByPart_opens h hb k id pos c e st⟩
  case pools => exact blockFor_eq
  case opened =>
    intro s g k pool w hnone
    refine ⟨_, slotOf_openSlot hnone g pool w, rfl, rfl, rfl, ?_, ?_, rfl, rfl,
      fun f hf => List.eq_of_mem_replicate hf, ?_⟩
    · have hpalettes : palettesIn (opening g k s).1 = palettesIn s := by rw [palettesIn, opening_canvas]; rfl
      rw [← hpalettes]
      rfl
    · exact congrArg (fun c : Canvas => c.clock + timeoutNs g) (opening_canvas g k s)
    · rw [openSlot_canvas]
  case refused =>
    exact fun s g k id st => ⟨fun h => refuseOpening_room h g k id st, fun h => refuseOpening_full h g k id st⟩
  case status => exact fun s g k id pos status h => openByStatus_discarded h k id pos status

end Sys2Proof.Machine
end

section
/-! PROOFS. Integer sums and conversions (R258, R262): a field of `w` bits read back as a signed number is the balanced
remainder modulo 2^w. -/

namespace Sys2Proof.Machine

/-! ### Signed fields -/

theorem int_two_pow_pos (w : Nat) : (0 : Int) < 2 ^ w := Int.pow_pos (by decide)

theorem natCast_two_pow (w : Nat) : ((2 ^ w : Nat) : Int) = 2 ^ w := Int.natCast_pow 2 w

theorem two_pow_eq_double {w : Nat} (hw : 1 ≤ w) : (2 ^ w : Int) = 2 * 2 ^ (w - 1) := by
  obtain ⟨n, rfl⟩ := Nat.exists_eq_add_of_le' hw
  rw [Nat.add_sub_cancel, Int.pow_succ, Int.mul_comm]

/-- Writing an integer into `w` bits and reading it back as a signed number balances it modulo 2^w. -/
theorem signedOf_wrapInt {w : Nat} (hw : 1 ≤ w) (x : Int) : signedOf w (wrapInt w x) = x.bmod (2 ^ w) := by
  have hdouble := two_pow_eq_double hw
  have hnonneg : 0 ≤ x % (2 ^ w : Int) := Int.emod_nonneg x (Int.ne_of_gt (int_two_pow_pos w))
  have hcode : ((wrapInt w x : Nat) : Int) = x % 2 ^ w := Int.toNat_of_nonneg hnonneg
  have hhalf : wrapInt w x < 2 ^ (w - 1) ↔ x % 2 ^ w < (2 ^ w + 1) / 2 := by
    rw [← hcode, ← Int.ofNat_lt, natCast_two_pow]
    omega
  simp only [signedOf, Int.bmod, natCast_two_pow, hhalf, hcode]

theorem signedOf_wrapInt_of_mem {w : Nat} (hw : 1 ≤ w) {x : Int} (hlo : -(2 ^ (w - 1)) ≤ x) (hhi : x < 2 ^ (w - 1)) :
    signedOf w (wrapInt w x) = x := by
  have hdouble := two_pow_eq_double hw
  rw [signedOf_wrapInt hw]
  exact Int.bmod_eq_of_le (by rw [natCast_two_pow]; omega) (by rw [natCast_two_pow]; omega)

theorem signedOf_wrapInt_mem {w : Nat} (hw : 1 ≤ w) (x : Int) :
    -(2 ^ (w - 1)) ≤ signedOf w (wrapInt w x) ∧ signedOf w (wrapInt w x) < 2 ^ (w - 1) := by
  have hdouble := two_pow_eq_double hw
  have hpos : 0 < 2 ^ w := Nat.two_pow_pos w
  have hlo := Int.le_bmod (x := x) hpos
  have hhi := Int.bmod_lt (x := x) hpos
  rw [signedOf_wrapInt hw]
  rw [natCast_two_pow] at hlo hhi
  omega

theorem dvd_sub_signedOf_wrapInt {w : Nat} (hw : 1 ≤ w) (x : Int) : (2 ^ w : Int) ∣ x - signedOf w (wrapInt w x) := by
  rw [signedOf_wrapInt hw, ← natCast_two_pow]
  exact Int.dvd_self_sub_bmod

/-! ### Clamping to the range of `w` bits -/

theorem clampInt_above {lo hi x : Int} (hrange : lo ≤ hi) (h : hi ≤ x) : clampInt lo hi x = hi := by
  rw [clampInt, Int.min_eq_left h, Int.max_eq_right hrange]

theorem clampInt_below {lo hi x : Int} (hrange : lo ≤ hi) (h : x ≤ lo) : clampInt lo hi x = lo := by
  rw [clampInt, Int.min_eq_right (Int.le_trans h hrange), Int.max_eq_left h]

/-- The range of `w` bits is not empty. -/
theorem low_le_high (w : Nat) : (-(2 ^ (w - 1)) : Int) ≤ 2 ^ (w - 1) - 1 := by
  have hpos := int_two_pow_pos (w - 1)
  omega

/-! ### Sums (R258) -/

theorem addInt_in_range {w : Nat} (sat : Bool) {a b : Int} (hlo : -(2 ^ (w - 1)) ≤ a + b) (hhi : a + b < 2 ^ (w - 1)) :
    addInt w sat a b = (0, a + b) :=
  if_pos ⟨hlo, by omega⟩

theorem addInt_out_of_range {w : Nat} (sat : Bool) {a b : Int}
    (h : a + b < -(2 ^ (w - 1)) ∨ 2 ^ (w - 1) ≤ a + b) : addInt w sat a b =
      (flagOF, if sat then clampInt (-(2 ^ (w - 1))) (2 ^ (w - 1) - 1) (a + b) else signedOf w (wrapInt w (a + b))) :=
  if_neg (by omega)

/-! ### Conversions (R262) -/

theorem intToInt_in_range {f : Nat} (sat : Bool) {x : Int} (hlo : -(2 ^ (8 * fmtBytes f - 1)) ≤ x)
    (hhi : x < 2 ^ (8 * fmtBytes f - 1)) : intToInt f sat x = (0, wrapInt (8 * fmtBytes f) x) :=
  if_pos ⟨hlo, by omega⟩

theorem intToInt_out_of_range {f : Nat} (sat : Bool) {x : Int}
    (h : x < -(2 ^ (8 * fmtBytes f - 1)) ∨ 2 ^ (8 * fmtBytes f - 1) ≤ x) : intToInt f sat x =
      (flagOF, if sat then wrapInt (8 * fmtBytes f) (clampInt (-(2 ^ (8 * fmtBytes f - 1))) (2 ^ (8 * fmtBytes f - 1) - 1) x)
        else wrapInt (8 * fmtBytes f) x) :=
  if_neg (by omega)

/-- A saturated conversion reads back as the clamped integer. -/
theorem signedOf_intToInt_saturated {f : Nat} (hf : 1 ≤ fmtBytes f) {x : Int}
    (h : x < -(2 ^ (8 * fmtBytes f - 1)) ∨ 2 ^ (8 * fmtBytes f - 1) ≤ x) :
    signedOf (8 * fmtBytes f) (intToInt f true x).2 =
      clampInt (-(2 ^ (8 * fmtBytes f - 1))) (2 ^ (8 * fmtBytes f - 1) - 1) x := by
  have hrange := low_le_high (8 * fmtBytes f)
  rw [intToInt_out_of_range true h]
  refine signedOf_wrapInt_of_mem (by omega) (Int.le_max_left ..) ?_
  exact Int.lt_of_le_sub_one (Int.max_le.mpr ⟨hrange, Int.min_le_left ..⟩)

/-- Settles O53: a field of `w` bits reads back as the balanced remainder, and beyond the range the clamped sum is its
nearer end. -/
theorem integersSaturateOrWrap : Obligations.IntegersSaturateOrWrap := by
  unfold Obligations.IntegersSaturateOrWrap
  refine ⟨?sumInside, ?sumAbove, ?sumBelow, ?sumWraps, ?inside, ?above, ?below, ?wraps⟩
  case sumInside => exact fun w sat a b _ hlo hhi => addInt_in_range sat hlo hhi
  case sumAbove =>
    intro w a b _ h
    rw [addInt_out_of_range true (.inr h), if_pos rfl, clampInt_above (low_le_high w) (by omega)]
  case sumBelow =>
    intro w a b _ h
    rw [addInt_out_of_range true (.inl h), if_pos rfl, clampInt_below (low_le_high w) (Int.le_of_lt h)]
  case sumWraps =>
    intro w a b hw h
    rw [addInt_out_of_range false h]
    obtain ⟨hlo, hhi⟩ := signedOf_wrapInt_mem hw (a + b)
    exact ⟨rfl, hlo, hhi, dvd_sub_signedOf_wrapInt hw (a + b)⟩
  case inside =>
    intro f sat x hf hlo hhi
    rw [intToInt_in_range sat hlo hhi]
    exact ⟨rfl, signedOf_wrapInt_of_mem (by omega) hlo hhi⟩
  case above =>
    intro f x hf h
    rw [signedOf_intToInt_saturated hf (.inr h), clampInt_above (low_le_high _) (by omega), intToInt_out_of_range true (.inr h)]
    exact ⟨rfl, rfl⟩
  case below =>
    intro f x hf h
    rw [signedOf_intToInt_saturated hf (.inl h), clampInt_below (low_le_high _) (Int.le_of_lt h), intToInt_out_of_range true (.inl h)]
    exact ⟨rfl, rfl⟩
  case wraps =>
    intro f x hf h
    rw [intToInt_out_of_range false h]
    exact ⟨rfl, dvd_sub_signedOf_wrapInt (by omega) x⟩

end Sys2Proof.Machine
end

section
/-! PROOFS. Conversion of an infinity into a format without infinities (R250): it stands for twice the largest finite
value, as long as that value is not zero. -/

namespace Sys2Proof.Machine

/-- A format that has infinities keeps one; any other converts twice its largest finite value, where that is not zero. -/
theorem convert_inf {F : Fmt} (hmax : F.maxSig ≠ 0) (mode : Nat) (c : RCtx) (neg : Bool) : convert F mode c (.inf neg) =
    if F.hasInf then (0, .inf neg) else convert F mode c (.fin neg (2 * F.maxSig) F.maxExp) := by
  have htwice : 2 * F.maxSig ≠ 0 := by omega
  simp only [convert, if_neg htwice]

/-- So the infinity clause of O52 does hold for each format of R244 and for F19. -/
theorem convert_inf_of_mem_floatFormats {F : Fmt} (hF : F ∈ floatFormats) (mode : Nat) (c : RCtx) (neg : Bool) :
    convert F mode c (.inf neg) =
      if F.hasInf then (0, .inf neg) else convert F mode c (.fin neg (2 * F.maxSig) F.maxExp) := by
  have hmax : ∀ G ∈ floatFormats, G.maxSig ≠ 0 := by decide
  exact convert_inf (hmax F hF) mode c neg

/-- E4M3 with its largest finite value set to zero: a value of `Fmt`, but no format of R244. -/
def noFiniteRange : Fmt := { e4m3 with maxSig := 0 }

/-- Its infinity goes through the range checks and underflows. -/
theorem convert_noFiniteRange_inf : convert noFiniteRange 0 .entry (.inf false) = (flagUF ||| flagNX, zero false) := by
  decide

/-- A zero of the same format converts exactly. -/
theorem convert_noFiniteRange_twiceMax :
    convert noFiniteRange 0 .entry (.fin false (2 * noFiniteRange.maxSig) noFiniteRange.maxExp) = (0, zero false) :=
  rfl

/-- Refutes O52: its clause on special operands ranges over every `Fmt`, where its neighbours ask for `F ∈ floatFormats`.
In `noFiniteRange` an infinity raises underflow and inexact, and the zero it is said to convert as raises no flag. -/
theorem not_arithmeticRoundsAndOrders : ¬ Obligations.ArithmeticRoundsAndOrders := by
  unfold Obligations.ArithmeticRoundsAndOrders
  rintro ⟨-, -, -, -, -, -, -, -, -, -, -, -, hspecial, -⟩
  obtain ⟨-, -, hinf⟩ := hspecial noFiniteRange 0 .entry false 0
  rw [convert_noFiniteRange_inf, convert_noFiniteRange_twiceMax] at hinf
  have hflags : flagUF ||| flagNX = 0 := congrArg Prod.fst hinf
  exact absurd hflags (by decide)

end Sys2Proof.Machine
end

section
/-! PROOFS. The bytes of the stream store (R266, R271, R440): an operation keeps them where it leaves the skeleton of the state
as it is, and where it changes no more of it than start-up, flash, constants, the load area or the receiving buffer. -/

namespace Sys2Proof.Machine

/-! ### The store in the skeleton -/

theorem store_eq_skel (s : State) : s.streams.store = (skel s).store := rfl

@[simp] theorem updBoot_store (f : Boot → Boot) (s : State) : (skel (updBoot f s)).store = (skel s).store := rfl
@[simp] theorem updFlash_store (f : Flash → Flash) (s : State) : (skel (updFlash f s)).store = (skel s).store := rfl
@[simp] theorem updCanvas_store (f : Canvas → Canvas) (s : State) : (skel (updCanvas f s)).store = (skel s).store := rfl
@[simp] theorem updSketch_store (f : Sketch → Sketch) (s : State) : (skel (updSketch f s)).store = (skel s).store := rfl
@[simp] theorem updTray_store (f : Tray → Tray) (s : State) : (skel (updTray f s)).store = (skel s).store := rfl

@[simp] theorem store_ite {c : Prop} [Decidable c] (x y : Skel) :
    (if c then x else y).store = if c then x.store else y.store := apply_ite Skel.store ..

theorem when_store {f : State → State} {s : State} (b : Bool) (h : (skel (f s)).store = (skel s).store) :
    (skel (when b f s)).store = (skel s).store := by
  cases b
  · rfl
  · exact h

@[simp] theorem refuseIf_store (src : CmdSrc) (checks : List (Bool × W16)) (f : State → State) (s : State)
    (h : ∀ t, (skel (f t)).store = (skel t).store) : (skel (refuseIf src checks f s)).store = (skel s).store := by
  unfold refuseIf
  split
  · simp
  · exact h s

@[simp] theorem command_store (src : CmdSrc) (mine lenOk : Bytes → Bool) (f : Bytes → State → State) (s : State)
    (h : ∀ p t, (skel (f p t)).store = (skel t).store) :
    (skel (command src mine lenOk f s)).store = (skel s).store := by
  simp only [command]; (repeat' split) <;> simp_all

@[simp] theorem twinReceived_store (typ : Nat) (frame : List (List CodeGroup)) (f : Bytes → State → State) (s : State)
    (h : ∀ p t, (skel (f p t)).store = (skel t).store) :
    (skel (twinReceived typ frame f s)).store = (skel s).store := by
  simp only [twinReceived]; (repeat' split) <;> simp_all

/-! ### Boot registers (R327, R435) -/

@[simp] theorem setBootStatus_store (v : BitVec 2) (s : State) : (skel (setBootStatus v s)).store = (skel s).store := by
  unfold setBootStatus
  split
  · rfl
  · dsimp only; split <;> simp
@[simp] theorem startFetch_store (hp : HostPort) (s : State) : (skel (startFetch hp s)).store = (skel s).store := by
  simp [startFetch]
@[simp] theorem writeBootReg_store (hp : HostPort) (o : Nat) (v : W32) (s : State) :
    (skel (writeBootReg hp o v s)).store = (skel s).store := by
  simp [writeBootReg]
@[simp] theorem writeBar0_store (hp : HostPort) (o : Nat) (v : W32) (s : State) :
    (skel (writeBar0 hp o v s)).store = (skel s).store := by
  simp [writeBar0]
@[simp] theorem writeRegister_store (hp : HostPort) (w : RegWrite) (s : State) :
    (skel (writeRegister hp w s)).store = (skel s).store := by
  unfold writeRegister
  split
  · rfl
  · cases w <;> simp

/-! ### Uploads, commits and activation (R299 to R304, R429, R441) -/

@[simp] theorem loadBegin_store (src : CmdSrc) (p : Bytes) (s : State) :
    (skel (loadBegin src p s)).store = (skel s).store := by simp [loadBegin]
@[simp] theorem loadData_store (src : CmdSrc) (p : Bytes) (s : State) :
    (skel (loadData src p s)).store = (skel s).store := by simp [loadData]
@[simp] theorem fwBegin_store (src : CmdSrc) (p : Bytes) (s : State) :
    (skel (fwBegin src p s)).store = (skel s).store := by simp [fwBegin]
@[simp] theorem fwData_store (src : CmdSrc) (p : Bytes) (s : State) :
    (skel (fwData src p s)).store = (skel s).store := by simp [fwData]
@[simp] theorem fwCommit_store (src : CmdSrc) (p : Bytes) (s : State) :
    (skel (fwCommit src p s)).store = (skel s).store := refuseIf_store _ _ _ _ (fun _ => rfl)
@[simp] theorem resetCmd_store (src : CmdSrc) (whole : Bool) (p : Bytes) (s : State) :
    (skel (resetCmd src whole p s)).store = (skel s).store := by simp [resetCmd]

@[simp] theorem writeBank_store (cfg : Bool) (b : Bytes) (s : State) :
    (skel (writeBank cfg b s)).store = (skel s).store := by
  unfold writeBank; (repeat' split) <;> rfl
@[simp] theorem writeCompletes_store (s : State) : (skel (writeCompletes s)).store = (skel s).store := by
  unfold writeCompletes; split <;> simp

@[simp] theorem installTables_store (p : Proposed) (s : State) : (skel (installTables p s)).store = (skel s).store := by
  simp [installTables, when_store]
@[simp] theorem activate_store (c : Commit) (b : Bytes) (r : CommitResult) (p : Proposed) (s : State) :
    (skel (activate c b r p s)).store = (skel s).store := by
  simp [activate]
@[simp] theorem checksComplete_store (s : State) : (skel (checksComplete s)).store = (skel s).store := by
  simp only [checksComplete]; (repeat' split) <;> simp
@[simp] theorem sketchActivates_store (s : State) : (skel (sketchActivates s)).store = (skel s).store := by
  unfold sketchActivates; split <;> simp

/-! ### The tray (R367 to R380) -/

@[simp] theorem discardRecv_store (s : State) : (skel (discardRecv s)).store = (skel s).store := by simp [discardRecv]
@[simp] theorem laterEpoch_store (e : W32) (s : State) : (skel (laterEpoch e s)).store = (skel s).store := by
  unfold laterEpoch; split <;> simp
@[simp] theorem heartbeatLostNow_store (s : State) : (skel (heartbeatLostNow s)).store = (skel s).store := by
  simp [heartbeatLostNow]
@[simp] theorem stateData_store (p : Bytes) (s : State) : (skel (stateData p s)).store = (skel s).store := by
  simp [stateData]
@[simp] theorem commitEpoch_store (e : W32) (b : Bytes) (s : State) :
    (skel (commitEpoch e b s)).store = (skel s).store := by simp [commitEpoch]
@[simp] theorem stateEnd_store (p : Bytes) (s : State) : (skel (stateEnd p s)).store = (skel s).store := by
  simp [stateEnd]
@[simp] theorem claims_store (s : State) : (skel (claims s)).store = (skel s).store := by simp [claims]
@[simp] theorem takesOver_store (s : State) : (skel (takesOver s)).store = (skel s).store := by simp [takesOver]

/-! ### Start-up and the Easel (R409, R424 to R436, R443, R459) -/

@[simp] theorem leaveReset_store (s : State) : (skel (leaveReset s)).store = (skel s).store := by simp [leaveReset]
@[simp] theorem sampleStraps_store (x : StrapPins) (s : State) : (skel (sampleStraps x s)).store = (skel s).store := by
  simp [sampleStraps]
@[simp] theorem setFatal_store (s : State) : (skel (setFatal s)).store = (skel s).store := by simp [setFatal]
@[simp] theorem rootSecret_store (pattern : Bytes) (flashReads : Bool) (s : State) :
    (skel (rootSecret pattern flashReads s)).store = (skel s).store := by
  unfold rootSecret; (repeat' split) <;> simp [checkFloors]
@[simp] theorem pcieStage_store (linkA linkB : PcieLink) (s : State) :
    (skel (pcieStage linkA linkB s)).store = (skel s).store := by simp [pcieStage]
@[simp] theorem hbmTrained_store (s : State) : (skel (hbmTrained s)).store = (skel s).store := by simp [hbmTrained]
@[simp] theorem startFirmware_store (b : Bytes) (s : State) : (skel (startFirmware b s)).store = (skel s).store := by
  simp [startFirmware]
@[simp] theorem refuseFirmware_store (s : State) : (skel (refuseFirmware s)).store = (skel s).store := by
  simp [refuseFirmware]
@[simp] theorem takeConfig_store (b : Bytes) (s : State) : (skel (takeConfig b s)).store = (skel s).store := by
  simp only [takeConfig, settleMode_skel, skel_updPower]
  rfl
@[simp] theorem fallBack_store (s : State) : (skel (fallBack s)).store = (skel s).store := by simp [fallBack]
@[simp] theorem bootTimesOut_store (s : State) : (skel (bootTimesOut s)).store = (skel s).store := by
  simp [bootTimesOut, when_store]

@[simp] theorem endCommands_store (s : State) : (skel (endCommands s)).store = (skel s).store := by
  simp only [endCommands, updTray_store, skel_updHealth, updSketch_store, updBoot_store, skel_updStreams]
  rfl
@[simp] theorem easelDown_store (s : State) : (skel (easelDown s)).store = (skel s).store := by simp [easelDown]
@[simp] theorem easelFails_store (cause : Nat) (copyBad : Bool) (s : State) :
    (skel (easelFails cause copyBad s)).store = (skel s).store := by simp [easelFails]
@[simp] theorem easelRead_store (stack row word : Nat) (e : WordError) (copyBad : Bool) (s : State) :
    (skel (easelRead stack row word e copyBad s)).store = (skel s).store := by simp [easelRead]
@[simp] theorem scrubEffect_store (site : ScrubSite) (held : Bool) (s : State) :
    (skel (scrubEffect site held s)).store = (skel s).store := by
  cases site <;> simp [scrubEffect]
@[simp] theorem scrub_store (site : ScrubSite) (word : WordError) (s : State) :
    (skel (scrub site word s)).store = (skel s).store := by
  simp [scrub]
@[simp] theorem endRestart_store (s : State) : (skel (endRestart s)).store = (skel s).store := by
  simp [endRestart, easelWritten]
@[simp] theorem restartOver_store (s : State) : (skel (restartOver s)).store = (skel s).store := by simp [restartOver]
@[simp] theorem commandedRestart_store (s : State) : (skel (commandedRestart s)).store = (skel s).store := by
  simp [commandedRestart]
@[simp] theorem raiseFloor_store (cfg : Bool) (s : State) : (skel (raiseFloor cfg s)).store = (skel s).store := by
  unfold raiseFloor; split <;> simp
@[simp] theorem becomeReady_store (pass : BitVec 32) (s : State) : (skel (becomeReady pass s)).store = (skel s).store := by
  simp [becomeReady, noteActivated, when_store]
@[simp] theorem trips_store (sensor : Nat) (tj : Int) (s : State) : (skel (trips sensor tj s)).store = (skel s).store := by
  simp [trips]
@[simp] theorem scanData_store (x : JtagScan) (s : State) : (skel (scanData x s)).store = (skel s).store := by
  simp [scanData, when_store]

/-! ### Edges of TICK_IN, without a pulse too (R316) -/

@[simp] theorem skel_edgeTick (at_ : Rat) (pulse : Option Pulse) (s : State) : skel (edgeTick at_ pulse s) = skel s := by
  simp [edgeTick]
@[simp] theorem skel_edgeArrives (pulse : Option Pulse) (s : State) : skel (edgeArrives pulse s) = skel s := by
  simp [edgeArrives]

/-! ### Every command -/

/-- The device is in chip reset, or the store holds what it held. -/
def StoreKept (s t : State) : Prop := t.boot.inReset = true ∨ (skel t).store = (skel s).store

theorem StoreKept.ite {s t u : State} {c : Prop} [Decidable c] (ht : StoreKept s t) (hu : StoreKept s u) :
    StoreKept s (if c then t else u) := by
  split
  · exact ht
  · exact hu

theorem StoreKept.of_next {s t u : State} (hu : StoreKept s u) (h : (.next u : Res) = .next t) : StoreKept s t := by
  cases h
  exact hu

theorem StoreKept.of_onUnit {s t : State} {ok : Bool} {f : State → State} (hf : (skel (f s)).store = (skel s).store)
    (h : onUnit ok f s = .next t) : StoreKept s t := by
  cases ok
  · cases h
  · exact .of_next (.inr hf) h

theorem storeKept_delayEnds (s : State) : StoreKept s (delayEnds s) := by
  unfold delayEnds
  split
  · exact .inr rfl
  · exact .ite (.inr rfl) (.ite (.inl rfl) (.inr (by simp)))

/-- A command but SEGMENT_PUT keeps the store or ends in chip reset. The commands that may reset the device or branch in their
own meaning come first; of every other one the shared operation it runs keeps the store. -/
theorem exec_storeKept {c : Instr} {s t : State} (hput : ∀ p, c ≠ .segmentPut p) (h : exec c s = .next t) :
    StoreKept s t := by
  cases c with
  | segmentPut p => exact absurd rfl (hput p)
  | powerLoss => exact .of_next (.inl rfl) h
  | powerOn | resetNAssert | coreRailFall | refclkLoss => exact .of_next (.ite (.inr rfl) (.inl rfl)) h
  | chipResetDelayEnd => exact .of_next (storeKept_delayEnds s) h
  | chipResetRelease => exact .of_next (.inr ((when_store _ (leaveReset_store _)).trans (when_store _ rfl))) h
  | refclkLock => exact .of_next (.inr (when_store _ rfl)) h
  | firmwareVerified => exact .of_next (.ite (.inr rfl) (.ite (.inr (by simp)) (.inr (by simp)))) h
  | configVerified => exact .of_next (.ite (.inr rfl) (.ite (.inr (by simp)) (.inr (updBoot_store ..)))) h
  | easelReady => exact .of_next (.ite (.inr rfl) (.inr (by simp))) h
  | jtagInstructionUpdate instr scan =>
    cases scan with
    | none => exact .of_next (.inr (updBoot_store ..)) h
    | some x => exact .of_next (.inr (by simp)) h
  -- what a source commands
  | identify | getStatus | sketchLoadBegin | sketchLoadData | sketchCommit | planSwitch | portEnable | portDisable
  | portWash | washTimeout | portRetrain | portInfo | groupDefine | groupDelete | portsetDefine | routeWrite
  | writeSegment | writeStream | sealSegment | reopenSegment | rewindStream | writeList | syncArm | policySet
  | powerModeSet | slopeLimitSet | flagsReadClear | countersRead | twinConfig | controlHandover | fwUpdateBegin
  | fwUpdateData | fwUpdateCommit | attest | selftestRun | chipResetChip | chipResetEasel =>
    exact .of_onUnit (by simp) h
  -- events of a unit that the device has
  | engineCalibrationComplete | easelMemoryUncorrectable | washPortDrained | portRetrainQuiesceEnd | doorbellWrite
  | ringEntryFetch | completionPost | cqHeadWrite | ringEnableWrite | ringReset | laserMonitorSample
  | attenuatorRelease | modulatorLockUpdate | dropLockUpdate | ringLockLoss | transitionBlockEnd | lossOfSignalAssert
  | lossOfSignalDeassert | lossOfLockAssert | lossOfLockDeassert | fomWindowEnd | pairCrossed | miswiredProbeStart
  | probeStart | probeExpire | attemptExpire | identSetReceived | timeSetReceived | stepSetReceived | rateStep
  | acquisitionEnd | selftestWindowEnd | reportFrameReceived | reportPhaseEnd | reportTimeout | slotStreamFramed
  | resumeTimeout | announceReceived | retestSelftestStart | slotBoundary | slotReceived | alignmentMarkerReceived
  | ackTimeout | retryRequestRepeat | graceExpire | lookup | stallVoidExpire | pumpAlarm | fanFault | coolingAlarmEnd
  | twinLaneTrained | twinLinkDown | i3cBusTake | patrolScrub | selftestStart | laneTestComplete | rowCopyComplete
  | rowTestComplete | paletteTestComplete =>
    exact .of_onUnit (by simp) h
  -- events without a unit
  | strapSample | rootSecretComplete | pcieStageComplete | hbmTrainingComplete | bootFetchStart | bootAttemptTimeout
  | perstAssert | functionLevelReset | busMasterEnableSet | thermTrip | easelWatchdogExpire | easelRestartComplete
  | commitChecksComplete | sketchActivate | planSwitchTakeEffect | sealCheckComplete | handoverAckTimeout
  | fwUpdateWriteComplete | eventRingEnableWrite | eventRingReset | erHeadWrite | intCauseClear | intMaskWrite
  | interruptCoalesceExpire | bar0BadAccess | registerWrite | creditRelease | escapeTimerExpire | queueDepthSample
  | routeWeightUpdate | holdTimeout | holdOwedEnd | holdEntryIdle | originatedPacketWrite | terminatedDiscard
  | segmentPutVisible | streamSubscribe | streamCancel | syncArrive | telemetryGet | cmd | reduceContrib
  | combineContrib | reduceResultReceived | deferredPartAccept | schedSlotOpenResume | openingRateResume | opTimeout
  | upTimeout | doneCacheExpire | refusalCacheExpire | tickStart | tileReadStart | tileReadComplete | tickInEdge
  | tickInMissing | tickPortLost | coolingLoopUpdate | flowSample | coolantHot | heartbeatSend | heartbeatReceived
  | twinFrameCrcFail | heartbeatLost | stateDataReceived | stateEndReceived | stateAckReceived | stateRequestReceived
  | releaseReceived | controlCycleEnd | snapshotInterval | claim | claimListenEnd | claimingLineLow
  | lockstepMismatch | controlWatchdogExpire | controlMemoryFault | plausibilityCheck | takeover | ownLineFault
  | coreRestartComplete | rmHeartbeat | rmPolicy | devHeartbeat | devTelemetry | rmLost | pwrAlertAssert
  | pwrAlertRelease | alertHoldEnd | powerGovernorUpdate | slopeGovernorUpdate | thermalSample | railCurrentSample
  | overcurrentLift | tableRestore | jtagTestLogicReset | replyCacheExpire | perstRelease | imageActivated =>
    exact .of_next (.inr (by simp)) h

/-- Settles O9: every other command keeps the store's bytes (R271), or ends in chip reset, which loses them (R440). -/
theorem onlySegmentPutWritesTheStore : Obligations.OnlySegmentPutWritesTheStore := by
  unfold Obligations.OnlySegmentPutWritesTheStore
  intro c s t hput h
  rcases exec_storeKept hput h with hreset | hstore
  · exact .inl hreset
  · exact .inr fun a => by rw [store_eq_skel t, hstore, store_eq_skel s]

end Sys2Proof.Machine
end

section
/-! PROOFS. Uncorrectable words of the stream store (R407, R412): a read marks the word, counts it once and leaves the tables
and bytes of the store as they are. -/

namespace Sys2Proof.Machine

/-! ### The health counters beside reports -/

@[simp] theorem setCause_health (hp : HostPort) (i : Nat) (s : State) : (setCause hp i s).health = s.health :=
  (congrArg State.health (besideHost_setCause hp i s) :)

@[simp] theorem releaseHeld_health (hp : HostPort) (s : State) : (releaseHeld hp s).health = s.health :=
  (congrArg State.health (besideHost_releaseHeld hp s) :)

@[simp] theorem eventTo_health (code : Nat) (ev : Bytes) (hp : HostPort) (s : State) :
    (eventTo code ev hp s).health = s.health := by
  simp only [eventTo]
  (repeat' split) <;> simp [hostCount, notePosted]

@[simp] theorem record_healthCtr (rtype code resource address : Nat) (detail : Bytes) (s : State) :
    (record rtype code resource address detail s).health.ctr = s.health.ctr := by
  simp only [record]
  split <;> rfl

@[simp] theorem raise_healthCtr (code source : Nat) (data : Bytes) (s : State) :
    (raise code source data s).health.ctr = s.health.ctr := by
  simp [raise, raiseWith]

@[simp] theorem memEvent_healthCtr (mem kind : Nat) (s : State) : (memEvent mem kind s).health.ctr = s.health.ctr := by
  unfold memEvent
  extract_lets n unc due now
  split
  · rfl
  · rw [raise_healthCtr]; rfl

theorem getD_bump_ne {i j : Nat} (h : i ≠ j) (n : Nat) (l : List W64) : (bump i n l).getD j 0 = l.getD j 0 := by
  simp [bump, List.getD_eq_getElem?_getD, h]

/-- A test that finds its queue full is counted in a counter of its own (R415). -/
theorem queueTest_healthCtr {i : Nat} (h : i ≠ 9) (r : TestRes) (s : State) :
    (queueTest r s).health.ctr.getD i 0 = s.health.ctr.getD i 0 := by
  simp only [queueTest]
  split
  · rfl
  split
  · rw [raise_healthCtr]
    exact getD_bump_ne h.symm 1 s.health.ctr
  · rfl

/-! ### Reads of the store -/

@[simp] theorem besideReports_markWord (w : Nat) (s : State) : besideReports (markWord w s) = besideReports s :=
  besideReports_updHealth (fun _ => rfl) s

@[simp] theorem besideReports_hbmRead (mem stack row word : Nat) (e : WordError) (s : State) :
    besideReports (hbmRead mem stack row word e s) = besideReports s := by
  simp only [hbmRead]
  split
  · rfl
  split
  · simp
  · rw [besideReports_when (besideReports_markWord _), besideReports_memError]

@[simp] theorem storeRead_streams (a : Nat) (e : WordError) (s : State) : (storeRead a e s).streams = s.streams :=
  (congrArg State.streams (besideReports_hbmRead 5 _ _ _ e s) :)

/-- The interleaving of R267 gives every word of the store one place, and takes it back. -/
theorem rowAddress_of_storeAddress (a : Nat) :
    rowAddress (a / 4096 % 4) (a / 16384 * 4 + a % 4096 / 1024) (a % 1024 / 32) / 32 = a / 32 := by
  unfold rowAddress; omega

theorem storeRead_uncorrectable {e : WordError} (he : eccOf e = .uncorrectable) (hpath : e.path = false) (a : Nat)
    (s : State) : storeRead a e s = markWord (a / 32)
      (memError 5 4 (hbmRowOf a) (a / 4096 % 4) (a / 16384 * 4 + a % 4096 / 1024) (eccDetail e) s) := by
  simp [storeRead, hbmRead, inMemory, he, hpath, when, rowAddress_of_storeAddress, hbmRowOf]

theorem mem_badWords_markWord (w : Nat) (s : State) : w ∈ (markWord w s).health.badWords := by
  simp only [markWord, updHealth_health]
  split
  next h => exact List.contains_iff_mem.mp h
  next => simp

/-- Counter 3 of R420 counts an uncorrectable word of the HBM. -/
theorem memError_healthCtr (mem : Nat) (row : TestRes) (resource address : Nat) (detail : Bytes) (s : State) :
    (memError mem 4 row resource address detail s).health.ctr.getD 3 0 = (bump 3 1 s.health.ctr).getD 3 0 := by
  rw [memError, queueTest_healthCtr (by decide), memEvent_healthCtr, record_healthCtr]
  rfl

/-- A range without a marked word has the errors that its read brings, and no others. -/
theorem storeErrors_of_good {s : State} {a n : Nat} (h : wordsBad s a n = false) (l : List (Nat × WordError)) :
    storeErrors s a n l = l.filter (fun x => decide (x.1 < n)) := by
  have hnone : s.health.badWords.filter (fun w => decide (32 * w < a + n ∧ a < 32 * w + 32) &&
      !l.any (fun x => (a + x.1) / 32 = w)) = [] := by
    rw [List.filter_eq_nil_iff]
    intro w hw hbad
    rw [wordsBad, List.any_eq_false] at h
    exact h w hw (Bool.and_eq_true_iff.mp hbad).1
  rw [storeErrors, hnone, List.map_nil, List.append_nil]

end Sys2Proof.Machine
end

section
/-! PROOFS. Packets to the stream store and to the telemetry window (R157, R271, R276, R277, R285, R356). -/

namespace Sys2Proof.Machine

@[simp] theorem answerStatus_streams (st : Stored) (status : W16) (s : State) :
    (answerStatus st status s).streams = s.streams := by
  unfold answerStatus; split <;> rfl

@[simp] theorem sweepTiles_subs (s : State) : (sweepTiles s).streams.subs = s.streams.subs := by
  unfold sweepTiles; split <;> rfl

theorem atWindow_acts {s : State} {id : Nat} {st : Stored} {mine : Header → Bool} (ht : terminatedOf s id = some st)
    (hf : findingOf st = .act) (hm : mine st.hdr = true) (f : Stored → State → State) :
    atWindow id mine f s = f st s := by
  simp [atWindow, ht, hf, hm]

/-! ### The commands at the windows -/

section
variable {s : State} {id : Nat} {st : Stored} (ht : terminatedOf s id = some st) (hf : findingOf st = .act)
include ht hf

theorem exec_telemetryGet (hw : st.hdr.window = 0x05) :
    exec (.telemetryGet id) s = .next (telemetryRead id st s) :=
  congrArg Host.Outcome.next (atWindow_acts ht hf (by simp [hw]) _)

variable (hw : st.hdr.window = 0x02)
include hw

theorem exec_segmentPut (ho : st.hdr.opcode = opPut) : exec (.segmentPut id) s = .next (loadPut id st s) :=
  congrArg Host.Outcome.next (atWindow_acts ht hf (by simp [hw, ho]) _)

theorem exec_streamSubscribe (ho : st.hdr.opcode = opSubscribe) (hc : isCancel st.hdr = false) :
    exec (.streamSubscribe id) s = .next (subscribe id st s) :=
  congrArg Host.Outcome.next (atWindow_acts ht hf (by simp [hw, ho, hc]) _)

theorem exec_streamCancel (ho : st.hdr.opcode = opSubscribe) (hc : isCancel st.hdr = true) :
    exec (.streamCancel id) s = .next (cancelSub id st s) :=
  congrArg Host.Outcome.next (atWindow_acts ht hf (by simp [hw, ho, hc]) _)

end

/-! ### Loading (R271, R285) -/

/-- The store address of a PUT's first byte. -/
def putAddress (s : State) (h : Header) : Nat := sgStore (segAt s (putSegment h)) + putByte h

/-- The state with an accepted PUT's bytes in the store. -/
def writePut (id : Nat) (st : Stored) (s : State) : State :=
  let b := payloadOf st.hdr st.data
  let u := updStreams (fun x => { x with store := mwrite x.store (putAddress s st.hdr) b }) s
  updPacket id (fun x => { x with putAccepted := true, deferred := false })
    (streamCount 0 1 (rewriteWords (putAddress s st.hdr) b.length u))

theorem writePut_store (id : Nat) (st : Stored) (s : State) : (writePut id st s).streams.store =
    mwrite s.streams.store (putAddress s st.hdr) (payloadOf st.hdr st.data) := rfl

/-- Beside the bytes of the store, an accepted PUT changes no table and no other part. -/
theorem writePut_frame (id : Nat) (st : Stored) (s : State) :
    (writePut id st s).streams.ctr = bump 0 1 s.streams.ctr ∧ (writePut id st s).streams.segments = s.streams.segments ∧
      (writePut id st s).ports = s.ports ∧ (writePut id st s).canvas = s.canvas ∧ (writePut id st s).sketch = s.sketch := by
  simp [writePut, streamCount, rewriteWords, updPacket]

section
variable {s : State} {st : Stored}

theorem loadPut_waits (he : engineRuns s = false) (id : Nat) (st : Stored) :
    loadPut id st s = updPacket id (fun x => { x with deferred := true, why := 1 }) s := by
  simp [loadPut, he]

variable (he : engineRuns s = true) (hn : st.putAccepted = false)
include he hn

theorem loadPut_refused (hput : putAllowed s st.hdr = false) (id : Nat) :
    loadPut id st s = answerStatus st stBadParam (streamCount 1 1 (dropPacket id false s)) := by
  simp [loadPut, he, hn, hput]

theorem loadPut_written (hput : putAllowed s st.hdr = true) (id : Nat) : loadPut id st s = writePut id st s := by
  simp [loadPut, writePut, putAddress, he, hn, hput]

end

theorem putVisible_done {s : State} {id : Nat} {st : Stored} (hst : packetOf s id = some st) (ha : st.putAccepted = true)
    (hw : fenceWaits s id st = false) : putVisible id s =
      if st.hdr.ackReq then answerStatus st stOk (dropPacket id false s) else dropPacket id false s := by
  simp [putVisible, hst, ha, hw]

theorem putVisible_fenced {s : State} {id : Nat} {st : Stored} (hst : packetOf s id = some st)
    (hw : fenceWaits s id st = true) : putVisible id s = s := by
  simp [putVisible, hst, hw]

/-! ### Subscriptions (R276, R277) -/

theorem subscribe_bound {s : State} {st : Stored} (h : subscribeStatus s st.hdr = stOk) (id : Nat) :
    subscribe id st s = answerStatus st stOk (streamCount 4 1 (bindSub
      { stream := subStream st.hdr, src := st.hdr.src, base := st.hdr.offset, size := st.hdr.opB }
      (dropPacket id false s))) := by
  simp [subscribe, h]

theorem subscribe_refused {s : State} {st : Stored} (h : subscribeStatus s st.hdr ≠ stOk) (id : Nat) :
    subscribe id st s =
      answerStatus st (subscribeStatus s st.hdr) (streamCount 6 1 (dropPacket id false s)) := by
  simp [subscribe, h]

theorem cancelSub_noSize {st : Stored} (h : st.hdr.opB = 0) (id : Nat) (s : State) :
    cancelSub id st s = answerStatus st stBadParam (streamCount 6 1 (dropPacket id false s)) := by
  simp [cancelSub, h]

/-- The subscriptions that stay when the one of `src` to `stream` goes. -/
def otherSubs (stream src : W16) (l : List Subscription) : List Subscription :=
  l.filter (fun c => !(c.stream = stream && c.src = src))

theorem mem_otherSubs {stream src : W16} {l : List Subscription} {b : Subscription} :
    b ∈ otherSubs stream src l ↔ b ∈ l ∧ (b.stream ≠ stream ∨ b.src ≠ src) := by
  simp [otherSubs]

/-- A cancel is answered OK, and the subscription is gone whether or not there was one. -/
theorem cancelSub_answered {st : Stored} (h : st.hdr.opB ≠ 0) (id : Nat) (s : State) : ∃ u,
    cancelSub id st s = answerStatus st stOk u ∧
      u.streams.subs = otherSubs (subStream st.hdr) st.hdr.src s.streams.subs := by
  simp only [cancelSub, if_neg h]
  refine ⟨_, rfl, ?_⟩
  rw [sweepTiles_subs]
  split
  next => simp [streamCount, otherSubs]
  next hnone =>
    rw [dropPacket_streams, eq_comm, otherSubs, List.filter_eq_self]
    rw [hasSub, dropPacket_streams, Bool.not_eq_true, List.any_eq_false] at hnone
    intro b hb
    simpa only [Bool.not_eq_true', Bool.not_eq_true] using hnone b hb

theorem hasSub_eq_false_of_subs {s : State} {stream src : W16} {l : List Subscription}
    (h : s.streams.subs = otherSubs stream src l) : hasSub s stream src = false := by
  rw [hasSub, h, List.any_eq_false]
  intro b hb
  have hkept := (List.mem_filter.mp hb).2
  simpa only [Bool.not_eq_true', Bool.not_eq_true] using hkept

/-! ### The telemetry window (R149, R356) -/

theorem telemetryRead_refused {st : Stored} (h : telemetryOk st.hdr = false) (id : Nat) (s : State) :
    telemetryRead id st s = answerStatus st stBadParam (dropPacket id false s) := by
  simp [telemetryRead, h]

theorem telemetryRead_answered {st : Stored} (h : telemetryOk st.hdr = true) (id : Nat) (s : State) :
    (let u := dropPacket id false s
     let b := telemetryBytes u st.hdr.offset.toNat st.hdr.length.toNat
     telemetryRead id st s = originate { viaPort := answerVia u st, pkt := {
       hdr := { answerHeader st.hdr opGetResp (answerSrc u st.hdr) stOk with length := w16 b.length }
       payload := b } } u) := by
  simp [telemetryRead, h]

end Sys2Proof.Machine
end

section
/-! PROOFS. Tiles read into staging (R280, R282, R284, R285), and the packets and tiles of the stream store (O50). -/

namespace Sys2Proof.Machine

/-! ### The start of a read (R282, R284) -/

section
variable {s : State} {i : Nat} {t : Tile} (ht : tget s.streams.tiles i = some t)
include ht

theorem startRead_blocked (h : engineRuns s = false ∨ 536870912 < stagingUsed s + t.bytes) : startRead i s = s := by
  rcases h with h | h <;> simp [startRead, ht, h]

variable (hn : nextWaiting s = some i) (he : engineRuns s = true) (hroom : stagingUsed s + t.bytes ≤ 536870912)
  (hhost : t.host = none)
include hn he hroom hhost

theorem startRead_ready (hl : sgLocal (segAt s t.segment) = true) (hr : sgReady (segAt s t.segment) = true) :
    startRead i s = updTile i (fun x => { x with state := .reading }) s := by
  simp [startRead, ht, hn, he, hhost, hl, hr, Nat.not_lt.mpr hroom]

theorem startRead_unready (h : sgLocal (segAt s t.segment) = false ∨ sgReady (segAt s t.segment) = false) :
    startRead i s = unreadyTile t.segment (dropTile i s) := by
  rcases h with h | h <;> simp [startRead, ht, hn, he, hhost, h, Nat.not_lt.mpr hroom]

end

@[simp] theorem raise_streams (code source : Nat) (data : Bytes) (s : State) :
    (raise code source data s).streams = s.streams :=
  (congrArg State.streams (besideReports_raise code source data s) :)

/-- Every tile dropped for its segment is counted, whether or not an event is due (R284). -/
theorem unreadyTile_ctr (g : Nat) (s : State) : (unreadyTile g s).streams.ctr = bump 12 1 s.streams.ctr := by
  simp only [unreadyTile]
  (repeat' split) <;> simp [streamCount]

/-! ### The end of a read (R280) -/

/-- Tile `i` is staged with its bytes. -/
def stageTile (i : Nat) (bad : Bool) (d : Bytes) (s : State) : State :=
  sweepTiles (updTile i (fun x => { x with state := .staged, poisoned := bad, data := d }) s)

section
variable {s : State} {i : Nat} {t : Tile} (ht : tget s.streams.tiles i = some t) (hr : t.state = .reading)
include ht hr

/-- A host-fed tile that its port has brought. -/
theorem readCompletes_host {hp : HostPort} (hh : t.host = some hp) (hm : masters (fnOf s hp) = true)
    (hl : (fnOf s hp).linkUp = true) (b : Bytes) :
    readCompletes i b .ok s = stageTile i false (padTo t.bytes b) (streamCount 9 1 s) := by
  simp [readCompletes, stageTile, ht, hr, hh, hm, hl, when]

/-- A host-fed tile that its port has lost. -/
theorem readCompletes_hostError {hp : HostPort} (hh : t.host = some hp) (b : Bytes) :
    readCompletes i b .hostError s =
      stageTile i true (padTo t.bytes b) (streamCount 9 1 (streamCount 14 1 (streamCount 13 1 s))) := by
  simp [readCompletes, stageTile, ht, hr, hh, when]

/-- A local tile: the words in error are reported, and its bytes are the store's. -/
theorem readCompletes_local (hh : t.host = none) {r : ReadResult} (hres : r ≠ .hostError) (b : Bytes) :
    (let l := storeErrors s t.address t.bytes (readErrors r)
     readCompletes i b r s = stageTile i (anyBad l) (mreadN s.streams.store t.address t.bytes) (streamCount 8 1
       (when (anyBad l) (streamCount 13 1) (forEach l (fun x => storeRead (t.address + x.1) x.2) s)))) := by
  intro l
  have hstore : (streamCount 8 1 (when (anyBad l) (streamCount 13 1)
      (forEach l (fun x => storeRead (t.address + x.1) x.2) s))).streams.store = s.streams.store := by
    simp [store_eq_skel]
  simp only [readCompletes, ht, hr, hh, bne_self_eq_false, Bool.false_eq_true, if_false, hres, decide_false, Bool.or_false]
  rw [hstore]
  rfl

end

/-! ### The obligation -/

theorem exec_tileReadComplete {s t : State} {i : Nat} {b : Bytes} {r : ReadResult} (h : readCompletes i b r s = t) :
    exec (.tileReadComplete i b r) s = .next t := congrArg Host.Outcome.next h

/-- Settles O50, window by window and tile by tile: each command by the equation of its operation for the case at hand. -/
theorem segmentsSubscriptionsAndTiles : Obligations.SegmentsSubscriptionsAndTiles := by
  unfold Obligations.SegmentsSubscriptionsAndTiles
  refine ⟨?written, ?refused, ?deferred, ?visible, ?fenced, ?bound, ?notBound, ?cancelled, ?noSize, ?badRead, ?telemetry,
    ?starts, ?blocked, ?unready, ?staged, ?hostStaged, ?errors, ?marks, ?hostError⟩
  case written =>
    intro s id st ht hf hw ho he hn hput
    refine ⟨writePut id st s, ?_, ⟨fun x hx => ?_, fun i hi => ?_⟩, writePut_frame id st s⟩
    · rw [exec_segmentPut ht hf hw ho, loadPut_written he hn hput]
    · rw [writePut_store]
      exact mread_mwrite_out _ _ _ x hx
    · rw [writePut_store]
      exact mread_mwrite_in _ _ _ i hi
  case refused =>
    intro s id st ht hf hw ho he hn hput
    rw [exec_segmentPut ht hf hw ho, loadPut_refused he hn hput]
  case deferred =>
    intro s id st ht hf hw ho he
    rw [exec_segmentPut ht hf hw ho, loadPut_waits he]
  case visible => exact fun s id st hst ha hw => congrArg Host.Outcome.next (putVisible_done hst ha hw)
  case fenced => exact fun s id st hst _ hw => congrArg Host.Outcome.next (putVisible_fenced hst hw)
  case bound =>
    intro s id st ht hf hw ho hc hok
    rw [exec_streamSubscribe ht hf hw ho hc, subscribe_bound hok]
  case notBound =>
    intro s id st ht hf hw ho hc hbad
    rw [exec_streamSubscribe ht hf hw ho hc, subscribe_refused hbad]
  case cancelled =>
    intro s id st ht hf hw ho hc hsize
    obtain ⟨u, hu, hsubs⟩ := cancelSub_answered hsize id s
    have hsubs' : (answerStatus st stOk u).streams.subs = otherSubs (subStream st.hdr) st.hdr.src s.streams.subs := by
      rw [answerStatus_streams, hsubs]
    refine ⟨_, u, exec_streamCancel ht hf hw ho hc, hu, ?_, fun b hb hne => ?_⟩ <;> rw [hu]
    · exact hasSub_eq_false_of_subs hsubs'
    · rw [hsubs', mem_otherSubs]
      exact ⟨hb, hne⟩
  case noSize =>
    intro s id st ht hf hw ho hc hsize
    rw [exec_streamCancel ht hf hw ho hc, cancelSub_noSize hsize]
  case badRead =>
    intro s id st ht hf hw hbad
    rw [exec_telemetryGet ht hf hw, telemetryRead_refused hbad]
  case telemetry =>
    intro s id st ht hf hw hok
    exact (exec_telemetryGet ht hf hw).trans (congrArg Host.Outcome.next (telemetryRead_answered hok id s))
  case starts =>
    exact fun s i t ht hn he hroom hhost hl hr => congrArg Host.Outcome.next (startRead_ready ht hn he hroom hhost hl hr)
  case blocked => exact fun s i t ht _ h => congrArg Host.Outcome.next (startRead_blocked ht h)
  case unready =>
    exact fun s i t ht hn he hroom hhost h =>
      ⟨congrArg Host.Outcome.next (startRead_unready ht hn he hroom hhost h), unreadyTile_ctr ..⟩
  case staged =>
    intro s i t b ht hr hh hgood
    refine exec_tileReadComplete ((readCompletes_local ht hr hh (by decide) b).trans ?_)
    rw [storeErrors_of_good hgood]
    rfl
  case hostStaged =>
    exact fun s i t b hp ht hr hh hm hl => exec_tileReadComplete (readCompletes_host ht hr hh hm hl b)
  case errors =>
    intro s i t b l ht hr hh hgood hin
    have hall : l.filter (fun x => decide (x.1 < t.bytes)) = l :=
      List.filter_eq_self.mpr fun x hx => decide_eq_true (hin x hx)
    refine exec_tileReadComplete ((readCompletes_local ht hr hh (by simp) b).trans ?_)
    rw [storeErrors_of_good hgood, readErrors, hall]
    rfl
  case marks =>
    intro s a e he hpath
    refine ⟨?_, ?_, storeRead_streams a e s⟩ <;> rw [storeRead_uncorrectable he hpath]
    · exact mem_badWords_markWord ..
    · exact memError_healthCtr ..
  case hostError => exact fun s i t b hp ht hr hh => exec_tileReadComplete (readCompletes_hostError ht hr hh b)

end Sys2Proof.Machine
end

section
/-! PROOFS. Footprints: which parts of the device an operation may change. What lies outside an operation's footprint it
leaves as it is. The causes and event rings, the flight recorder, the output and the free values are in every
footprint. -/

namespace Sys2Proof.Machine

/-- Parts of the device, each marked where an operation may change it. `marks` are start-up's reset, trip and straps,
`floors` the floor record in flash. -/
structure Footprint where
  ports : Bool := false
  lasers : Bool := false
  switch : Bool := false
  canvas : Bool := false
  streams : Bool := false
  sketch : Bool := false
  tick : Bool := false
  policy : Bool := false
  tray : Bool := false
  power : Bool := false
  boot : Bool := false
  marks : Bool := false
  flash : Bool := false
  floors : Bool := false
  host : Bool := false
  health : Bool := false

/-- Whether the device is in chip reset or has tripped, and the sampled straps (R433, R440, R443). -/
structure BootMarks where
  inReset : Bool
  thermTrip : Bool
  strapsValid : Bool
  slotId : BitVec 4
  pos : BitVec 2
  role : BitVec 2
  bootSrc : BitVec 2

def bootMarks (b : Boot) : BootMarks :=
  { inReset := b.inReset, thermTrip := b.thermTrip, strapsValid := b.strapsValid, slotId := b.slotId, pos := b.pos
    role := b.role, bootSrc := b.bootSrc }

/-- The floor record of R425. -/
def floorsOf (f : Flash) : W32 × W32 × Bool := (f.fwFloor, f.cfgFloor, f.floorOk)

/-- What a state holds outside a footprint. -/
structure Outside where
  ports : Option (List Port)
  lasers : Option (List LaserInput)
  switch : Option Switch
  canvas : Option Canvas
  streams : Option Streams
  sketch : Option Sketch
  tick : Option Tick
  policy : Option Policy
  tray : Option Tray
  power : Option Power
  boot : Option Boot
  marks : Option BootMarks
  flash : Option Flash
  floors : Option (W32 × W32 × Bool)
  host : Option HostState
  health : Option Health

/-- A part, where it is not marked. -/
def unmarked {α : Type} (marked : Bool) (x : α) : Option α := if marked then none else some x

def outside (fp : Footprint) (s : State) : Outside :=
  { ports := unmarked fp.ports s.ports, lasers := unmarked fp.lasers s.lasers, switch := unmarked fp.switch s.switch
    canvas := unmarked fp.canvas s.canvas, streams := unmarked fp.streams s.streams
    sketch := unmarked fp.sketch s.sketch, tick := unmarked fp.tick s.tick, policy := unmarked fp.policy s.policy
    tray := unmarked fp.tray s.tray
    power := unmarked fp.power s.power, boot := unmarked fp.boot s.boot, marks := unmarked fp.marks (bootMarks s.boot)
    flash := unmarked fp.flash s.flash, floors := unmarked fp.floors (floorsOf s.flash)
    host := unmarked fp.host (hostCore s.host), health := unmarked fp.health (healthCore s.health) }

/-! ### Reading a part off -/

variable {fp : Footprint} {s t : State}

theorem eq_of_unmarked {α : Type} {marked : Bool} {x y : α} (h : unmarked marked x = unmarked marked y)
    (hm : marked = false) : x = y := by
  subst hm
  exact Option.some.inj h

theorem ports_of_outside (h : outside fp t = outside fp s) (hw : fp.ports = false) : t.ports = s.ports :=
  eq_of_unmarked (congrArg Outside.ports h) hw

theorem lasers_of_outside (h : outside fp t = outside fp s) (hw : fp.lasers = false) : t.lasers = s.lasers :=
  eq_of_unmarked (congrArg Outside.lasers h) hw

theorem switch_of_outside (h : outside fp t = outside fp s) (hw : fp.switch = false) : t.switch = s.switch :=
  eq_of_unmarked (congrArg Outside.switch h) hw

theorem canvas_of_outside (h : outside fp t = outside fp s) (hw : fp.canvas = false) : t.canvas = s.canvas :=
  eq_of_unmarked (congrArg Outside.canvas h) hw

theorem streams_of_outside (h : outside fp t = outside fp s) (hw : fp.streams = false) : t.streams = s.streams :=
  eq_of_unmarked (congrArg Outside.streams h) hw

theorem sketch_of_outside (h : outside fp t = outside fp s) (hw : fp.sketch = false) : t.sketch = s.sketch :=
  eq_of_unmarked (congrArg Outside.sketch h) hw

theorem tick_of_outside (h : outside fp t = outside fp s) (hw : fp.tick = false) : t.tick = s.tick :=
  eq_of_unmarked (congrArg Outside.tick h) hw

theorem policy_of_outside (h : outside fp t = outside fp s) (hw : fp.policy = false) : t.policy = s.policy :=
  eq_of_unmarked (congrArg Outside.policy h) hw

theorem tray_of_outside (h : outside fp t = outside fp s) (hw : fp.tray = false) : t.tray = s.tray :=
  eq_of_unmarked (congrArg Outside.tray h) hw

theorem power_of_outside (h : outside fp t = outside fp s) (hw : fp.power = false) : t.power = s.power :=
  eq_of_unmarked (congrArg Outside.power h) hw

theorem boot_of_outside (h : outside fp t = outside fp s) (hw : fp.boot = false) : t.boot = s.boot :=
  eq_of_unmarked (congrArg Outside.boot h) hw

theorem marks_of_outside (h : outside fp t = outside fp s) (hw : fp.marks = false) :
    bootMarks t.boot = bootMarks s.boot :=
  eq_of_unmarked (congrArg Outside.marks h) hw

theorem flash_of_outside (h : outside fp t = outside fp s) (hw : fp.flash = false) : t.flash = s.flash :=
  eq_of_unmarked (congrArg Outside.flash h) hw

theorem floors_of_outside (h : outside fp t = outside fp s) (hw : fp.floors = false) :
    floorsOf t.flash = floorsOf s.flash :=
  eq_of_unmarked (congrArg Outside.floors h) hw

theorem host_of_outside (h : outside fp t = outside fp s) (hw : fp.host = false) : hostCore t.host = hostCore s.host :=
  eq_of_unmarked (congrArg Outside.host h) hw

theorem health_of_outside (h : outside fp t = outside fp s) (hw : fp.health = false) :
    healthCore t.health = healthCore s.health :=
  eq_of_unmarked (congrArg Outside.health h) hw

/-! ### The named updates -/

@[simp] theorem unmarked_true {α : Type} (x : α) : unmarked true x = none := rfl

@[simp] theorem outside_updPort (hports : fp.ports) (p : Nat) (f : Port → Port) (s : State) :
    outside fp (updPort p f s) = outside fp s := by simp [outside, hports]
@[simp] theorem outside_updLane (hports : fp.ports) (p l : Nat) (f : Lane → Lane) (s : State) :
    outside fp (updLane p l f s) = outside fp s := by simp [updLane, hports]
@[simp] theorem outside_updLink (hports : fp.ports) (p : Nat) (f : Link → Link) (s : State) :
    outside fp (updLink p f s) = outside fp s := by simp [updLink, hports]
@[simp] theorem outside_updLaser (hlasers : fp.lasers) (i : Nat) (f : LaserInput → LaserInput) (s : State) :
    outside fp (updLaser i f s) = outside fp s := by simp [outside, updLaser, hlasers]
@[simp] theorem outside_updSwitch (hswitch : fp.switch) (f : Switch → Switch) (s : State) :
    outside fp (updSwitch f s) = outside fp s := by simp [outside, hswitch]
@[simp] theorem outside_updCanvas (hcanvas : fp.canvas) (f : Canvas → Canvas) (s : State) :
    outside fp (updCanvas f s) = outside fp s := by simp [outside, hcanvas]
@[simp] theorem outside_updStreams (hstreams : fp.streams) (f : Streams → Streams) (s : State) :
    outside fp (updStreams f s) = outside fp s := by simp [outside, hstreams]
@[simp] theorem outside_updSketch (hsketch : fp.sketch) (f : Sketch → Sketch) (s : State) :
    outside fp (updSketch f s) = outside fp s := by simp [outside, hsketch]
@[simp] theorem outside_updTick (htick : fp.tick) (f : Tick → Tick) (s : State) :
    outside fp (updTick f s) = outside fp s := by simp [outside, htick]
@[simp] theorem outside_updTray (htray : fp.tray) (f : Tray → Tray) (s : State) :
    outside fp (updTray f s) = outside fp s := by simp [outside, htray]
@[simp] theorem outside_updTwin (htray : fp.tray) (f : Twin → Twin) (s : State) :
    outside fp (updTwin f s) = outside fp s := by simp [updTwin, htray]
@[simp] theorem outside_updPower (hpower : fp.power) (f : Power → Power) (s : State) :
    outside fp (updPower f s) = outside fp s := by simp [outside, hpower]
@[simp] theorem outside_emit (o : Output) (s : State) : outside fp (emit o s) = outside fp s := (rfl)
@[simp] theorem outside_free (n : Nat) (s : State) : outside fp { s with free := n } = outside fp s := (rfl)
@[simp] theorem outside_policy (hpolicy : fp.policy) (p : Policy) (s : State) :
    outside fp { s with policy := p } = outside fp s := by simp [outside, hpolicy]
@[simp] theorem outside_ports (hports : fp.ports) (l : List Port) (s : State) :
    outside fp { s with ports := l } = outside fp s := by simp [outside, hports]

/-- Flash beside its floor record, and the ports. -/
theorem outside_flashPorts (hflash : fp.flash) (hports : fp.ports) {f : Flash} {l : List Port} {s : State}
    (h : floorsOf f = floorsOf s.flash) : outside fp { s with flash := f, ports := l } = outside fp s := by
  simp [outside, hflash, hports, h]

/-- Start-up changes with its reset, trip and straps, or beside them. -/
@[simp] theorem outside_updBoot (hboot : fp.boot) {f : Boot → Boot} {s : State}
    (h : fp.marks = true ∨ bootMarks (f s.boot) = bootMarks s.boot) : outside fp (updBoot f s) = outside fp s := by
  rcases h with h | h <;> simp [outside, hboot, h]

/-- Flash changes with its floor record, or beside it. -/
@[simp] theorem outside_updFlash (hflash : fp.flash) {f : Flash → Flash} {s : State}
    (h : fp.floors = true ∨ floorsOf (f s.flash) = floorsOf s.flash) : outside fp (updFlash f s) = outside fp s := by
  rcases h with h | h <;> simp [outside, hflash, h]

@[simp] theorem outside_updHost {f : HostState → HostState} {s : State}
    (h : fp.host = true ∨ hostCore (f s.host) = hostCore s.host) : outside fp (updHost f s) = outside fp s := by
  rcases h with h | h <;> simp [outside, h]

@[simp] theorem outside_updHealth {f : Health → Health} {s : State}
    (h : fp.health = true ∨ healthCore (f s.health) = healthCore s.health) :
    outside fp (updHealth f s) = outside fp s := by
  rcases h with h | h <;> simp [outside, h]

theorem hostCore_updFn {hp : HostPort} {f : HostFn → HostFn} {s : State} (h : ∀ x, fnCore (f x) = fnCore x) :
    hostCore (updFn hp f s).host = hostCore s.host := by
  cases hp <;> simp [hostCore, updFn, h]

@[simp] theorem outside_updFn {hp : HostPort} {f : HostFn → HostFn} {s : State}
    (h : fp.host = true ∨ ∀ x, fnCore (f x) = fnCore x) : outside fp (updFn hp f s) = outside fp s := by
  rcases h with h | h
  · simp [outside, h]
  · simp [outside, hostCore_updFn h]

@[simp] theorem outside_updRing (hhost : fp.host) (hp : HostPort) (r : Nat) (f : Ring → Ring) (s : State) :
    outside fp (updRing hp r f s) = outside fp s := outside_updFn (.inl hhost)

/-! ### Compositions -/

@[simp] theorem outside_ite {c : Prop} [Decidable c] (a b : State) :
    outside fp (if c then a else b) = if c then outside fp a else outside fp b := apply_ite ..

@[simp] theorem outside_ite_apply {c : Prop} [Decidable c] (f g : State → State) (s : State) :
    outside fp ((if c then f else g) s) = if c then outside fp (f s) else outside fp (g s) := by split <;> rfl

@[simp] theorem outside_when (b : Bool) (f : State → State) (s : State) (h : outside fp (f s) = outside fp s) :
    outside fp (when b f s) = outside fp s := by
  cases b
  · rfl
  · exact h

@[simp] theorem outside_withFree (f : Nat → State → State) (s : State)
    (h : ∀ n t, outside fp (f n t) = outside fp t) : outside fp (withFree f s) = outside fp s := h ..

@[simp] theorem outside_forEach {α : Type} (l : List α) (f : α → State → State) (s : State)
    (h : ∀ a t, outside fp (f a t) = outside fp t) : outside fp (forEach l f s) = outside fp s := forEach_keeps _ h ..

/-! ### The floor record beside the banks (R425, R428, R429) -/

@[simp] theorem floorsOf_setBank (cfg b : Bool) (img : Image) (f : Flash) :
    floorsOf (setBank cfg b img f) = floorsOf f := by
  cases cfg <;> cases b <;> rfl

@[simp] theorem floorsOf_setSeal (b : Bool) (x : Seal) (f : Flash) : floorsOf (setSeal b x f) = floorsOf f := by
  cases b <;> rfl

@[simp] theorem floorsOf_noteWritten (cfg act : Bool) (sec : Option W32) (f : Flash) :
    floorsOf (noteWritten cfg act sec f) = floorsOf f := by
  cases cfg <;> rfl

theorem floorsOf_spoilBank (s : State) : floorsOf (spoilBank s) = floorsOf s.flash := by
  unfold spoilBank
  split
  · rfl
  · exact floorsOf_setBank ..


/-! ### Ops -/

@[simp] theorem outside_linkCount (hports : fp.ports) (p i n : Nat) (s : State) :
    outside fp (linkCount p i n s) = outside fp s := by simp [linkCount, hports]
@[simp] theorem outside_pktCount (hswitch : fp.switch) (i n : Nat) (s : State) :
    outside fp (pktCount i n s) = outside fp s := by simp [pktCount, hswitch]
@[simp] theorem outside_swCount (hswitch : fp.switch) (i n : Nat) (s : State) :
    outside fp (swCount i n s) = outside fp s := by simp [swCount, hswitch]
@[simp] theorem outside_canvasCount (hcanvas : fp.canvas) (i n : Nat) (s : State) :
    outside fp (canvasCount i n s) = outside fp s := by simp [canvasCount, hcanvas]
@[simp] theorem outside_streamCount (hstreams : fp.streams) (i n : Nat) (s : State) :
    outside fp (streamCount i n s) = outside fp s := by simp [streamCount, hstreams]
@[simp] theorem outside_sketchCount (hsketch : fp.sketch) (i n : Nat) (s : State) :
    outside fp (sketchCount i n s) = outside fp s := by simp [sketchCount, hsketch]
@[simp] theorem outside_hostCount (i n : Nat) (s : State) : outside fp (hostCount i n s) = outside fp s := by
  simp [hostCount, hostCore]
@[simp] theorem outside_trayCount (htray : fp.tray) (i n : Nat) (s : State) :
    outside fp (trayCount i n s) = outside fp s := by simp [trayCount, htray]
@[simp] theorem outside_powerCount (hpower : fp.power) (i n : Nat) (s : State) :
    outside fp (powerCount i n s) = outside fp s := by simp [powerCount, hpower]
@[simp] theorem outside_healthCount (hhealth : fp.health) (i n : Nat) (s : State) :
    outside fp (healthCount i n s) = outside fp s := by simp [healthCount, hhealth]
@[simp] theorem outside_sendVector (hp : HostPort) (v : BitVec 6) (s : State) :
    outside fp (sendVector hp v s) = outside fp s := by simp [sendVector, fnCore]
@[simp] theorem outside_sendCause (hp : HostPort) (i : Nat) (s : State) :
    outside fp (sendCause hp i s) = outside fp s := by simp [sendCause]
@[simp] theorem outside_releaseHeld (hp : HostPort) (s : State) : outside fp (releaseHeld hp s) = outside fp s := by
  simp [releaseHeld, fnCore]
@[simp] theorem outside_setCause (hp : HostPort) (i : Nat) (s : State) :
    outside fp (setCause hp i s) = outside fp s := by simp [setCause, fnCore]
@[simp] theorem outside_notePosted (hp : HostPort) (s : State) : outside fp (notePosted hp s) = outside fp s := by
  simp [notePosted, fnCore]
@[simp] theorem outside_setCauseBoth (i : Nat) (s : State) : outside fp (setCauseBoth i s) = outside fp s := by
  simp [setCauseBoth]
@[simp] theorem outside_putRecord (r : FlightRec) (s : State) : outside fp (putRecord r s) = outside fp s := by
  simp [putRecord, healthCore]
@[simp] theorem outside_record (rtype code resource address : Nat) (detail : Bytes) (s : State) :
    outside fp (record rtype code resource address detail s) = outside fp s := by simp [record, healthCore]
@[simp] theorem outside_eventTo (code : Nat) (ev : Bytes) (hp : HostPort) (s : State) :
    outside fp (eventTo code ev hp s) = outside fp s := by simp [eventTo, fnCore]
@[simp] theorem outside_raiseWith (code source : Nat) (data : Bytes) (ended : Bool) (s : State) :
    outside fp (raiseWith code source data ended s) = outside fp s := by simp [raiseWith]
@[simp] theorem outside_raise (code source : Nat) (data : Bytes) (s : State) :
    outside fp (raise code source data s) = outside fp s := by simp [raise]
@[simp] theorem outside_raisePinned (loop source : Nat) (upper : Bool) (s : State) :
    outside fp (raisePinned loop source upper s) = outside fp s := by simp [raisePinned]
@[simp] theorem outside_raiseReached (loop source : Nat) (old new : Pin) (s : State) :
    outside fp (raiseReached loop source old new s) = outside fp s := by simp [raiseReached]
@[simp] theorem outside_entryWritten (hhealth : fp.health) (tbl i : Nat) (s : State) :
    outside fp (entryWritten tbl i s) = outside fp s := by simp [entryWritten, hhealth]

/-! ### Flags -/

@[simp] theorem outside_raiseFlags (hcanvas : fp.canvas) (n : Nat) (f : AFlags) (s : State) :
    outside fp (raiseFlags n f s) = outside fp s := by simp [raiseFlags, hcanvas]
@[simp] theorem outside_clearFlags (hcanvas : fp.canvas) (n : Nat) (mask : BitVec 4) (s : State) :
    outside fp (clearFlags n mask s) = outside fp s := by simp [clearFlags, hcanvas]

/-! ### Queues -/

@[simp] theorem outside_updPacket (hswitch : fp.switch) (id : Nat) (f : Stored → Stored) (s : State) :
    outside fp (updPacket id f s) = outside fp s := by simp [updPacket, hswitch]
@[simp] theorem outside_setQueue (hswitch : fp.switch) (p v : Nat) (l : List Nat) (s : State) :
    outside fp (setQueue p v l s) = outside fp s := by simp [setQueue, hswitch]
@[simp] theorem outside_pushQueue (hswitch : fp.switch) (p v id : Nat) (s : State) :
    outside fp (pushQueue p v id s) = outside fp s := by simp [pushQueue, hswitch]
@[simp] theorem outside_dropFromQueue (hswitch : fp.switch) (p v id : Nat) (s : State) :
    outside fp (dropFromQueue p v id s) = outside fp s := by simp [dropFromQueue, hswitch]
@[simp] theorem outside_releaseCredit (hports : fp.ports) (p v n : Nat) (s : State) :
    outside fp (releaseCredit p v n s) = outside fp s := by simp [releaseCredit, hports]
@[simp] theorem outside_releaseAll (hports : fp.ports) (hswitch : fp.switch) (id : Nat) (s : State) :
    outside fp (releaseAll id s) = outside fp s := by unfold releaseAll; (repeat' split) <;> simp [hports, hswitch]
@[simp] theorem outside_discardRest (hports : fp.ports) (p v : Nat) (tail : Bool) (s : State) :
    outside fp (discardRest p v tail s) = outside fp s := by simp [discardRest, hports]
@[simp] theorem outside_dropPacket (hports : fp.ports) (hswitch : fp.switch) (id : Nat) (tail : Bool) (s : State) :
    outside fp (dropPacket id tail s) = outside fp s := by unfold dropPacket; (repeat' split) <;> simp [hports, hswitch]
@[simp] theorem outside_cutPacketAt (hports : fp.ports) (hswitch : fp.switch) (id n : Nat) (tail : Bool) (s : State) :
    outside fp (cutPacketAt id n tail s) = outside fp s := by
  unfold cutPacketAt; (repeat' split) <;> simp [hports, hswitch]
@[simp] theorem outside_cutPacket (hports : fp.ports) (hswitch : fp.switch) (id : Nat) (tail : Bool) (s : State) :
    outside fp (cutPacket id tail s) = outside fp s := by unfold cutPacket; (repeat' split) <;> simp [hports, hswitch]
@[simp] theorem outside_endVoid (hswitch : fp.switch) (id : Nat) (s : State) :
    outside fp (endVoid id s) = outside fp s := by simp [endVoid, hswitch]
@[simp] theorem outside_dropCopy (hports : fp.ports) (hswitch : fp.switch) (id p v : Nat) (s : State) :
    outside fp (dropCopy id p v s) = outside fp s := by unfold dropCopy; (repeat' split) <;> simp [hports, hswitch]
@[simp] theorem outside_wredUpdate (hswitch : fp.switch) (p v : Nat) (a : Int) (s : State) :
    outside fp (wredUpdate p v a s) = outside fp s := by rw [wredUpdate, outside_free, outside_updSwitch hswitch]
@[simp] theorem outside_discardCounted (hports : fp.ports) (hswitch : fp.switch) (id ctr : Nat) (s : State) :
    outside fp (discardCounted id ctr s) = outside fp s := by simp [discardCounted, hports, hswitch]
@[simp] theorem outside_noRoute (hswitch : fp.switch) (dst : W16) (ingress : Option Nat) (s : State) :
    outside fp (noRoute dst ingress s) = outside fp s := by simp [noRoute, hswitch]
@[simp] theorem outside_updHold (hswitch : fp.switch) (f : Flow) (g : Hold → Hold) (s : State) :
    outside fp (updHold f g s) = outside fp s := by simp [updHold, hswitch]
@[simp] theorem outside_freeHold (hswitch : fp.switch) (f : Flow) (s : State) :
    outside fp (freeHold f s) = outside fp s := by simp [freeHold, hswitch]
@[simp] theorem outside_newHold (hswitch : fp.switch) (f : Flow) (s : State) :
    outside fp (newHold f s) = outside fp s := by simp [newHold, hswitch]
@[simp] theorem outside_unholdPacket (hswitch : fp.switch) (id : Nat) (fault : Bool) (s : State) :
    outside fp (unholdPacket id fault s) = outside fp s := by unfold unholdPacket; (repeat' split) <;> simp [hswitch]
@[simp] theorem outside_releaseIfDue (hswitch : fp.switch) (f : Flow) (s : State) :
    outside fp (releaseIfDue f s) = outside fp s := by unfold releaseIfDue; (repeat' split) <;> simp [hswitch]
@[simp] theorem outside_countPut (hswitch : fp.switch) (h : Header) (s : State) :
    outside fp (countPut h s) = outside fp s := by simp [countPut, hswitch]
@[simp] theorem outside_arriveLast (hswitch : fp.switch) (id : Nat) (s : State) :
    outside fp (arriveLast id s) = outside fp s := by
  unfold arriveLast; dsimp only; (repeat' split) <;> simp [hswitch]
@[simp] theorem outside_noteDeferred (hswitch : fp.switch) (p : Nat) (s : State) :
    outside fp (noteDeferred p s) = outside fp s := by simp [noteDeferred, hswitch]
@[simp] theorem outside_noteWithheld (hswitch : fp.switch) (id : Nat) (s : State) :
    outside fp (noteWithheld id s) = outside fp s := by unfold noteWithheld; (repeat' split) <;> simp [hswitch]
@[simp] theorem outside_deferralOver (hswitch : fp.switch) (p : Nat) (s : State) :
    outside fp (deferralOver p s) = outside fp s := by simp [deferralOver, hswitch]
@[simp] theorem outside_placeInQueue (hports : fp.ports) (hswitch : fp.switch) (id p v0 : Nat) (s : State) :
    outside fp (placeInQueue id p v0 s) = outside fp s := by
  unfold placeInQueue; (repeat' split) <;> simp [hports, hswitch]
@[simp] theorem outside_sendToPort (hports : fp.ports) (hswitch : fp.switch) (id p v : Nat) (s : State) :
    outside fp (sendToPort id p v s) = outside fp s := by simp [sendToPort, hports, hswitch]
@[simp] theorem outside_flushPort (hports : fp.ports) (hswitch : fp.switch) (p : Nat)
    (uni multi : Nat → State → State) (s : State) (hu : ∀ n t, outside fp (uni n t) = outside fp t)
    (hm : ∀ n t, outside fp (multi n t) = outside fp t) :
    outside fp (flushPort p uni multi s).1 = outside fp s := by unfold flushPort; simp [hports, hswitch, hu, hm]
@[simp] theorem outside_originate (hswitch : fp.switch) (o : Originate) (s : State) :
    outside fp (originate o s) = outside fp s := by simp [originate, hswitch]
@[simp] theorem outside_answerStatus (hswitch : fp.switch) (st : Stored) (status : W16) (s : State) :
    outside fp (answerStatus st status s) = outside fp s := by unfold answerStatus; (repeat' split) <;> simp [hswitch]
@[simp] theorem outside_applyFinding (hports : fp.ports) (hswitch : fp.switch) (id : Nat) (st : Stored) (s : State) :
    outside fp (applyFinding id st s) = outside fp s := by
  unfold applyFinding; (repeat' split) <;> simp [hports, hswitch]
@[simp] theorem outside_atWindow (hports : fp.ports) (hswitch : fp.switch) (id : Nat) (mine : Header → Bool)
    (f : Stored → State → State) (s : State) (hf : ∀ a0 t, outside fp (f a0 t) = outside fp t) :
    outside fp (atWindow id mine f s) = outside fp s := by simp only [atWindow]; (repeat' split) <;> simp_all

/-! ### Replies -/

@[simp] theorem outside_answerHead (hswitch : fp.switch) (hhost : fp.host) (r : Reply) (s : State) :
    outside fp (answerHead r s) = outside fp s := by unfold answerHead; (repeat' split) <;> simp [hswitch, hhost]
@[simp] theorem outside_settleInband (hswitch : fp.switch) (hhost : fp.host) (n : Nat) (s : State) :
    outside fp (settleInband n s) = outside fp s := by
  induction n generalizing s with
  | zero => rfl
  | succ n ih => unfold settleInband; (repeat' split) <;> simp [hswitch, hhost, ih]
@[simp] theorem outside_finishInband (hswitch : fp.switch) (hhost : fp.host) (r : Reply) (s : State) :
    outside fp (finishInband r s) = outside fp s := by simp [finishInband, hswitch, hhost]
@[simp] theorem outside_finishRing (hhost : fp.host) (hp : HostPort) (n : Nat) (r : Reply) (s : State) :
    outside fp (finishRing hp n r s) = outside fp s := by unfold finishRing; (repeat' split) <;> simp [hhost]
@[simp] theorem outside_finish (hswitch : fp.switch) (hhost : fp.host) (src : CmdSrc) (status : W16)
    (result : Bytes) (s : State) :
    outside fp (finish src status result s) = outside fp s := by
  unfold finish; (repeat' split) <;> simp [hswitch, hhost]
@[simp] theorem outside_noteUndrained (hhost : fp.host) (p flushed : Nat) (s : State) :
    outside fp (noteUndrained p flushed s) = outside fp s := by simp [noteUndrained, hhost]
@[simp] theorem outside_finishWashes (hswitch : fp.switch) (hhost : fp.host) (s : State) :
    outside fp (finishWashes s) = outside fp s := by simp [finishWashes, hswitch, hhost]

/-! ### Ports -/

@[simp] theorem outside_setPortState (hports : fp.ports) (p : Nat) (st : PState) (cause : W16) (s : State) :
    outside fp (setPortState p st cause s) = outside fp s := by simp [setPortState, hports]
@[simp] theorem outside_sendSet (hports : fp.ports) (p l : Nat) (typ : Byte) (content : Bytes) (s : State) :
    outside fp (sendSet p l typ content s) = outside fp s := by simp [sendSet, hports]
@[simp] theorem outside_sendPrimer (hports : fp.ports) (p l : Nat) (s : State) :
    outside fp (sendPrimer p l s) = outside fp s := by simp [sendPrimer, hports]
@[simp] theorem outside_sendPrimers (hports : fp.ports) (p : Nat) (starts : Bool) (s : State) :
    outside fp (sendPrimers p starts s) = outside fp s := by simp [sendPrimers, hports]
@[simp] theorem outside_sendFrame (p : Nat) (lanes : BitVec 8) (b : Bytes) (s : State) :
    outside fp (sendFrame p lanes b s) = outside fp s := by simp [sendFrame]
@[simp] theorem outside_sendPrbs (p l : Nat) (s : State) : outside fp (sendPrbs p l s) = outside fp s := by
  simp [sendPrbs]
@[simp] theorem outside_toListen (hports : fp.ports) (p : Nat) (cause : W16) (s : State) :
    outside fp (toListen p cause s) = outside fp s := by simp [toListen, hports]
@[simp] theorem outside_failAttempt (hports : fp.ports) (p : Nat) (cause : W16) (s : State) :
    outside fp (failAttempt p cause s) = outside fp s := by simp [failAttempt, hports]
@[simp] theorem outside_goCold (hports : fp.ports) (hswitch : fp.switch) (p : Nat) (s : State) :
    outside fp (goCold p s) = outside fp s := by simp [goCold, hports, hswitch]
@[simp] theorem outside_warmLost (hports : fp.ports) (hswitch : fp.switch) (p : Nat) (cause : W16) (s : State) :
    outside fp (warmLost p cause s) = outside fp s := by
  unfold warmLost; dsimp only; (repeat' split) <;> simp [hports, hswitch]
@[simp] theorem outside_expireGrace (hports : fp.ports) (hswitch : fp.switch) (p : Nat) (s : State) :
    outside fp (expireGrace p s) = outside fp s := by simp [expireGrace, hports, hswitch]
@[simp] theorem outside_startGrace (hports : fp.ports) (p : Nat) (s : State) :
    outside fp (startGrace p s) = outside fp s := by simp [startGrace, hports]
@[simp] theorem outside_endGrace (hports : fp.ports) (p : Nat) (s : State) :
    outside fp (endGrace p s) = outside fp s := by simp [endGrace, hports]
@[simp] theorem outside_disablePort (hports : fp.ports) (hswitch : fp.switch) (p : Nat) (s : State) :
    outside fp (disablePort p s).1 = outside fp s := by simp [disablePort, hports, hswitch]
@[simp] theorem outside_abandonWash (hports : fp.ports) (hswitch : fp.switch) (hhost : fp.host) (p : Nat) (s : State) :
    outside fp (abandonWash p s) = outside fp s := by simp [abandonWash, hports, hswitch, hhost]
@[simp] theorem outside_leaveRunning (hports : fp.ports) (p : Nat) (s : State) :
    outside fp (leaveRunning p s) = outside fp s := by simp [leaveRunning, hports]
@[simp] theorem outside_settleGrace (hports : fp.ports) (hswitch : fp.switch) (p : Nat) (s : State) :
    outside fp (settleGrace p s) = outside fp s := by simp [settleGrace, hports, hswitch]
@[simp] theorem outside_sendAnnounce (p count : Nat) (s : State) :
    outside fp (sendAnnounce p count s) = outside fp s := by simp [sendAnnounce]
@[simp] theorem outside_enterRetest (hports : fp.ports) (hswitch : fp.switch) (hhost : fp.host) (p : Nat)
    (cause : W16) (initiator : Bool) (start : Nat) (s : State) :
    outside fp (enterRetest p cause initiator start s) = outside fp s := by
  unfold enterRetest
  split
  · rfl
  · split
    · simp [hports, hswitch, hhost]
    · rw [outside_settleGrace hports hswitch, outside_sendAnnounce, outside_setPortState hports,
        outside_updPort hports, outside_leaveRunning hports]
@[simp] theorem outside_retest (hports : fp.ports) (hswitch : fp.switch) (hhost : fp.host) (p : Nat) (cause : W16)
    (s : State) :
    outside fp (retest p cause s) = outside fp s := by simp [retest, hports, hswitch, hhost]
@[simp] theorem outside_toMiswired (hports : fp.ports) (hswitch : fp.switch) (hhost : fp.host) (p : Nat)
    (cause : W16) (s : State) :
    outside fp (toMiswired p cause s) = outside fp s := by simp [toMiswired, hports, hswitch, hhost]
@[simp] theorem outside_toUnused (hports : fp.ports) (hswitch : fp.switch) (hhost : fp.host) (p : Nat) (s : State) :
    outside fp (toUnused p s) = outside fp s := by simp [toUnused, hports, hswitch, hhost]
@[simp] theorem outside_judgeVerdict (hports : fp.ports) (hswitch : fp.switch) (hhost : fp.host) (p : Nat) (s : State) :
    outside fp (judgeVerdict p s) = outside fp s := by simp [judgeVerdict, hports, hswitch, hhost]
@[simp] theorem outside_enterRunning (hports : fp.ports) (hswitch : fp.switch) (p : Nat) (s : State) :
    outside fp (enterRunning p s) = outside fp s := by simp [enterRunning, hports, hswitch]
@[simp] theorem outside_coldRetrain (hports : fp.ports) (hswitch : fp.switch) (hhost : fp.host) (p : Nat)
    (cause : W16) (s : State) :
    outside fp (coldRetrain p cause s) = outside fp s := by simp [coldRetrain, hports, hswitch, hhost]
@[simp] theorem outside_startStream (hports : fp.ports) (p : Nat) (s : State) :
    outside fp (startStream p s) = outside fp s := by simp [startStream, hports]
@[simp] theorem outside_failPhase (hports : fp.ports) (p : Nat) (cause : W16) (s : State) :
    outside fp (failPhase p cause s) = outside fp s := by unfold failPhase; (repeat' split) <;> simp [hports]

/-! ### Optics -/

@[simp] theorem outside_laserEdge (code input : Nat) (data : Bytes) (was isNow : Bool) (s : State) :
    outside fp (laserEdge code input data was isNow s) = outside fp s := by simp [laserEdge]
@[simp] theorem outside_laserSample (hlasers : fp.lasers) (input : Nat) (a b : Int) (s : State) :
    outside fp (laserSample input a b s) = outside fp s := by simp [laserSample, hlasers]
@[simp] theorem outside_releaseAttenuator (hlasers : fp.lasers) (input : Nat) (s : State) :
    outside fp (releaseAttenuator input s) = outside fp s := by simp [releaseAttenuator, hlasers]
@[simp] theorem outside_notePin (hports : fp.ports) (p l n : Nat) (atLo atHi : Bool) (s : State) :
    outside fp (notePin p l n atLo atHi s) = outside fp s := by simp [notePin, hports]
@[simp] theorem outside_modulatorMove (hports : fp.ports) (p l : Nat) (aim : Int) (s : State) :
    outside fp (modulatorMove p l aim s) = outside fp s := by simp [modulatorMove, hports]
@[simp] theorem outside_dropMove (hports : fp.ports) (p l : Nat) (aim : Int) (s : State) :
    outside fp (dropMove p l aim s) = outside fp s := by simp [dropMove, hports]
@[simp] theorem outside_lockLoss (hports : fp.ports) (hswitch : fp.switch) (hhost : fp.host) (p : Nat)
    (run : MonitorRun) (s : State) :
    outside fp (lockLoss p run s) = outside fp s := by simp [lockLoss, hports, hswitch, hhost]
@[simp] theorem outside_adapt (hports : fp.ports) (p l : Nat) (b : BlockStats) (s : State) :
    outside fp (adapt p l b s) = outside fp s := by simp [adapt, hports]
@[simp] theorem outside_blockEnd (hports : fp.ports) (p l : Nat) (b : BlockStats) (s : State) :
    outside fp (blockEnd p l b s) = outside fp s := by simp [blockEnd, hports]
@[simp] theorem outside_alignmentLost (hports : fp.ports) (p : Nat) (s : State) :
    outside fp (alignmentLost p s) = outside fp s := by
  unfold alignmentLost; dsimp only; (repeat' split) <;> simp [hports]
@[simp] theorem outside_laneSignal (hports : fp.ports) (p l detector : Nat) (ended : Bool) (s : State) :
    outside fp (laneSignal p l detector ended s) = outside fp s := by simp [laneSignal, hports]
@[simp] theorem outside_detectorAsserts (hports : fp.ports) (hswitch : fp.switch) (hhost : fp.host)
    (p l detector : Nat) (s : State) :
    outside fp (detectorAsserts p l detector s) = outside fp s := by
  unfold detectorAsserts; dsimp only; (repeat' split) <;> simp [hports, hswitch, hhost]
@[simp] theorem outside_losAssert (hports : fp.ports) (hswitch : fp.switch) (hhost : fp.host) (p l : Nat) (s : State) :
    outside fp (losAssert p l s) = outside fp s := by simp [losAssert, hports, hswitch, hhost]
@[simp] theorem outside_lolAssert (hports : fp.ports) (hswitch : fp.switch) (hhost : fp.host) (p l : Nat) (s : State) :
    outside fp (lolAssert p l s) = outside fp s := by simp [lolAssert, hports, hswitch, hhost]
@[simp] theorem outside_losDeassert (hports : fp.ports) (p l : Nat) (s : State) :
    outside fp (losDeassert p l s) = outside fp s := by simp [losDeassert, hports]
@[simp] theorem outside_startProbe (hports : fp.ports) (p : Nat) (s : State) :
    outside fp (startProbe p s) = outside fp s := by simp [startProbe, hports]
@[simp] theorem outside_lolDeassert (hports : fp.ports) (p l : Nat) (s : State) :
    outside fp (lolDeassert p l s) = outside fp s := by simp [lolDeassert, hports]
@[simp] theorem outside_judgeFom (hports : fp.ports) (hswitch : fp.switch) (hhost : fp.host) (p : Nat) (idle : Bool)
    (s : State) :
    outside fp (judgeFom p idle s) = outside fp s := by simp [judgeFom, hports, hswitch, hhost]
@[simp] theorem outside_storeFoms (hports : fp.ports) (p : Nat) (stats : List FomStats) (s : State) :
    outside fp (storeFoms p stats s) = outside fp s := by simp [storeFoms, hports]
@[simp] theorem outside_fomWindow (hports : fp.ports) (hswitch : fp.switch) (hhost : fp.host) (p : Nat)
    (stats : List FomStats) (s : State) :
    outside fp (fomWindow p stats s) = outside fp s := by simp [fomWindow, hports, hswitch, hhost]

/-! ### BringUp -/

@[simp] theorem outside_toPrimer (hports : fp.ports) (p : Nat) (s : State) :
    outside fp (toPrimer p s) = outside fp s := by simp [toPrimer, hports]
@[simp] theorem outside_laneAligned (hports : fp.ports) (p : Nat) (s : State) :
    outside fp (laneAligned p s) = outside fp s := by simp [laneAligned, hports]
@[simp] theorem outside_sendNext (hports : fp.ports) (p l : Nat) (s : State) :
    outside fp (sendNext p l s) = outside fp s := by unfold sendNext; dsimp only; (repeat' split) <;> simp [hports]
@[simp] theorem outside_primerSet (hports : fp.ports) (p l : Nat) (x : PrimerSet) (typ : Byte)
    (f : Bytes → State → State) (s : State) (hf : ∀ a0 t, outside fp (f a0 t) = outside fp t) :
    outside fp (primerSet p l x typ f s) = outside fp s := by simp only [primerSet]; (repeat' split) <;> simp_all
@[simp] theorem outside_tryReady (hports : fp.ports) (p : Nat) (s : State) :
    outside fp (tryReady p s) = outside fp s := by simp [tryReady, hports]
@[simp] theorem outside_miswire (hports : fp.ports) (hswitch : fp.switch) (hhost : fp.host) (p : Nat) (cause : W16)
    (s : State) :
    outside fp (miswire p cause s) = outside fp s := by unfold miswire; split <;> simp [hports, hswitch, hhost]
@[simp] theorem outside_judgeIdent (hports : fp.ports) (hswitch : fp.switch) (hhost : fp.host) (p : Nat) (c : Bytes)
    (s : State) :
    outside fp (judgeIdent p c s) = outside fp s := by
  unfold judgeIdent; dsimp only; (repeat' split) <;> simp [hports, hswitch, hhost]
@[simp] theorem outside_takeIdent (hports : fp.ports) (hswitch : fp.switch) (hhost : fp.host) (p l : Nat)
    (c : Bytes) (s : State) :
    outside fp (takeIdent p l c s) = outside fp s := by simp [takeIdent, hports, hswitch, hhost]
@[simp] theorem outside_takeTime (hports : fp.ports) (p : Nat) (c : Bytes) (arrival : Nat) (s : State) :
    outside fp (takeTime p c arrival s) = outside fp s := by simp [takeTime, hports]
@[simp] theorem outside_sendStep (hports : fp.ports) (p count : Nat) (s : State) :
    outside fp (sendStep p count s) = outside fp s := by exact outside_forEach _ _ _ (by intros; simp [hports])
@[simp] theorem outside_takeStep (hports : fp.ports) (p : Nat) (c : Bytes) (s : State) :
    outside fp (takeStep p c s) = outside fp s := by simp [takeStep, hports]
@[simp] theorem outside_enterStep (hports : fp.ports) (hswitch : fp.switch) (p : Nat) (s : State) :
    outside fp (enterStep p s) = outside fp s := by simp [enterStep, hports, hswitch]
@[simp] theorem outside_doRateStep (hports : fp.ports) (hswitch : fp.switch) (p : Nat) (s : State) :
    outside fp (doRateStep p s) = outside fp s := by simp [doRateStep, hports, hswitch]
@[simp] theorem outside_setPhase (hports : fp.ports) (p : Nat) (ph : Phase) (s : State) :
    outside fp (setPhase p ph s) = outside fp s := by simp [setPhase, hports]
@[simp] theorem outside_endAcquisition (hports : fp.ports) (p : Nat) (s : State) :
    outside fp (endAcquisition p s) = outside fp s := by simp [endAcquisition, hports]
@[simp] theorem outside_tryFinal (hports : fp.ports) (p : Nat) (s : State) :
    outside fp (tryFinal p s) = outside fp s := by simp [tryFinal, hports]
@[simp] theorem outside_endSelftest (hports : fp.ports) (p : Nat) (s : State) :
    outside fp (endSelftest p s) = outside fp s := by simp [endSelftest, hports]
@[simp] theorem outside_judgeLane (hports : fp.ports) (p l : Nat) (c : Option LaneCheck) (s : State) :
    outside fp (judgeLane p l c s) = outside fp s := by simp [judgeLane, hports]
@[simp] theorem outside_takeReport (hports : fp.ports) (p l : Nat) (f : Bytes) (check : List LaneCheck) (s : State) :
    outside fp (takeReport p l f check s) = outside fp s := by simp [takeReport, hports]
@[simp] theorem outside_noteWidth (p : Nat) (old new : BitVec 8) (s : State) :
    outside fp (noteWidth p old new s) = outside fp s := by simp [noteWidth]
@[simp] theorem outside_endReport (hports : fp.ports) (hswitch : fp.switch) (p : Nat) (s : State) :
    outside fp (endReport p s) = outside fp s := by
  unfold endReport; dsimp only; (repeat' split) <;> simp [hports, hswitch]
@[simp] theorem outside_reportTimesOut (hports : fp.ports) (p : Nat) (s : State) :
    outside fp (reportTimesOut p s) = outside fp s := by simp [reportTimesOut, hports]
@[simp] theorem outside_streamFramed (hports : fp.ports) (hswitch : fp.switch) (p : Nat) (skews : List Int)
    (s : State) :
    outside fp (streamFramed p skews s) = outside fp s := by simp [streamFramed, hports, hswitch]
@[simp] theorem outside_resumeTimesOut (hports : fp.ports) (p : Nat) (s : State) :
    outside fp (resumeTimesOut p s) = outside fp s := by simp [resumeTimesOut, hports]
@[simp] theorem outside_takeAnnounce (hports : fp.ports) (hswitch : fp.switch) (hhost : fp.host) (p : Nat)
    (f : Bytes) (s : State) :
    outside fp (takeAnnounce p f s) = outside fp s := by simp [takeAnnounce, hports, hswitch, hhost]
@[simp] theorem outside_startRetestSelftest (hports : fp.ports) (p : Nat) (s : State) :
    outside fp (startRetestSelftest p s) = outside fp s := by simp [startRetestSelftest, hports]
@[simp] theorem outside_takeCrossed (hports : fp.ports) (hswitch : fp.switch) (hhost : fp.host) (p : Nat)
    (pairs : BitVec 4) (s : State) :
    outside fp (takeCrossed p pairs s) = outside fp s := by simp [takeCrossed, hports, hswitch, hhost]
@[simp] theorem outside_startMiswiredProbe (hports : fp.ports) (p : Nat) (s : State) :
    outside fp (startMiswiredProbe p s) = outside fp s := by simp [startMiswiredProbe, hports]
@[simp] theorem outside_doProbeStart (hports : fp.ports) (p : Nat) (s : State) :
    outside fp (doProbeStart p s) = outside fp s := by simp [doProbeStart, hports]
@[simp] theorem outside_doProbeExpire (hports : fp.ports) (p : Nat) (s : State) :
    outside fp (doProbeExpire p s) = outside fp s := by simp [doProbeExpire, hports]
@[simp] theorem outside_doAttemptExpire (hports : fp.ports) (p : Nat) (s : State) :
    outside fp (doAttemptExpire p s) = outside fp s := by simp [doAttemptExpire, hports]
@[simp] theorem outside_doGraceExpire (hports : fp.ports) (hswitch : fp.switch) (p : Nat) (s : State) :
    outside fp (doGraceExpire p s) = outside fp s := by simp [doGraceExpire, hports, hswitch]
@[simp] theorem outside_endQuiesce (hports : fp.ports) (hswitch : fp.switch) (hhost : fp.host) (p : Nat) (s : State) :
    outside fp (endQuiesce p s) = outside fp s := by simp [endQuiesce, hports, hswitch, hhost]
@[simp] theorem outside_calibratePort (hports : fp.ports) (hswitch : fp.switch) (hhost : fp.host) (cal : EngineCal)
    (p : Nat) (s : State) :
    outside fp (calibratePort cal p s) = outside fp s := by simp [calibratePort, hports, hswitch, hhost]
@[simp] theorem outside_engineCalibrated (hports : fp.ports) (hswitch : fp.switch) (htick : fp.tick)
    (hhost : fp.host) (e : Nat) (cal : EngineCal) (s : State) :
    outside fp (engineCalibrated e cal s) = outside fp s := by simp [engineCalibrated, hports, hswitch, htick, hhost]

/-! ### TickCore -/

@[simp] theorem outside_startTracking (htick : fp.tick) (k : Marker) (s : State) :
    outside fp (startTracking k s) = outside fp s := by simp [startTracking, htick]
@[simp] theorem outside_stepTick (htick : fp.tick) (k : Marker) (n0 : W32) (s : State) :
    outside fp (stepTick k n0 s) = outside fp s := by simp [stepTick, htick]
@[simp] theorem outside_trimTick (htick : fp.tick) (k : Marker) (e : Rat) (s : State) :
    outside fp (trimTick k e s) = outside fp s := by simp [trimTick, htick]
@[simp] theorem outside_useMarker (hsketch : fp.sketch) (htick : fp.tick) (p : Nat) (k : Marker) (s : State) :
    outside fp (useMarker p k s) = outside fp s := by simp [useMarker, hsketch, htick]
@[simp] theorem outside_tickMarker (hsketch : fp.sketch) (htick : fp.tick) (p : Nat) (content : Bytes)
    (inBlock : Bool) (arrival : Nat) (s : State) :
    outside fp (tickMarker p content inBlock arrival s) = outside fp s := by
  unfold tickMarker
  split
  · simp [hsketch]
  · simp only [outside_ite]; split <;> simp [hsketch, htick]
@[simp] theorem outside_raiseOverruns (hsketch : fp.sketch) (s : State) :
    outside fp (raiseOverruns s) = outside fp s := by unfold raiseOverruns; (repeat' split) <;> simp [hsketch]
@[simp] theorem outside_noteOverrun (hsketch : fp.sketch) (htick : fp.tick) (tick : W32)
    (plan kind entry object more : Nat) (s : State) :
    outside fp (noteOverrun tick plan kind entry object more s) = outside fp s := by simp [noteOverrun, hsketch, htick]
@[simp] theorem outside_judgeEgress (hsketch : fp.sketch) (htick : fp.tick) (n : W32) (w : Option (Nat × Nat))
    (s : State) :
    outside fp (judgeEgress n w s) = outside fp s := by simp only [judgeEgress]; (repeat' split) <;> simp_all

/-! ### Errors -/

@[simp] theorem outside_queueTest (hhealth : fp.health) (r : TestRes) (s : State) :
    outside fp (queueTest r s) = outside fp s := by simp [queueTest, hhealth]
@[simp] theorem outside_markWord (hhealth : fp.health) (w : Nat) (s : State) :
    outside fp (markWord w s) = outside fp s := by simp [markWord, hhealth]
@[simp] theorem outside_rewriteWords (hhealth : fp.health) (a n : Nat) (s : State) :
    outside fp (rewriteWords a n s) = outside fp s := by simp [rewriteWords, hhealth]
@[simp] theorem outside_memEvent (hhealth : fp.health) (mem kind : Nat) (s : State) :
    outside fp (memEvent mem kind s) = outside fp s := by simp [memEvent, hhealth]
@[simp] theorem outside_memError (hhealth : fp.health) (mem kind : Nat) (row : TestRes) (resource address : Nat)
    (detail : Bytes) (s : State) :
    outside fp (memError mem kind row resource address detail s) = outside fp s := by
  unfold memError; (repeat' split) <;> simp [hhealth]
@[simp] theorem outside_pathError (hhealth : fp.health) (mem : Nat) (unc : Bool) (resource address : Nat)
    (detail : Bytes) (s : State) :
    outside fp (pathError mem unc resource address detail s) = outside fp s := by simp [pathError, hhealth]
@[simp] theorem outside_sramRead (hhealth : fp.health) (mem : Nat) (e : WordError) (s : State) :
    outside fp (sramRead mem e s) = outside fp s := by unfold sramRead; dsimp only; (repeat' split) <;> simp [hhealth]
@[simp] theorem outside_markSite (hhealth : fp.health) (x : ScrubSite) (s : State) :
    outside fp (markSite x s) = outside fp s := by simp [markSite, hhealth]
@[simp] theorem outside_readCell (hhealth : fp.health) (id n : Nat) (e : WordError) (s : State) :
    outside fp (readCell id n e s) = outside fp s := by simp [readCell, hhealth]
@[simp] theorem outside_readHeader (hhealth : fp.health) (id : Nat) (cell copy : WordError) (s : State) :
    outside fp (readHeader id cell copy s) = outside fp s := by simp [readHeader, hhealth]
@[simp] theorem outside_hbmRead (hhealth : fp.health) (mem stack row word : Nat) (e : WordError) (s : State) :
    outside fp (hbmRead mem stack row word e s) = outside fp s := by simp [hbmRead, hhealth]
@[simp] theorem outside_storeRead (hhealth : fp.health) (a : Nat) (e : WordError) (s : State) :
    outside fp (storeRead a e s) = outside fp s := by simp [storeRead, hhealth]
@[simp] theorem outside_parityError (hhealth : fp.health) (n : Nat) (s : State) :
    outside fp (parityError n s) = outside fp s := by simp [parityError, hhealth]

/-! ### Link -/

@[simp] theorem outside_badPayload (hports : fp.ports) (hswitch : fp.switch) (id n : Nat) (s : State) :
    outside fp (badPayload id n s) = outside fp s := by
  unfold badPayload; split
  · simp
  · dsimp only
    rw [outside_when _ _ _ (by split <;> simp [hports, hswitch]), outside_when _ _ _ (by simp [hswitch])]
@[simp] theorem outside_copyLeft (hports : fp.ports) (hswitch : fp.switch) (hsketch : fp.sketch) (htick : fp.tick)
    (id p v : Nat) (st : Stored) (good : Bool) (s : State) :
    outside fp (copyLeft id p v st good s) = outside fp s := by
  unfold copyLeft; (repeat' split) <;> simp [hports, hswitch, hsketch, htick]
@[simp] theorem outside_freeCell (hports : fp.ports) (hswitch : fp.switch) (id : Nat) (s : State) :
    outside fp (freeCell id s) = outside fp s := by unfold freeCell; (repeat' split) <;> simp [hports, hswitch]
@[simp] theorem outside_useCredit (hports : fp.ports) (p v : Nat) (s : State) :
    outside fp (useCredit p v s) = outside fp s := by simp [useCredit, hports]
@[simp] theorem outside_headerGone (hports : fp.ports) (hswitch : fp.switch) (id : Nat) (s : State) :
    outside fp (headerGone id s) = outside fp s := by unfold headerGone; (repeat' split) <;> simp [hports, hswitch]
@[simp] theorem outside_readNext (hports : fp.ports) (hswitch : fp.switch) (hhealth : fp.health)
    (reads : List (Nat × CellRead)) (id : Nat) (c : Copy) (s : State) :
    outside fp (readNext reads id c s) = outside fp s := by
  unfold readNext; dsimp only; split <;> simp [hports, hswitch, hhealth]
@[simp] theorem outside_readAhead (hports : fp.ports) (hswitch : fp.switch) (hhealth : fp.health)
    (reads : List (Nat × CellRead)) (p v : Nat) (s : State) :
    outside fp (readAhead reads p v s) = outside fp s := by
  unfold readAhead; (repeat' split) <;> simp [hports, hswitch, hhealth]
@[simp] theorem outside_takeFlit (hports : fp.ports) (hswitch : fp.switch) (hsketch : fp.sketch) (htick : fp.tick)
    (hhealth : fp.health) (reads : List (Nat × CellRead)) (p v : Nat) (s : State) :
    outside fp (takeFlit reads p v s).1 = outside fp s := by
  unfold takeFlit; dsimp only; (repeat' split) <;> simp [hports, hswitch, hsketch, htick, hhealth]
@[simp] theorem outside_entryStored (hhealth : fp.health) (p : Nat) (st : Stream) (n : W16) (s : State) :
    outside fp (entryStored p st n s) = outside fp s := by simp [entryStored, hhealth]
@[simp] theorem outside_newControl (hports : fp.ports) (hhealth : fp.health) (p : Nat) (c : CFlit) (s : State) :
    outside fp (newControl p c s).1 = outside fp s := by simp [newControl, hports, hhealth]
@[simp] theorem outside_takeControl (hports : fp.ports) (hswitch : fp.switch) (hsketch : fp.sketch)
    (htick : fp.tick) (hhealth : fp.health) (reads : List (Nat × CellRead)) (p : Nat) (s : State) :
    outside fp (takeControl reads p s).1 = outside fp s := by
  unfold takeControl; dsimp only; (repeat' split) <;> simp [hports, hswitch, hsketch, htick, hhealth]
@[simp] theorem outside_takeControls (hports : fp.ports) (hswitch : fp.switch) (hsketch : fp.sketch)
    (htick : fp.tick) (hhealth : fp.health) (reads : List (Nat × CellRead)) (p n : Nat) (s : State) :
    outside fp (takeControls reads p n s).1 = outside fp s := by
  induction n generalizing s with
  | zero => rfl
  | succ n ih =>
    have h := outside_takeControl hports hswitch hsketch htick hhealth reads p s
    unfold takeControls
    split <;> rename_i e <;> simp_all
@[simp] theorem outside_fillFlit (hports : fp.ports) (hswitch : fp.switch) (hsketch : fp.sketch) (htick : fp.tick)
    (hhealth : fp.health) (reads : List (Nat × CellRead)) (p : Nat) (s : State) :
    outside fp (fillFlit reads p s).1 = outside fp s := by
  unfold fillFlit; dsimp only; (repeat' split) <;> simp [hports, hswitch, hsketch, htick, hhealth]
@[simp] theorem outside_fillFlits (hports : fp.ports) (hswitch : fp.switch) (hsketch : fp.sketch) (htick : fp.tick)
    (hhealth : fp.health) (reads : List (Nat × CellRead)) (p n : Nat) (s : State) :
    outside fp (fillFlits reads p n s).1 = outside fp s := by
  induction n generalizing s with
  | zero => rfl
  | succ n ih => simp [hports, hswitch, hsketch, htick, hhealth, fillFlits, ih]
@[simp] theorem outside_sendMarkers (hports : fp.ports) (p : Nat) (s : State) :
    outside fp (sendMarkers p s) = outside fp s := by
  simp only [sendMarkers]
  split
  · rfl
  · rw [outside_updLink hports, outside_forEach _ _ _ (by intros; rfl)]
@[simp] theorem outside_returnItem (hports : fp.ports) (p : Nat) (s : State) :
    outside fp (returnItem p s).1 = outside fp s := by
  unfold returnItem; dsimp only; (repeat' split) <;> simp [hports]
@[simp] theorem outside_slotSent (hports : fp.ports) (p : Nat) (scr : BitVec 31) (symbols : List Sym) (s : State) :
    outside fp (slotSent p scr symbols s) = outside fp s := by simp [slotSent, hports]
@[simp] theorem outside_sendDBlock (hports : fp.ports) (p : Nat) (bseq : W16) (replay : Bool) (flits : List Flit)
    (s : State) :
    outside fp (sendDBlock p bseq replay flits s) = outside fp s := by simp [sendDBlock, hports]
@[simp] theorem outside_sendD (hports : fp.ports) (hswitch : fp.switch) (hsketch : fp.sketch) (htick : fp.tick)
    (hhealth : fp.health) (reads : List (Nat × CellRead)) (p : Nat) (s : State) :
    outside fp (sendD reads p s) = outside fp s := by
  unfold sendD; dsimp only; (repeat' split) <;> simp [hports, hswitch, hsketch, htick, hhealth]
@[simp] theorem outside_sendC (hports : fp.ports) (hswitch : fp.switch) (hsketch : fp.sketch) (htick : fp.tick)
    (hhealth : fp.health) (reads : List (Nat × CellRead)) (p : Nat) (s : State) :
    outside fp (sendC reads p s) = outside fp s := by
  unfold sendC; dsimp only; (repeat' split) <;> simp [hports, hswitch, hsketch, htick, hhealth]
@[simp] theorem outside_noteReplayed (hports : fp.ports) (p : Nat) (s : State) :
    outside fp (noteReplayed p s) = outside fp s := by simp [noteReplayed, hports]
@[simp] theorem outside_slotBoundary (hports : fp.ports) (hswitch : fp.switch) (hsketch : fp.sketch)
    (htick : fp.tick) (hhost : fp.host) (hhealth : fp.health) (p : Nat) (reads : List (Nat × CellRead))
    (replay : WordError) (s : State) :
    outside fp (slotBoundary p reads replay s) = outside fp s := by
  simp [slotBoundary, hports, hswitch, hsketch, htick, hhost, hhealth]
@[simp] theorem outside_takeAckB (hports : fp.ports) (p : Nat) (v : W16) (s : State) :
    outside fp (takeAckB p v s) = outside fp s := by simp [takeAckB, hports]
@[simp] theorem outside_takeAckC (hports : fp.ports) (p : Nat) (v : W16) (s : State) :
    outside fp (takeAckC p v s) = outside fp s := by simp [takeAckC, hports]
@[simp] theorem outside_takeNakB (hports : fp.ports) (p : Nat) (v : W16) (s : State) :
    outside fp (takeNakB p v s) = outside fp s := by simp [takeNakB, hports]
@[simp] theorem outside_takeNakC (hports : fp.ports) (p : Nat) (v : W16) (s : State) :
    outside fp (takeNakC p v s) = outside fp s := by simp [takeNakC, hports]
@[simp] theorem outside_takeCredit (hports : fp.ports) (p v : Nat) (c : W16) (s : State) :
    outside fp (takeCredit p v c s) = outside fp s := by simp [takeCredit, hports]
@[simp] theorem outside_takeCarriage (hports : fp.ports) (p : Nat) (pcReq pcOn : Bool) (s : State) :
    outside fp (takeCarriage p pcReq pcOn s) = outside fp s := by simp [takeCarriage, hports]
@[simp] theorem outside_requestB (hports : fp.ports) (p : Nat) (s : State) :
    outside fp (requestB p s) = outside fp s := by simp [requestB, hports]
@[simp] theorem outside_requestC (hports : fp.ports) (p : Nat) (s : State) :
    outside fp (requestC p s) = outside fp s := by simp [requestC, hports]
@[simp] theorem outside_noteErrored (hports : fp.ports) (hhealth : fp.health) (p : Nat) (s : State) :
    outside fp (noteErrored p s) = outside fp s := by simp [noteErrored, hports, hhealth]
@[simp] theorem outside_releaseLost (hports : fp.ports) (p v : Nat) (s : State) :
    outside fp (releaseLost p v s) = outside fp s := by simp [releaseLost, hports]
@[simp] theorem outside_storeHead (hports : fp.ports) (hswitch : fp.switch) (p v : Nat) (b : Bytes)
    (eop void : Bool) (s : State) :
    outside fp (storeHead p v b eop void s) = outside fp s := by simp [storeHead, hports, hswitch]
@[simp] theorem outside_checkTrailer (hswitch : fp.switch) (id : Nat) (s : State) :
    outside fp (checkTrailer id s) = outside fp s := by unfold checkTrailer; (repeat' split) <;> simp [hswitch]
@[simp] theorem outside_storeCell (hports : fp.ports) (hswitch : fp.switch) (p v id : Nat) (b : Bytes)
    (eop void : Bool) (s : State) :
    outside fp (storeCell p v id b eop void s) = outside fp s := by simp [storeCell, hports, hswitch]
@[simp] theorem outside_packetFlit (hports : fp.ports) (hswitch : fp.switch) (p : Nat) (f : Flit) (s : State) :
    outside fp (packetFlit p f s) = outside fp s := by
  unfold packetFlit; dsimp only; (repeat' split) <;> simp [hports, hswitch]
@[simp] theorem outside_packetControl (hports : fp.ports) (hswitch : fp.switch) (p : Nat) (c : CFlit) (s : State) :
    outside fp (packetControl p c s) = outside fp s := by simp [packetControl, hports, hswitch]
@[simp] theorem outside_takeCredits (hports : fp.ports) (p : Nat) (b : Bytes) (s : State) :
    outside fp (takeCredits p b s) = outside fp s := by simp [takeCredits, hports]
@[simp] theorem outside_takeRefresh (hports : fp.ports) (hswitch : fp.switch) (hhost : fp.host) (p : Nat)
    (b : Bytes) (s : State) :
    outside fp (takeRefresh p b s) = outside fp s := by simp [takeRefresh, hports, hswitch, hhost]
@[simp] theorem outside_reservedControl (hports : fp.ports) (p : Nat) (s : State) :
    outside fp (reservedControl p s) = outside fp s := by simp [reservedControl, hports]
@[simp] theorem outside_actControl (hports : fp.ports) (hswitch : fp.switch) (hsketch : fp.sketch) (htick : fp.tick)
    (hhost : fp.host) (p : Nat) (inBlock : Bool) (arrival : Nat) (c : CFlit) (s : State) :
    outside fp (actControl p inBlock arrival c s) = outside fp s := by
  simp [actControl, hports, hswitch, hsketch, htick, hhost]
@[simp] theorem outside_controlFlit (hports : fp.ports) (hswitch : fp.switch) (hsketch : fp.sketch)
    (htick : fp.tick) (hhost : fp.host) (p : Nat) (inBlock : Bool) (arrival : Nat) (b : Bytes) (s : State) :
    outside fp (controlFlit p inBlock arrival b s).1 = outside fp s := by
  unfold controlFlit; dsimp only; (repeat' split) <;> simp [hports, hswitch, hsketch, htick, hhost]
@[simp] theorem outside_controlFlits (hports : fp.ports) (hswitch : fp.switch) (hsketch : fp.sketch)
    (htick : fp.tick) (hhost : fp.host) (p : Nat) (b : Bool) (n : Nat) (l : List Bytes) (s : State) :
    outside fp (controlFlits p b n l s).1 = outside fp s := by
  induction l generalizing s with
  | nil => rfl
  | cons c l ih => simp [hports, hswitch, hsketch, htick, hhost, controlFlits, ih]
@[simp] theorem outside_countCorrected (hports : fp.ports) (p start : Nat) (positions : List Nat) (s : State) :
    outside fp (countCorrected p start positions s) = outside fp s := by simp [countCorrected, hports]
@[simp] theorem outside_takeReturn (hports : fp.ports) (p : Nat) (kind : BitVec 4) (v : W16) (s : State) :
    outside fp (takeReturn p kind v s) = outside fp s := by simp [takeReturn, hports]
@[simp] theorem outside_acceptFlits (hports : fp.ports) (hswitch : fp.switch) (hsketch : fp.sketch)
    (htick : fp.tick) (hhost : fp.host) (p n : Nat) (l : List Flit) (s : State) :
    outside fp (acceptFlits p n l s).1 = outside fp s := by
  induction l generalizing s with
  | nil => rfl
  | cons f l ih => simp only [acceptFlits, ih]; (repeat' split) <;> simp [hports, hswitch, hsketch, htick, hhost]
@[simp] theorem outside_noteBusy (hports : fp.ports) (p : Nat) (s : State) :
    outside fp (noteBusy p s) = outside fp s := by simp [noteBusy, hports]
@[simp] theorem outside_discardBlock (hports : fp.ports) (hhealth : fp.health) (p : Nat) (s : State) :
    outside fp (discardBlock p s) = outside fp s := by simp [discardBlock, hports, hhealth]
@[simp] theorem outside_observeIdle (hhealth : fp.health) (p start : Nat) (raw : List Sym) (b : Bytes) (s : State) :
    outside fp (observeIdle p start raw b s) = outside fp s := by unfold observeIdle; (repeat' split) <;> simp [hhealth]
@[simp] theorem outside_receiveD (hports : fp.ports) (hswitch : fp.switch) (hsketch : fp.sketch) (htick : fp.tick)
    (hhost : fp.host) (hhealth : fp.health) (p arrival : Nat) (b : Bytes) (s : State) :
    outside fp (receiveD p arrival b s) = outside fp s := by
  unfold receiveD; (repeat' split) <;> simp [hports, hswitch, hsketch, htick, hhost, hhealth]
@[simp] theorem outside_takeCHeader (hports : fp.ports) (p : Nat) (h : CHeader) (s : State) :
    outside fp (takeCHeader p h s) = outside fp s := by simp [takeCHeader, hports]
@[simp] theorem outside_receiveC (hports : fp.ports) (hswitch : fp.switch) (hsketch : fp.sketch) (htick : fp.tick)
    (hhost : fp.host) (hhealth : fp.health) (p arrival : Nat) (b : Bytes) (s : State) :
    outside fp (receiveC p arrival b s) = outside fp s := by
  unfold receiveC; (repeat' split) <;> simp [hports, hswitch, hsketch, htick, hhost, hhealth]
@[simp] theorem outside_slotReceived (hports : fp.ports) (hswitch : fp.switch) (hsketch : fp.sketch)
    (htick : fp.tick) (hhost : fp.host) (hhealth : fp.health) (p : Nat) (l : List Sym) (arrival : Nat) (s : State) :
    outside fp (slotReceived p l arrival s) = outside fp s := by
  unfold slotReceived; dsimp only; (repeat' split) <;> simp [hports, hswitch, hsketch, htick, hhost, hhealth]
@[simp] theorem outside_markerArrives (hports : fp.ports) (hswitch : fp.switch) (hhost : fp.host) (p l : Nat)
    (symbols : List Sym) (offset : Int) (s : State) :
    outside fp (markerArrives p l symbols offset s) = outside fp s := by simp [markerArrives, hports, hswitch, hhost]
@[simp] theorem outside_thirdTimeout (hports : fp.ports) (hswitch : fp.switch) (hhost : fp.host) (p n : Nat)
    (s : State) :
    outside fp (thirdTimeout p n s) = outside fp s := by simp [thirdTimeout, hports, hswitch, hhost]
@[simp] theorem outside_ackTimesOut (hports : fp.ports) (hswitch : fp.switch) (hhost : fp.host) (p : Nat)
    (st : Stream) (s : State) :
    outside fp (ackTimesOut p st s) = outside fp s := by
  unfold ackTimesOut; (repeat' split) <;> simp [hports, hswitch, hhost]
@[simp] theorem outside_repeatRequest (hports : fp.ports) (p : Nat) (st : Stream) (s : State) :
    outside fp (repeatRequest p st s) = outside fp s := by unfold repeatRequest; (repeat' split) <;> simp [hports]

/-! ### Switch -/

@[simp] theorem outside_routePacket (hports : fp.ports) (hswitch : fp.switch) (id r : Nat) (s : State) :
    outside fp (routePacket id r s) = outside fp s := by unfold routePacket; (repeat' split) <;> simp [hports, hswitch]
@[simp] theorem outside_takeLookup (hports : fp.ports) (hswitch : fp.switch) (hhealth : fp.health) (p id : Nat)
    (cell copy : WordError) (s : State) :
    outside fp (takeLookup p id cell copy s) = outside fp s := by
  unfold takeLookup; dsimp only; (repeat' split) <;> simp [hports, hswitch, hhealth]
@[simp] theorem outside_lookup (hports : fp.ports) (hswitch : fp.switch) (hhealth : fp.health) (p : Nat)
    (cell copy : WordError) (s : State) :
    outside fp (lookup p cell copy s) = outside fp s := by
  unfold lookup; (repeat' split) <;> simp [hports, hswitch, hhealth]
@[simp] theorem outside_lookupInTurn (hports : fp.ports) (hswitch : fp.switch) (hhealth : fp.health) (p : Nat)
    (cell copy : WordError) (s : State) :
    outside fp (lookupInTurn p cell copy s) = outside fp s := by simp [lookupInTurn, hports, hswitch, hhealth]
@[simp] theorem outside_doCreditRelease (hports : fp.ports) (hswitch : fp.switch) (id : Nat) (s : State) :
    outside fp (doCreditRelease id s) = outside fp s := by
  unfold doCreditRelease; (repeat' split) <;> simp [hports, hswitch]
@[simp] theorem outside_escapeMove (hports : fp.ports) (hswitch : fp.switch) (id p v ctr : Nat) (s : State) :
    outside fp (escapeMove id p v ctr s) = outside fp s := by
  unfold escapeMove; (repeat' split) <;> simp [hports, hswitch]
@[simp] theorem outside_escapeExpire (hports : fp.ports) (hswitch : fp.switch) (id : Nat) (s : State) :
    outside fp (escapeExpire id s) = outside fp s := by unfold escapeExpire; (repeat' split) <;> simp [hports, hswitch]
@[simp] theorem outside_sampleDepths (hports : fp.ports) (s : State) : outside fp (sampleDepths s) = outside fp s :=
  outside_ports hports ..
@[simp] theorem outside_moveWeight (hports : fp.ports) (p : Nat) (d : Int) (s : State) :
    outside fp (moveWeight p d s) = outside fp s := by simp [moveWeight, hports]
@[simp] theorem outside_updateRole (hports : fp.ports) (role : Nat) (s : State) :
    outside fp (updateRole role s) = outside fp s := by simp [updateRole, hports]
@[simp] theorem outside_updateWeights (hports : fp.ports) (s : State) :
    outside fp (updateWeights s) = outside fp s := by
  rw [updateWeights, outside_ports hports, outside_updateRole hports, outside_updateRole hports]
@[simp] theorem outside_holdTimesOut (hswitch : fp.switch) (f : Flow) (s : State) :
    outside fp (holdTimesOut f s) = outside fp s := by unfold holdTimesOut; (repeat' split) <;> simp [hswitch]
@[simp] theorem outside_owedEnds (hswitch : fp.switch) (f : Flow) (s : State) :
    outside fp (owedEnds f s) = outside fp s := by unfold owedEnds; (repeat' split) <;> simp [hswitch]
@[simp] theorem outside_holdIdles (hswitch : fp.switch) (f : Flow) (s : State) :
    outside fp (holdIdles f s) = outside fp s := by unfold holdIdles; (repeat' split) <;> simp [hswitch]
@[simp] theorem outside_stallVoids (hports : fp.ports) (hswitch : fp.switch) (p v : Nat) (s : State) :
    outside fp (stallVoids p v s) = outside fp s := by unfold stallVoids; (repeat' split) <;> simp [hports, hswitch]
@[simp] theorem outside_addStored (hswitch : fp.switch) (st : Stored) (s : State) :
    outside fp (addStored st s) = outside fp s := by simp [addStored, hswitch]
@[simp] theorem outside_createMulticast (hswitch : fp.switch) (o : Originate) (s : State) :
    outside fp (createMulticast o s) = outside fp s := by simp [createMulticast, hswitch]
@[simp] theorem outside_createPacket (hports : fp.ports) (hswitch : fp.switch) (o : Originate) (s : State) :
    outside fp (createPacket o s) = outside fp s := by unfold createPacket; (repeat' split) <;> simp [hports, hswitch]

/-! ### CanvasCore -/

@[simp] theorem outside_updSlot (hcanvas : fp.canvas) (k : SlotKey) (f : Slot → Slot) (s : State) :
    outside fp (updSlot k f s) = outside fp s := by simp [updSlot, hcanvas]
@[simp] theorem outside_canvasDiscard (hcanvas : fp.canvas) (s : State) :
    outside fp (canvasDiscard s) = outside fp s := by simp [canvasDiscard, hcanvas]
@[simp] theorem outside_blockFreed (hcanvas : fp.canvas) (s : State) : outside fp (blockFreed s) = outside fp s := by
  exact outside_updCanvas hcanvas ..
@[simp] theorem outside_freePiece (hcanvas : fp.canvas) (b : Nat) (s : State) :
    outside fp (freePiece b s) = outside fp s := by unfold freePiece; (repeat' split) <;> simp [hcanvas]
@[simp] theorem outside_freePlace (hports : fp.ports) (hswitch : fp.switch) (hcanvas : fp.canvas) (x : Part)
    (s : State) :
    outside fp (freePlace x s) = outside fp s := by
  unfold freePlace; (repeat' split) <;> simp [hports, hswitch, hcanvas]
@[simp] theorem outside_freeParked (hports : fp.ports) (hswitch : fp.switch) (hcanvas : fp.canvas) (k : SlotKey)
    (s : State) :
    outside fp (freeParked k s) = outside fp s := by
  unfold freeParked; (repeat' split) <;> simp [hports, hswitch, hcanvas]
@[simp] theorem outside_slotFree (hports : fp.ports) (hswitch : fp.switch) (hcanvas : fp.canvas) (k : SlotKey)
    (s : State) :
    outside fp (slotFree k s) = outside fp s := by unfold slotFree; (repeat' split) <;> simp [hports, hswitch, hcanvas]
@[simp] theorem outside_slotWritten (hports : fp.ports) (hswitch : fp.switch) (hcanvas : fp.canvas) (k : SlotKey)
    (s : State) :
    outside fp (slotWritten k s) = outside fp s := by
  unfold slotWritten; (repeat' split) <;> simp [hports, hswitch, hcanvas]
@[simp] theorem outside_paletteFlags (hcanvas : fp.canvas) (f : AFlags) (s : State) :
    outside fp (paletteFlags f s) = outside fp s := by simp [paletteFlags, hcanvas]
@[simp] theorem outside_sendMembers (hswitch : fp.switch) (h : Header) (payload : Bytes) (slot : Option SlotKey)
    (l : List W64) (s : State) :
    outside fp (sendMembers h payload slot l s) = outside fp s := by simp [sendMembers, hswitch]
@[simp] theorem outside_sendParent (hswitch : fp.switch) (h : Header) (payload : Bytes) (m : W64) (s : State) :
    outside fp (sendParent h payload m s) = outside fp s := by simp [sendParent, hswitch]
@[simp] theorem outside_sendDown (hswitch : fp.switch) (s0 : State) (g : Group) (k : SlotKey) (first n : Nat)
    (w : W32) (payload : Bytes) (l : List W64) (s : State) :
    outside fp (sendDown s0 g k first n w payload l s) = outside fp s := by simp [sendDown, hswitch]
@[simp] theorem outside_countEnd (hcanvas : fp.canvas) (k : SlotKey) (st : W16) (s : State) :
    outside fp (countEnd k st s) = outside fp s := by unfold countEnd; (repeat' split) <;> simp [hcanvas]
@[simp] theorem outside_endSlot (hports : fp.ports) (hswitch : fp.switch) (hcanvas : fp.canvas) (k : SlotKey)
    (expired : Bool) (s : State) :
    outside fp (endSlot k expired s) = outside fp s := by
  unfold endSlot; dsimp only; (repeat' split) <;> simp [hports, hswitch, hcanvas]
@[simp] theorem outside_failSlot (hports : fp.ports) (hswitch : fp.switch) (hcanvas : fp.canvas) (k : SlotKey)
    (f : Slot → Slot) (s : State) :
    outside fp (failSlot k f s) = outside fp s := by simp [failSlot, hports, hswitch, hcanvas]
@[simp] theorem outside_endIfAllArrived (hports : fp.ports) (hswitch : fp.switch) (hcanvas : fp.canvas)
    (k : SlotKey) (s : State) :
    outside fp (endIfAllArrived k s) = outside fp s := by
  unfold endIfAllArrived; (repeat' split) <;> simp [hports, hswitch, hcanvas]
@[simp] theorem outside_sendResults (hswitch : fp.switch) (g : Group) (d : Desc) (k : SlotKey) (out : List Nat)
    (f : AFlags) (s : State) :
    outside fp (sendResults g d k out f s) = outside fp s := by simp [sendResults, hswitch]
@[simp] theorem outside_sendPartial (hswitch : fp.switch) (g : Group) (d : Desc) (k : SlotKey) (x : Slot) (m : W64)
    (s : State) :
    outside fp (sendPartial g d k x m s) = outside fp s := by simp [sendPartial, hswitch]
@[simp] theorem outside_completeSlot (hports : fp.ports) (hswitch : fp.switch) (hcanvas : fp.canvas) (k : SlotKey)
    (s : State) :
    outside fp (completeSlot k s) = outside fp s := by
  unfold completeSlot; dsimp only; (repeat' split) <;> simp [hports, hswitch, hcanvas]
@[simp] theorem outside_foldPart (hcanvas : fp.canvas) (d : Desc) (k : SlotKey) (p : Part) (s : State) :
    outside fp (foldPart d k p s) = outside fp s := by unfold foldPart; (repeat' split) <;> simp [hcanvas]
@[simp] theorem outside_foldParked (hports : fp.ports) (hswitch : fp.switch) (hcanvas : fp.canvas)
    (hhealth : fp.health) (d : Desc) (k : SlotKey) (n : Nat) (word : WordError) (s : State) :
    outside fp (foldParked d k n word s) = outside fp s := by
  induction n generalizing s word with
  | zero => rfl
  | succ n ih => unfold foldParked; dsimp only; (repeat' split) <;> simp [hports, hswitch, hcanvas, hhealth, ih]
@[simp] theorem outside_deferPacket (hswitch : fp.switch) (hcanvas : fp.canvas) (id why ctr : Nat) (s : State) :
    outside fp (deferPacket id why ctr s) = outside fp s := by
  unfold deferPacket; (repeat' split) <;> simp [hswitch, hcanvas]
theorem outside_takePiece (hcanvas : fp.canvas) {sched : Bool} {s t : State} {b : Nat}
    (h : takePiece sched s = some (b, t)) : outside fp t = outside fp s := by
  unfold takePiece at h
  split at h
  · cases h
    exact outside_updCanvas hcanvas ..
  · split at h
    · cases h
    · cases h
      exact outside_updCanvas hcanvas ..
@[simp] theorem outside_parkPart (hports : fp.ports) (hswitch : fp.switch) (hcanvas : fp.canvas) (g : Group)
    (k : SlotKey) (id : Nat) (p : Part) (s : State) :
    outside fp (parkPart g k id p s) = outside fp s := by
  simp only [parkPart]
  split
  · rename_i h; simp [hports, hswitch, hcanvas, outside_takePiece hcanvas h]
  · split
    · rename_i h
      split at h
      · simp [hports, hswitch, hcanvas, outside_takePiece hcanvas h]
      · cases h
    · split
      · rfl
      · split <;> simp [hswitch, hcanvas]
@[simp] theorem outside_noteCanvas (hhealth : fp.health) (ecc : CanvasEcc) (s : State) :
    outside fp (noteCanvas ecc s) = outside fp s := by unfold noteCanvas; (repeat' split) <;> simp [hhealth]
@[simp] theorem outside_partOpen (hports : fp.ports) (hswitch : fp.switch) (hcanvas : fp.canvas)
    (hhealth : fp.health) (g : Group) (k : SlotKey) (id pos : Nat) (child : Bool) (ecc : CanvasEcc) (st : Stored)
    (s : State) :
    outside fp (partOpen g k id pos child ecc st s) = outside fp s := by
  unfold partOpen; dsimp only; (repeat' split) <;> simp [hports, hswitch, hcanvas, hhealth]
@[simp] theorem outside_partFailed (hports : fp.ports) (hswitch : fp.switch) (hcanvas : fp.canvas) (k : SlotKey)
    (id pos : Nat) (st : Stored) (s0 : State) :
    outside fp (partFailed k id pos st s0) = outside fp s0 := by simp [partFailed, hports, hswitch, hcanvas]
@[simp] theorem outside_partInSlot (hports : fp.ports) (hswitch : fp.switch) (hcanvas : fp.canvas)
    (hhealth : fp.health) (g : Group) (k : SlotKey) (id pos : Nat) (child : Bool) (ecc : CanvasEcc) (st : Stored)
    (s : State) :
    outside fp (partInSlot g k id pos child ecc st s) = outside fp s := by
  unfold partInSlot
  (repeat' split) <;> simp [hports, hswitch, hcanvas, hhealth]
@[simp] theorem outside_statusInSlot (hports : fp.ports) (hswitch : fp.switch) (hcanvas : fp.canvas) (k : SlotKey)
    (pos : Nat) (status : W16) (s : State) :
    outside fp (statusInSlot k pos status s) = outside fp s := by
  unfold statusInSlot; (repeat' split) <;> simp [hports, hswitch, hcanvas]
@[simp] theorem outside_countOpening (hsketch : fp.sketch) (htick : fp.tick) (g : Nat) (s : State) :
    outside fp (countOpening g s).1 = outside fp s := by
  unfold countOpening; dsimp only; (repeat' split) <;> simp [hsketch, htick]
@[simp] theorem outside_openSlot (hcanvas : fp.canvas) (hsketch : fp.sketch) (htick : fp.tick) (g : Group)
    (k : SlotKey) (pool : Bool) (digest : Option W32) (s : State) :
    outside fp (openSlot g k pool digest s) = outside fp s := by
  unfold openSlot; (repeat' split) <;> simp [hcanvas, hsketch, htick]
@[simp] theorem outside_answerBusy (hswitch : fp.switch) (st : Stored) (expiry : Nat) (s : State) :
    outside fp (answerBusy st expiry s) = outside fp s := by simp [answerBusy, hswitch]
@[simp] theorem outside_refuseOpening (hports : fp.ports) (hswitch : fp.switch) (hcanvas : fp.canvas) (g : Group)
    (k : SlotKey) (id : Nat) (st : Stored) (s : State) :
    outside fp (refuseOpening g k id st s) = outside fp s := by simp [refuseOpening, hports, hswitch, hcanvas]
@[simp] theorem outside_openByPart (hports : fp.ports) (hswitch : fp.switch) (hcanvas : fp.canvas)
    (hsketch : fp.sketch) (htick : fp.tick) (hhealth : fp.health) (g : Group) (k : SlotKey) (id pos : Nat)
    (child : Bool) (ecc : CanvasEcc) (st : Stored) (s : State) :
    outside fp (openByPart g k id pos child ecc st s) = outside fp s := by
  unfold openByPart; dsimp only; (repeat' split) <;> simp [hports, hswitch, hcanvas, hsketch, htick, hhealth]
@[simp] theorem outside_openByStatus (hports : fp.ports) (hswitch : fp.switch) (hcanvas : fp.canvas)
    (hsketch : fp.sketch) (htick : fp.tick) (g : Group) (k : SlotKey) (id pos : Nat) (status : W16) (s : State) :
    outside fp (openByStatus g k id pos status s) = outside fp s := by
  unfold openByStatus; dsimp only; (repeat' split) <;> simp [hports, hswitch, hcanvas, hsketch, htick]
@[simp] theorem outside_gather (hports : fp.ports) (hswitch : fp.switch) (g : Group) (id : Nat) (st : Stored)
    (s : State) :
    outside fp (gather g id st s) = outside fp s := by unfold gather; (repeat' split) <;> simp [hports, hswitch]
@[simp] theorem outside_relay (hports : fp.ports) (hswitch : fp.switch) (hcanvas : fp.canvas) (g : Group)
    (k : SlotKey) (id : Nat) (st : Stored) (s : State) :
    outside fp (relay g k id st s) = outside fp s := by
  unfold relay; dsimp only; (repeat' split) <;> simp [hports, hswitch, hcanvas]
@[simp] theorem outside_discardPart (hports : fp.ports) (hswitch : fp.switch) (hcanvas : fp.canvas) (id ctr : Nat)
    (s : State) :
    outside fp (discardPart id ctr s) = outside fp s := by simp [discardPart, hports, hswitch, hcanvas]
@[simp] theorem outside_judgeLater (hports : fp.ports) (hswitch : fp.switch) (hcanvas : fp.canvas)
    (hsketch : fp.sketch) (htick : fp.tick) (hhealth : fp.health) (g : Group) (k : SlotKey) (id pos : Nat)
    (child : Bool) (ecc : CanvasEcc) (st : Stored) (s : State) :
    outside fp (judgeLater g k id pos child ecc st s) = outside fp s := by
  unfold judgeLater; (repeat' split) <;> simp [hports, hswitch, hcanvas, hsketch, htick, hhealth]
@[simp] theorem outside_judgeContribution (hports : fp.ports) (hswitch : fp.switch) (hcanvas : fp.canvas)
    (hsketch : fp.sketch) (htick : fp.tick) (hhealth : fp.health) (id : Nat) (ecc : CanvasEcc) (st : Stored)
    (s : State) :
    outside fp (judgeContribution id ecc st s) = outside fp s := by
  unfold judgeContribution; dsimp only; (repeat' split) <;> simp [hports, hswitch, hcanvas, hsketch, htick, hhealth]
@[simp] theorem outside_judgeResult (hports : fp.ports) (hswitch : fp.switch) (hcanvas : fp.canvas)
    (hsketch : fp.sketch) (htick : fp.tick) (id : Nat) (st : Stored) (s : State) :
    outside fp (judgeResult id st s) = outside fp s := by
  unfold judgeResult; dsimp only; (repeat' split) <;> simp [hports, hswitch, hcanvas, hsketch, htick]
@[simp] theorem outside_canvasPacket (hports : fp.ports) (hswitch : fp.switch) (hcanvas : fp.canvas)
    (hsketch : fp.sketch) (htick : fp.tick) (hhealth : fp.health) (id : Nat) (ecc : CanvasEcc) (st : Stored)
    (s : State) :
    outside fp (canvasPacket id ecc st s) = outside fp s := by
  simp [canvasPacket, hports, hswitch, hcanvas, hsketch, htick, hhealth]
@[simp] theorem outside_judgeAgain (hports : fp.ports) (hswitch : fp.switch) (hcanvas : fp.canvas)
    (hsketch : fp.sketch) (htick : fp.tick) (hhealth : fp.health) (id why : Nat) (ecc : CanvasEcc) (s : State) :
    outside fp (judgeAgain id why ecc s) = outside fp s := by
  unfold judgeAgain; (repeat' split) <;> simp [hports, hswitch, hcanvas, hsketch, htick, hhealth]
@[simp] theorem outside_endGroup (hports : fp.ports) (hswitch : fp.switch) (hcanvas : fp.canvas) (n : Nat)
    (g : Group) (s : State) :
    outside fp (endGroup n g s) = outside fp s := by simp [endGroup, hports, hswitch, hcanvas]

/-! ### Canvas -/

@[simp] theorem outside_canvasWindow (hports : fp.ports) (hswitch : fp.switch) (hcanvas : fp.canvas)
    (hsketch : fp.sketch) (htick : fp.tick) (hhealth : fp.health) (id : Nat) (o : BitVec 8) (ecc : CanvasEcc)
    (s : State) :
    outside fp (canvasWindow id o ecc s) = outside fp s := by
  simp [canvasWindow, hports, hswitch, hcanvas, hsketch, htick, hhealth]
@[simp] theorem outside_opTimesOut (hports : fp.ports) (hswitch : fp.switch) (hcanvas : fp.canvas) (k : SlotKey)
    (s : State) :
    outside fp (opTimesOut k s) = outside fp s := by
  unfold opTimesOut; (repeat' split) <;> simp [hports, hswitch, hcanvas]
@[simp] theorem outside_upTimesOut (hports : fp.ports) (hswitch : fp.switch) (hcanvas : fp.canvas) (k : SlotKey)
    (s : State) :
    outside fp (upTimesOut k s) = outside fp s := by
  unfold upTimesOut; (repeat' split) <;> simp [hports, hswitch, hcanvas]

/-! ### RackCore -/

@[simp] theorem outside_sendRack (htray : fp.tray) (typ : Nat) (body : Bytes) (s : State) :
    outside fp (sendRack typ body s) = outside fp s := by unfold sendRack; (repeat' split) <;> simp [htray]
@[simp] theorem outside_sendDevHeartbeat (htray : fp.tray) (s : State) :
    outside fp (sendDevHeartbeat s) = outside fp s := by simp [sendDevHeartbeat, htray]
@[simp] theorem outside_sendTelemetry (htray : fp.tray) (s : State) : outside fp (sendTelemetry s) = outside fp s := by
  simp [sendTelemetry, htray]
@[simp] theorem outside_noteOwner (htray : fp.tray) (old : Nat) (s : State) :
    outside fp (noteOwner old s) = outside fp s := by simp [noteOwner, htray]
@[simp] theorem outside_setOwn (htray : fp.tray) (new : OwnState) (cause : Nat) (s : State) :
    outside fp (setOwn new cause s) = outside fp s := by simp [setOwn, htray]
@[simp] theorem outside_settleMode (htray : fp.tray) (hpower : fp.power) (cause : Nat) (s : State) :
    outside fp (settleMode cause s) = outside fp s := by simp [settleMode, htray, hpower]
@[simp] theorem outside_alertRequest (htray : fp.tray) (hpower : fp.power) (s : State) :
    outside fp (alertRequest s) = outside fp s := by simp [alertRequest, htray, hpower]

/-! ### Cooling -/

@[simp] theorem outside_drivePumps (htray : fp.tray) (s : State) : outside fp (drivePumps s) = outside fp s := by
  simp [drivePumps, htray]
@[simp] theorem outside_applyAlarms (htray : fp.tray) (s : State) : outside fp (applyAlarms s) = outside fp s := by
  simp [applyAlarms, htray]
@[simp] theorem outside_pumpLoop (htray : fp.tray) (outlet : Int) (step : Nat) (s : State) :
    outside fp (pumpLoop outlet step s) = outside fp s := by simp [pumpLoop, htray]
@[simp] theorem outside_fanLoop (htray : fp.tray) (air : Int) (step : Nat) (s : State) :
    outside fp (fanLoop air step s) = outside fp s := by simp [fanLoop, htray]
@[simp] theorem outside_judgeSensors (htray : fp.tray) (l : List TempReading) (s : State) :
    outside fp (judgeSensors l s) = outside fp s := by simp [judgeSensors, htray]
@[simp] theorem outside_coolingUpdate (htray : fp.tray) (outlet inlet : TempReading) (air : List TempReading)
    (s : State) :
    outside fp (coolingUpdate outlet inlet air s) = outside fp s := by
  unfold coolingUpdate
  split
  · rfl
  · have hpump (t : State) : outside fp (withFree (fun x => pumpLoop outlet.value x)
        (updTray (fun u => { u with coolOut := outlet.value }) t)) = outside fp t := by simp [htray]
    cases hottestAir air <;> simp [htray, hpump]
@[simp] theorem outside_alarmSeen (htray : fp.tray) (a : Alarm) (data : Bytes) (s : State) :
    outside fp (alarmSeen a data s) = outside fp s := by simp only [alarmSeen]; split <;> simp [htray]
@[simp] theorem outside_pumpAlarmed (htray : fp.tray) (n : Nat) (tach : PulseTrain) (s : State) :
    outside fp (pumpAlarmed n tach s) = outside fp s := by simp [pumpAlarmed, htray]
@[simp] theorem outside_flowSampled (htray : fp.tray) (a b : Reading) (s : State) :
    outside fp (flowSampled a b s) = outside fp s := by unfold flowSampled; (repeat' split) <;> simp [htray]
@[simp] theorem outside_coolantIsHot (htray : fp.tray) (outlet : Int) (s : State) :
    outside fp (coolantIsHot outlet s) = outside fp s := by simp [coolantIsHot, htray]
@[simp] theorem outside_fanFaulted (htray : fp.tray) (n : Nat) (tach : PulseTrain) (s : State) :
    outside fp (fanFaulted n tach s) = outside fp s := by simp [fanFaulted, htray]
@[simp] theorem outside_alarmEnds (htray : fp.tray) (a : Alarm) (tach : PulseTrain) (s : State) :
    outside fp (alarmEnds a tach s) = outside fp s := by simp only [alarmEnds]; split <;> simp [htray]

/-! ### Jalivo -/

@[simp] theorem outside_command (hswitch : fp.switch) (hhost : fp.host) (src : CmdSrc) (mine lenOk : Bytes → Bool)
    (f : Bytes → State → State) (s : State) (hf : ∀ a0 t, outside fp (f a0 t) = outside fp t) :
    outside fp (command src mine lenOk f s) = outside fp s := by simp only [command]; (repeat' split) <;> simp_all
@[simp] theorem outside_refuseIf (hswitch : fp.switch) (hhost : fp.host) (src : CmdSrc) (checks : List (Bool × W16))
    (f : State → State) (s : State) (hf : ∀ t, outside fp (f t) = outside fp t) :
    outside fp (refuseIf src checks f s) = outside fp s := by simp only [refuseIf]; (repeat' split) <;> simp_all
@[simp] theorem outside_done (hswitch : fp.switch) (hhost : fp.host) (src : CmdSrc) (s : State) :
    outside fp (done src s) = outside fp s := by simp [done, hswitch, hhost]

/-! ### HostIf -/

@[simp] theorem outside_ringError (hp : HostPort) (s : State) : outside fp (ringError hp s) = outside fp s := by
  simp [ringError]
@[simp] theorem outside_haltRing (hhost : fp.host) (hp : HostPort) (r : Nat) (s : State) :
    outside fp (haltRing hp r s) = outside fp s := by simp [haltRing, hhost]
@[simp] theorem outside_checkTail (hhost : fp.host) (hp : HostPort) (r : Nat) (s : State) :
    outside fp (checkTail hp r s) = outside fp s := by simp [checkTail, hhost]
@[simp] theorem outside_doorbell (hhost : fp.host) (hp : HostPort) (r : Nat) (v : W32) (s : State) :
    outside fp (doorbell hp r v s) = outside fp s := by simp [doorbell, hhost]
@[simp] theorem outside_ringControl (hhost : fp.host) (hp : HostPort) (r : Nat) (v : W32) (s : State) :
    outside fp (ringControl hp r v s) = outside fp s := by simp [ringControl, hhost]
@[simp] theorem outside_settleRing (hswitch : fp.switch) (hhost : fp.host) (hp : HostPort) (r : Nat) (s : State) :
    outside fp (settleRing hp r s) = outside fp s := by unfold settleRing; (repeat' split) <;> simp [hswitch, hhost]
@[simp] theorem outside_fetchEntry (hswitch : fp.switch) (hhost : fp.host) (hp : HostPort) (r : Nat) (f : RingFetch)
    (s : State) :
    outside fp (fetchEntry hp r f s) = outside fp s := by
  unfold fetchEntry; dsimp only; (repeat' split) <;> simp [hswitch, hhost]
@[simp] theorem outside_postCompletion (hhost : fp.host) (hp : HostPort) (r : Nat) (error : Bool) (s : State) :
    outside fp (postCompletion hp r error s) = outside fp s := by
  simp only [postCompletion]
  (repeat' split) <;> simp [hhost]
@[simp] theorem outside_eventControl (hhost : fp.host) (hp : HostPort) (v : W32) (s : State) :
    outside fp (eventControl hp v s) = outside fp s := by simp [eventControl, hhost]
@[simp] theorem outside_clearCauses (hhost : fp.host) (hp : HostPort) (v : W32) (raised : BitVec 10) (s : State) :
    outside fp (clearCauses hp v raised s) = outside fp s := by simp [clearCauses, hhost]
@[simp] theorem outside_writeMask (hhost : fp.host) (hp : HostPort) (v : W32) (s : State) :
    outside fp (writeMask hp v s) = outside fp s := by simp [writeMask, hhost]
@[simp] theorem outside_flushPending (hp : HostPort) (s : State) : outside fp (flushPending hp s) = outside fp s := by
  simp [flushPending]
@[simp] theorem outside_badAccess (hp : HostPort) (offset bytes : Nat) (s : State) :
    outside fp (badAccess hp offset bytes s) = outside fp s := by simp [badAccess]
@[simp] theorem outside_writeRingReg (hhost : fp.host) (hp : HostPort) (r o : Nat) (v : W32) (s : State) :
    outside fp (writeRingReg hp r o v s) = outside fp s := by simp [writeRingReg, hhost]
@[simp] theorem outside_writeEventReg (hhost : fp.host) (hp : HostPort) (o : Nat) (v : W32) (s : State) :
    outside fp (writeEventReg hp o v s) = outside fp s := by simp [writeEventReg, hhost]
@[simp] theorem outside_setBusMaster (hhost : fp.host) (hp : HostPort) (s : State) :
    outside fp (setBusMaster hp s) = outside fp s := by simp [setBusMaster, hhost]
@[simp] theorem outside_updPcie (hhost : fp.host) (hp : HostPort) (f : PcieRegs → PcieRegs) (s : State) :
    outside fp (updPcie hp f s) = outside fp s := by simp [updPcie, hhost]
@[simp] theorem outside_writeCommand (hhost : fp.host) (hp : HostPort) (v : W32) (s : State) :
    outside fp (writeCommand hp v s) = outside fp s := by simp [writeCommand, hhost]
@[simp] theorem outside_writeDevCtl (hhost : fp.host) (hp : HostPort) (v : W32) (s : State) :
    outside fp (writeDevCtl hp v s) = outside fp s := by simp [writeDevCtl, hhost]
@[simp] theorem outside_writeAer (hhost : fp.host) (hp : HostPort) (off : Nat) (v : W32) (s : State) :
    outside fp (writeAer hp off v s) = outside fp s := by simp [writeAer, hhost]
@[simp] theorem outside_writeConfig (hhost : fp.host) (hp : HostPort) (off : Nat) (v : W32) (s : State) :
    outside fp (writeConfig hp off v s) = outside fp s := by simp [writeConfig, hhost]

/-! ### PolicyRules -/

@[simp] theorem outside_driveSettings (htray : fp.tray) (lasers rails : List Nat) (s : State) :
    outside fp (driveSettings lasers rails s) = outside fp s := by
  simp only [driveSettings]
  rw [outside_updTray htray, outside_forEach _ _ _ (by intros; rfl), outside_forEach _ _ _ (by intros; rfl)]
@[simp] theorem outside_applyPolicy (hpolicy : fp.policy) (htray : fp.tray) (l : List PolicyEntry) (s : State) :
    outside fp (applyPolicy l s) = outside fp s := by simp [applyPolicy, hpolicy, htray]

/-! ### StreamCore -/

@[simp] theorem outside_updSeg (hstreams : fp.streams) (i : Nat) (f : BitVec 128 → BitVec 128) (s : State) :
    outside fp (updSeg i f s) = outside fp s := by simp [updSeg, hstreams]
@[simp] theorem outside_setReady (hstreams : fp.streams) (i : Nat) (on : Bool) (s : State) :
    outside fp (setReady i on s) = outside fp s := by simp [setReady, hstreams]
@[simp] theorem outside_setCursor (hstreams : fp.streams) (i n : Nat) (s : State) :
    outside fp (setCursor i n s) = outside fp s := by simp [setCursor, hstreams]
@[simp] theorem outside_updTile (hstreams : fp.streams) (i : Nat) (f : Tile → Tile) (s : State) :
    outside fp (updTile i f s) = outside fp s := by simp [updTile, hstreams]
@[simp] theorem outside_dropTile (hstreams : fp.streams) (i : Nat) (s : State) :
    outside fp (dropTile i s) = outside fp s := by simp [dropTile, hstreams]
@[simp] theorem outside_unreadyTile (hstreams : fp.streams) (g : Nat) (s : State) :
    outside fp (unreadyTile g s) = outside fp s := by simp [unreadyTile, hstreams]
@[simp] theorem outside_scheduleTile (hstreams : fp.streams) (n : W32) (plan entry : Nat) (x : W64) (t : Nat)
    (s : State) :
    outside fp (scheduleTile n plan entry x t s) = outside fp s := by
  unfold scheduleTile; dsimp only; (repeat' split) <;> simp [hstreams]
@[simp] theorem outside_applyRewinds (hstreams : fp.streams) (i : Nat) (n : W32) (s : State) :
    outside fp (applyRewinds i n s) = outside fp s := by simp [applyRewinds, hstreams]
@[simp] theorem outside_runItem (hstreams : fp.streams) (n : W32) (plan entry : Nat) (x : W64) (s : State) :
    outside fp (runItem n plan entry x s) = outside fp s := by simp [runItem, hstreams]
@[simp] theorem outside_rewindsDue (hstreams : fp.streams) (n : W32) (s : State) :
    outside fp (rewindsDue n s) = outside fp s := by simp [rewindsDue, hstreams]
@[simp] theorem outside_sweepTiles (hstreams : fp.streams) (s : State) : outside fp (sweepTiles s) = outside fp s := by
  simp [sweepTiles, hstreams]

/-! ### TickRun -/

@[simp] theorem outside_streamOverruns (hstreams : fp.streams) (hsketch : fp.sketch) (htick : fp.tick) (s : State) :
    outside fp (streamOverruns s) = outside fp s := by
  simp only [streamOverruns]
  rw [outside_forEach]
  · simp [hstreams]
  · intro n t; split <;> simp [hsketch, htick]
@[simp] theorem outside_reduceOverruns (hcanvas : fp.canvas) (hsketch : fp.sketch) (htick : fp.tick) (s : State) :
    outside fp (reduceOverruns s) = outside fp s := by
  simp only [reduceOverruns]
  split
  · simp [hcanvas]
  · rw [outside_forEach]
    · simp [hcanvas]
    · intro n t; split <;> simp [hsketch, htick]
@[simp] theorem outside_gateFor (htick : fp.tick) (hpower : fp.power) (m : W32) (s : State) :
    outside fp (gateFor m s) = outside fp s := by unfold gateFor; (repeat' split) <;> simp [htick, hpower]
@[simp] theorem outside_gateTick (htick : fp.tick) (hpower : fp.power) (s : State) :
    outside fp (gateTick s) = outside fp s := by simp [gateTick, htick, hpower]
@[simp] theorem outside_announceTick (hports : fp.ports) (s : State) : outside fp (announceTick s) = outside fp s := by
  simp [announceTick, hports]
@[simp] theorem outside_prefetch (hstreams : fp.streams) (fresh : Bool) (s : State) :
    outside fp (prefetch fresh s) = outside fp s := by
  unfold prefetch
  apply outside_forEach
  intro d t
  split
  · rfl
  · apply outside_forEach; intros; simp [hstreams]
@[simp] theorem outside_advanceTick (hstreams : fp.streams) (hsketch : fp.sketch) (htick : fp.tick) (at_ : Rat)
    (n : W32) (s : State) :
    outside fp (advanceTick at_ n s) = outside fp s := by
  simp only [advanceTick, outside_emit]
  (repeat rw [outside_when]) <;> simp [hstreams, hsketch, htick]
@[simp] theorem outside_beginTick (hports : fp.ports) (hcanvas : fp.canvas) (hstreams : fp.streams)
    (hsketch : fp.sketch) (htick : fp.tick) (hpower : fp.power) (at_ : Rat) (n : W32) (s : State) :
    outside fp (beginTick at_ n s) = outside fp s := by
  simp [beginTick, hports, hcanvas, hstreams, hsketch, htick, hpower]
@[simp] theorem outside_tickBegins (hports : fp.ports) (hcanvas : fp.canvas) (hstreams : fp.streams)
    (hsketch : fp.sketch) (htick : fp.tick) (hpower : fp.power) (at_ : Rat) (n : W32) (s : State) :
    outside fp (tickBegins at_ n s) = outside fp s := by
  simp [tickBegins, hports, hcanvas, hstreams, hsketch, htick, hpower]

/-! ### Sketch -/

@[simp] theorem outside_endChangedGroups (hports : fp.ports) (hswitch : fp.switch) (hcanvas : fp.canvas)
    (p : Proposed) (s : State) :
    outside fp (endChangedGroups p s) = outside fp s := by simp [endChangedGroups, hports, hswitch, hcanvas]
@[simp] theorem outside_installSegments (hstreams : fp.streams) (t : Table (BitVec 128)) (s : State) :
    outside fp (installSegments t s) = outside fp s := by simp [installSegments, hstreams]
@[simp] theorem outside_installStreams (hstreams : fp.streams) (t : StreamTables) (s : State) :
    outside fp (installStreams t s) = outside fp s := by simp [installStreams, hstreams]
@[simp] theorem outside_discardTiles (hstreams : fp.streams) (s : State) :
    outside fp (discardTiles s) = outside fp s := by simp [discardTiles, hstreams]
@[simp] theorem outside_sendRefresh (hports : fp.ports) (p : Nat) (s : State) :
    outside fp (sendRefresh p s) = outside fp s := by simp [sendRefresh, hports]
@[simp] theorem outside_applyRole (hports : fp.ports) (hswitch : fp.switch) (hhost : fp.host) (p : Nat) (s : State) :
    outside fp (applyRole p s) = outside fp s := by simp [applyRole, hports, hswitch, hhost]
@[simp] theorem outside_installIdentity (hports : fp.ports) (hswitch : fp.switch) (hsketch : fp.sketch)
    (hhost : fp.host) (p : Proposed) (s : State) :
    outside fp (installIdentity p s) = outside fp s := by
  have hsend := outside_forEach (fp := fp) (List.range 96) sendRefresh (h := outside_sendRefresh hports)
  simp [installIdentity, hports, hswitch, hsketch, hhost, hsend]
@[simp] theorem outside_cancelSwitch (hsketch : fp.sketch) (s : State) :
    outside fp (cancelSwitch s) = outside fp s := by unfold cancelSwitch; (repeat' split) <;> simp [hsketch]
@[simp] theorem outside_retuneTick (hports : fp.ports) (hcanvas : fp.canvas) (hstreams : fp.streams)
    (hsketch : fp.sketch) (htick : fp.tick) (hpower : fp.power) (old : Option TickSettings) (ts : TickSettings)
    (s : State) :
    outside fp (retuneTick old ts s) = outside fp s := by
  simp [retuneTick, hports, hcanvas, hstreams, hsketch, htick, hpower]
@[simp] theorem outside_installTick (hports : fp.ports) (hcanvas : fp.canvas) (hstreams : fp.streams)
    (hsketch : fp.sketch) (htick : fp.tick) (hpower : fp.power) (p : Proposed) (s : State) :
    outside fp (installTick p s) = outside fp s := by
  unfold installTick; (repeat' split) <;> simp [hports, hcanvas, hstreams, hsketch, htick, hpower]
@[simp] theorem outside_answerCommit (hswitch : fp.switch) (hsketch : fp.sketch) (hhost : fp.host) (src : CmdSrc)
    (status : W16) (result : Bytes) (s : State) :
    outside fp (answerCommit src status result s) = outside fp s := by simp [answerCommit, hswitch, hsketch, hhost]
@[simp] theorem outside_commitCmd (hswitch : fp.switch) (hsketch : fp.sketch) (hhost : fp.host) (src : CmdSrc)
    (p : Bytes) (s : State) :
    outside fp (commitCmd src p s) = outside fp s := by simp [commitCmd, hswitch, hsketch, hhost]
@[simp] theorem outside_planSwitchCmd (hswitch : fp.switch) (hsketch : fp.sketch) (hhost : fp.host) (src : CmdSrc)
    (p : Bytes) (s : State) :
    outside fp (planSwitchCmd src p s) = outside fp s := by simp [planSwitchCmd, hswitch, hsketch, hhost]
@[simp] theorem outside_switchTakesEffect (hstreams : fp.streams) (hsketch : fp.sketch) (s : State) :
    outside fp (switchTakesEffect s) = outside fp s := by
  unfold switchTakesEffect; (repeat' split) <;> simp [hstreams, hsketch]
@[simp] theorem outside_tickStarts (hports : fp.ports) (hcanvas : fp.canvas) (hstreams : fp.streams)
    (hsketch : fp.sketch) (htick : fp.tick) (hpower : fp.power) (s : State) :
    outside fp (tickStarts s) = outside fp s := by simp [tickStarts, hports, hcanvas, hstreams, hsketch, htick, hpower]
@[simp] theorem outside_edgeTick (hports : fp.ports) (hcanvas : fp.canvas) (hstreams : fp.streams)
    (hsketch : fp.sketch) (htick : fp.tick) (hpower : fp.power) (at_ : Rat) (pulse : Option Pulse) (s : State) :
    outside fp (edgeTick at_ pulse s) = outside fp s := by
  simp [edgeTick, hports, hcanvas, hstreams, hsketch, htick, hpower]
@[simp] theorem outside_edgeArrives (hports : fp.ports) (hcanvas : fp.canvas) (hstreams : fp.streams)
    (hsketch : fp.sketch) (htick : fp.tick) (hpower : fp.power) (pulse : Option Pulse) (s : State) :
    outside fp (edgeArrives pulse s) = outside fp s := by
  simp [edgeArrives, hports, hcanvas, hstreams, hsketch, htick, hpower]
@[simp] theorem outside_enterHoldover (htick : fp.tick) (s : State) : outside fp (enterHoldover s) = outside fp s := by
  simp [enterHoldover, htick]
@[simp] theorem outside_edgeMissing (htick : fp.tick) (s : State) : outside fp (edgeMissing s) = outside fp s := by
  simp [edgeMissing, htick]
@[simp] theorem outside_portLost (htick : fp.tick) (s : State) : outside fp (portLost s) = outside fp s := by
  unfold portLost; (repeat' split) <;> simp [htick]

/-! ### Images -/

@[simp] theorem outside_updateStep (cfg : Bool) (step : Nat) (version : W32) (s : State) :
    outside fp (updateStep cfg step version s) = outside fp s := by simp [updateStep]
@[simp] theorem outside_attestCmd (hswitch : fp.switch) (hhost : fp.host) (src : CmdSrc) (p : Bytes) (s : State) :
    outside fp (attestCmd src p s) = outside fp s := by unfold attestCmd; (repeat' split) <;> simp [hswitch, hhost]

/-! ### TwinLink -/

@[simp] theorem outside_trainTwin (htray : fp.tray) (s : State) : outside fp (trainTwin s) = outside fp s := by
  simp [trainTwin, htray]
@[simp] theorem outside_sendTwin (htray : fp.tray) (typ : Nat) (payload : Bytes) (s : State) :
    outside fp (sendTwin typ payload s) = outside fp s := by simp [sendTwin, htray]
@[simp] theorem outside_frameFails (htray : fp.tray) (s : State) : outside fp (frameFails s) = outside fp s := by
  simp [frameFails, htray]
@[simp] theorem outside_twinReceived (htray : fp.tray) (typ : Nat) (frame : List (List CodeGroup))
    (f : Bytes → State → State) (s : State) (hf : ∀ a0 t, outside fp (f a0 t) = outside fp t) :
    outside fp (twinReceived typ frame f s) = outside fp s := by simp only [twinReceived]; (repeat' split) <;> simp_all
@[simp] theorem outside_sendStateRequest (htray : fp.tray) (s : State) :
    outside fp (sendStateRequest s) = outside fp s := by simp [sendStateRequest, htray]
@[simp] theorem outside_sendImageData (htray : fp.tray) (e : W32) (n off : Nat) (b : Bytes) (s : State) :
    outside fp (sendImageData e n off b s) = outside fp s := by
  induction n generalizing off b s with
  | zero => rfl
  | succ n ih => unfold sendImageData; split <;> simp [htray, ih]
@[simp] theorem outside_sendEpoch (htray : fp.tray) (s : State) : outside fp (sendEpoch s) = outside fp s := by
  simp [sendEpoch, htray]
@[simp] theorem outside_takeTwinConfig (htray : fp.tray) (s : State) :
    outside fp (takeTwinConfig s) = outside fp s := by simp [takeTwinConfig, htray]
@[simp] theorem outside_judgeUnsync (htray : fp.tray) (s : State) : outside fp (judgeUnsync s) = outside fp s := by
  simp only [judgeUnsync]; (repeat' split) <;> simp_all
@[simp] theorem outside_cycleEnds (htray : fp.tray) (s : State) : outside fp (cycleEnds s) = outside fp s := by
  simp [cycleEnds, htray]
@[simp] theorem outside_writeSnapshot (htray : fp.tray) (hflash : fp.flash) (s : State) :
    outside fp (writeSnapshot s) = outside fp s := by
  unfold writeSnapshot
  split
  · rfl
  · rw [outside_updTray htray]
    exact outside_updFlash hflash (.inr rfl)
@[simp] theorem outside_snapshots (htray : fp.tray) (hflash : fp.flash) (s : State) :
    outside fp (snapshots s) = outside fp s := by simp [snapshots, htray, hflash]
@[simp] theorem outside_laneTrained (htray : fp.tray) (lane : Nat) (groups : List CodeGroup) (skew : Int) (s : State) :
    outside fp (laneTrained lane groups skew s) = outside fp s := by
  unfold laneTrained; (repeat' split) <;> simp [htray]
@[simp] theorem outside_releaseControl (htray : fp.tray) (cause : Nat) (next : OwnState) (s : State) :
    outside fp (releaseControl cause next s) = outside fp s := by simp [releaseControl, htray]
@[simp] theorem outside_resolveCollision (htray : fp.tray) (s : State) :
    outside fp (resolveCollision s) = outside fp s := by simp [resolveCollision, htray]
@[simp] theorem outside_noteLine (htray : fp.tray) (s : State) : outside fp (noteLine s) = outside fp s := by
  simp [noteLine, htray]
@[simp] theorem outside_heartbeatTaken (htray : fp.tray) (b : Bytes) (s : State) :
    outside fp (heartbeatTaken b s) = outside fp s := by
  unfold heartbeatTaken; dsimp only; (repeat' split) <;> simp [htray]
@[simp] theorem outside_handoverDone (hswitch : fp.switch) (htray : fp.tray) (hhost : fp.host) (src : CmdSrc)
    (s : State) :
    outside fp (handoverDone src s) = outside fp s := by simp [handoverDone, hswitch, htray, hhost]
@[simp] theorem outside_stateAck (hswitch : fp.switch) (htray : fp.tray) (hhost : fp.host) (p : Bytes) (s : State) :
    outside fp (stateAck p s) = outside fp s := by
  unfold stateAck; dsimp only; (repeat' split) <;> simp [hswitch, htray, hhost]
@[simp] theorem outside_stateRequested (htray : fp.tray) (s : State) :
    outside fp (stateRequested s) = outside fp s := by simp [stateRequested, htray]
@[simp] theorem outside_releaseTaken (htray : fp.tray) (p : Bytes) (s : State) :
    outside fp (releaseTaken p s) = outside fp s := by simp [releaseTaken, htray]
@[simp] theorem outside_twinConfigCmd (hswitch : fp.switch) (htray : fp.tray) (hhost : fp.host) (src : CmdSrc)
    (p : Bytes) (s : State) :
    outside fp (twinConfigCmd src p s) = outside fp s := by simp [twinConfigCmd, hswitch, htray, hhost]

/-! ### StartUp -/

@[simp] theorem outside_releaseTray (htray : fp.tray) (s : State) : outside fp (releaseTray s) = outside fp s := by
  simp only [releaseTray, outside_ite]; (repeat' split) <;> simp [htray]
@[simp] theorem outside_enterTray (htray : fp.tray) (cause : Nat) (s : State) :
    outside fp (enterTray cause s) = outside fp s := by simp [enterTray, htray]
@[simp] theorem outside_clearCounters (hports : fp.ports) (hswitch : fp.switch) (hcanvas : fp.canvas)
    (hstreams : fp.streams) (hsketch : fp.sketch) (htray : fp.tray) (hpower : fp.power) (hhealth : fp.health)
    (s : State) : outside fp (clearCounters s) = outside fp s := by
  simp [hports, hswitch, hcanvas, hstreams, hsketch, htray, hpower, hhealth, clearCounters, hostCore]
@[simp] theorem outside_firmwareBegins (hports : fp.ports) (hswitch : fp.switch) (hcanvas : fp.canvas)
    (hstreams : fp.streams) (hsketch : fp.sketch) (htray : fp.tray) (hpower : fp.power) (hhealth : fp.health)
    (s : State) : outside fp (firmwareBegins s) = outside fp s := by
  simp [firmwareBegins, hports, hswitch, hcanvas, hstreams, hsketch, htray, hpower, hhealth]
@[simp] theorem outside_takeListed (hhealth : fp.health) (r : TestRes) (s : State) :
    outside fp (takeListed r s) = outside fp s := by simp [takeListed, hhealth]
@[simp] theorem outside_applyRetired (hcanvas : fp.canvas) (hhealth : fp.health) (pass : BitVec 32) (r : TestRes)
    (s : State) :
    outside fp (applyRetired pass r s) = outside fp s := by
  unfold applyRetired; (repeat' split) <;> simp [hcanvas, hhealth]

/-! ### Health -/

@[simp] theorem outside_badTable (hhealth : fp.health) (tbl i : Nat) (s : State) :
    outside fp (badTable tbl i s) = outside fp s := by simp [badTable, hhealth]
@[simp] theorem outside_restoreEntry (hhealth : fp.health) (tbl i : Nat) (copyBad : Bool) (s : State) :
    outside fp (restoreEntry tbl i copyBad s) = outside fp s := by simp [restoreEntry, hhealth]
@[simp] theorem outside_accumulatorBad (hports : fp.ports) (hswitch : fp.switch) (hcanvas : fp.canvas) (k : SlotKey)
    (s : State) :
    outside fp (accumulatorBad k s) = outside fp s := by
  unfold accumulatorBad; (repeat' split) <;> simp [hports, hswitch, hcanvas]
@[simp] theorem outside_pieceBad (hports : fp.ports) (hswitch : fp.switch) (hcanvas : fp.canvas) (k : SlotKey)
    (pos first : Nat) (s : State) :
    outside fp (pieceBad k pos first s) = outside fp s := by
  unfold pieceBad; (repeat' split) <;> simp [hports, hswitch, hcanvas]
@[simp] theorem outside_unparkBad (hports : fp.ports) (hswitch : fp.switch) (hcanvas : fp.canvas) (id : Nat)
    (s : State) :
    outside fp (unparkBad id s) = outside fp s := by unfold unparkBad; split <;> simp [hports, hswitch, hcanvas]
@[simp] theorem outside_siteRead (hhealth : fp.health) (site : ScrubSite) (e : WordError) (s : State) :
    outside fp (siteRead site e s) = outside fp s := by unfold siteRead; (repeat' split) <;> simp [hhealth]
@[simp] theorem outside_updTest (hhealth : fp.health) (r : TestRes) (f : Test → Test) (s : State) :
    outside fp (updTest r f s) = outside fp s := by simp [updTest, hhealth]
@[simp] theorem outside_dropTest (hhealth : fp.health) (r : TestRes) (s : State) :
    outside fp (dropTest r s) = outside fp s := by simp [dropTest, hhealth]
@[simp] theorem outside_retire (hports : fp.ports) (hswitch : fp.switch) (hcanvas : fp.canvas) (hflash : fp.flash)
    (hhost : fp.host) (hhealth : fp.health) (r : TestRes) (s : State) :
    outside fp (retire r s) = outside fp s := by
  unfold retire
  split
  · simp [hports, hswitch, hhost, hhealth]
  · split <;> simp [hcanvas, hflash, hhealth, floorsOf]
@[simp] theorem outside_transientVerdict (hports : fp.ports) (hswitch : fp.switch) (hcanvas : fp.canvas)
    (hflash : fp.flash) (hhost : fp.host) (hhealth : fp.health) (r : TestRes) (commanded : Bool) (s : State) :
    outside fp (transientVerdict r commanded s) = outside fp s := by
  simp [transientVerdict, hports, hswitch, hcanvas, hflash, hhost, hhealth]
@[simp] theorem outside_answerTest (hswitch : fp.switch) (hhost : fp.host) (t : Test)
    (verdict errors duration : Nat) (s : State) :
    outside fp (answerTest t verdict errors duration s) = outside fp s := by
  unfold answerTest; (repeat' split) <;> simp [hswitch, hhost]
@[simp] theorem outside_giveVerdict (hports : fp.ports) (hswitch : fp.switch) (hcanvas : fp.canvas)
    (hflash : fp.flash) (hhost : fp.host) (hhealth : fp.health) (t : Test) (pass : Bool) (errors duration : Nat)
    (s : State) :
    outside fp (giveVerdict t pass errors duration s) = outside fp s := by
  simp [giveVerdict, hports, hswitch, hcanvas, hflash, hhost, hhealth]
@[simp] theorem outside_skipTest (hswitch : fp.switch) (hhost : fp.host) (hhealth : fp.health) (t : Test) (s : State) :
    outside fp (skipTest t s) = outside fp s := by simp [skipTest, hswitch, hhost, hhealth]
@[simp] theorem outside_startTest (hswitch : fp.switch) (hcanvas : fp.canvas) (hhost : fp.host)
    (hhealth : fp.health) (r : TestRes) (s : State) :
    outside fp (startTest r s) = outside fp s := by
  unfold startTest; (repeat' split) <;> simp [hswitch, hcanvas, hhost, hhealth]
@[simp] theorem outside_laneByRetrain (hports : fp.ports) (hswitch : fp.switch) (hcanvas : fp.canvas)
    (hflash : fp.flash) (hhost : fp.host) (hhealth : fp.health) (t : Test) (p l : Nat) (s : State) :
    outside fp (laneByRetrain t p l s) = outside fp s := by
  simp [laneByRetrain, hports, hswitch, hcanvas, hflash, hhost, hhealth]
@[simp] theorem outside_laneTested (hports : fp.ports) (hswitch : fp.switch) (hcanvas : fp.canvas)
    (hflash : fp.flash) (hhost : fp.host) (hhealth : fp.health) (p l : Nat) (s : State) :
    outside fp (laneTested p l s) = outside fp s := by
  unfold laneTested; (repeat' split) <;> simp [hports, hswitch, hcanvas, hflash, hhost, hhealth]
@[simp] theorem outside_rowCopied (hhealth : fp.health) (r : TestRes) (s : State) :
    outside fp (rowCopied r s) = outside fp s := by unfold rowCopied; (repeat' split) <;> simp [hhealth]
@[simp] theorem outside_freeSpare (hhealth : fp.health) (r : TestRes) (s : State) :
    outside fp (freeSpare r s) = outside fp s := by simp [freeSpare, hhealth]
@[simp] theorem outside_rowTested (hports : fp.ports) (hswitch : fp.switch) (hcanvas : fp.canvas)
    (hflash : fp.flash) (hhost : fp.host) (hhealth : fp.health) (r : TestRes) (failing : Nat) (duration : W32)
    (s : State) :
    outside fp (rowTested r failing duration s) = outside fp s := by
  unfold rowTested; (repeat' split) <;> simp [hports, hswitch, hcanvas, hflash, hhost, hhealth]
@[simp] theorem outside_paletteTested (hports : fp.ports) (hswitch : fp.switch) (hcanvas : fp.canvas)
    (hflash : fp.flash) (hhost : fp.host) (hhealth : fp.health) (n : Nat) (crc : W32) (failing : Nat)
    (duration : W32) (s : State) :
    outside fp (paletteTested n crc failing duration s) = outside fp s := by
  unfold paletteTested; (repeat' split) <;> simp [hports, hswitch, hcanvas, hflash, hhost, hhealth]
@[simp] theorem outside_selftestCmd (hswitch : fp.switch) (hhost : fp.host) (hhealth : fp.health) (src : CmdSrc)
    (p : Bytes) (s : State) :
    outside fp (selftestCmd src p s) = outside fp s := by
  unfold selftestCmd
  split
  · simp [hswitch, hhost]
  · exact outside_refuseIf hswitch hhost _ _ _ _ fun _ => outside_updHealth (.inl hhealth)

/-! ### Inband -/

@[simp] theorem outside_takeCmd (hports : fp.ports) (hswitch : fp.switch) (hhost : fp.host) (id : Nat) (st : Stored)
    (s : State) :
    outside fp (takeCmd id st s) = outside fp s := by
  unfold takeCmd; dsimp only; (repeat' split) <;> simp [hports, hswitch, hhost]

/-! ### Ownership -/

@[simp] theorem outside_startOutputs (htray : fp.tray) (pump fan : Nat) (s : State) :
    outside fp (startOutputs pump fan s) = outside fp s := outside_updTray htray ..
@[simp] theorem outside_takeImagePolicy (hpolicy : fp.policy) (l : List PolicyEntry) (s : State) :
    outside fp (takeImagePolicy l s) = outside fp s := by simp [takeImagePolicy, hpolicy]
@[simp] theorem outside_takeImageAlarms (htray : fp.tray) (l : List (Nat × Nat)) (s : State) :
    outside fp (takeImageAlarms l s) = outside fp s := by
  simp only [takeImageAlarms]
  refine outside_forEach _ _ _ ?_
  intro a t
  split <;> simp [htray]
@[simp] theorem outside_startFromImage (hpolicy : fp.policy) (htray : fp.tray) (b : Bytes) (s : State) :
    outside fp (startFromImage b s) = outside fp s := by
  simp only [startFromImage]
  rw [outside_driveSettings htray, outside_applyAlarms htray, outside_takeImageAlarms htray,
    outside_takeImagePolicy hpolicy, outside_updTray htray, outside_startOutputs htray]
@[simp] theorem outside_startFromConfig (htray : fp.tray) (s : State) :
    outside fp (startFromConfig s) = outside fp s := by
  have hfree := outside_withFree (fp := fp) (fun x => withFree (fun y => startOutputs x y)) s (by simp [htray])
  unfold startFromConfig
  split <;> simp [htray, hfree]
@[simp] theorem outside_startTray (hpolicy : fp.policy) (htray : fp.tray) (s : State) :
    outside fp (startTray s) = outside fp s := by unfold startTray; (repeat' split) <;> simp [hpolicy, htray]
@[simp] theorem outside_listenEnds (hpolicy : fp.policy) (htray : fp.tray) (s : State) :
    outside fp (listenEnds s) = outside fp s := by unfold listenEnds; (repeat' split) <;> simp [hpolicy, htray]
@[simp] theorem outside_lineIsLow (htray : fp.tray) (s : State) : outside fp (lineIsLow s) = outside fp s := by
  simp [lineIsLow, htray]
@[simp] theorem outside_raiseTakeover (source : Nat) (epoch : W32) (s : State) :
    outside fp (raiseTakeover source epoch s) = outside fp s := by simp [raiseTakeover]
@[simp] theorem outside_driveLamps (htray : fp.tray) (s : State) : outside fp (driveLamps s) = outside fp s := by
  simp [driveLamps, htray]
@[simp] theorem outside_busTaken (htray : fp.tray) (bus : Nat) (answered : List (BitVec 7)) (s : State) :
    outside fp (busTaken bus answered s) = outside fp s := by
  simp only [busTaken]
  split
  · rfl
  · split
    · rw [outside_driveLamps htray, outside_updTray htray]
    · rw [outside_forEach _ _ _ (by simp), outside_driveLamps htray, outside_updTray htray]
@[simp] theorem outside_selfCheckFails (htray : fp.tray) (check : Nat) (s : State) :
    outside fp (selfCheckFails check s) = outside fp s := by simp [selfCheckFails, htray]
@[simp] theorem outside_plausibilityChecked (htray : fp.tray) (r : List Reading) (s : State) :
    outside fp (plausibilityChecked r s) = outside fp s := by
  unfold plausibilityChecked; dsimp only; (repeat' split) <;> simp [htray]
@[simp] theorem outside_ownLineFaults (htray : fp.tray) (s : State) : outside fp (ownLineFaults s) = outside fp s := by
  simp [ownLineFaults, htray]
@[simp] theorem outside_coresRestarted (htray : fp.tray) (s : State) :
    outside fp (coresRestarted s) = outside fp s := by
  unfold coresRestarted; dsimp only; (repeat' split) <;> simp [htray]
@[simp] theorem outside_handoverCmd (hswitch : fp.switch) (htray : fp.tray) (hhost : fp.host) (src : CmdSrc)
    (_p : Bytes) (s : State) :
    outside fp (handoverCmd src _p s) = outside fp s := by simp [handoverCmd, hswitch, htray, hhost]
@[simp] theorem outside_handoverTimesOut (hswitch : fp.switch) (htray : fp.tray) (hhost : fp.host) (s : State) :
    outside fp (handoverTimesOut s) = outside fp s := by
  unfold handoverTimesOut; (repeat' split) <;> simp [hswitch, htray, hhost]

/-! ### PortCmds -/

@[simp] theorem outside_portInfoCmd (hswitch : fp.switch) (hhost : fp.host) (src : CmdSrc) (p : Bytes) (s : State) :
    outside fp (portInfoCmd src p s) = outside fp s := by simp [portInfoCmd, hswitch, hhost]
@[simp] theorem outside_admitPort (hports : fp.ports) (p : Nat) (s : State) :
    outside fp (admitPort p s) = outside fp s := by simp [admitPort, hports]
@[simp] theorem outside_enableCmd (hports : fp.ports) (hswitch : fp.switch) (hhost : fp.host) (src : CmdSrc)
    (p : Bytes) (s : State) :
    outside fp (enableCmd src p s) = outside fp s := by
  unfold enableCmd
  refine outside_refuseIf hswitch hhost _ _ _ _ fun t => ?_
  simp [hports, hswitch, hhost]
@[simp] theorem outside_disableNow (hports : fp.ports) (hswitch : fp.switch) (hhost : fp.host) (p : Nat) (s : State) :
    outside fp (disableNow p s) = outside fp s := by simp [disableNow, hports, hswitch, hhost]
@[simp] theorem outside_disableCmd (hports : fp.ports) (hswitch : fp.switch) (hhost : fp.host) (src : CmdSrc)
    (p : Bytes) (s : State) :
    outside fp (disableCmd src p s) = outside fp s := by
  unfold disableCmd
  refine outside_refuseIf hswitch hhost _ _ _ _ fun t => ?_
  simp [hports, hswitch, hhost]
@[simp] theorem outside_retrainPort (hports : fp.ports) (hswitch : fp.switch) (p : Nat) (s : State) :
    outside fp (retrainPort p s) = outside fp s := by simp [retrainPort, hports, hswitch]
@[simp] theorem outside_retrainCmd (hports : fp.ports) (hswitch : fp.switch) (hhost : fp.host) (src : CmdSrc)
    (p : Bytes) (s : State) :
    outside fp (retrainCmd src p s) = outside fp s := by
  unfold retrainCmd
  refine outside_refuseIf hswitch hhost _ _ _ _ fun t => ?_
  simp [hports, hswitch, hhost]
@[simp] theorem outside_washPort (hports : fp.ports) (hswitch : fp.switch) (hhost : fp.host) (p : Nat) (s : State) :
    outside fp (washPort p s) = outside fp s := by simp [washPort, hports, hswitch, hhost]
@[simp] theorem outside_washCmd (hports : fp.ports) (hswitch : fp.switch) (hhost : fp.host) (src : CmdSrc)
    (p : Bytes) (s : State) :
    outside fp (washCmd src p s) = outside fp s := by
  unfold washCmd
  refine outside_refuseIf hswitch hhost _ _ _ _ fun t => ?_
  simp [hports, hswitch, hhost]
@[simp] theorem outside_washDrained (hports : fp.ports) (hswitch : fp.switch) (hhost : fp.host) (p : Nat) (s : State) :
    outside fp (washDrained p s) = outside fp s := by simp [washDrained, hports, hswitch, hhost]
@[simp] theorem outside_giveUpPort (hports : fp.ports) (hswitch : fp.switch) (hhost : fp.host) (p : Nat) (s : State) :
    outside fp (giveUpPort p s) = outside fp s := by simp [giveUpPort, hports, hswitch, hhost]
@[simp] theorem outside_washTimesOut (hports : fp.ports) (hswitch : fp.switch) (hhost : fp.host) (src : CmdSrc)
    (s : State) :
    outside fp (washTimesOut src s) = outside fp s := by
  unfold washTimesOut; (repeat' split) <;> simp [hports, hswitch, hhost]

/-! ### PowerMod -/

@[simp] theorem outside_powerModeCmd (hswitch : fp.switch) (htray : fp.tray) (hpower : fp.power) (hhost : fp.host)
    (src : CmdSrc) (p : Bytes) (s : State) :
    outside fp (powerModeCmd src p s) = outside fp s := by simp [powerModeCmd, hswitch, htray, hpower, hhost]
@[simp] theorem outside_slopeLimitCmd (hswitch : fp.switch) (hpower : fp.power) (hhost : fp.host) (src : CmdSrc)
    (p : Bytes) (s : State) :
    outside fp (slopeLimitCmd src p s) = outside fp s := by simp [slopeLimitCmd, hswitch, hpower, hhost]
@[simp] theorem outside_alertAsserts (htray : fp.tray) (hpower : fp.power) (s : State) :
    outside fp (alertAsserts s) = outside fp s := by simp [alertAsserts, htray, hpower]
@[simp] theorem outside_alertReleases (hpower : fp.power) (s : State) :
    outside fp (alertReleases s) = outside fp s := by simp [alertReleases, hpower]
@[simp] theorem outside_alertHoldEnds (htray : fp.tray) (hpower : fp.power) (s : State) :
    outside fp (alertHoldEnds s) = outside fp s := by unfold alertHoldEnds; (repeat' split) <;> simp [htray, hpower]
@[simp] theorem outside_governPower (hpower : fp.power) (power : Nat) (draw : List Nat) (s : State) :
    outside fp (governPower power draw s) = outside fp s := by
  simp only [governPower]
  (repeat rw [outside_when]) <;> simp [hpower]
@[simp] theorem outside_slopeExceeded (hpower : fp.power) (cause : Nat) (s : State) :
    outside fp (slopeExceeded cause s) = outside fp s := by simp [slopeExceeded, hpower]
@[simp] theorem outside_moveBudget (htray : fp.tray) (hpower : fp.power) (s : State) :
    outside fp (moveBudget s) = outside fp s := by simp [moveBudget, htray, hpower]
@[simp] theorem outside_countBallast (hpower : fp.power) (s : State) : outside fp (countBallast s) = outside fp s := by
  simp [countBallast, hpower]
@[simp] theorem outside_governSlope (htray : fp.tray) (hpower : fp.power) (draw : List Nat) (s : State) :
    outside fp (governSlope draw s) = outside fp s := by
  simp only [governSlope]
  rw [outside_moveBudget htray hpower, outside_countBallast hpower]
  (repeat rw [outside_when]) <;> simp [hpower]
@[simp] theorem outside_thermalStep (htray : fp.tray) (hpower : fp.power) (sensor new : Nat) (s : State) :
    outside fp (thermalStep sensor new s) = outside fp s := by simp [thermalStep, htray, hpower]
@[simp] theorem outside_overMaximum (hpower : fp.power) (sensor : Nat) (s : State) :
    outside fp (overMaximum sensor s) = outside fp s := by simp [overMaximum, hpower]
@[simp] theorem outside_thermalSampled (htray : fp.tray) (hpower : fp.power) (sensors : List Int) (s : State) :
    outside fp (thermalSampled sensors s) = outside fp s := by simp [thermalSampled, htray, hpower]
@[simp] theorem outside_railExceeds (htray : fp.tray) (hpower : fp.power) (n : Nat) (s : State) :
    outside fp (railExceeds n s) = outside fp s := by simp [railExceeds, htray, hpower]
@[simp] theorem outside_railsSampled (htray : fp.tray) (hpower : fp.power) (amps : List Nat) (s : State) :
    outside fp (railsSampled amps s) = outside fp s := by
  unfold railsSampled; dsimp only; (repeat' split) <;> simp [htray, hpower]
@[simp] theorem outside_overcurrentLifts (htray : fp.tray) (hpower : fp.power) (s : State) :
    outside fp (overcurrentLifts s) = outside fp s := by simp [overcurrentLifts, htray, hpower]

/-! ### RackMgr -/

@[simp] theorem outside_acceptMsg (htray : fp.tray) (m : Bytes) (s : State) :
    outside fp (acceptMsg m s) = outside fp s := by simp [acceptMsg, htray]
@[simp] theorem outside_rackMessage (htray : fp.tray) (typ : Nat) (m : Bytes) (f : State → State) (s : State)
    (hf : ∀ t, outside fp (f t) = outside fp t) :
    outside fp (rackMessage typ m f s) = outside fp s := by simp only [rackMessage]; (repeat' split) <;> simp_all
@[simp] theorem outside_rackPolicyActs (hpolicy : fp.policy) (htray : fp.tray) (hpower : fp.power) (m : Bytes)
    (s : State) :
    outside fp (rackPolicyActs m s) = outside fp s := by
  simp only [rackPolicyActs]
  split
  · simp [htray, hpower]
  · simp [hpolicy, htray, hpower]
@[simp] theorem outside_contactLost (htray : fp.tray) (s : State) : outside fp (contactLost s) = outside fp s := by
  simp [contactLost, htray]

/-! ### Reports -/

@[simp] theorem outside_flagsCmd (hswitch : fp.switch) (hcanvas : fp.canvas) (hhost : fp.host) (src : CmdSrc)
    (p : Bytes) (s : State) :
    outside fp (flagsCmd src p s) = outside fp s := by simp [flagsCmd, hswitch, hcanvas, hhost]
@[simp] theorem outside_countersCmd (hswitch : fp.switch) (hhost : fp.host) (src : CmdSrc) (p : Bytes) (s : State) :
    outside fp (countersCmd src p s) = outside fp s := by simp [countersCmd, hswitch, hhost]
@[simp] theorem outside_telemetryRead (hports : fp.ports) (hswitch : fp.switch) (id : Nat) (st : Stored) (s : State) :
    outside fp (telemetryRead id st s) = outside fp s := by simp [telemetryRead, hports, hswitch]

/-! ### Streams -/

@[simp] theorem outside_putVisible (hports : fp.ports) (hswitch : fp.switch) (id : Nat) (s : State) :
    outside fp (putVisible id s) = outside fp s := by unfold putVisible; (repeat' split) <;> simp [hports, hswitch]
@[simp] theorem outside_bindSub (hstreams : fp.streams) (b : Subscription) (s : State) :
    outside fp (bindSub b s) = outside fp s := by simp [bindSub, hstreams]
@[simp] theorem outside_subscribe (hports : fp.ports) (hswitch : fp.switch) (hstreams : fp.streams) (id : Nat)
    (st : Stored) (s : State) :
    outside fp (subscribe id st s) = outside fp s := by simp [subscribe, hports, hswitch, hstreams]
@[simp] theorem outside_cancelSub (hports : fp.ports) (hswitch : fp.switch) (hstreams : fp.streams) (id : Nat)
    (st : Stored) (s : State) :
    outside fp (cancelSub id st s) = outside fp s := by simp [cancelSub, hports, hswitch, hstreams]
@[simp] theorem outside_writeTables (hswitch : fp.switch) (hhost : fp.host) (src : CmdSrc) (bad busy : Bool)
    (t : StreamTables) (f : State → State) (s : State) (hf : ∀ t, outside fp (f t) = outside fp t) :
    outside fp (writeTables src bad busy t f s) = outside fp s := by
  simp [writeTables, hswitch, hhost, hf]
@[simp] theorem outside_writeSegmentCmd (hswitch : fp.switch) (hstreams : fp.streams) (hhost : fp.host)
    (hhealth : fp.health) (src : CmdSrc) (p : Bytes) (s : State) :
    outside fp (writeSegmentCmd src p s) = outside fp s := by simp [writeSegmentCmd, hswitch, hstreams, hhost, hhealth]
@[simp] theorem outside_writeStreamCmd (hswitch : fp.switch) (hstreams : fp.streams) (hhost : fp.host)
    (hhealth : fp.health) (src : CmdSrc) (p : Bytes) (s : State) :
    outside fp (writeStreamCmd src p s) = outside fp s := by simp [writeStreamCmd, hswitch, hstreams, hhost, hhealth]
@[simp] theorem outside_sealCmd (hswitch : fp.switch) (hstreams : fp.streams) (hhost : fp.host) (src : CmdSrc)
    (p : Bytes) (s : State) :
    outside fp (sealCmd src p s) = outside fp s := by simp [sealCmd, hswitch, hstreams, hhost]
@[simp] theorem outside_sealCompletes (hswitch : fp.switch) (hstreams : fp.streams) (hhost : fp.host)
    (hhealth : fp.health) (n : Nat) (reads : List (Nat × WordError)) (s : State) :
    outside fp (sealCompletes n reads s) = outside fp s := by
  unfold sealCompletes; (repeat' split) <;> simp [hswitch, hstreams, hhost, hhealth]
@[simp] theorem outside_reopenCmd (hswitch : fp.switch) (hstreams : fp.streams) (hhost : fp.host) (src : CmdSrc)
    (p : Bytes) (s : State) :
    outside fp (reopenCmd src p s) = outside fp s := by simp [reopenCmd, hswitch, hstreams, hhost]
@[simp] theorem outside_rewindCmd (hswitch : fp.switch) (hstreams : fp.streams) (hhost : fp.host) (src : CmdSrc)
    (p : Bytes) (s : State) :
    outside fp (rewindCmd src p s) = outside fp s := by simp [rewindCmd, hswitch, hstreams, hhost]
@[simp] theorem outside_writeListCmd (hswitch : fp.switch) (hstreams : fp.streams) (hhost : fp.host)
    (hhealth : fp.health) (src : CmdSrc) (p : Bytes) (s : State) :
    outside fp (writeListCmd src p s) = outside fp s := by
  unfold writeListCmd
  refine outside_writeTables hswitch hhost _ _ _ _ _ _ fun t => ?_
  simp [hstreams, hhealth]
@[simp] theorem outside_startRead (hstreams : fp.streams) (i : Nat) (s : State) :
    outside fp (startRead i s) = outside fp s := by unfold startRead; (repeat' split) <;> simp [hstreams]
@[simp] theorem outside_readCompletes (hstreams : fp.streams) (hhealth : fp.health) (i : Nat) (hostBytes : Bytes)
    (r : ReadResult) (s : State) :
    outside fp (readCompletes i hostBytes r s) = outside fp s := by
  unfold readCompletes; (repeat' split) <;> simp [hstreams, hhealth]
@[simp] theorem outside_writeOriginated (hports : fp.ports) (hswitch : fp.switch) (hcanvas : fp.canvas) (i : Nat)
    (o : Originate) (s : State) :
    outside fp (writeOriginated i o s) = outside fp s := by
  unfold writeOriginated; (repeat' split) <;> simp [hports, hswitch, hcanvas]
@[simp] theorem outside_writeTile (hports : fp.ports) (hswitch : fp.switch) (hstreams : fp.streams) (i : Nat)
    (t : Tile) (s : State) :
    outside fp (writeTile i t s) = outside fp s := by simp [writeTile, hports, hswitch, hstreams]
@[simp] theorem outside_originatedWrite (hports : fp.ports) (hswitch : fp.switch) (hcanvas : fp.canvas)
    (hstreams : fp.streams) (i : Nat) (s : State) :
    outside fp (originatedWrite i s) = outside fp s := by
  unfold originatedWrite; (repeat' split) <;> simp [hports, hswitch, hcanvas, hstreams]

/-! ### Sync -/

@[simp] theorem outside_setSync (hcanvas : fp.canvas) (i : Nat) (o : SyncObj) (s : State) :
    outside fp (setSync i o s) = outside fp s := by simp [setSync, hcanvas]
@[simp] theorem outside_notifyPorts (hswitch : fp.switch) (h : Header) (mask : Nat) (s : State) :
    outside fp (notifyPorts h mask s) = outside fp s := by simp [notifyPorts, hswitch]
@[simp] theorem outside_sendFired (hswitch : fp.switch) (i : Nat) (o : SyncObj) (s : State) :
    outside fp (sendFired i o s) = outside fp s := by unfold sendFired; (repeat' split) <;> simp [hswitch]
@[simp] theorem outside_fireSync (hswitch : fp.switch) (hcanvas : fp.canvas) (i : Nat) (s : State) :
    outside fp (fireSync i s) = outside fp s := by simp [fireSync, hswitch, hcanvas]
@[simp] theorem outside_fireIfDue (hswitch : fp.switch) (hcanvas : fp.canvas) (i : Nat) (s : State) :
    outside fp (fireIfDue i s) = outside fp s := by simp [fireIfDue, hswitch, hcanvas]
@[simp] theorem outside_addArrival (hswitch : fp.switch) (hcanvas : fp.canvas) (i : Nat) (w : W32) (s : State) :
    outside fp (addArrival i w s) = outside fp s := by simp [addArrival, hswitch, hcanvas]
@[simp] theorem outside_syncArrival (hports : fp.ports) (hswitch : fp.switch) (hcanvas : fp.canvas) (id : Nat)
    (st : Stored) (s : State) :
    outside fp (syncArrival id st s) = outside fp s := by simp [syncArrival, hports, hswitch, hcanvas]
@[simp] theorem outside_armSync (hswitch : fp.switch) (hcanvas : fp.canvas) (hhost : fp.host) (hhealth : fp.health)
    (src : CmdSrc) (p : Bytes) (s : State) :
    outside fp (armSync src p s) = outside fp s := by simp [armSync, hswitch, hcanvas, hhost, hhealth]

/-! ### TableCmds -/

@[simp] theorem outside_writeGroup (hcanvas : fp.canvas) (hhealth : fp.health) (n : Nat) (p : Bytes) (s : State) :
    outside fp (writeGroup n p s) = outside fp s := by simp [writeGroup, hcanvas, hhealth]
@[simp] theorem outside_groupDefineCmd (hswitch : fp.switch) (hcanvas : fp.canvas) (hhost : fp.host)
    (hhealth : fp.health) (src : CmdSrc) (p : Bytes) (s : State) :
    outside fp (groupDefineCmd src p s) = outside fp s := by simp [groupDefineCmd, hswitch, hcanvas, hhost, hhealth]
@[simp] theorem outside_removeGroup (hcanvas : fp.canvas) (hhealth : fp.health) (n : Nat) (s : State) :
    outside fp (removeGroup n s) = outside fp s := by simp [removeGroup, hcanvas, hhealth]
@[simp] theorem outside_groupDeleteCmd (hswitch : fp.switch) (hcanvas : fp.canvas) (hhost : fp.host)
    (hhealth : fp.health) (src : CmdSrc) (p : Bytes) (s : State) :
    outside fp (groupDeleteCmd src p s) = outside fp s := by
  unfold groupDeleteCmd
  refine outside_refuseIf hswitch hhost _ _ _ _ fun t => ?_
  simp [hswitch, hcanvas, hhost, hhealth]
@[simp] theorem outside_portsetCmd (hswitch : fp.switch) (hhost : fp.host) (hhealth : fp.health) (src : CmdSrc)
    (p : Bytes) (s : State) :
    outside fp (portsetCmd src p s) = outside fp s := by simp [portsetCmd, hswitch, hhost, hhealth]
@[simp] theorem outside_writeRoute (hswitch : fp.switch) (hhealth : fp.health) (i e : Nat) (s : State) :
    outside fp (writeRoute i e s) = outside fp s := by simp [writeRoute, hswitch, hhealth]
@[simp] theorem outside_routeWriteCmd (hswitch : fp.switch) (hhost : fp.host) (hhealth : fp.health) (src : CmdSrc)
    (p : Bytes) (s : State) :
    outside fp (routeWriteCmd src p s) = outside fp s := by
  unfold routeWriteCmd
  refine outside_refuseIf hswitch hhost _ _ _ _ fun t => ?_
  simp [hswitch, hhost, hhealth]
@[simp] theorem outside_policyCmd (hswitch : fp.switch) (hpolicy : fp.policy) (htray : fp.tray) (hhost : fp.host)
    (src : CmdSrc) (p : Bytes) (s : State) :
    outside fp (policyCmd src p s) = outside fp s := by
  unfold policyCmd; dsimp only; (repeat' split) <;> simp [hswitch, hpolicy, htray, hhost]

/-! ### Boot registers (R327, R435) -/

@[simp] theorem outside_setBootStatus (hboot : fp.boot) (v : BitVec 2) (s : State) :
    outside fp (setBootStatus v s) = outside fp s := by
  unfold setBootStatus
  split
  · rfl
  · dsimp only; split <;> simp [hboot, bootMarks]
@[simp] theorem outside_startFetch (hboot : fp.boot) (hp : HostPort) (s : State) :
    outside fp (startFetch hp s) = outside fp s := by simp [startFetch, hboot]
@[simp] theorem outside_writeBootReg (hboot : fp.boot) (hp : HostPort) (o : Nat) (v : W32) (s : State) :
    outside fp (writeBootReg hp o v s) = outside fp s := by simp [writeBootReg, hboot, bootMarks]
@[simp] theorem outside_writeBar0 (hboot : fp.boot) (hhost : fp.host) (hp : HostPort) (o : Nat) (v : W32) (s : State) :
    outside fp (writeBar0 hp o v s) = outside fp s := by simp [writeBar0, hboot, hhost]
@[simp] theorem outside_writeRegister (hboot : fp.boot) (hhost : fp.host) (hp : HostPort) (w : RegWrite) (s : State) :
    outside fp (writeRegister hp w s) = outside fp s := by
  unfold writeRegister
  split
  · rfl
  · cases w <;> simp [hboot, hhost]

/-! ### Uploads, commits and activation (R299 to R304, R429, R441) -/

@[simp] theorem outside_loadBegin (hswitch : fp.switch) (hsketch : fp.sketch) (hhost : fp.host) (src : CmdSrc)
    (p : Bytes) (s : State) :
    outside fp (loadBegin src p s) = outside fp s := by simp [loadBegin, hswitch, hsketch, hhost]
@[simp] theorem outside_loadData (hswitch : fp.switch) (hsketch : fp.sketch) (hhost : fp.host) (src : CmdSrc)
    (p : Bytes) (s : State) :
    outside fp (loadData src p s) = outside fp s := by simp [loadData, hswitch, hsketch, hhost]
@[simp] theorem outside_fwBegin (hswitch : fp.switch) (hboot : fp.boot) (hhost : fp.host) (src : CmdSrc) (p : Bytes)
    (s : State) :
    outside fp (fwBegin src p s) = outside fp s := by simp [fwBegin, hswitch, hboot, hhost, bootMarks]
@[simp] theorem outside_fwData (hswitch : fp.switch) (hboot : fp.boot) (hhost : fp.host) (src : CmdSrc) (p : Bytes)
    (s : State) :
    outside fp (fwData src p s) = outside fp s := by simp [fwData, hswitch, hboot, hhost, bootMarks]
@[simp] theorem outside_fwCommit (hswitch : fp.switch) (hboot : fp.boot) (hhost : fp.host) (src : CmdSrc)
    (p : Bytes) (s : State) :
    outside fp (fwCommit src p s) = outside fp s :=
  outside_refuseIf hswitch hhost _ _ _ _ fun _ => outside_updBoot hboot (.inr rfl)
@[simp] theorem outside_resetCmd (hswitch : fp.switch) (hboot : fp.boot) (hhost : fp.host) (src : CmdSrc)
    (whole : Bool) (p : Bytes) (s : State) :
    outside fp (resetCmd src whole p s) = outside fp s := by simp [resetCmd, hswitch, hboot, hhost, bootMarks]
@[simp] theorem outside_writeBank (hflash : fp.flash) (cfg : Bool) (b : Bytes) (s : State) :
    outside fp (writeBank cfg b s) = outside fp s := by
  unfold writeBank
  (repeat' split) <;> simp [hflash]
@[simp] theorem outside_writeCompletes (hswitch : fp.switch) (hboot : fp.boot) (hflash : fp.flash) (hhost : fp.host)
    (s : State) :
    outside fp (writeCompletes s) = outside fp s := by
  unfold writeCompletes
  split <;> simp [hswitch, hboot, hflash, hhost, bootMarks]
@[simp] theorem outside_installTables (hswitch : fp.switch) (hcanvas : fp.canvas) (hstreams : fp.streams)
    (hhealth : fp.health) (p : Proposed) (s : State) :
    outside fp (installTables p s) = outside fp s := by
  simp [hswitch, hcanvas, hstreams, hhealth, installTables, outside_when]
@[simp] theorem outside_activate (hports : fp.ports) (hswitch : fp.switch) (hcanvas : fp.canvas)
    (hstreams : fp.streams) (hsketch : fp.sketch) (htick : fp.tick) (hpolicy : fp.policy) (htray : fp.tray)
    (hpower : fp.power) (hhost : fp.host) (hhealth : fp.health) (c : Commit) (b : Bytes) (r : CommitResult)
    (p : Proposed) (s : State) :
    outside fp (activate c b r p s) = outside fp s := by
  simp [activate, hports, hswitch, hcanvas, hstreams, hsketch, htick, hpolicy, htray, hpower, hhost, hhealth]
@[simp] theorem outside_checksComplete (hports : fp.ports) (hswitch : fp.switch) (hcanvas : fp.canvas)
    (hstreams : fp.streams) (hsketch : fp.sketch) (htick : fp.tick) (hpolicy : fp.policy) (htray : fp.tray)
    (hpower : fp.power) (hhost : fp.host) (hhealth : fp.health) (s : State) :
    outside fp (checksComplete s) = outside fp s := by
  simp only [checksComplete]
  (repeat' split) <;> simp [hports, hswitch, hcanvas, hstreams, hsketch, htick, hpolicy, htray, hpower, hhost, hhealth]
@[simp] theorem outside_sketchActivates (hports : fp.ports) (hswitch : fp.switch) (hcanvas : fp.canvas)
    (hstreams : fp.streams) (hsketch : fp.sketch) (htick : fp.tick) (hpolicy : fp.policy) (htray : fp.tray)
    (hpower : fp.power) (hhost : fp.host) (hhealth : fp.health) (s : State) :
    outside fp (sketchActivates s) = outside fp s := by
  unfold sketchActivates
  split <;> simp [hports, hswitch, hcanvas, hstreams, hsketch, htick, hpolicy, htray, hpower, hhost, hhealth]

/-! ### The tray (R367 to R380) -/

@[simp] theorem outside_discardRecv (htray : fp.tray) (s : State) : outside fp (discardRecv s) = outside fp s := by
  simp [discardRecv, htray]
@[simp] theorem outside_laterEpoch (htray : fp.tray) (e : W32) (s : State) :
    outside fp (laterEpoch e s) = outside fp s := by unfold laterEpoch; split <;> simp [htray]
@[simp] theorem outside_heartbeatLostNow (htray : fp.tray) (s : State) :
    outside fp (heartbeatLostNow s) = outside fp s := by simp [heartbeatLostNow, htray]
@[simp] theorem outside_stateData (htray : fp.tray) (p : Bytes) (s : State) :
    outside fp (stateData p s) = outside fp s := by simp [stateData, htray]
@[simp] theorem outside_commitEpoch (htray : fp.tray) (e : W32) (b : Bytes) (s : State) :
    outside fp (commitEpoch e b s) = outside fp s := by simp [commitEpoch, htray]
@[simp] theorem outside_stateEnd (htray : fp.tray) (p : Bytes) (s : State) :
    outside fp (stateEnd p s) = outside fp s := by simp [stateEnd, htray]
@[simp] theorem outside_claims (htray : fp.tray) (hboot : fp.boot) (s : State) :
    outside fp (claims s) = outside fp s := by simp [claims, htray, hboot, bootMarks]
@[simp] theorem outside_takesOver (htray : fp.tray) (s : State) : outside fp (takesOver s) = outside fp s := by
  simp [takesOver, htray]

/-! ### Start-up and the Easel (R409, R424 to R436, R443, R459) -/

@[simp] theorem outside_leaveReset (htray : fp.tray) (hpower : fp.power) (hboot : fp.boot) (hmarks : fp.marks)
    (s : State) :
    outside fp (leaveReset s) = outside fp s := by simp [leaveReset, htray, hpower, hboot, hmarks]
@[simp] theorem outside_sampleStraps (hboot : fp.boot) (hmarks : fp.marks) (x : StrapPins) (s : State) :
    outside fp (sampleStraps x s) = outside fp s := by simp [sampleStraps, hboot, hmarks]
@[simp] theorem outside_setFatal (hboot : fp.boot) (s : State) : outside fp (setFatal s) = outside fp s := by
  simp [setFatal, hboot, bootMarks]
@[simp] theorem outside_rootSecret (hboot : fp.boot) (hflash : fp.flash) (hfloors : fp.floors) (pattern : Bytes)
    (flashReads : Bool) (s : State) :
    outside fp (rootSecret pattern flashReads s) = outside fp s := by
  unfold rootSecret; (repeat' split) <;> simp [hboot, hflash, hfloors, bootMarks, checkFloors]
@[simp] theorem outside_pcieStage (hboot : fp.boot) (hhost : fp.host) (linkA linkB : PcieLink) (s : State) :
    outside fp (pcieStage linkA linkB s) = outside fp s := by simp [pcieStage, hboot, hhost, bootMarks]
@[simp] theorem outside_hbmTrained (hboot : fp.boot) (hhealth : fp.health) (s : State) :
    outside fp (hbmTrained s) = outside fp s := by simp [hbmTrained, hboot, hhealth, bootMarks]
@[simp] theorem outside_startFirmware (hports : fp.ports) (hswitch : fp.switch) (hcanvas : fp.canvas)
    (hstreams : fp.streams) (hsketch : fp.sketch) (htray : fp.tray) (hpower : fp.power) (hboot : fp.boot)
    (hhealth : fp.health) (b : Bytes) (s : State) :
    outside fp (startFirmware b s) = outside fp s := by
  simp [startFirmware, hports, hswitch, hcanvas, hstreams, hsketch, htray, hpower, hboot, hhealth, bootMarks]
@[simp] theorem outside_refuseFirmware (hboot : fp.boot) (s : State) :
    outside fp (refuseFirmware s) = outside fp s := by simp [refuseFirmware, hboot, bootMarks]
@[simp] theorem outside_takeConfig (hports : fp.ports) (hpolicy : fp.policy) (htray : fp.tray) (hpower : fp.power)
    (hboot : fp.boot) (b : Bytes) (s : State) :
    outside fp (takeConfig b s) = outside fp s := by
  have hconfig := outside_updBoot hboot (fp := fp) (s := s) (f := fun x => { x with
    cfgDone := true, config := some (Config.configContents b), configVersion := imVersion b
    configDigest := statedDigest b, configSec := w32 (imSec b) }) (.inr rfl)
  rw [takeConfig, outside_settleMode htray hpower, outside_updPower hpower, outside_ports hports,
    outside_policy hpolicy, hconfig]
@[simp] theorem outside_fallBack (hflash : fp.flash) (s : State) : outside fp (fallBack s) = outside fp s := by
  simp [fallBack, hflash, floorsOf]
@[simp] theorem outside_bootTimesOut (htray : fp.tray) (hboot : fp.boot) (hflash : fp.flash) (s : State) :
    outside fp (bootTimesOut s) = outside fp s := by
  simp [htray, hboot, hflash, bootMarks, floorsOf, bootTimesOut, outside_when]
@[simp] theorem outside_endCommands (hports : fp.ports) (hstreams : fp.streams) (hsketch : fp.sketch)
    (htray : fp.tray) (hboot : fp.boot) (hflash : fp.flash) (hhost : fp.host) (hhealth : fp.health) (s : State) :
    outside fp (endCommands s) = outside fp s := by
  simp only [endCommands, outside_updTray htray, outside_updHealth (.inl hhealth), outside_updStreams hstreams,
    outside_updSketch hsketch]
  rw [outside_updBoot hboot (.inr rfl), outside_flashPorts hflash hports (floorsOf_spoilBank _),
    outside_updHost (.inl hhost)]
@[simp] theorem outside_easelDown (hports : fp.ports) (hstreams : fp.streams) (hsketch : fp.sketch)
    (htray : fp.tray) (hboot : fp.boot) (hflash : fp.flash) (hhost : fp.host) (hhealth : fp.health) (s : State) :
    outside fp (easelDown s) = outside fp s := by
  simp [easelDown, hports, hstreams, hsketch, htray, hboot, hflash, hhost, hhealth, bootMarks]
@[simp] theorem outside_easelFails (hports : fp.ports) (hstreams : fp.streams) (hsketch : fp.sketch)
    (htray : fp.tray) (hboot : fp.boot) (hflash : fp.flash) (hhost : fp.host) (hhealth : fp.health) (cause : Nat)
    (copyBad : Bool) (s : State) :
    outside fp (easelFails cause copyBad s) = outside fp s := by
  simp [easelFails, hports, hstreams, hsketch, htray, hboot, hflash, hhost, hhealth, bootMarks]
@[simp] theorem outside_easelRead (hports : fp.ports) (hstreams : fp.streams) (hsketch : fp.sketch)
    (htray : fp.tray) (hboot : fp.boot) (hflash : fp.flash) (hhost : fp.host) (hhealth : fp.health)
    (stack row word : Nat) (e : WordError) (copyBad : Bool) (s : State) :
    outside fp (easelRead stack row word e copyBad s) = outside fp s := by
  simp [easelRead, hports, hstreams, hsketch, htray, hboot, hflash, hhost, hhealth]
@[simp] theorem outside_scrubEffect (hports : fp.ports) (hswitch : fp.switch) (hcanvas : fp.canvas)
    (hstreams : fp.streams) (hsketch : fp.sketch) (htray : fp.tray) (hboot : fp.boot) (hflash : fp.flash)
    (hhost : fp.host) (hhealth : fp.health) (site : ScrubSite) (held : Bool) (s : State) :
    outside fp (scrubEffect site held s) = outside fp s := by
  cases site <;> simp [scrubEffect, hports, hswitch, hcanvas, hstreams, hsketch, htray, hboot, hflash, hhost, hhealth]
@[simp] theorem outside_scrub (hports : fp.ports) (hswitch : fp.switch) (hcanvas : fp.canvas)
    (hstreams : fp.streams) (hsketch : fp.sketch) (htray : fp.tray) (hboot : fp.boot) (hflash : fp.flash)
    (hhost : fp.host) (hhealth : fp.health) (site : ScrubSite) (word : WordError) (s : State) :
    outside fp (scrub site word s) = outside fp s := by
  simp [scrub, hports, hswitch, hcanvas, hstreams, hsketch, htray, hboot, hflash, hhost, hhealth]
@[simp] theorem outside_endRestart (hboot : fp.boot) (hhealth : fp.health) (s : State) :
    outside fp (endRestart s) = outside fp s := by simp [hboot, hhealth, bootMarks, endRestart, easelWritten]
@[simp] theorem outside_restartOver (htray : fp.tray) (hboot : fp.boot) (hhealth : fp.health) (s : State) :
    outside fp (restartOver s) = outside fp s := by simp [restartOver, htray, hboot, hhealth, bootMarks]
@[simp] theorem outside_commandedRestart (hports : fp.ports) (hstreams : fp.streams) (hsketch : fp.sketch)
    (htray : fp.tray) (hboot : fp.boot) (hflash : fp.flash) (hhost : fp.host) (hhealth : fp.health) (s : State) :
    outside fp (commandedRestart s) = outside fp s := by
  simp [commandedRestart, hports, hstreams, hsketch, htray, hboot, hflash, hhost, hhealth, bootMarks]
@[simp] theorem outside_raiseFloor (hflash : fp.flash) (hfloors : fp.floors) (cfg : Bool) (s : State) :
    outside fp (raiseFloor cfg s) = outside fp s := by unfold raiseFloor; split <;> simp [hflash, hfloors]
@[simp] theorem outside_becomeReady (hcanvas : fp.canvas) (htray : fp.tray) (hboot : fp.boot) (hflash : fp.flash)
    (hfloors : fp.floors) (hhealth : fp.health) (pass : BitVec 32) (s : State) :
    outside fp (becomeReady pass s) = outside fp s := by
  simp [hcanvas, htray, hboot, hflash, hfloors, hhealth, bootMarks, becomeReady, noteActivated, outside_when]
@[simp] theorem outside_trips (htray : fp.tray) (hpower : fp.power) (hboot : fp.boot) (hmarks : fp.marks)
    (sensor : Nat) (tj : Int) (s : State) :
    outside fp (trips sensor tj s) = outside fp s := by simp [trips, htray, hpower, hboot, hmarks]
@[simp] theorem outside_scanData (hboot : fp.boot) (x : JtagScan) (s : State) :
    outside fp (scanData x s) = outside fp s := by simp [hboot, bootMarks, scanData, outside_when]

@[simp] theorem outside_loadPut (hports : fp.ports) (hswitch : fp.switch) (hstreams : fp.streams) (hhealth : fp.health)
    (id : Nat) (st : Stored) (s : State) : outside fp (loadPut id st s) = outside fp s := by
  simp [loadPut, hports, hswitch, hstreams, hhealth]

/-! ### Every command -/

/-- Commands that may change the reset, the trip or the straps: those that power, reset or trip the device, and the
strap sample. -/
def changesMarks : Instr → Bool
  | .powerOn | .powerLoss | .resetNAssert _ | .coreRailFall _ | .refclkLoss | .chipResetRelease | .strapSample _
  | .thermTrip _ _ | .chipResetDelayEnd => true
  | _ => false

/-- Commands that may change the floor record: the check of its tag, and a newly activated image that becomes ready. -/
def changesFloors : Instr → Bool
  | .powerOn | .powerLoss | .resetNAssert _ | .coreRailFall _ | .refclkLoss | .chipResetDelayEnd
  | .rootSecretComplete _ _ | .easelReady _ => true
  | _ => false

/-- What a command may change. -/
def footprint (c : Instr) : Footprint :=
  { ports := changesPorts c, lasers := changesLasers c, switch := changesSwitch c, canvas := changesCanvas c
    streams := changesStreams c, sketch := changesSketch c, tick := changesTick c, policy := changesPolicy c
    tray := changesTray c, power := changesPower c, boot := changesBoot c, marks := changesMarks c
    flash := changesFlash c, floors := changesFloors c, host := changesHost c, health := changesHealth c }

theorem outside_of_next {u : State} (hu : outside fp u = outside fp s) (h : (.next u : Res) = .next t) :
    outside fp t = outside fp s := by
  cases h
  exact hu

theorem outside_of_onUnit {ok : Bool} {f : State → State} (hf : outside fp (f s) = outside fp s)
    (h : onUnit ok f s = .next t) : outside fp t = outside fp s := by
  cases ok
  · cases h
  · exact outside_of_next hf h

/-- A command leaves everything outside its footprint as it is: of each command the operation it runs does. -/
theorem exec_outside {c : Instr} (h : exec c s = .next t) : outside (footprint c) t = outside (footprint c) s := by
  cases c with
  -- the whole device
  | powerOn | powerLoss | resetNAssert | coreRailFall | refclkLoss | chipResetDelayEnd => rfl
  -- commands that choose between operations in their own meaning
  | firmwareVerified =>
    refine outside_of_next
      (fp := { ports := true, switch := true, canvas := true, streams := true, sketch := true, tray := true
               power := true, boot := true, host := true, health := true }) ?_ h
    split
    · rfl
    · dsimp only
      split <;> simp
  | configVerified =>
    refine outside_of_next
      (fp := { ports := true, policy := true, tray := true, power := true, boot := true }) ?_ h
    split
    · rfl
    · dsimp only
      split <;> simp [bootMarks]
  | jtagInstructionUpdate instr scan =>
    refine outside_of_next (fp := { boot := true }) ?_ h
    cases scan <;> simp [bootMarks]
  -- the others, by what they may change
  | interruptCoalesceExpire | bar0BadAccess => exact outside_of_next (fp := {}) (by simp) h
  | refclkLock | bootFetchStart | jtagTestLogicReset =>
    exact outside_of_next (fp := { boot := true }) (by simp [bootMarks]) h
  | doneCacheExpire | refusalCacheExpire => exact outside_of_next (fp := { canvas := true }) (by simp) h
  | rowCopyComplete => exact outside_of_onUnit (fp := { health := true }) (by simp) h
  | tableRestore => exact outside_of_next (fp := { health := true }) (by simp) h
  | doorbellWrite | completionPost | cqHeadWrite | ringEnableWrite | ringReset =>
    exact outside_of_onUnit (fp := { host := true }) (by simp) h
  | perstAssert | functionLevelReset | busMasterEnableSet | eventRingEnableWrite | eventRingReset | erHeadWrite
  | intCauseClear | intMaskWrite | replyCacheExpire | perstRelease =>
    exact outside_of_next (fp := { host := true }) (by simp) h
  | laserMonitorSample | attenuatorRelease => exact outside_of_onUnit (fp := { lasers := true }) (by simp) h
  | modulatorLockUpdate | dropLockUpdate | transitionBlockEnd | lossOfSignalDeassert | lossOfLockDeassert
  | miswiredProbeStart | probeStart | probeExpire | attemptExpire | timeSetReceived | stepSetReceived
  | acquisitionEnd | selftestWindowEnd | reportFrameReceived | reportTimeout | resumeTimeout | retestSelftestStart
  | retryRequestRepeat =>
    exact outside_of_onUnit (fp := { ports := true }) (by simp) h
  | routeWeightUpdate => exact outside_of_next (fp := { ports := true }) (by simp) h
  | pwrAlertRelease | powerGovernorUpdate => exact outside_of_next (fp := { power := true }) (by simp) h
  | tileReadStart => exact outside_of_next (fp := { streams := true }) (by simp) h
  | holdTimeout | holdOwedEnd | holdEntryIdle => exact outside_of_next (fp := { switch := true }) (by simp) h
  | tickInMissing | tickPortLost => exact outside_of_next (fp := { tick := true }) (by simp) h
  | pumpAlarm | fanFault | coolingAlarmEnd | twinLaneTrained | twinLinkDown | i3cBusTake =>
    exact outside_of_onUnit (fp := { tray := true }) (by simp) h
  | coolingLoopUpdate | flowSample | coolantHot | heartbeatSend | heartbeatReceived | twinFrameCrcFail
  | heartbeatLost | stateDataReceived | stateEndReceived | stateRequestReceived | releaseReceived | controlCycleEnd
  | claimingLineLow | lockstepMismatch | controlWatchdogExpire | controlMemoryFault | plausibilityCheck | takeover
  | ownLineFault | coreRestartComplete | rmHeartbeat | devHeartbeat | devTelemetry | rmLost =>
    exact outside_of_next (fp := { tray := true }) (by simp) h
  | hbmTrainingComplete => exact outside_of_next (fp := { boot := true, health := true }) (by simp) h
  | pcieStageComplete | registerWrite => exact outside_of_next (fp := { boot := true, host := true }) (by simp) h
  | strapSample => exact outside_of_next (fp := { boot := true, marks := true }) (by simp) h
  | claimListenEnd | imageActivated => exact outside_of_next (fp := { policy := true, tray := true }) (by simp) h
  | rateStep | reportPhaseEnd | slotStreamFramed | graceExpire | stallVoidExpire =>
    exact outside_of_onUnit (fp := { ports := true, switch := true }) (by simp) h
  | creditRelease | escapeTimerExpire | queueDepthSample | terminatedDiscard | segmentPutVisible | telemetryGet =>
    exact outside_of_next (fp := { ports := true, switch := true }) (by simp) h
  | tileReadComplete => exact outside_of_next (fp := { streams := true, health := true }) (by simp) h
  | planSwitchTakeEffect => exact outside_of_next (fp := { streams := true, sketch := true }) (by simp) h
  | identify | getStatus | portInfo | countersRead | attest | ringEntryFetch =>
    exact outside_of_onUnit (fp := { switch := true, host := true }) (by simp) h
  | claim => exact outside_of_next (fp := { tray := true, boot := true }) (by simp) h
  | snapshotInterval => exact outside_of_next (fp := { tray := true, flash := true }) (by simp) h
  | pwrAlertAssert | alertHoldEnd | slopeGovernorUpdate | thermalSample | railCurrentSample | overcurrentLift =>
    exact outside_of_next (fp := { tray := true, power := true }) (by simp) h
  | rootSecretComplete => exact outside_of_next (fp := { boot := true, flash := true, floors := true }) (by simp) h
  | rmPolicy => exact outside_of_next (fp := { policy := true, tray := true, power := true }) (by simp) h
  | syncArrive | opTimeout | upTimeout =>
    exact outside_of_next (fp := { ports := true, switch := true, canvas := true }) (by simp) h
  | lookup => exact outside_of_onUnit (fp := { ports := true, switch := true, health := true }) (by simp) h
  | portEnable | portDisable | portWash | washPortDrained | washTimeout | portRetrain | portRetrainQuiesceEnd
  | ringLockLoss | lossOfSignalAssert | lossOfLockAssert | fomWindowEnd | pairCrossed | identSetReceived
  | announceReceived | alignmentMarkerReceived | ackTimeout =>
    exact outside_of_onUnit (fp := { ports := true, switch := true, host := true }) (by simp) h
  | cmd => exact outside_of_next (fp := { ports := true, switch := true, host := true }) (by simp) h
  | streamSubscribe | streamCancel =>
    exact outside_of_next (fp := { ports := true, switch := true, streams := true }) (by simp) h
  | fwUpdateBegin | fwUpdateData | fwUpdateCommit | chipResetChip | chipResetEasel =>
    exact outside_of_onUnit (fp := { switch := true, boot := true, host := true }) (by simp) h
  | flagsReadClear => exact outside_of_onUnit (fp := { switch := true, canvas := true, host := true }) (by simp) h
  | portsetDefine | routeWrite | selftestRun =>
    exact outside_of_onUnit (fp := { switch := true, host := true, health := true }) (by simp) h
  | slopeLimitSet => exact outside_of_onUnit (fp := { switch := true, power := true, host := true }) (by simp) h
  | sketchLoadBegin | sketchLoadData | sketchCommit | planSwitch =>
    exact outside_of_onUnit (fp := { switch := true, sketch := true, host := true }) (by simp) h
  | sealSegment | reopenSegment | rewindStream =>
    exact outside_of_onUnit (fp := { switch := true, streams := true, host := true }) (by simp) h
  | twinConfig | controlHandover =>
    exact outside_of_onUnit (fp := { switch := true, tray := true, host := true }) (by simp) h
  | handoverAckTimeout | stateAckReceived =>
    exact outside_of_next (fp := { switch := true, tray := true, host := true }) (by simp) h
  | bootAttemptTimeout => exact outside_of_next (fp := { tray := true, boot := true, flash := true }) (by simp) h
  | easelRestartComplete => exact outside_of_next (fp := { tray := true, boot := true, health := true }) (by simp) h
  | originatedPacketWrite =>
    exact outside_of_next (fp := { ports := true, switch := true, canvas := true, streams := true }) (by simp) h
  | segmentPut =>
    exact outside_of_next (fp := { ports := true, switch := true, streams := true, health := true }) (by simp) h
  | engineCalibrationComplete =>
    exact outside_of_onUnit (fp := { ports := true, switch := true, tick := true, host := true }) (by simp) h
  | fwUpdateWriteComplete =>
    exact outside_of_next (fp := { switch := true, boot := true, flash := true, host := true }) (by simp) h
  | groupDefine | groupDelete | syncArm | selftestStart =>
    exact outside_of_onUnit (fp := { switch := true, canvas := true, host := true, health := true }) (by simp) h
  | policySet =>
    exact outside_of_onUnit (fp := { switch := true, policy := true, tray := true, host := true }) (by simp) h
  | writeSegment | writeStream | writeList =>
    exact outside_of_onUnit (fp := { switch := true, streams := true, host := true, health := true }) (by simp) h
  | sealCheckComplete =>
    exact outside_of_next (fp := { switch := true, streams := true, host := true, health := true }) (by simp) h
  | powerModeSet =>
    exact outside_of_onUnit (fp := { switch := true, tray := true, power := true, host := true }) (by simp) h
  | chipResetRelease | thermTrip =>
    exact outside_of_next (fp := { tray := true, power := true, boot := true, marks := true }) (by simp) h
  | easelReady =>
    exact outside_of_next
      (fp := { canvas := true, tray := true, boot := true, flash := true, floors := true
               health := true }) (by simp) h
  | tickStart | tickInEdge =>
    exact outside_of_next
      (fp := { ports := true, canvas := true, streams := true, sketch := true, tick := true
               power := true }) (by simp) h
  | laneTestComplete | rowTestComplete | paletteTestComplete =>
    exact outside_of_onUnit
      (fp := { ports := true, switch := true, canvas := true, flash := true, host := true
               health := true }) (by simp) h
  | reduceContrib | combineContrib | reduceResultReceived | deferredPartAccept | schedSlotOpenResume
  | openingRateResume =>
    exact outside_of_next
      (fp := { ports := true, switch := true, canvas := true, sketch := true, tick := true
               health := true }) (by simp) h
  | slotBoundary | slotReceived =>
    exact outside_of_onUnit
      (fp := { ports := true, switch := true, sketch := true, tick := true, host := true
               health := true }) (by simp) h
  | easelMemoryUncorrectable =>
    exact outside_of_onUnit
      (fp := { ports := true, streams := true, sketch := true, tray := true, boot := true
               flash := true, host := true, health := true }) (by simp) h
  | easelWatchdogExpire =>
    exact outside_of_next
      (fp := { ports := true, streams := true, sketch := true, tray := true, boot := true
               flash := true, host := true, health := true }) (by simp) h
  | patrolScrub =>
    exact outside_of_onUnit
      (fp := { ports := true, switch := true, canvas := true, streams := true, sketch := true
               tray := true, boot := true, flash := true, host := true, health := true }) (by simp) h
  | commitChecksComplete | sketchActivate =>
    exact outside_of_next
      (fp := { ports := true, switch := true, canvas := true, streams := true, sketch := true
               tick := true, policy := true, tray := true, power := true, host := true
               health := true }) (by simp) h

end Sys2Proof.Machine
end

section
/-! PROOFS. What commands leave alone, and what becomes of the reset, the trip, the straps and the floors. -/

namespace Sys2Proof.Machine

variable {c : Instr} {s t : State}

/-- What a chip reset leaves of the reset, the trip and the straps. -/
def resetMarks (thermTrip : Bool) : BootMarks :=
  { inReset := true, thermTrip := thermTrip, strapsValid := false, slotId := 0, pos := 0, role := 2, bootSrc := 0 }

/-- What a command makes of the reset, the trip and the straps `m`. -/
inductive MarksFate (c : Instr) (m : BootMarks) : BootMarks → Prop
  | kept : MarksFate c m m
  | reset : MarksFate c m (resetMarks m.thermTrip)
  | powered (h : c = .powerOn ∨ c = .powerLoss) : MarksFate c m (resetMarks false)
  | released (h : m.thermTrip = false) : MarksFate c m { m with inReset := false }
  | sampled (x : StrapPins) (slotId : BitVec 4) (pos role bootSrc : BitVec 2) (hc : c = .strapSample x)
      (h : m.strapsValid = false) :
      MarksFate c m
        { m with strapsValid := true, slotId := slotId, pos := pos, role := role, bootSrc := bootSrc }
  | tripped : MarksFate c m { m with thermTrip := true }

theorem bootMarks_chipReset (s : State) :
    bootMarks (chipReset s).boot = resetMarks (bootMarks s.boot).thermTrip := rfl

theorem MarksFate.of_eq {m m' : BootMarks} (h : m' = m) : MarksFate c m m' := h ▸ .kept

theorem MarksFate.of_eq_of {m m' m'' : BootMarks} (h : m'' = m') (hm : MarksFate c m m') : MarksFate c m m'' := h ▸ hm

theorem marksFate_chipReset (h : bootMarks t.boot = bootMarks s.boot) :
    MarksFate c (bootMarks s.boot) (bootMarks (chipReset t).boot) := by
  rw [bootMarks_chipReset, h]
  exact .reset

theorem marksFate_leaveReset (s : State) :
    MarksFate c (bootMarks s.boot) (bootMarks (when (mayLeaveReset s) leaveReset s).boot) := by
  unfold when
  split
  next hmay =>
    have htrip : (bootMarks s.boot).thermTrip = false := by
      simp only [mayLeaveReset, Bool.and_eq_true, Bool.not_eq_true'] at hmay
      exact hmay.1.2
    have hboot : ∀ u : State, (when s.power.alert alertRequest u).boot = u.boot := fun u =>
      boot_of_outside (fp := { tray := true, power := true }) (by simp) rfl
    simp only [leaveReset, hboot]
    exact .released htrip
  next => exact .kept

theorem marksFate_trips (sensor : Nat) (tj : Int) (s : State) :
    MarksFate c (bootMarks s.boot) (bootMarks (trips sensor tj s).boot) := by
  unfold trips
  split
  · exact .kept
  · dsimp only
    split
    · exact .tripped
    · refine .of_eq_of (marks_of_outside (s := updBoot (fun b => { b with thermTrip := true }) s)
        (fp := { tray := true, power := true }) ?_ rfl) .tripped
      simp

theorem marksFate_delayEnds (s : State) : MarksFate c (bootMarks s.boot) (bootMarks (delayEnds s).boot) := by
  unfold delayEnds
  split
  · exact .kept
  · split
    · exact .kept
    · split
      · exact marksFate_chipReset rfl
      · exact .of_eq (marks_of_outside (fp := { ports := true, streams := true, sketch := true, tray := true
                                                boot := true, flash := true, host := true, health := true })
          (by simp) rfl)

theorem marksFate_sampleStraps (x : StrapPins) (s : State) :
    MarksFate (.strapSample x) (bootMarks s.boot) (bootMarks (sampleStraps x s).boot) := by
  unfold sampleStraps
  split
  · exact .kept
  · rename_i h
    simp only [Bool.or_eq_true, not_or, Bool.not_eq_true] at h
    exact .sampled x _ _ _ _ rfl h.1.2

theorem chipResetRelease_marks (s : State) :
    let u := when s.boot.powered (updBoot (fun b => { b with resetLow := false })) s
    bootMarks u.boot = bootMarks s.boot ∧ mayLeaveReset u = mayLeaveReset s := by
  dsimp only [when]
  split <;> exact ⟨rfl, rfl⟩

/-- Every command keeps the reset, the trip and the straps, or does with them what R432, R433, R440 and R443 state. -/
theorem exec_marks (h : exec c s = .next t) : MarksFate c (bootMarks s.boot) (bootMarks t.boot) := by
  cases c with
  | powerOn =>
    obtain rfl : _ = t := Host.Outcome.next.inj h
    split
    · exact .kept
    · exact .powered (.inl rfl)
  | powerLoss =>
    obtain rfl : _ = t := Host.Outcome.next.inj h
    exact .powered (.inr rfl)
  | resetNAssert | refclkLoss =>
    obtain rfl : _ = t := Host.Outcome.next.inj h
    split
    · exact .kept
    · exact marksFate_chipReset rfl
  | coreRailFall rail =>
    obtain rfl : _ = t := Host.Outcome.next.inj h
    split
    · exact .kept
    · refine marksFate_chipReset ?_
      unfold when
      split <;> rfl
  | chipResetDelayEnd =>
    obtain rfl : _ = t := Host.Outcome.next.inj h
    exact marksFate_delayEnds s
  | chipResetRelease =>
    obtain rfl : _ = t := Host.Outcome.next.inj h
    obtain ⟨hmarks, hmay⟩ := chipResetRelease_marks s
    rw [← hmarks, ← hmay]
    exact marksFate_leaveReset _
  | strapSample x =>
    obtain rfl : _ = t := Host.Outcome.next.inj h
    exact marksFate_sampleStraps x s
  | thermTrip sensor tj =>
    obtain rfl : _ = t := Host.Outcome.next.inj h
    exact marksFate_trips sensor tj s
  | _ => exact .of_eq (marks_of_outside (exec_outside h) rfl)

/-- Settles O6: a chip reset keeps the trip, and no device leaves chip reset while it has tripped. -/
theorem thermalTripHoldsUntilPowerIsRemoved : Obligations.ThermalTripHoldsUntilPowerIsRemoved := by
  intro c s t hloss hon htrip h
  have hm := exec_marks h
  show (bootMarks t.boot).thermTrip = true ∧ ((bootMarks s.boot).inReset = true → (bootMarks t.boot).inReset = true)
  replace htrip : (bootMarks s.boot).thermTrip = true := htrip
  generalize bootMarks s.boot = m, bootMarks t.boot = m' at hm htrip ⊢
  cases hm with
  | kept | sampled => exact ⟨htrip, id⟩
  | tripped => exact ⟨rfl, id⟩
  | reset => exact ⟨htrip, fun _ => rfl⟩
  | powered hc => exact absurd hc (not_or.2 ⟨hon, hloss⟩)
  | released hno => exact absurd (htrip.symm.trans hno) (by decide)

theorem straps_kept_or_reset (hv : s.boot.strapsValid = true) (h : exec c s = .next t) :
    (t.boot.strapsValid = true ∧ t.boot.slotId = s.boot.slotId ∧ t.boot.pos = s.boot.pos ∧
      t.boot.role = s.boot.role ∧ t.boot.bootSrc = s.boot.bootSrc) ∨
    (t.boot.inReset = true ∧ t.boot.strapsValid = false) := by
  have hm := exec_marks h
  change (bootMarks s.boot).strapsValid = true at hv
  change ((bootMarks t.boot).strapsValid = true ∧ (bootMarks t.boot).slotId = (bootMarks s.boot).slotId ∧
    (bootMarks t.boot).pos = (bootMarks s.boot).pos ∧ (bootMarks t.boot).role = (bootMarks s.boot).role ∧
    (bootMarks t.boot).bootSrc = (bootMarks s.boot).bootSrc) ∨
    ((bootMarks t.boot).inReset = true ∧ (bootMarks t.boot).strapsValid = false)
  generalize bootMarks s.boot = m, bootMarks t.boot = m' at hm hv ⊢
  cases hm with
  | kept | released | tripped => exact .inl ⟨hv, rfl, rfl, rfl, rfl⟩
  | reset | powered => exact .inr ⟨rfl, rfl⟩
  | sampled _ _ _ _ _ _ hno => exact absurd (hv.symm.trans hno) (by decide)

theorem straps_kept_or_default (hv : s.boot.strapsValid = false) (hc : ∀ x, c ≠ .strapSample x)
    (h : exec c s = .next t) :
    t.boot.strapsValid = false ∧
      ((t.boot.slotId = s.boot.slotId ∧ t.boot.pos = s.boot.pos ∧ t.boot.role = s.boot.role ∧
          t.boot.bootSrc = s.boot.bootSrc) ∨
        (t.boot.inReset = true ∧ t.boot.slotId = 0 ∧ t.boot.pos = 0 ∧ t.boot.role = 2 ∧ t.boot.bootSrc = 0)) := by
  have hm := exec_marks h
  change (bootMarks s.boot).strapsValid = false at hv
  change (bootMarks t.boot).strapsValid = false ∧ (((bootMarks t.boot).slotId = (bootMarks s.boot).slotId ∧
    (bootMarks t.boot).pos = (bootMarks s.boot).pos ∧ (bootMarks t.boot).role = (bootMarks s.boot).role ∧
    (bootMarks t.boot).bootSrc = (bootMarks s.boot).bootSrc) ∨
    ((bootMarks t.boot).inReset = true ∧ (bootMarks t.boot).slotId = 0 ∧ (bootMarks t.boot).pos = 0 ∧
      (bootMarks t.boot).role = 2 ∧ (bootMarks t.boot).bootSrc = 0))
  generalize bootMarks s.boot = m, bootMarks t.boot = m' at hm hv ⊢
  cases hm with
  | kept | released | tripped => exact ⟨hv, .inl ⟨rfl, rfl, rfl, rfl⟩⟩
  | reset | powered => exact ⟨rfl, .inr ⟨rfl, rfl, rfl, rfl, rfl⟩⟩
  | sampled x _ _ _ _ hx => exact absurd hx (hc x)

/-- Settles O7: the straps by what becomes of the marks, the rest by the commands' footprints. -/
theorem strapsSwitchHostAndHealthFrame : Obligations.StrapsSwitchHostAndHealthFrame :=
  ⟨fun _ _ _ hv h => straps_kept_or_reset hv h, fun _ _ _ hv hc h => straps_kept_or_default hv hc h,
    fun _ _ _ h => ⟨switch_of_outside (exec_outside h), host_of_outside (exec_outside h),
      health_of_outside (exec_outside h)⟩⟩

/-- Settles O10: ports and laser inputs lie outside the footprint of every other command. -/
theorem portsAndLasersFrame : Obligations.PortsAndLasersFrame := fun _ _ _ h =>
  ⟨ports_of_outside (exec_outside h), lasers_of_outside (exec_outside h)⟩

/-- Settles O11: the Canvas and the streams lie outside the footprint of every other command. -/
theorem canvasAndStreamsFrame : Obligations.CanvasAndStreamsFrame := fun _ _ _ h =>
  ⟨canvas_of_outside (exec_outside h), streams_of_outside (exec_outside h)⟩

/-- Settles O12: the sketch, the tick and the policy lie outside the footprint of every other command. -/
theorem sketchTickAndPolicyFrame : Obligations.SketchTickAndPolicyFrame := fun _ _ _ h =>
  ⟨sketch_of_outside (exec_outside h), tick_of_outside (exec_outside h), policy_of_outside (exec_outside h)⟩

/-- Settles O13: tray, power, start-up and flash lie outside the footprint of every other command. -/
theorem trayPowerBootAndFlashFrame : Obligations.TrayPowerBootAndFlashFrame := fun _ _ _ h =>
  ⟨tray_of_outside (exec_outside h), power_of_outside (exec_outside h), boot_of_outside (exec_outside h),
    flash_of_outside (exec_outside h)⟩

/-! ### The floors (R425) -/

/-- Both floors of `f` are at most those of `g`, whose tag is right. -/
def FloorsLe (f g : Flash) : Prop :=
  g.floorOk = true ∧ f.fwFloor.toNat ≤ g.fwFloor.toNat ∧ f.cfgFloor.toNat ≤ g.cfgFloor.toNat

theorem floorsLe_of_floorsOf {f g : Flash} (hok : f.floorOk = true) (h : floorsOf g = floorsOf f) : FloorsLe f g := by
  simp only [floorsOf, Prod.mk.injEq] at h
  obtain ⟨hfw, hcfg, hg⟩ := h
  exact ⟨hg.trans hok, hfw.symm ▸ le_refl _, hcfg.symm ▸ le_refl _⟩

theorem FloorsLe.trans {f g h : Flash} (hfg : FloorsLe f g) (hgh : FloorsLe g h) : FloorsLe f h :=
  ⟨hgh.1, hfg.2.1.trans hgh.2.1, hfg.2.2.trans hgh.2.2⟩

theorem w32_toNat (v : W32) : w32 v.toNat = v := BitVec.ofNat_toNat ..

theorem w32_toNat_max (v w : W32) : (w32 (max v.toNat w.toNat)).toNat = max v.toNat w.toNat :=
  Nat.mod_eq_of_lt (max_lt v.isLt w.isLt)

theorem floorsLe_raiseFloor (cfg : Bool) (hok : s.flash.floorOk = true) :
    FloorsLe s.flash (raiseFloor cfg s).flash := by
  unfold raiseFloor
  split
  · exact floorsLe_of_floorsOf hok rfl
  · rw [flash_of_outside (fp := {}) (outside_raise ..) rfl]
    cases cfg <;> simp [FloorsLe, floorOf, hok, w32_toNat, w32_toNat_max]

theorem floorsLe_noteActivated (cfg : Bool) (version : W32) (hok : s.flash.floorOk = true) :
    FloorsLe s.flash (noteActivated cfg version s).flash := by
  have hf : (updateStep cfg 2 version s).flash = s.flash := flash_of_outside (fp := {}) (by simp) rfl
  rw [← hf] at hok ⊢
  exact floorsLe_raiseFloor cfg hok

theorem floorsLe_when {f : State → State} (b : Bool) (hok : s.flash.floorOk = true)
    (hf : FloorsLe s.flash (f s).flash) : FloorsLe s.flash (when b f s).flash := by
  cases b
  · exact floorsLe_of_floorsOf hok rfl
  · exact hf

theorem floorsLe_becomeReady (pass : BitVec 32) (hok : s.flash.floorOk = true) :
    FloorsLe s.flash (becomeReady pass s).flash := by
  unfold becomeReady
  extract_lets newFw newCfg u1 u2 u3 u4 u5
  have hu : u4.flash = s.flash := flash_of_outside (fp := { canvas := true, tray := true, boot := true, health := true })
    (by simp [u1, u2, u3, u4, bootMarks]) rfl
  rw [← hu] at hok ⊢
  have hfw : FloorsLe u4.flash u5.flash := floorsLe_when _ hok (floorsLe_noteActivated _ _ hok)
  exact hfw.trans (floorsLe_when _ hfw.1 (floorsLe_noteActivated _ _ hfw.1))

/-- A chip reset and a loss of power change the banks, and not the floors. -/
theorem floorsOf_chipReset (s : State) : floorsOf (chipReset s).flash = floorsOf s.flash := floorsOf_spoilBank s

theorem floorsOf_delayEnds (s : State) : floorsOf (delayEnds s).flash = floorsOf s.flash := by
  unfold delayEnds
  split
  · rfl
  · split
    · rfl
    · split
      · exact floorsOf_chipReset s
      · exact floors_of_outside (fp := { ports := true, streams := true, sketch := true, tray := true, boot := true
                                         flash := true, host := true, health := true }) (by simp) rfl

theorem exec_floorsLe (hc : ∀ k b, c ≠ .rootSecretComplete k b) (hok : s.flash.floorOk = true)
    (h : exec c s = .next t) : FloorsLe s.flash t.flash := by
  cases c with
  | rootSecretComplete k b => exact absurd rfl (hc k b)
  | powerOn =>
    obtain rfl := Host.Outcome.next.inj h
    refine floorsLe_of_floorsOf hok ?_
    split <;> rfl
  | powerLoss =>
    obtain rfl := Host.Outcome.next.inj h
    exact floorsLe_of_floorsOf hok (floorsOf_spoilBank s)
  | resetNAssert | refclkLoss =>
    obtain rfl := Host.Outcome.next.inj h
    refine floorsLe_of_floorsOf hok ?_
    split
    · rfl
    · exact floorsOf_chipReset _
  | coreRailFall rail =>
    obtain rfl := Host.Outcome.next.inj h
    refine floorsLe_of_floorsOf hok ?_
    split
    · rfl
    · refine (floorsOf_chipReset _).trans (congrArg floorsOf ?_)
      unfold when
      split <;> rfl
  | chipResetDelayEnd =>
    obtain rfl := Host.Outcome.next.inj h
    exact floorsLe_of_floorsOf hok (floorsOf_delayEnds s)
  | easelReady pass =>
    obtain rfl := Host.Outcome.next.inj h
    split
    · exact floorsLe_of_floorsOf hok rfl
    · exact floorsLe_becomeReady pass hok
  | _ => exact floorsLe_of_floorsOf hok (floors_of_outside (exec_outside h) rfl)

/-- Settles O8: a floor record is written with the larger of its floor and the new one. -/
theorem floorsNeverFall : Obligations.FloorsNeverFall := fun _ _ _ hc hok h => (exec_floorsLe hc hok h).2

end Sys2Proof.Machine
end

section
/-! PROOFS. The step, and the state after reset. -/

namespace Sys2Proof.Machine

/-- Settles O1: the two branches of the step. -/
theorem stepRunsTheFrontCommand : Obligations.StepRunsTheFrontCommand :=
  ⟨fun s c rest h => by rw [step, h], fun s h => by rw [step, h]⟩

theorem reset_portOf {p : Nat} (hp : p < 96) : portOf State.reset p = {} := by
  simp only [portOf, State.reset, List.getD_replicate _ hp]

/-- Settles O5: the fields of the reset state, its ten vectors, four rings and 96 ports one by one. -/
theorem resetLeavesWhatTheSpecStates : Obligations.ResetLeavesWhatTheSpecStates := by
  refine ⟨rfl, rfl, rfl, rfl, rfl, by decide, ?_, rfl, rfl, rfl, rfl, rfl, by decide, ?_⟩
  · intro r hr
    interval_cases r <;> rfl
  · intro p hp
    rw [reset_portOf hp]
    exact ⟨rfl, rfl⟩

end Sys2Proof.Machine
end

section
/-! PROOFS. Resets of one PCI Express function and the test access port. -/

namespace Sys2Proof.Machine

theorem updFn_const_fnOf (hp : HostPort) (f : HostFn → HostFn) (s : State) :
    updFn hp f s = updFn hp (fun _ => fnOf (updFn hp f s) hp) s := by
  cases hp <;> rfl

theorem discardCmd_discards {x : Option RingCmd} {c : RingCmd} (h : discardCmd x = some c) : c.discard = true := by
  unfold discardCmd at h
  split at h
  · cases h
  · split at h
    · cases h
    · obtain rfl := Option.some.inj h
      rfl

theorem functionReset_rings (f : HostFn) {x : Ring} (hx : x ∈ (functionReset f).rings) :
    x.enable = false ∧ x.crHead = 0 ∧ x.halted = false ∧ ∀ c, x.cmd = some c → c.discard = true := by
  obtain ⟨y, -, rfl⟩ := List.mem_map.1 hx
  exact ⟨rfl, rfl, rfl, fun c hc => discardCmd_discards hc⟩

theorem functionLevelReset_function (s : State) (hp : HostPort) :
    ∃ t, exec (.functionLevelReset hp) s = .next t ∧ (fnOf t hp).intMask = 0x3FF ∧
      (fnOf t hp).intCause = 0 ∧ (fnOf t hp).erEnable = false ∧ (fnOf t hp).msixEnable = false ∧
      (∀ x ∈ (fnOf t hp).rings, x.enable = false ∧ x.crHead = 0 ∧ x.halted = false ∧
        (∀ c, x.cmd = some c → c.discard = true)) ∧
      (fnOf t hp).bme = (fnOf s hp).bme ∧ (fnOf t hp).linkUp = (fnOf s hp).linkUp ∧
      t = updFn hp (fun _ => fnOf t hp) s := by
  refine ⟨_, rfl, ?_⟩
  rw [← updFn_const_fnOf, fnOf_updFn]
  exact ⟨rfl, rfl, rfl, rfl, fun x hx => functionReset_rings _ hx, rfl, rfl, rfl⟩

theorem perstAssert_function (s : State) (hp : HostPort) :
    ∃ t, exec (.perstAssert hp) s = .next t ∧ (fnOf t hp).perst = true ∧ (fnOf t hp).linkUp = false ∧
      (fnOf t hp).intMask = 0x3FF ∧ t = updFn hp (fun _ => fnOf t hp) s := by
  refine ⟨_, rfl, ?_⟩
  rw [← updFn_const_fnOf, fnOf_updFn]
  exact ⟨rfl, rfl, rfl, rfl⟩

theorem perstRelease_trains (s : State) (hp : HostPort) (k : PcieLink) (hlive : Live s)
    (hperst : (fnOf s hp).perst = true) (hup : s.boot.pcieUp = true) :
    exec (.perstRelease hp k) s =
      .next (updFn hp (fun f => { f with perst := false, link := k, linkUp := true }) s) := by
  obtain ⟨hpow, hreset⟩ := hlive
  show Host.Outcome.next (when _ _ s) = _
  rw [when, if_pos hperst, hpow, hreset, hup]
  rfl

theorem flushPending_none {s : State} {hp : HostPort} (h : (fnOf s hp).msixPba = 0) : flushPending hp s = s := by
  have hno : maskList 64 (fnOf s hp).msixPba.toNat = [] := by rw [h]; decide
  simp only [flushPending, hno, List.filter_nil, forEach_nil, ite_self]

theorem busMasterEnableSet_nothingPending (s : State) (hp : HostPort) (hok : linkOk s hp = true)
    (hpba : (fnOf s hp).msixPba = 0) :
    exec (.busMasterEnableSet hp) s = .next (updFn hp (fun f => { f with bme := true }) s) := by
  show Host.Outcome.next (when _ _ s) = _
  rw [when, if_pos hok, setBusMaster, flushPending_none]
  rw [fnOf_updFn, hpba]

/-! ### The test access port (R459, R460) -/

theorem jtagInstructionUpdate_takes (s : State) {i : JtagInstr} (hi : takesPins i = true) :
    exec (.jtagInstructionUpdate i none) s = .next { s with boot := { s.boot with
      jtag := if s.boot.resetLow then i else .bypass, jtagHolds := s.boot.resetLow } } := by
  cases h : s.boot.resetLow <;> simp [exec, execJtagInstructionUpdate, updBoot, hi, h]

theorem scanData_tdo (x : JtagScan) (u : State) :
    let r := captured u.boot.jtag x.levels ++ x.tdi
    (scanData x u).out = .tdo (r.take x.tdi.length) :: u.out ∧
      (scanData x u).boot =
        if scansBoundary u.boot.jtag then { u.boot with boundary := r.drop x.tdi.length } else u.boot := by
  cases h : scansBoundary u.boot.jtag <;> simp [scanData, when, h, emit]

theorem jtagInstructionUpdate_scan (s : State) (i : JtagInstr) (x : JtagScan) :
    ∃ t u, exec (.jtagInstructionUpdate i none) s = .next u ∧ exec (.jtagInstructionUpdate i (some x)) s = .next t ∧
      (let r := captured u.boot.jtag x.levels ++ x.tdi
       t.out = .tdo (r.take x.tdi.length) :: s.out ∧
         t.boot = if scansBoundary u.boot.jtag then { u.boot with boundary := r.drop x.tdi.length } else u.boot) :=
  ⟨_, _, rfl, rfl, scanData_tdo x _⟩

theorem chipResetRelease_jtagHolds (s : State) (hpow : s.boot.powered = true) (hholds : s.boot.jtagHolds = true) :
    exec .chipResetRelease s = .next { s with boot := { s.boot with resetLow := false } } := by
  have hmay : mayLeaveReset s = false := by simp [mayLeaveReset, hholds]
  show Host.Outcome.next (when (mayLeaveReset s) leaveReset (when s.boot.powered _ s)) = _
  rw [hmay, hpow]
  rfl

theorem captured_getD {i : JtagInstr} {n k : Nat} {f : Nat → Bool} {l : List Bool}
    (h : captured i l = (List.range k).map f) (hn : n < k) : (captured i l).getD n false = f n := by
  simp [h, hn, List.getD_eq_getElem?_getD]

/-- Settles O20, clause by clause: one function's reset touches that function, an instruction or a scan the test logic. -/
theorem functionResetsAndTestAccess : Obligations.FunctionResetsAndTestAccess := by
  refine ⟨functionLevelReset_function, perstAssert_function, perstRelease_trains, busMasterEnableSet_nothingPending,
    ?takes, ?leaves, fun _ => rfl, chipResetRelease_jtagHolds, by decide, jtagInstructionUpdate_scan,
    fun l n hn => captured_getD rfl hn, fun l n hn => captured_getD (f := fun m => l.getD m false) rfl hn, fun l => ⟨?_, ?_, rfl⟩⟩
  case takes =>
    intro s i hi
    have htakes : takesPins i = true := by rcases hi with rfl | rfl | rfl | rfl | rfl <;> rfl
    exact jtagInstructionUpdate_takes s htakes
  case leaves =>
    rintro s i (rfl | rfl | rfl) <;> rfl
  · simp [captured]
  · simp [captured, scansBoundary, boundaryCells]

end Sys2Proof.Machine
end

section
/-! PROOFS. The host rings (R329 to R334): what sending messages leaves as it is, the registers of the command rings and of
the event ring. -/

namespace Sys2Proof.Machine

/-! ### What messages leave as it is (R328) -/

/-- A function of the host interface without what messages and causes change. -/
def quietFn (f : HostFn) : HostFn :=
  { f with intCause := 0, posted := 0, firstHeld := none, heldCauses := 0, msixPba := 0 }

/-- A state without what messages and causes change, and without its output. -/
def quiet (s : State) : State :=
  { s with host := { s.host with fnA := quietFn s.host.fnA, fnB := quietFn s.host.fnB }, out := [] }

theorem quiet_updFn {hp : HostPort} {f : HostFn → HostFn} (s : State)
    (h : ∀ x, quietFn (f x) = quietFn x := by intro _; rfl) : quiet (updFn hp f s) = quiet s := by
  cases hp <;> simp [quiet, updFn, h]

@[simp] theorem quiet_emit (o : Output) (s : State) : quiet (emit o s) = quiet s := rfl

@[simp] theorem quiet_sendVector (hp : HostPort) (v : BitVec 6) (s : State) : quiet (sendVector hp v s) = quiet s := by
  simp only [sendVector]
  split
  · rfl
  · split
    · exact quiet_updFn s
    · exact quiet_updFn s

@[simp] theorem quiet_sendCause (hp : HostPort) (i : Nat) (s : State) : quiet (sendCause hp i s) = quiet s :=
  quiet_sendVector ..

@[simp] theorem quiet_releaseHeld (hp : HostPort) (s : State) : quiet (releaseHeld hp s) = quiet s := by
  simp only [releaseHeld]
  split
  · rfl
  · exact (forEach_keeps quiet (quiet_sendCause hp) ..).trans (quiet_updFn s)

@[simp] theorem quiet_setCause (hp : HostPort) (i : Nat) (s : State) : quiet (setCause hp i s) = quiet s := by
  have hset : ∀ u : State, quiet (updFn hp (fun x => { x with intCause := x.intCause ||| (1 : BitVec 10) <<< i }) u) =
      quiet u := fun u => quiet_updFn u
  simp only [setCause]
  split
  · rfl
  · split
    · exact hset s
    · split
      · rw [quiet_releaseHeld, quiet_updFn, hset]
      · rw [quiet_sendCause, hset]

@[simp] theorem quiet_notePosted (hp : HostPort) (s : State) : quiet (notePosted hp s) = quiet s :=
  quiet_updFn s

section
variable {s t : State} (h : quiet t = quiet s)
include h

theorem quietFn_of_quiet (hp : HostPort) : quietFn (fnOf t hp) = quietFn (fnOf s hp) := by
  cases hp
  · exact congrArg (fun x => x.host.fnA) h
  · exact congrArg (fun x => x.host.fnB) h

theorem rings_of_quiet (hp : HostPort) : (fnOf t hp).rings = (fnOf s hp).rings :=
  (congrArg HostFn.rings (quietFn_of_quiet h hp) :)

theorem ringOf_of_quiet (hp : HostPort) (r : Nat) : ringOf t hp r = ringOf s hp r :=
  congrArg (fun l => l.getD r {}) (rings_of_quiet h hp)

theorem hostCtr_of_quiet : t.host.ctr = s.host.ctr := congrArg (fun x => x.host.ctr) h

end

theorem ringOf_updRing {s : State} {hp : HostPort} {r : Nat} (h : r < (fnOf s hp).rings.length) (f : Ring → Ring) :
    ringOf (updRing hp r f s) hp r = f (ringOf s hp r) := by
  simp [ringOf, updRing, fnOf_updFn, List.getD_eq_getElem?_getD, h]

@[simp] theorem rings_updRing_length (hp : HostPort) (r : Nat) (f : Ring → Ring) (s : State) :
    (fnOf (updRing hp r f s) hp).rings.length = (fnOf s hp).rings.length := by
  simp [updRing, fnOf_updFn]

/-! ### A ring halts (R331) -/

theorem haltRing_halts {s : State} {hp : HostPort} {r : Nat} (h : r < (fnOf s hp).rings.length) :
    ringOf (haltRing hp r s) hp r = { ringOf s hp r with halted := true } ∧
      (fnOf (haltRing hp r s) hp).intCause.getLsbD 6 = true ∧
      (haltRing hp r s).host.ctr = bump 7 1 s.host.ctr := by
  have hq : quiet (haltRing hp r s) = quiet (hostCount 7 1 (updRing hp r (fun x => { x with halted := true }) s)) :=
    quiet_setCause ..
  refine ⟨?_, ?_, ?_⟩
  · rw [ringOf_of_quiet hq]
    exact ringOf_updRing h _
  · rw [haltRing, ringError, intCause_setCause]
    simp
  · rw [hostCtr_of_quiet hq]
    cases hp <;> rfl

theorem ringError_sets (hp : HostPort) (s : State) :
    (fnOf (ringError hp s) hp).intCause.getLsbD 6 = true ∧ quiet (ringError hp s) = quiet s := by
  refine ⟨?_, quiet_setCause ..⟩
  rw [ringError, intCause_setCause]
  simp

theorem checkTail_keeps {s : State} {hp : HostPort} {r : Nat}
    (h : (ringOf s hp r).enable = false ∨ (ringOf s hp r).halted = true ∨
      (ringOf s hp r).crTail.toNat < 2 ^ (ringOf s hp r).crSize.toNat) : checkTail hp r s = s := by
  unfold checkTail
  refine if_neg ?_
  rcases h with h | h | h
  · simp [h]
  · simp [h]
  · simp [ringSize, Nat.not_le.2 h]

theorem checkTail_halts {s : State} {hp : HostPort} {r : Nat} (hen : (ringOf s hp r).enable = true)
    (hh : (ringOf s hp r).halted = false) (ht : 2 ^ (ringOf s hp r).crSize.toNat ≤ (ringOf s hp r).crTail.toNat) :
    checkTail hp r s = haltRing hp r s := by
  unfold checkTail
  exact if_pos (by simp [hen, hh, ringSize, ht])

/-! ### Writes to a ring's registers (R329) -/

theorem onUnit_of {p : Prop} [Decidable p] (h : p) (f : State → State) (s : State) :
    onUnit (decide p) f s = .next (f s) := by
  rw [onUnit, if_pos (decide_eq_true h)]

theorem when_of {b : Bool} (h : b = true) (f : State → State) (s : State) : when b f s = f s := if_pos h

section
variable {s : State} {hp : HostPort} {r : Nat} (v : W32)

theorem exec_doorbellWrite (hr : r < 4) (hb : barOk s hp = true) :
    exec (.doorbellWrite hp r v) s =
      .next (checkTail hp r (updRing hp r (fun x => { x with crTail := v.setWidth 12 }) s)) := by
  show onUnit (decide (r < 4)) (doorbell hp r v) s = _
  rw [onUnit_of hr, doorbell, hb]
  rfl

theorem doorbellWrite_inRing (hr : r < 4) (hb : barOk s hp = true)
    (hv : (v.setWidth 12).toNat < 2 ^ (ringOf s hp r).crSize.toNat) :
    exec (.doorbellWrite hp r v) s = .next (updRing hp r (fun x => { x with crTail := v.setWidth 12 }) s) := by
  rw [exec_doorbellWrite v hr hb, checkTail_keeps]
  by_cases hlen : r < (fnOf s hp).rings.length
  · rw [ringOf_updRing hlen]
    exact .inr (.inr hv)
  · refine .inl ?_
    refine (ringOf_updRing_keeps Ring.enable ?_ hp r r s).trans ?_
    · exact fun _ => rfl
    · simp [ringOf, List.getElem?_eq_none (Nat.not_lt.1 hlen)]

theorem doorbellWrite_outside (hr : r < 4) (hlen : (fnOf s hp).rings.length = 4) (hb : barOk s hp = true)
    (hen : (ringOf s hp r).enable = true) (hh : (ringOf s hp r).halted = false)
    (hv : 2 ^ (ringOf s hp r).crSize.toNat ≤ (v.setWidth 12).toNat) :
    ∃ t, exec (.doorbellWrite hp r v) s = .next t ∧ (ringOf t hp r).halted = true ∧
      (fnOf t hp).intCause.getLsbD 6 = true ∧ t.host.ctr = bump 7 1 s.host.ctr := by
  have hlt : r < (fnOf s hp).rings.length := hlen ▸ hr
  have hx := ringOf_updRing hlt fun x => { x with crTail := v.setWidth 12 }
  refine ⟨_, exec_doorbellWrite v hr hb, ?_⟩
  rw [checkTail_halts (hx ▸ hen) (hx ▸ hh) (hx ▸ hv)]
  obtain ⟨hring, hcause, hctr⟩ :=
    haltRing_halts (s := updRing hp r (fun x => { x with crTail := v.setWidth 12 }) s) (by rwa [rings_updRing_length])
  exact ⟨congrArg Ring.halted hring, hcause, hctr.trans (by cases hp <;> rfl)⟩

theorem ringControl_off (hb : barOk s hp = true) (h1 : v.getLsbD 1 = false) (h0 : v.getLsbD 0 = false) :
    ringControl hp r v s = updRing hp r (fun x => { x with enable := false }) s := by
  simp only [ringControl, hb, h1, h0, when, Bool.not_true, Bool.not_false, Bool.false_eq_true, reduceIte]

theorem ringControl_fit (hb : barOk s hp = true) (h1 : v.getLsbD 1 = false) (h0 : v.getLsbD 0 = true)
    (hfit : ringFit (ringOf s hp r) = true) :
    ringControl hp r v s = checkTail hp r (updRing hp r (fun x => { x with enable := true }) s) := by
  simp only [ringControl, hb, h1, h0, when, hfit, Bool.not_true, Bool.false_eq_true, reduceIte]

theorem ringControl_unfit (hb : barOk s hp = true) (h1 : v.getLsbD 1 = false) (h0 : v.getLsbD 0 = true)
    (hfit : ringFit (ringOf s hp r) = false) :
    ringControl hp r v s = ringError hp (updRing hp r (fun x => { x with enable := false }) s) := by
  simp only [ringControl, hb, h1, h0, when, hfit, Bool.not_true, Bool.false_eq_true, reduceIte]

theorem ringEnableWrite_noReset (hr : r < 4) (hlen : (fnOf s hp).rings.length = 4) (hb : barOk s hp = true)
    (h1 : v.getLsbD 1 = false) :
    let x := ringOf s hp r
    (v.getLsbD 0 = false →
      exec (.ringEnableWrite hp r v) s = .next (updRing hp r (fun x => { x with enable := false }) s)) ∧
    (v.getLsbD 0 = true → ringFit x = true → (x.halted = true ∨ x.crTail.toNat < 2 ^ x.crSize.toNat) →
      exec (.ringEnableWrite hp r v) s = .next (updRing hp r (fun x => { x with enable := true }) s)) ∧
    (v.getLsbD 0 = true → ringFit x = true → x.halted = false → 2 ^ x.crSize.toNat ≤ x.crTail.toNat →
      ∃ t, exec (.ringEnableWrite hp r v) s = .next t ∧ (ringOf t hp r).enable = true ∧
        (ringOf t hp r).halted = true ∧ (fnOf t hp).intCause.getLsbD 6 = true ∧ t.host.ctr = bump 7 1 s.host.ctr) ∧
    (v.getLsbD 0 = true → ringFit x = false →
      ∃ t, exec (.ringEnableWrite hp r v) s = .next t ∧ (ringOf t hp r).enable = false ∧
        (fnOf t hp).intCause.getLsbD 6 = true ∧ t.host.ctr = s.host.ctr) := by
  have hlt : r < (fnOf s hp).rings.length := hlen ▸ hr
  have hctr : ∀ f, (updRing hp r f s).host.ctr = s.host.ctr := fun f => by cases hp <;> rfl
  have hexec : exec (.ringEnableWrite hp r v) s = .next (ringControl hp r v s) := onUnit_of hr ..
  rw [hexec]
  refine ⟨fun h0 => by rw [ringControl_off v hb h1 h0], fun h0 hfit htail => ?_, fun h0 hfit hh htail => ?_,
    fun h0 hfit => ⟨_, rfl, ?_⟩⟩
  · rw [ringControl_fit v hb h1 h0 hfit, checkTail_keeps]
    rw [ringOf_updRing hlt]
    exact .inr htail
  · have hx := ringOf_updRing hlt fun x => { x with enable := true }
    refine ⟨_, rfl, ?_⟩
    rw [ringControl_fit v hb h1 h0 hfit, checkTail_halts (hx ▸ rfl) (hx ▸ hh) (hx ▸ htail)]
    obtain ⟨hring, hcause, hbump⟩ :=
      haltRing_halts (s := updRing hp r (fun x => { x with enable := true }) s) (by rwa [rings_updRing_length])
    rw [hring, hx]
    exact ⟨rfl, rfl, hcause, hbump.trans (by rw [hctr])⟩
  · rw [ringControl_unfit v hb h1 h0 hfit]
    obtain ⟨hcause, hq⟩ := ringError_sets hp (updRing hp r (fun x => { x with enable := false }) s)
    rw [ringOf_of_quiet hq, ringOf_updRing hlt, hostCtr_of_quiet hq]
    exact ⟨rfl, hcause, hctr _⟩

/-- Without its second bit a control word asks for no reset and keeps its `enable` bit. -/
theorem and_not_two : (v &&& ~~~2).getLsbD 1 = false ∧ (v &&& ~~~2).getLsbD 0 = v.getLsbD 0 ∧
    ((v &&& ~~~2) >>> 8).setWidth 8 = (v >>> 8).setWidth 8 := by
  refine ⟨?_, ?_, ?_⟩
  · rw [BitVec.getLsbD_and]
    simp
  · rw [BitVec.getLsbD_and]
    simp
  · ext i hi
    have hbit : (~~~(2 : W32)).getLsbD (8 + i) = true := by interval_cases i <;> rfl
    rw [BitVec.getElem_setWidth, BitVec.getElem_setWidth, BitVec.getLsbD_ushiftRight, BitVec.getLsbD_ushiftRight,
      BitVec.getLsbD_and, hbit, Bool.and_true]

theorem clearRing_eq :
    clearRing = fun x : Ring => { x with
      crHead := 0, crTail := 0, cqHead := 0, cqTail := 0, halted := false, phase := true
      cmd := x.cmd.bind (fun c => if c.reply.isSome then none else some { c with discard := true }) } := by
  funext x
  unfold clearRing discardCmd
  cases x.cmd <;> rfl

theorem ringControl_reset (hb : barOk s hp = true) (h1 : v.getLsbD 1 = true) :
    ringControl hp r v s = ringControl hp r (v &&& ~~~2) (updRing hp r clearRing s) := by
  obtain ⟨hv1, hv0, -⟩ := and_not_two v
  simp only [ringControl, barOk_updRing, hb, h1, hv1, hv0, when, Bool.not_true, Bool.false_eq_true, reduceIte]

theorem ringEnableWrite_reset (hr : r < 4) (hb : barOk s hp = true) (h1 : v.getLsbD 1 = true) :
    exec (.ringEnableWrite hp r v) s = exec (.ringEnableWrite hp r (v &&& ~~~2)) (updRing hp r clearRing s) := by
  show onUnit (decide (r < 4)) (ringControl hp r v) s = onUnit (decide (r < 4)) (ringControl hp r (v &&& ~~~2)) _
  rw [onUnit_of hr, onUnit_of hr, ringControl_reset v hb h1]

/-! ### The event ring (R334) -/

theorem eventControl_noReset (hb : barOk s hp = true) (h1 : v.getLsbD 1 = false) :
    eventControl hp v s =
      let u := updFn hp (fun f => { f with classMask := (v >>> 8).setWidth 8 }) s
      if !v.getLsbD 0 then updFn hp (fun f => { f with erEnable := false }) u
      else if eventRingFit (fnOf s hp) then updFn hp (fun f => { f with erEnable := true }) u
      else ringError hp (updFn hp (fun f => { f with erEnable := false }) u) := by
  have hfit : ∀ m, eventRingFit (fnOf (updFn hp (fun f => { f with classMask := m }) s) hp) = eventRingFit (fnOf s hp) :=
    fun m => by rw [fnOf_updFn]; rfl
  simp only [eventControl, hb, h1, when, hfit, Bool.not_true, Bool.false_eq_true, reduceIte]

theorem classMask_eq : (v >>> 8).setWidth 8 = BitVec.ofNat 8 (v.toNat / 256) := by
  apply BitVec.eq_of_toNat_eq
  simp [Nat.shiftRight_eq_div_pow]

theorem eventRingEnableWrite_noReset (hb : barOk s hp = true) (h1 : v.getLsbD 1 = false) :
    (v.getLsbD 0 = true → eventRingFit (fnOf s hp) = true → exec (.eventRingEnableWrite hp v) s =
      .next (updFn hp (fun f => { f with classMask := BitVec.ofNat 8 (v.toNat / 256), erEnable := true }) s)) ∧
    (v.getLsbD 0 = false → exec (.eventRingEnableWrite hp v) s =
      .next (updFn hp (fun f => { f with classMask := BitVec.ofNat 8 (v.toNat / 256), erEnable := false }) s)) ∧
    (v.getLsbD 0 = true → eventRingFit (fnOf s hp) = false →
      ∃ t, exec (.eventRingEnableWrite hp v) s = .next t ∧ (fnOf t hp).erEnable = false ∧
        (fnOf t hp).classMask = BitVec.ofNat 8 (v.toNat / 256) ∧ (fnOf t hp).intCause.getLsbD 6 = true ∧
        t.host.ctr = s.host.ctr) := by
  have hexec : exec (.eventRingEnableWrite hp v) s = .next (eventControl hp v s) := rfl
  rw [hexec, eventControl_noReset v hb h1, classMask_eq]
  refine ⟨fun h0 hfit => ?_, fun h0 => ?_, fun h0 hfit => ⟨_, rfl, ?_⟩⟩
  · rw [h0, hfit]
    cases hp <;> rfl
  · rw [h0]
    cases hp <;> rfl
  · rw [h0, hfit]
    obtain ⟨hcause, hq⟩ := ringError_sets hp (updFn hp (fun f => { f with erEnable := false })
      (updFn hp (fun f => { f with classMask := BitVec.ofNat 8 (v.toNat / 256) }) s))
    have hfn := quietFn_of_quiet hq hp
    rw [fnOf_updFn, fnOf_updFn] at hfn
    exact ⟨congrArg HostFn.erEnable hfn, congrArg HostFn.classMask hfn, hcause,
      (hostCtr_of_quiet hq).trans (by cases hp <;> rfl)⟩

theorem eventRingEnableWrite_reset (hb : barOk s hp = true) (h1 : v.getLsbD 1 = true) :
    exec (.eventRingEnableWrite hp v) s =
      exec (.eventRingEnableWrite hp (v &&& ~~~2)) (updFn hp clearEventRing s) := by
  obtain ⟨hv1, hv0, hmask⟩ := and_not_two v
  have hbar : barOk (updFn hp clearEventRing s) hp = true :=
    (barOk_updFn (f := clearEventRing) (fun _ => ⟨rfl, rfl⟩) (fun _ => ⟨rfl, rfl, rfl⟩)).trans hb
  show Host.Outcome.next (eventControl hp v s) = .next (eventControl hp (v &&& ~~~2) (updFn hp clearEventRing s))
  simp only [eventControl, hbar, hb, h1, hv1, hv0, hmask, when, Bool.not_true, Bool.false_eq_true, reduceIte]

end

/-- Settles O22, register by register: a tail outside its ring halts it, a ring that does not fit is not enabled. -/
theorem ringAndEventRingRegisters : Obligations.RingAndEventRingRegisters := by
  refine ⟨fun s hp r v hr hb _ hv => doorbellWrite_inRing v hr hb hv,
    fun s hp r v hr hlen hb hen hh hv => doorbellWrite_outside v hr hlen hb hen hh hv, fun s hp r v hr hb => ?_,
    fun s hp r v hr hlen hb h1 => ringEnableWrite_noReset v hr hlen hb h1, fun s hp r v hr hb h1 => ?_,
    fun s hp r hr hb => ?_, fun s hp v hb h1 => eventRingEnableWrite_noReset v hb h1,
    fun s hp v hb h1 => eventRingEnableWrite_reset v hb h1, fun s hp hb => ?_, fun s hp v hb => ?_⟩
  · exact (onUnit_of hr ..).trans (by rw [when_of hb])
  · rw [← clearRing_eq]
    exact ringEnableWrite_reset v hr hb h1
  · rw [← clearRing_eq]
    exact (onUnit_of hr ..).trans (by rw [when_of hb])
  · exact congrArg Host.Outcome.next (when_of hb ..)
  · exact congrArg Host.Outcome.next (when_of hb ..)

end Sys2Proof.Machine
end

section
/-! PROOFS. Fetches and completions of the command rings (R330 to R333), events on the event ring (R335, R336), and held
messages (R328). -/

namespace Sys2Proof.Machine

/-! ### Output is only added -/

theorem mem_out_sendCause {o : Output} {s : State} (hp : HostPort) (i : Nat) (h : o ∈ s.out) :
    o ∈ (sendCause hp i s).out := by
  simp only [sendCause, sendVector]
  (repeat' split) <;> simp [h, emit]

theorem mem_out_releaseHeld {o : Output} {s : State} (hp : HostPort) (h : o ∈ s.out) : o ∈ (releaseHeld hp s).out := by
  simp only [releaseHeld]
  split
  · exact h
  · exact forEach_preserves (P := fun t => o ∈ t.out) (fun i t ht => mem_out_sendCause hp i ht) _ (by simpa using h)

theorem mem_out_setCause {o : Output} {s : State} (hp : HostPort) (i : Nat) (h : o ∈ s.out) :
    o ∈ (setCause hp i s).out := by
  simp only [setCause]
  split
  · exact h
  · split
    · simpa using h
    · split
      · exact mem_out_releaseHeld hp (by simpa using h)
      · exact mem_out_sendCause hp i (by simpa using h)

/-! ### Fetches (R330) -/

/-- Whether a command has a row of its own is told by its bytes. -/
theorem rowless_eq_none {s t : State} {src : CmdSrc} {b : Bytes} (h : rowless s src b = none) : rowless t src b = none := by
  unfold rowless at h ⊢
  grind

section
variable {s : State} {hp : HostPort} {r : Nat}

theorem exec_ringEntryFetch (hr : r < 4) (f : RingFetch) :
    exec (.ringEntryFetch hp r f) s = .next (fetchEntry hp r f s) := onUnit_of hr ..

theorem settleRing_rowed {u : State} {c : RingCmd} (hc : (ringOf u hp r).cmd = some c)
    (hrow : rowless u (.ring hp r) c.bytes = none) : settleRing hp r u = u := by
  unfold settleRing
  cases h : commandOf u (.ring hp r) with
  | none => rfl
  | some b =>
    obtain rfl : c.bytes = b := by
      simp only [commandOf, hc] at h
      split at h
      · exact Option.some.inj h
      · cases h
    simp only [hrow]

theorem fetchEntry_takes {f : RingFetch} {c : RingCmd} (hr : r < (fnOf s hp).rings.length)
    (hmay : mayFetch s hp r = true) (hc : fetchedCmd (ringOf s hp r) f = some c)
    (hrow : rowless s (.ring hp r) c.bytes = none) :
    fetchEntry hp r f s = updRing hp r (fun x => { x with
      crHead := BitVec.ofNat 12 ((x.crHead.toNat + 1) % 2 ^ x.crSize.toNat), cmd := some c }) s := by
  have hring := congrArg Ring.cmd (ringOf_updRing hr fun x => { x with
    crHead := BitVec.ofNat 12 ((x.crHead.toNat + 1) % ringSize x), cmd := some c })
  simp only [fetchEntry, hmay, hc]
  exact settleRing_rowed hring (rowless_eq_none hrow)

theorem fetchEntry_bad {f : RingFetch} (hr : r < (fnOf s hp).rings.length) (hmay : mayFetch s hp r = true)
    (hc : fetchedCmd (ringOf s hp r) f = none) :
    (ringOf (fetchEntry hp r f s) hp r).halted = true ∧ (fnOf (fetchEntry hp r f s) hp).intCause.getLsbD 6 = true := by
  obtain ⟨hring, hcause, -⟩ := haltRing_halts hr
  simp only [fetchEntry, hmay, hc]
  exact ⟨congrArg Ring.halted hring, hcause⟩

theorem fetchedCmd_eq_none {x : Ring} {f : RingFetch}
    (h : f.error = true ∨ leAt (padTo 64 f.entry) 0 8 % 8 ≠ 0 ∨ leAt (padTo 64 f.entry) 16 8 % 8 ≠ 0 ∨
      leAt (padTo 64 f.entry) 8 4 < 32 ∨ 4096 < leAt (padTo 64 f.entry) 8 4 ∨ 4080 < leAt (padTo 64 f.entry) 24 4) :
    fetchedCmd x f = none := by
  refine if_pos ?_
  simp only [Bool.or_eq_true, bne_iff_ne, Bool.not_eq_true', decide_eq_false_iff_not, decide_eq_true_eq]
  rcases h with h | h | h | h | h | h
  · exact .inl (.inl (.inl (.inl h)))
  · exact .inl (.inl (.inl (.inr h)))
  · exact .inl (.inl (.inr h))
  · exact .inl (.inr (by omega))
  · exact .inl (.inr (by omega))
  · exact .inr h

theorem fetchEntry_waits (f : RingFetch) (h : mayFetch s hp r = false) : fetchEntry hp r f s = s := by
  simp [fetchEntry, h]

theorem mayFetch_eq_false
    (h : (ringOf s hp r).cmd ≠ none ∨ (ringOf s hp r).crHead = (ringOf s hp r).crTail ∨ (fnOf s hp).bme = false ∨
      ((ringOf s hp r).cqTail.toNat + 1) % 2 ^ (ringOf s hp r).cqSize.toNat = (ringOf s hp r).cqHead.toNat) :
    mayFetch s hp r = false := by
  rw [Bool.eq_false_iff]
  intro hmay
  simp only [mayFetch, Bool.and_eq_true, Bool.not_eq_true', bne_iff_ne, cqFull, cqSizeOf, masters,
    Option.isNone_iff_eq_none] at hmay
  obtain ⟨⟨⟨⟨-, hcmd⟩, hfull⟩, hhead⟩, ⟨hbme, -⟩⟩ := hmay.1
  rcases h with h | h | h | h
  · exact h hcmd
  · exact hhead h
  · exact absurd (h.symm.trans hbme) (by decide)
  · exact of_decide_eq_false hfull h

/-! ### Completions (R332, R333) -/

theorem postCompletion_full (e : Bool) (h : cqFull (ringOf s hp r) = true) : postCompletion hp r e s = s := by
  unfold postCompletion
  dsimp only
  split
  · rfl
  · split
    · rfl
    · exact if_pos (by simp [h])

theorem masters_of_barOk (hb : barOk s hp = true) (hbme : (fnOf s hp).bme = true) : masters (fnOf s hp) = true := by
  simp only [barOk, Bool.and_eq_true] at hb
  simp [masters, hbme, hb.1.1.2]

/-- A completion that is written: the results, the entry, and the ring's next place. -/
def completionWritten (hp : HostPort) (r : Nat) (c : RingCmd) (rep : Reply) (s : State) : State :=
  let x := ringOf s hp r
  let n := (x.cqTail.toNat + 1) % cqSizeOf x
  updRing hp r (fun y => { y with
      cqTail := BitVec.ofNat 12 n, phase := if n = 0 then !y.phase else y.phase, cmd := none })
    (emit (.hostWrite hp (ringAddr x.cqBaseLo x.cqBaseHi 32 x.cqTail.toNat) (completionBytes c rep x.phase))
      (when (!(rep.result.take c.resCap).isEmpty) (emit (.hostWrite hp c.resAddr (rep.result.take c.resCap))) s))

theorem postCompletion_writes {c : RingCmd} {rep : Reply} (hc : (ringOf s hp r).cmd = some c)
    (hrep : c.reply = some rep) (hen : (ringOf s hp r).enable = true) (hh : (ringOf s hp r).halted = false)
    (hm : masters (fnOf s hp) = true) (hb : barOk s hp = true) (hfull : cqFull (ringOf s hp r) = false) :
    postCompletion hp r false s =
      let u := notePosted hp (completionWritten hp r c rep s)
      if cmdNoIrq c.bytes then releaseHeld hp u else releaseHeld hp (setCause hp r u) := by
  simp only [postCompletion, hc, hrep, hen, hh, hm, hb, hfull]
  rfl

theorem completionWritten_ring (hr : r < (fnOf s hp).rings.length) (c : RingCmd) (rep : Reply) :
    (ringOf (completionWritten hp r c rep s) hp r).cmd = none ∧
      (ringOf (completionWritten hp r c rep s) hp r).cqTail =
        BitVec.ofNat 12 (((ringOf s hp r).cqTail.toNat + 1) % 2 ^ (ringOf s hp r).cqSize.toNat) := by
  unfold completionWritten
  rw [ringOf_updRing]
  · exact ⟨rfl, rfl⟩
  · unfold when
    split <;> simpa using hr

theorem completionWritten_out (c : RingCmd) (rep : Reply) :
    .hostWrite hp (ringAddr (ringOf s hp r).cqBaseLo (ringOf s hp r).cqBaseHi 32 (ringOf s hp r).cqTail.toNat)
        (completionBytes c rep (ringOf s hp r).phase) ∈ (completionWritten hp r c rep s).out ∧
      (rep.result.take c.resCap ≠ [] →
        .hostWrite hp c.resAddr (rep.result.take c.resCap) ∈ (completionWritten hp r c rep s).out) := by
  refine ⟨by simp [completionWritten, updRing, emit], fun hne => ?_⟩
  have hsome : (rep.result.take c.resCap).isEmpty = false := by simpa using hne
  simp [completionWritten, updRing, emit, when, hsome]

theorem completionWritten_keeps (c : RingCmd) (rep : Reply) :
    (completionWritten hp r c rep s).ports = s.ports ∧ (completionWritten hp r c rep s).host.inband = s.host.inband := by
  unfold completionWritten when
  cases hp <;> split <;> exact ⟨rfl, rfl⟩

theorem completionPost_posts {c : RingCmd} {rep : Reply} (hr : r < 4) (hlen : (fnOf s hp).rings.length = 4)
    (hc : (ringOf s hp r).cmd = some c) (hrep : c.reply = some rep) (hen : (ringOf s hp r).enable = true)
    (hh : (ringOf s hp r).halted = false) (hbme : (fnOf s hp).bme = true) (hb : barOk s hp = true)
    (hroom : ((ringOf s hp r).cqTail.toNat + 1) % 2 ^ (ringOf s hp r).cqSize.toNat ≠ (ringOf s hp r).cqHead.toNat) :
    ∃ t, exec (.completionPost hp r false) s = .next t ∧ (ringOf t hp r).cmd = none ∧
      (ringOf t hp r).cqTail = BitVec.ofNat 12 (((ringOf s hp r).cqTail.toNat + 1) % 2 ^ (ringOf s hp r).cqSize.toNat) ∧
      .hostWrite hp (ringAddr (ringOf s hp r).cqBaseLo (ringOf s hp r).cqBaseHi 32 (ringOf s hp r).cqTail.toNat)
        (completionBytes c rep (ringOf s hp r).phase) ∈ t.out ∧
      (rep.result.take c.resCap ≠ [] → .hostWrite hp c.resAddr (rep.result.take c.resCap) ∈ t.out) ∧
      (cmdNoIrq c.bytes = false → (fnOf t hp).intCause.getLsbD r = true) ∧ t.ports = s.ports ∧
      t.host.inband = s.host.inband := by
  have hpost := postCompletion_writes hc hrep hen hh (masters_of_barOk hb hbme) hb (decide_eq_false hroom)
  set u := notePosted hp (completionWritten hp r c rep s) with hu
  have hquiet : quiet (postCompletion hp r false s) = quiet (completionWritten hp r c rep s) := by
    rw [hpost]
    split <;> simp [hu]
  have hout : ∀ o ∈ (completionWritten hp r c rep s).out, o ∈ (postCompletion hp r false s).out := by
    intro o ho
    replace ho : o ∈ u.out := by simpa [hu, notePosted] using ho
    rw [hpost]
    split
    · exact mem_out_releaseHeld hp ho
    · exact mem_out_releaseHeld hp (mem_out_setCause hp r ho)
  have hring := ringOf_of_quiet hquiet hp r
  obtain ⟨hcmd, htail⟩ := completionWritten_ring (hlen ▸ hr : r < (fnOf s hp).rings.length) c rep
  obtain ⟨hentry, hres⟩ := completionWritten_out (s := s) (hp := hp) (r := r) c rep
  obtain ⟨hports, hinband⟩ := completionWritten_keeps (s := s) (hp := hp) (r := r) c rep
  refine ⟨_, onUnit_of hr .., hring ▸ hcmd, hring ▸ htail, hout _ hentry, fun hne => hout _ (hres hne), fun hirq => ?_,
    (congrArg State.ports hquiet).trans hports, (congrArg (fun t => t.host.inband) hquiet).trans hinband⟩
  have hr10 : r < 10 := by omega
  simp [hpost, hirq, intCause_setCause, hr10]

end

/-- Settles O23: what a ring fetches, what halts it, and what a completion writes. -/
theorem ringsFetchAndComplete : Obligations.RingsFetchAndComplete := by
  refine ⟨fun s hp r f c hr hlen hmay hc hrow => ?_, fun s hp r f hr hlen hmay hbad => ?_, fun s hp r f hr hwait => ?_,
    fun s hp r c rep hr hlen hc hrep hen hh hbme hb hroom =>
      completionPost_posts hr hlen hc hrep hen hh hbme hb hroom,
    fun s hp r e hr hfull => ?_⟩
  · rw [exec_ringEntryFetch hr, fetchEntry_takes (hlen ▸ hr) hmay hc hrow]
  · exact ⟨_, exec_ringEntryFetch hr f, fetchEntry_bad (hlen ▸ hr) hmay (fetchedCmd_eq_none hbad)⟩
  · rw [exec_ringEntryFetch hr, fetchEntry_waits f (mayFetch_eq_false hwait)]
  · exact (onUnit_of hr ..).trans (congrArg _ (postCompletion_full e hfull))

end Sys2Proof.Machine
end

section
/-! PROOFS. Events on the event ring (R335, R336) and held messages (R328). -/

namespace Sys2Proof.Machine

/-! ### Events (R335, R336) -/

section
variable {s : State} {hp : HostPort} {code : Nat} (ev : Bytes)

theorem eventTo_unseen (h : (fnOf s hp).erEnable = false ∨ (fnOf s hp).classMask.getLsbD (eventClass code) = false) :
    eventTo code ev hp s = s := by
  refine if_pos ?_
  rcases h with h | h <;> simp [h]

theorem eventTo_dropped (hen : (fnOf s hp).erEnable = true)
    (hclass : (fnOf s hp).classMask.getLsbD (eventClass code) = true)
    (h : (fnOf s hp).bme = false ∨
      ((fnOf s hp).erTail.toNat + 1) % 2 ^ (fnOf s hp).erSize.toNat = (fnOf s hp).erHead.toNat) :
    eventTo code ev hp s = setCause hp 5 (hostCount 6 1 s) := by
  simp only [eventTo, hen, hclass, Bool.and_true, Bool.not_true, Bool.false_eq_true, if_false]
  refine if_pos ?_
  rcases h with h | h <;> simp [h, masters]

/-- An event that is written: the entry, and the event ring's next place. -/
def eventWritten (hp : HostPort) (ev : Bytes) (s : State) : State :=
  let f := fnOf s hp
  let n := (f.erTail.toNat + 1) % 2 ^ f.erSize.toNat
  updFn hp (fun x => { x with erTail := BitVec.ofNat 12 n, erPhase := if n = 0 then !x.erPhase else x.erPhase })
    (emit (.hostWrite hp (ringAddr f.erBaseLo f.erBaseHi 32 f.erTail.toNat)
      (ev ++ [BitVec.ofNat 8 (boolNat f.erPhase)])) s)

theorem eventTo_writes (hen : (fnOf s hp).erEnable = true)
    (hclass : (fnOf s hp).classMask.getLsbD (eventClass code) = true) (hm : masters (fnOf s hp) = true)
    (hroom : ((fnOf s hp).erTail.toNat + 1) % 2 ^ (fnOf s hp).erSize.toNat ≠ (fnOf s hp).erHead.toNat) :
    eventTo code ev hp s = releaseHeld hp (setCause hp 4 (notePosted hp (eventWritten hp ev s))) := by
  simp only [eventTo, hen, hclass, hm, hroom]
  rfl

theorem eventTo_written (hen : (fnOf s hp).erEnable = true)
    (hclass : (fnOf s hp).classMask.getLsbD (eventClass code) = true) (hm : masters (fnOf s hp) = true)
    (hroom : ((fnOf s hp).erTail.toNat + 1) % 2 ^ (fnOf s hp).erSize.toNat ≠ (fnOf s hp).erHead.toNat) :
    let t := eventTo code ev hp s
    .hostWrite hp (ringAddr (fnOf s hp).erBaseLo (fnOf s hp).erBaseHi 32 (fnOf s hp).erTail.toNat)
        (ev ++ [BitVec.ofNat 8 (boolNat (fnOf s hp).erPhase)]) ∈ t.out ∧
      (fnOf t hp).erTail = BitVec.ofNat 12 (((fnOf s hp).erTail.toNat + 1) % 2 ^ (fnOf s hp).erSize.toNat) ∧
      (fnOf t hp).intCause.getLsbD 4 = true ∧ t.host.ctr = s.host.ctr := by
  rw [eventTo_writes ev hen hclass hm hroom]
  intro t
  have hq : quiet t = quiet (eventWritten hp ev s) := by simp [t]
  have hfn := quietFn_of_quiet hq hp
  rw [eventWritten, fnOf_updFn] at hfn
  refine ⟨mem_out_releaseHeld hp (mem_out_setCause hp 4 ?_), congrArg HostFn.erTail hfn, ?_,
    (hostCtr_of_quiet hq).trans (by cases hp <;> rfl)⟩
  · simp [notePosted, eventWritten, emit]
  · simp [t, intCause_setCause]

theorem eventTo_overflows (hen : (fnOf s hp).erEnable = true)
    (hclass : (fnOf s hp).classMask.getLsbD (eventClass code) = true)
    (h : (fnOf s hp).bme = false ∨
      ((fnOf s hp).erTail.toNat + 1) % 2 ^ (fnOf s hp).erSize.toNat = (fnOf s hp).erHead.toNat) :
    let t := eventTo code ev hp s
    (fnOf t hp).erTail = (fnOf s hp).erTail ∧ (fnOf t hp).intCause.getLsbD 5 = true ∧
      t.host.ctr = bump 6 1 s.host.ctr := by
  rw [eventTo_dropped ev hen hclass h]
  intro t
  have hq : quiet t = quiet (hostCount 6 1 s) := quiet_setCause ..
  refine ⟨(congrArg HostFn.erTail (quietFn_of_quiet hq hp)).trans (by cases hp <;> rfl), ?_, hostCtr_of_quiet hq⟩
  simp [t, intCause_setCause]

end

/-- Settles O24: an event that its ring admits is written where there is room, and else dropped and counted. -/
theorem eventsAreWrittenOrDropped : Obligations.EventsAreWrittenOrDropped :=
  ⟨fun _ _ _ ev hen hclass hm hroom => eventTo_written ev hen hclass hm hroom,
    fun _ _ _ ev hen hclass h => eventTo_overflows ev hen hclass h, fun _ _ _ ev h => eventTo_unseen ev h⟩

/-! ### Held messages (R328) -/

theorem maskList_single {n i : Nat} (hn : n ≤ 10) (hi : i < n) : maskList n ((1 : BitVec 10) <<< i).toNat = [i] := by
  have h10 : i < 10 := by omega
  interval_cases n <;> interval_cases i <;> rfl

section
variable {s : State} {hp : HostPort} {i : Nat}

/-- A message of a cause goes out where its vector is open. -/
theorem sendCause_sends (hen : (fnOf s hp).msixEnable = true) (hm : masters (fnOf s hp) = true)
    (hup : (fnOf s hp).linkUp = true)
    (hopen : vectorMasked (fnOf s hp) ((fnOf s hp).vec.getD i 0).toNat = false) :
    sendCause hp i s = emit (.msix hp ((fnOf s hp).vec.getD i 0)) (updFn hp (fun x => { x with
      msixPba := x.msixPba &&& ~~~((1 : W64) <<< ((fnOf s hp).vec.getD i 0).toNat) }) s) := by
  simp only [sendCause, sendVector, hen, hm, hup, hopen]
  rfl

theorem intMaskWrite_noCause (v : W32) (hb : barOk s hp = true) (hcause : (fnOf s hp).intCause = 0) :
    exec (.intMaskWrite hp v) s = .next (updFn hp (fun f => { f with
      intMask := v.setWidth 10, heldCauses := f.heldCauses &&& ~~~(v.setWidth 10) }) s) := by
  have hfreed : ∀ m : BitVec 10, m &&& 0 = 0#10 := fun m => BitVec.and_zero
  have hnone : maskList 10 (0#10).toNat = [] := rfl
  show Host.Outcome.next (writeMask hp v s) = _
  simp only [writeMask, hb, hcause, hfreed, hnone, forEach_nil]
  cases hp <;> simp [updFn]

/-- What a write of 0 to the mask leaves for the message of the one cause that was set. -/
def unmasked (hp : HostPort) (i : Nat) (s : State) : State :=
  updFn hp (fun f => { f with intMask := 0, heldCauses := 0, posted := if i ≤ 4 then 0 else f.posted
                              firstHeld := if i ≤ 4 then none else f.firstHeld }) s

theorem writeMask_oneCause (hi : i < 10) (hb : barOk s hp = true) (hcause : (fnOf s hp).intCause = (1 : BitVec 10) <<< i)
    (hmask : (fnOf s hp).intMask = 0x3FF) (hheld : (fnOf s hp).heldCauses = 0) :
    writeMask hp 0 s = sendCause hp i (unmasked hp i s) := by
  have hfreed : (0x3FF : BitVec 10) &&& ~~~((0 : W32).setWidth 10) &&& (1 : BitVec 10) <<< i = (1 : BitVec 10) <<< i := by
    interval_cases i <;> rfl
  have hsent : ((1 : BitVec 10) <<< i &&& 0x1F != 0) = decide (i ≤ 4) := by interval_cases i <;> rfl
  simp only [writeMask, hb, hcause, hmask, hheld, hfreed, hsent, maskList_single (le_refl 10) hi, forEach_cons,
    forEach_nil]
  simp [unmasked]

theorem intMaskWrite_oneCause (hi : i < 10) (hb : barOk s hp = true)
    (hcause : (fnOf s hp).intCause = (1 : BitVec 10) <<< i) (hmask : (fnOf s hp).intMask = 0x3FF)
    (hheld : (fnOf s hp).heldCauses = 0) (hen : (fnOf s hp).msixEnable = true) (hbme : (fnOf s hp).bme = true)
    (hopen : vectorMasked (fnOf s hp) ((fnOf s hp).vec.getD i 0).toNat = false) :
    ∃ t, exec (.intMaskWrite hp 0) s = .next t ∧ t.out = .msix hp ((fnOf s hp).vec.getD i 0) :: s.out ∧
      (fnOf t hp).intMask = 0 ∧ (fnOf t hp).intCause = (fnOf s hp).intCause ∧
      (i ≤ 4 → (fnOf t hp).posted = 0 ∧ (fnOf t hp).firstHeld = none) := by
  have hlink := linkOk_of_barOk hb
  simp only [linkOk, Bool.and_eq_true] at hlink
  obtain ⟨⟨-, hup⟩, -⟩ := hlink
  have hm := masters_of_barOk hb hbme
  have hf := fnOf_updFn hp (fun f => { f with
    intMask := 0, heldCauses := 0, posted := if i ≤ 4 then 0 else f.posted
    firstHeld := if i ≤ 4 then none else f.firstHeld }) s
  refine ⟨_, rfl, ?_⟩
  rw [writeMask_oneCause hi hb hcause hmask hheld, unmasked, sendCause_sends (by rw [hf]; exact hen)
    (by rw [hf]; exact hm) (by rw [hf]; exact hup) (by rw [hf]; exact hopen)]
  simp only [fnOf_emit, fnOf_updFn]
  exact ⟨by simp [emit], trivial, trivial, fun h => ⟨if_pos h, if_pos h⟩⟩

theorem interruptCoalesceExpire_due {u : Nat} (hi : i ≤ 4) (hheld : (fnOf s hp).heldCauses = (1 : BitVec 10) <<< i)
    (hfirst : (fnOf s hp).firstHeld = some u) (hco : (fnOf s hp).coTime ≠ 0#16)
    (hdue : u + 1000 * (fnOf s hp).coTime.toNat ≤ s.now) (hen : (fnOf s hp).msixEnable = true)
    (hm : masters (fnOf s hp) = true) (hup : (fnOf s hp).linkUp = true)
    (hopen : vectorMasked (fnOf s hp) ((fnOf s hp).vec.getD i 0).toNat = false) :
    ∃ t, exec (.interruptCoalesceExpire hp) s = .next t ∧ t.out = .msix hp ((fnOf s hp).vec.getD i 0) :: s.out ∧
      (fnOf t hp).heldCauses = 0 ∧ (fnOf t hp).posted = 0 ∧ (fnOf t hp).intCause = (fnOf s hp).intCause := by
  have hsome : (1 : BitVec 10) <<< i ≠ 0 := by interval_cases i <;> decide
  have hlist : maskList 5 ((1 : BitVec 10) <<< i).toNat = [i] := maskList_single (by decide) (by omega)
  have hf := fnOf_updFn hp (fun f => { f with heldCauses := 0, posted := 0, firstHeld := none }) s
  have hsend : releaseHeld hp s =
      sendCause hp i (updFn hp (fun f => { f with heldCauses := 0, posted := 0, firstHeld := none }) s) := by
    have hco' : coalesceDue (fnOf s hp) s.now = true := by simp [coalesceDue, hfirst, hco, hdue]
    simp only [releaseHeld, hheld, hco', hsome, hlist, forEach_cons, forEach_nil]
    rfl
  refine ⟨_, rfl, ?_⟩
  rw [hsend, sendCause_sends (by rw [hf]; exact hen) (by rw [hf]; exact hm) (by rw [hf]; exact hup)
    (by rw [hf]; exact hopen)]
  simp only [fnOf_emit, fnOf_updFn]
  exact ⟨by simp [emit], trivial, trivial, trivial⟩

theorem releaseHeld_waits {u : Nat} (hfirst : (fnOf s hp).firstHeld = some u) (hco : (fnOf s hp).coCount ≠ 0#8)
    (hfew : (fnOf s hp).posted < (fnOf s hp).coCount.toNat)
    (htime : (fnOf s hp).coTime = 0 ∨ s.now < u + 1000 * (fnOf s hp).coTime.toNat) : releaseHeld hp s = s := by
  have hwait : coalesceDue (fnOf s hp) s.now = false := by
    rcases htime with h | h <;> simp [coalesceDue, hco, hfew, hfirst, h]
  simp [releaseHeld, hwait]

end

/-- Settles O26: freed causes send at once, held messages when their time or their count has come. -/
theorem interruptRegisters : Obligations.InterruptRegisters :=
  ⟨fun _ _ hb hcause v => intMaskWrite_noCause v hb hcause,
    fun _ _ _ hi hb hcause hmask hheld hen _ hbme hopen =>
      intMaskWrite_oneCause hi hb hcause hmask hheld hen hbme hopen,
    fun _ _ _ _ hi hheld hfirst hco hdue hen _ hm hup hopen =>
      interruptCoalesceExpire_due hi hheld hfirst hco hdue hen hm hup hopen,
    fun _ _ _ hfirst hco hfew htime => congrArg _ (releaseHeld_waits hfirst hco hfew htime)⟩

end Sys2Proof.Machine
end

section
/-! PROOFS. Answers of commands (R332, R338, R341 to R343) and in-band commands. -/

namespace Sys2Proof.Machine

/-! ### Answers on a ring (R332) -/

section
variable {s : State} {hp : HostPort} {r : Nat}

theorem lt_of_ringOf_cmd {c : RingCmd} (h : (ringOf s hp r).cmd = some c) : r < (fnOf s hp).rings.length := by
  by_contra hno
  rw [ringOf, List.getD_eq_default _ _ (Nat.not_lt.1 hno)] at h
  cases h

theorem finish_ring {c : RingCmd} (st : W16) (res : Bytes) (hc : (ringOf s hp r).cmd = some c) (hrep : c.reply = none)
    (hkeep : c.discard = false) :
    finish (.ring hp r) st res s =
      hostCount 0 1 (when (st != stOk) (hostCount 2 1) (updRing hp r (fun x => { x with
        cmd := some { c with reply := some { status := st, tag := cmdTag c.bytes
                                             opcode := BitVec.ofNat 16 (cmdOpcode c.bytes), result := res } } }) s)) := by
  simp only [finish, commandOf, hc, hrep, Option.isNone_none, if_true, finishRing, hkeep]
  rfl

theorem fnOf_hostCount (i n : Nat) (s : State) (hp : HostPort) : fnOf (hostCount i n s) hp = fnOf s hp := by
  cases hp <;> rfl

theorem ringOf_hostCount (i n : Nat) (s : State) (hp : HostPort) (r : Nat) :
    ringOf (hostCount i n s) hp r = ringOf s hp r := by
  simp only [ringOf, fnOf_hostCount]

theorem when_ne_ok (st : W16) (f : State → State) (s : State) :
    when (st != stOk) f s = if st = 0 then s else f s := by
  by_cases h : st = 0 <;> simp [when, stOk, h]

theorem finish_ring_answers {c : RingCmd} (st : W16) (res : Bytes) (hc : (ringOf s hp r).cmd = some c)
    (hrep : c.reply = none) (hkeep : c.discard = false) :
    let t := finish (.ring hp r) st res s
    (ringOf t hp r).cmd = some { c with reply := some { status := st, tag := cmdTag c.bytes
                                                        opcode := BitVec.ofNat 16 (cmdOpcode c.bytes), result := res } } ∧
      t.host.ctr = bump 0 1 (if st = 0 then s.host.ctr else bump 2 1 s.host.ctr) ∧
      t.ports = s.ports ∧ t.switch = s.switch ∧ t.canvas = s.canvas ∧ t.streams = s.streams ∧ t.sketch = s.sketch := by
  rw [finish_ring st res hc hrep hkeep, when_ne_ok]
  have hring := ringOf_updRing (lt_of_ringOf_cmd hc)
  split
  · dsimp only
    rw [ringOf_hostCount, hring]
    cases hp <;> exact ⟨rfl, rfl, rfl, rfl, rfl, rfl, rfl⟩
  · dsimp only
    rw [ringOf_hostCount, ringOf_hostCount, hring]
    cases hp <;> exact ⟨rfl, rfl, rfl, rfl, rfl, rfl, rfl⟩

end

/-! ### Answers in band (R338, R341, R342) -/

section
variable {s : State} {c : InbandCmd} {rest : List InbandCmd}

theorem answerHead_answers (r : Reply) (h : s.host.inband = c :: rest) :
    let t := answerHead r s
    t.host.inband = rest ∧
      t.host.replyCache = cacheReply { src := c.hdr.src, ttag := c.hdr.ttag, crc := crc32 c.bytes, status := r.status
                                       payload := replyBytes (replySrc s) r, expiry := s.now + 1000000000 } s.host.replyCache ∧
      t.host.ctr = bump 1 1 (if r.status = 0 then s.host.ctr else bump 2 1 s.host.ctr) ∧
      t.switch.originate = s.switch.originate ++
        [{ pkt := cmdStatus s c.hdr r.status (replyBytes (replySrc s) r), viaPort := c.viaPort }] ∧
      t.ports = s.ports ∧ t.canvas = s.canvas ∧ t.streams = s.streams ∧ t.sketch = s.sketch := by
  simp only [answerHead, h, when_ne_ok]
  split <;> exact ⟨rfl, rfl, rfl, rfl, rfl, rfl, rfl, rfl⟩

theorem cacheReply_room (e : CachedReply) {l : List CachedReply} (h : l.length < 64) : cacheReply e l = l ++ [e] := by
  rw [cacheReply, if_neg (Nat.not_le.2 h)]

theorem cacheReply_full (e : CachedReply) {l : List CachedReply} (h : l.length = 64) : cacheReply e l = l.tail ++ [e] := by
  rw [cacheReply, if_pos h.ge, h, List.drop_one]

theorem settleInband_empty (n : Nat) (h : s.host.inband = []) : settleInband n s = s := by
  cases n <;> simp [settleInband, h]

theorem settleInband_rowed (n : Nat) (h : s.host.inband = c :: rest) (hrow : rowless s .inband c.bytes = none) :
    settleInband n s = s := by
  cases n <;> simp [settleInband, h, hrow]

theorem settleInband_rowless {st : W16} (n : Nat) (h : s.host.inband = c :: rest)
    (hrow : rowless s .inband c.bytes = some st) :
    settleInband (n + 1) s = settleInband n (answerHead
      { status := st, tag := cmdTag c.bytes, opcode := BitVec.ofNat 16 (cmdOpcode c.bytes), result := [] } s) := by
  simp only [settleInband, h, hrow]
  rfl

theorem finish_inband (st : W16) (res : Bytes) (h : s.host.inband = c :: rest) :
    finish .inband st res s = settleInband 16 (answerHead
      { status := st, tag := cmdTag c.bytes, opcode := BitVec.ofNat 16 (cmdOpcode c.bytes), result := res } s) := by
  simp only [finish, commandOf, h, finishInband]
  rfl

end

/-- Settles O21: the answer stands at its source, and the in-band queue moves on to the next command with a row. -/
theorem finishedCommandsAreAnswered : Obligations.FinishedCommandsAreAnswered := by
  refine ⟨fun s hp r c st res hc hrep hkeep => finish_ring_answers st res hc hrep hkeep,
    fun s c rest r h => answerHead_answers r h, fun e l => ⟨cacheReply_room e, cacheReply_full e⟩,
    fun s c rest st res h => ⟨finish_inband st res h, fun hrest => ?_, fun x l hrest hrow => ?_⟩,
    fun s c rest st n h hrow => settleInband_rowless n h hrow⟩
  · rw [finish_inband st res h, settleInband_empty]
    exact (answerHead_answers _ h).1.trans hrest
  · rw [finish_inband st res h]
    exact settleInband_rowed 16 ((answerHead_answers _ h).1.trans hrest) (rowless_eq_none hrow)

/-! ### Commands that arrive in band (R341 to R343) -/

section
variable {s : State} {id : Nat} {st : Stored}

/-- A terminated packet of the command window is taken as a command. -/
theorem exec_cmd (hst : terminatedOf s id = some st) (hact : findingOf st = .act) (hw : st.hdr.window = 0x04) :
    exec (.cmd id) s = .next (takeCmd id st s) := by
  show Host.Outcome.next (atWindow _ _ _ s) = _
  simp [atWindow, hst, hact, hw]

/-- The in-band command that a packet brings. -/
def arrivingCmd (st : Stored) (u : State) : InbandCmd :=
  { hdr := st.hdr, viaPort := answerVia u st, bytes := payloadOf st.hdr st.data }

theorem easelReady_dropPacket (id : Nat) (tail : Bool) (s : State) :
    (dropPacket id tail s).boot.easelReady = s.boot.easelReady :=
  congrArg Boot.easelReady (boot_of_outside (fp := { ports := true, switch := true }) (by simp) rfl)

theorem takeCmd_notReady (h : s.boot.easelReady = false) :
    takeCmd id st s = hostCount 5 1 (dropPacket id false s) := by
  simp [takeCmd, easelReady_dropPacket, h]

theorem takeCmd_cached {e : CachedReply} (h : s.boot.easelReady = true)
    (hhit : cacheHit (dropPacket id false s) st.hdr (payloadOf st.hdr st.data) = some e) :
    takeCmd id st s = originate { pkt := cmdStatus (dropPacket id false s) st.hdr e.status e.payload
                                  viaPort := answerVia (dropPacket id false s) st }
      (hostCount 4 1 (dropPacket id false s)) := by
  simp [takeCmd, easelReady_dropPacket, h, hhit]

section
variable (hready : s.boot.easelReady = true)
  (hmiss : cacheHit (dropPacket id false s) st.hdr (payloadOf st.hdr st.data) = none)
include hready hmiss

theorem takeCmd_queued (hq : alreadyQueued (dropPacket id false s) st.hdr (payloadOf st.hdr st.data) = true) :
    takeCmd id st s = dropPacket id false s := by
  simp [takeCmd, easelReady_dropPacket, hready, hmiss, hq]

variable (hq : alreadyQueued (dropPacket id false s) st.hdr (payloadOf st.hdr st.data) = false)
include hq

theorem takeCmd_busy (hfull : 16 ≤ (dropPacket id false s).host.inband.length) :
    takeCmd id st s = originate { pkt := cmdStatus (dropPacket id false s) st.hdr stBusy []
                                  viaPort := answerVia (dropPacket id false s) st }
      (hostCount 3 1 (dropPacket id false s)) := by
  simp [takeCmd, easelReady_dropPacket, hready, hmiss, hq, hfull]

theorem takeCmd_joins (hroom : (dropPacket id false s).host.inband.length < 16)
    (hrow : ∀ x, ((dropPacket id false s).host.inband ++ [arrivingCmd st (dropPacket id false s)]).head? = some x →
      rowless (dropPacket id false s) .inband x.bytes = none) :
    takeCmd id st s = updHost (fun h => { h with
      inband := h.inband ++ [arrivingCmd st (dropPacket id false s)] }) (dropPacket id false s) := by
  simp only [takeCmd, easelReady_dropPacket, hready, hmiss, hq, Nat.not_le.2 hroom, Bool.not_true,
    Bool.false_eq_true, if_false]
  generalize dropPacket id false s = u at hrow ⊢
  cases hl : u.host.inband ++ [arrivingCmd st u] with
  | nil => simp at hl
  | cons x l =>
    rw [hl] at hrow
    exact settleInband_rowed 16 (c := x) (rest := l) hl (rowless_eq_none (hrow x rfl))

end

end

/-- Settles O28: what becomes of a command that arrives in band, and an answer that has expired. -/
theorem inbandCommands : Obligations.InbandCommands := by
  refine ⟨fun s id st hst hact hw h => ?_, fun s id st e hst hact hw h hhit => ?_,
    fun s id st hst hact hw h hmiss hq => ?_, fun s id st hst hact hw h hfull hmiss hq => ?_,
    fun s id st hst hact hw h hroom hmiss hq hrow => ⟨_, exec_cmd hst hact hw, ?_⟩, fun s e hcache hexp => ?_⟩
  · rw [exec_cmd hst hact hw, takeCmd_notReady h]
  · rw [exec_cmd hst hact hw, takeCmd_cached h hhit]
  · rw [exec_cmd hst hact hw, takeCmd_queued h hmiss hq]
  · rw [easelReady_dropPacket] at h
    rw [exec_cmd hst hact hw, takeCmd_busy h hmiss hq hfull]
  · rw [easelReady_dropPacket] at h
    have hcanvas : (dropPacket id false s).canvas = s.canvas :=
      canvas_of_outside (fp := { ports := true, switch := true }) (by simp) rfl
    have hstreams : (dropPacket id false s).streams = s.streams :=
      streams_of_outside (fp := { ports := true, switch := true }) (by simp) rfl
    rw [takeCmd_joins h hmiss hq hroom hrow]
    exact ⟨rfl, rfl, hcanvas, hstreams⟩
  · show Host.Outcome.next (updHost _ s) = _
    simp [updHost, hcache, hexp]

end Sys2Proof.Machine
end

section
/-! PROOFS. Records of a few commands (R346, R100, R63, R354, R264). -/

namespace Sys2Proof.Machine

/-! ### Fields of a record -/

theorem leAt_append_of_length_le {a : Bytes} {off : Nat} (h : a.length ≤ off) (n : Nat) (b : Bytes) :
    leAt (a ++ b) off n = leAt b (off - a.length) n := by
  rw [leAt, leAt, List.drop_append, List.drop_eq_nil_of_le h, List.nil_append]

@[simp] theorem length_zeros (n : Nat) : (zeros n).length = n := List.length_replicate

theorem maskOf_lt {l : List Nat} {n : Nat} (h : ∀ i ∈ l, i < n) : maskOf l < 2 ^ n := by
  have hfold : ∀ m, m < 2 ^ n → l.foldl (fun m i => m ||| 2 ^ i) m < 2 ^ n := by
    induction l with
    | nil => exact fun m hm => hm
    | cons i l ih =>
      intro m hm
      obtain ⟨hi, hl⟩ := List.forall_mem_cons.1 h
      exact ih hl _ (Nat.or_lt_two_pow hm (Nat.pow_lt_pow_right one_lt_two hi))
  exact hfold 0 (Nat.two_pow_pos n)

theorem length_identifyRecord (s : State) : (identifyRecord s).length = 64 := by
  simp [identifyRecord]

theorem leAt_identifyRecord (s : State) :
    leAt (identifyRecord s) 0 4 = 0x05719600 ∧ leAt (identifyRecord s) 8 4 = s.boot.chipTag.toNat ∧
      leAt (identifyRecord s) 20 4 = s.tick.number.toNat ∧ leAt (identifyRecord s) 24 8 = s.sketch.sketchId.toNat := by
  simp only [identifyRecord, List.append_assoc]
  refine ⟨?_, ?_, ?_, ?_⟩
  · rw [leAt_leBytes_append]
    rfl
  all_goals
    simp (disch := simp) only [leAt_append_of_length_le, length_leBytes, List.length_cons, List.length_nil]
    rw [leAt_leBytes_append]
    exact Nat.mod_eq_of_lt (BitVec.isLt _)

theorem length_statusRecord (s : State) : (statusRecord s).length = 64 := by
  simp [statusRecord]

theorem leAt_statusRecord (s : State) : leAt (statusRecord s) 8 12 = maskOf (portsRunning s) := by
  have hports : ∀ p ∈ portsRunning s, p < 96 := fun p hp =>
    List.mem_range.1 (List.mem_filter.1 hp).1
  simp only [statusRecord, List.append_assoc]
  simp (disch := simp) only [leAt_append_of_length_le, length_leBytes, List.length_cons, List.length_nil]
  rw [leAt_leBytes_append]
  exact Nat.mod_eq_of_lt (maskOf_lt hports)

/-! ### PORT_INFO and COUNTERS_READ -/

theorem onUnit_ok {b : Bool} (h : b = true) (f : State → State) (s : State) : onUnit b f s = .next (f s) := if_pos h

theorem refuseIf_one {src : CmdSrc} {st : W16} {b : Bool} {f : State → State} {s : State} :
    refuseIf src [(b, st)] f s = if b then finish src st [] s else f s := by
  cases b <;> rfl

/-! ### FLAGS_READ_CLEAR (R264) -/

/-- A palette with the flags of `mask` cleared. -/
def withoutFlags (mask : BitVec 4) (p : Palette) : Palette := { p with flags := p.flags &&& ~~~mask }

/-- What clearing the flags `mask` of the palettes `l` makes of the palettes. -/
def clearedPalettes (mask : BitVec 4) (l : List Nat) (ps : List Palette) : List Palette :=
  l.foldl (fun ps n => ps.modify n (withoutFlags mask)) ps

theorem forEach_clearFlags (l : List Nat) (mask : BitVec 4) (s : State) :
    forEach l (fun n => clearFlags n mask) s =
      { s with canvas := { s.canvas with palettes := clearedPalettes mask l s.canvas.palettes } } := by
  induction l generalizing s with
  | nil => rfl
  | cons n l ih => rw [forEach_cons, ih]; rfl

theorem length_clearedPalettes (mask : BitVec 4) (l : List Nat) (ps : List Palette) :
    (clearedPalettes mask l ps).length = ps.length := by
  induction l generalizing ps with
  | nil => rfl
  | cons n l ih => rw [clearedPalettes, List.foldl_cons]; exact (ih _).trans (List.length_modify ..)

theorem withoutFlags_twice (mask : BitVec 4) (p : Palette) :
    withoutFlags mask (withoutFlags mask p) = withoutFlags mask p := by
  simp [withoutFlags, BitVec.and_assoc]

theorem nth_modify {n k : Nat} {ps : List Palette} (hn : n < ps.length) (f : Palette → Palette) :
    nth (ps.modify k f) n = if k = n then f (nth ps n) else nth ps n := by
  simp only [nth, List.getD_eq_getElem?_getD, List.getElem?_modify, List.getElem?_eq_getElem hn]
  split <;> simp

theorem nth_clearedPalettes (mask : BitVec 4) (l : List Nat) {ps : List Palette} {n : Nat} (hn : n < ps.length) :
    nth (clearedPalettes mask l ps) n = if n ∈ l then withoutFlags mask (nth ps n) else nth ps n := by
  induction l generalizing ps with
  | nil => rfl
  | cons k l ih =>
    rw [clearedPalettes, List.foldl_cons]
    refine (ih (by simpa using hn)).trans ?_
    rw [nth_modify hn]
    by_cases hk : k = n
    · subst hk
      simp [withoutFlags_twice]
    · simp [hk, Ne.symm hk]

theorem mem_maskList {n w m : Nat} : n ∈ maskList w m ↔ n < w ∧ bitOf m n = true := by
  simp [maskList]

theorem flagsCmd_clears (src : CmdSrc) (p : Bytes) (s : State) (hlen : s.canvas.palettes.length = 32) :
    ∃ u : State, flagsCmd src p s = finish src stOk (flagRecords s) u ∧
      u = { s with canvas := { s.canvas with palettes := u.canvas.palettes } } ∧ u.canvas.palettes.length = 32 ∧
      ∀ n, n < 32 → nth u.canvas.palettes n = { nth s.canvas.palettes n with
        flags := if bitOf (leAt p 0 4) n
          then (nth s.canvas.palettes n).flags &&& ~~~(BitVec.ofNat 4 (leAt p 4 1))
          else (nth s.canvas.palettes n).flags } := by
  refine ⟨_, rfl, ?_⟩
  rw [forEach_clearFlags]
  refine ⟨rfl, (length_clearedPalettes ..).trans hlen, fun n hn => ?_⟩
  dsimp only
  rw [nth_clearedPalettes _ _ (hlen ▸ hn)]
  simp only [mem_maskList, hn, true_and]
  split <;> rfl

theorem flagsCmd_none (src : CmdSrc) (s : State) : flagsCmd src [] s = finish src stOk (flagRecords s) s := rfl

/-- Settles O29: the records field by field, and the flags of the named palettes. -/
theorem statusAndFlagCommands : Obligations.StatusAndFlagCommands := by
  refine ⟨fun s src b h => ⟨?_, length_identifyRecord s, leAt_identifyRecord s⟩,
    fun s src b h => ⟨?_, length_statusRecord s, leAt_statusRecord s⟩, fun s src b h => ?_, fun s src b h => ?_,
    fun s src b h hlen => ?_, fun s src b h hlen => ?_⟩
  · exact (onUnit_ok h.ok ..).trans (by rw [command_given h h.len (.inl (by decide))])
  · exact (onUnit_ok h.ok ..).trans (by rw [command_given h h.len (.inl (by decide))])
  · refine (onUnit_ok h.ok ..).trans ?_
    rw [command_given h h.len (.inl (by decide)), portInfoCmd, refuseIf_one]
    by_cases hp : leAt (cmdParams b) 0 1 ≤ 95 <;> simp [hp, Nat.not_lt.2]
  · refine (onUnit_ok h.ok ..).trans ?_
    rw [command_given h h.len (.inl (by decide)), countersCmd, refuseIf_one]
    cases counterRange (cmdParams b) <;> rfl
  · have hnone : cmdParams b = [] := List.drop_eq_nil_of_le hlen.le
    refine (onUnit_ok h.ok ..).trans ?_
    rw [command_given h (by simp [flagsLength, h.2.2]) (.inl (by decide)), hnone, flagsCmd_none]
  · obtain ⟨u, hu, hrest⟩ := flagsCmd_clears src (cmdParams b) s hlen
    refine ⟨u, (onUnit_ok h.ok ..).trans ?_, hrest⟩
    rw [command_given h (by simp [flagsLength, h.2.2]) (.inl (by decide)), hu]

end Sys2Proof.Machine
end

section
/-! PROOFS. Start-up: the causes of a chip reset and its release (R432, R440 to R443), the stages up to the HBM (R433, R434,
R426, R427), and CHIP_RESET (R441). -/

namespace Sys2Proof.Machine

variable {s : State}

/-! ### A chip reset (R440) -/

theorem spoilBank_keeps (s : State) : (spoilBank s).retired = s.flash.retired ∧
    (spoilBank s).snapshots = s.flash.snapshots := by
  unfold spoilBank
  split
  · exact ⟨rfl, rfl⟩
  · unfold setBank
    (repeat' split) <;> exact ⟨rfl, rfl⟩

theorem fwFloor_spoilBank (s : State) : (spoilBank s).fwFloor = s.flash.fwFloor ∧
    (spoilBank s).cfgFloor = s.flash.cfgFloor := by
  have h := floorsOf_spoilBank s
  simp only [floorsOf, Prod.mk.injEq] at h
  exact ⟨h.1, h.2.1⟩

theorem wasReset_chipReset {u : State} (htrip : u.boot.thermTrip = s.boot.thermTrip) (hflash : u.flash = s.flash) :
    WasReset s (chipReset u) where
  held := rfl
  easel := rfl
  config := rfl
  ports := rfl
  switch := rfl
  canvas := rfl
  streams := rfl
  sketch := rfl
  tick := rfl
  tray := rfl
  linkA := rfl
  linkB := rfl
  counters := rfl
  trip := htrip
  floors := hflash ▸ fwFloor_spoilBank u
  retired := hflash ▸ (spoilBank_keeps u).1
  snapshots := hflash ▸ (spoilBank_keeps u).2

theorem exec_resetNAssert {n : Nat} (hpow : s.boot.powered = true) (hn : 1000 ≤ n) :
    exec (.resetNAssert n) s = .next (chipReset (updBoot (fun b => { b with resetLow := true }) s)) := by
  refine congrArg Host.Outcome.next (if_neg ?_)
  simp [hpow, Nat.not_lt.2 hn]

theorem resetNAssert_short {n : Nat} (hn : n < 1000) : exec (.resetNAssert n) s = .next s :=
  congrArg Host.Outcome.next (if_pos (by simp [hn]))

theorem coreRailFall_resets (r : CoreRail) (hpow : s.boot.powered = true) :
    ∃ t, exec (.coreRailFall r) s = .next t ∧ WasReset s t ∧ r ∈ t.boot.railsLow ∧
      t.health.records = if r = .vddHbm ∨ r = .vddqHbm then [] else s.health.records := by
  refine ⟨_, congrArg Host.Outcome.next (if_neg (by simp [hpow])), wasReset_chipReset ?_ ?_, ?_, ?_⟩
  · unfold when
    split <;> rfl
  · unfold when
    split <;> rfl
  · have hrails : ∀ u : State, (when (isHbmRail r) (updHealth (fun h => { h with records := [] })) u).boot = u.boot := by
      intro u
      unfold when
      split <;> rfl
    show r ∈ (when (isHbmRail r) _ _).boot.railsLow
    rw [hrails]
    by_cases hr : r ∈ s.boot.railsLow <;> simp [hr]
  · cases r <;> rfl

theorem refclkLoss_resets (hpow : s.boot.powered = true) :
    ∃ t, exec .refclkLoss s = .next t ∧ WasReset s t ∧ t.boot.refclkLocked = false ∧
      t.health.records = s.health.records :=
  ⟨_, congrArg Host.Outcome.next (if_neg (by simp [hpow])), wasReset_chipReset rfl rfl, rfl, rfl⟩

theorem powerLoss_clears (s : State) :
    ∃ t, exec .powerLoss s = .next t ∧ t.boot.powered = false ∧ t.ports = List.replicate 96 {} ∧ t.sketch = {} ∧
      t.streams = {} ∧ t.tray = {} ∧ t.health = {} ∧ t.flash.fwFloor = s.flash.fwFloor ∧
      t.flash.retired = s.flash.retired ∧ t.flash.snapshots = s.flash.snapshots :=
  ⟨_, rfl, rfl, rfl, rfl, rfl, rfl, rfl, (fwFloor_spoilBank s).1, spoilBank_keeps s⟩

theorem powerOn_enters (h : s.boot.powered = false) :
    ∃ t, exec .powerOn s = .next t ∧ t.boot.powered = true ∧ t.boot.inReset = true ∧ t.boot.thermTrip = false ∧
      t.boot.boots = 0 ∧ t.flash.fwFloor = s.flash.fwFloor ∧ t.health = {} :=
  ⟨_, congrArg Host.Outcome.next (if_neg (by simp [h])), rfl, rfl, rfl, rfl, rfl, rfl⟩

/-! ### The release of chip reset (R432, R443) -/

theorem exec_chipResetRelease (hpow : s.boot.powered = true) :
    exec .chipResetRelease s =
      .next (when (mayLeaveReset s) leaveReset (updBoot (fun b => { b with resetLow := false }) s)) := by
  show Host.Outcome.next (when _ _ (when s.boot.powered _ s)) = _
  rw [hpow]
  rfl

theorem leaveReset_starts (s : State) :
    (leaveReset s).boot.inReset = false ∧ (leaveReset s).boot.resetEnd = s.now ∧
      (leaveReset s).boot.boots = s.boot.boots + 1 ∧ (leaveReset s).flash = s.flash ∧ (leaveReset s).ports = s.ports ∧
      (leaveReset s).sketch = s.sketch := by
  have hout : ∀ u : State, outside { tray := true, power := true } (when s.power.alert alertRequest u) =
      outside { tray := true, power := true } u := fun u => by simp
  unfold leaveReset
  rw [boot_of_outside (hout _) rfl, flash_of_outside (hout _) rfl, ports_of_outside (hout _) rfl,
    sketch_of_outside (hout _) rfl]
  exact ⟨rfl, rfl, rfl, rfl, rfl, rfl⟩

/-- Settles O15, cause by cause. -/
theorem resetCausesAndRelease : Obligations.ResetCausesAndRelease := by
  refine ⟨fun s n hpow hn => ⟨_, exec_resetNAssert hpow hn, wasReset_chipReset rfl rfl, rfl, rfl⟩,
    fun s n _ hn => resetNAssert_short hn, fun s r hpow => coreRailFall_resets r hpow,
    fun s hpow => refclkLoss_resets hpow, powerLoss_clears, fun s h => powerOn_enters h,
    fun s hpow => congrArg Host.Outcome.next (when_of hpow ..), fun s hpow hin hclk htrip hjtag => ?_,
    fun s hpow htrip => ?_⟩
  · refine ⟨_, (exec_chipResetRelease hpow).trans (congrArg Host.Outcome.next (when_of ?_ ..)), leaveReset_starts _⟩
    simp [mayLeaveReset, hpow, hin, hclk, htrip, hjtag]
  · have hno : mayLeaveReset s = false := by simp [mayLeaveReset, htrip]
    rw [exec_chipResetRelease hpow, hno]
    rfl

/-! ### The stages (R433, R434, R426, R427) -/

theorem testBit_maskOf (l : List Nat) (i : Nat) : (maskOf l).testBit i = decide (i ∈ l) := by
  have hfold : ∀ m, (l.foldl (fun m i => m ||| 2 ^ i) m).testBit i = (m.testBit i || decide (i ∈ l)) := by
    induction l with
    | nil => simp
    | cons k l ih =>
      intro m
      rw [List.foldl_cons, ih, Nat.testBit_or, Nat.testBit_two_pow]
      by_cases hk : k = i
      · simp [hk]
      · simp [hk, Ne.symm hk]
  exact (hfold 0).trans (by simp)

theorem getLsbD_strapField {n i : Nat} (ups : List Nat) (l : List PinLevel) (hi : i < n) :
    (strapField n ups l).getLsbD i = pinReads (ups.contains i) (l.getD i .open) := by
  rw [strapField, BitVec.getLsbD_ofNat, testBit_maskOf, decide_eq_true hi, Bool.true_and]
  simp [hi]

theorem setFatal_fatal (s : State) :
    (setFatal s).boot = { s.boot with fatal := true } ∧ (setFatal s).ports = s.ports ∧ (setFatal s).flash = s.flash := by
  unfold setFatal
  split
  next h =>
    refine ⟨?_, rfl, rfl⟩
    rw [← h]
  next =>
    have hout : ∀ u : State, outside {} (setCauseBoth 8 u) = outside {} u := fun u => by simp
    exact ⟨boot_of_outside (fp := {}) (hout _) rfl, (ports_of_outside (fp := {}) (hout _) rfl).trans rfl,
      (flash_of_outside (fp := {}) (hout _) rfl).trans rfl⟩

theorem reconstruct_eq (x h : Bytes) :
    reconstruct x h = if Config.reconstructs x h = true then some Config.deviceSecret else none := rfl

theorem secretFrom_eq (f : Flash) (x : Bytes) (r : Bool) :
    secretFrom f x r = if r = true ∧ (Config.reconstructs x f.helper1 = true ∨ Config.reconstructs x f.helper2 = true)
      then some Config.deviceSecret else none := by
  cases r <;> cases h1 : Config.reconstructs x f.helper1 <;> cases h2 : Config.reconstructs x f.helper2 <;>
    simp [secretFrom, reconstruct_eq, h1, h2]

theorem rootSecretComplete_done (x : Bytes) (r : Bool) (hin : s.boot.inReset = false) (hstraps : s.boot.strapsValid = true)
    (hroot : s.boot.rootDone = false) :
    ∃ t, exec (.rootSecretComplete x r) s = .next t ∧ t.boot.rootDone = true ∧ t.ports = s.ports ∧
      t.flash.fwFloor = s.flash.fwFloor ∧ t.flash.cfgFloor = s.flash.cfgFloor ∧
      (if r = true ∧ (Config.reconstructs x s.flash.helper1 = true ∨ Config.reconstructs x s.flash.helper2 = true)
       then t.boot.secret = some Config.deviceSecret ∧ t.boot.identity = identityDigest Config.deviceSecret ∧
        t.boot.chipTag = BitVec.ofNat 32 (leAt t.boot.identity 0 4) ∧ t.boot.fatal = s.boot.fatal ∧
        t.flash.floorOk = (s.flash.floorTag == floorTagOf Config.deviceSecret s.flash.fwFloor s.flash.cfgFloor)
       else t.boot.fatal = true ∧ t.boot.secret = s.boot.secret ∧ t.boot.chipTag = s.boot.chipTag ∧ t.flash = s.flash) := by
  have hmine : (s.boot.inReset || !s.boot.strapsValid || s.boot.rootDone) = false := by simp [hin, hstraps, hroot]
  refine ⟨rootSecret x r s, rfl, ?_⟩
  by_cases hsec : r = true ∧ (Config.reconstructs x s.flash.helper1 = true ∨ Config.reconstructs x s.flash.helper2 = true)
  · rw [if_pos hsec]
    simp only [rootSecret, hmine, secretFrom_eq, if_pos hsec]
    exact ⟨rfl, rfl, rfl, rfl, rfl, rfl, rfl, rfl, rfl⟩
  · rw [if_neg hsec]
    have hnone : rootSecret x r s = setFatal (updBoot (fun b => { b with rootDone := true }) s) := by
      simp only [rootSecret, hmine, secretFrom_eq, if_neg hsec]
      rfl
    obtain ⟨hboot, hports, hflash⟩ := setFatal_fatal (updBoot (fun b => { b with rootDone := true }) s)
    rw [hnone, hboot, hports, hflash]
    exact ⟨rfl, rfl, rfl, rfl, rfl, rfl, rfl, rfl⟩

theorem pcieStageComplete_up (a b : PcieLink) (hin : s.boot.inReset = false) (hroot : s.boot.rootDone = true)
    (hup : s.boot.pcieUp = false) :
    ∃ t, exec (.pcieStageComplete a b) s = .next t ∧ t.boot.pcieUp = true ∧
      t.host.fnA.linkUp = (!s.host.fnA.perst) ∧ t.host.fnB.linkUp = (!s.host.fnB.perst) ∧
      t.host.fnA.link = a ∧ t.host.fnB.link = b ∧ t.flash = s.flash ∧ t.ports = s.ports :=
  ⟨_, congrArg Host.Outcome.next (if_neg (by simp [hin, hroot, hup])), rfl, rfl, rfl, rfl, rfl, rfl, rfl⟩

theorem hbmTrainingComplete_trained (hin : s.boot.inReset = false) (hroot : s.boot.rootDone = true)
    (hno : s.boot.hbmTrained = false) (hheld : s.health.heldRecords = []) :
    ∃ t, exec .hbmTrainingComplete s = .next t ∧ t.boot.hbmTrained = true ∧ t.health.records = s.health.records ∧
      t.health.recSeq = newestSeq s.health.records ∧ t.ports = s.ports := by
  have hmine : (s.boot.inReset || !s.boot.rootDone || s.boot.hbmTrained) = false := by simp [hin, hroot, hno]
  have hexec : exec .hbmTrainingComplete s = .next (hbmTrained s) := rfl
  rw [hexec, hbmTrained, hmine, hheld]
  exact ⟨_, rfl, rfl, rfl, rfl, rfl⟩

/-- Settles O16, stage by stage. -/
theorem earlyStagesComplete : Obligations.EarlyStagesComplete := by
  refine ⟨fun s x hin hv hdue => ?_, fun n i ups l hi => ?_,
    fun s x r hin hstraps hroot => rootSecretComplete_done x r hin hstraps hroot, fun _ => rfl,
    fun s a b hin hroot hup => pcieStageComplete_up a b hin hroot hup,
    fun s hin hroot hno hheld => hbmTrainingComplete_trained hin hroot hno hheld⟩
  · exact congrArg Host.Outcome.next (if_neg (by simp [hin, hv, Nat.not_lt.2 hdue]))
  · rw [getLsbD_strapField ups l hi]
    cases l.getD i .open <;> rfl

end Sys2Proof.Machine
end

section
/-! PROOFS. CHIP_RESET (R355, R441): its kinds, its refusals and the reset at the end of its 1 ms. -/

namespace Sys2Proof.Machine

section
variable {s : State} {src : CmdSrc} {b : Bytes} {k : Nat} {whole : Bool}

/-- The row of a kind runs its own checks. -/
theorem command_chipReset (h : Given s src b 0xF0 8) (hk : subCode b = k) :
    onUnit src.ok (command src (isSub 0xF0 k) (plen 8) (resetCmd src whole)) s =
      .next (resetCmd src whole (cmdParams b) s) := by
  rw [onUnit_ok h.ok, command_givenSub h hk h.len (.inl (by decide))]

theorem resetCmd_begins (hconfirm : leAt (cmdParams b) 4 4 = 0x05719600) (hnone : s.boot.pendingReset = none) :
    resetCmd src whole (cmdParams b) s =
      finish src stOk [] { s with boot := { s.boot with pendingReset := some (whole, s.now + 1000000) } } := by
  simp only [resetCmd, hconfirm, hnone]
  rfl

theorem resetCmd_badParam (hconfirm : leAt (cmdParams b) 4 4 ≠ 0x05719600) :
    resetCmd src whole (cmdParams b) s = finish src stBadParam [] s := by
  rw [resetCmd, bne_iff_ne.2 hconfirm, refuseIf_hit]

theorem resetCmd_busy (hconfirm : leAt (cmdParams b) 4 4 = 0x05719600) (hsome : s.boot.pendingReset ≠ none) :
    resetCmd src whole (cmdParams b) s = finish src stBusy [] s := by
  rw [resetCmd, hconfirm, Option.isSome_iff_ne_none.2 hsome, bne_self_eq_false, refuseIf_skip, refuseIf_hit]

/-- A kind that has no row is refused where it stands (R339, log 91). -/
theorem rowless_chipReset (hearly : earlyRefusal s src b = none) (hop : cmdOpcode b = 0xF0) (hlen : cmdParamLen b = 8)
    (hfit : bytesFit b = true) (h1 : subCode b ≠ 1) (h2 : subCode b ≠ 2) : rowless s src b = some stBadParam := by
  simp [rowless, hop, h1, h2, hearly, hlen, hfit]

end

section
variable {s : State} {hp : HostPort} {r : Nat} {f : RingFetch} {c : RingCmd}

theorem earlyRefusal_ring_chipReset (hop : cmdOpcode c.bytes = 0xF0) (ht : cmdTarget c.bytes = 0xFFFF) :
    earlyRefusal s (.ring hp r) c.bytes = none := by
  simp [earlyRefusal, hop, ht, cmdClass]

theorem fetchedCmd_kept {x : Ring} (h : fetchedCmd x f = some c) : c.discard = false := by
  unfold fetchedCmd at h
  dsimp only at h
  split at h
  · cases h
  · obtain rfl := Option.some.inj h
    rfl

theorem settleRing_rowless {u : State} {st : W16} (hc : (ringOf u hp r).cmd = some c) (hrep : c.reply = none)
    (hrow : rowless u (.ring hp r) c.bytes = some st) : settleRing hp r u = finish (.ring hp r) st [] u := by
  simp only [settleRing, commandOf, hc, hrep, Option.isNone_none, if_true, hrow]

theorem ringEntryFetch_unknownKind (hr : r < 4) (hlen : (fnOf s hp).rings.length = 4) (hmay : mayFetch s hp r = true)
    (hc : fetchedCmd (ringOf s hp r) f = some c) (hrep : c.reply = none) (hop : cmdOpcode c.bytes = 0xF0)
    (hplen : cmdParamLen c.bytes = 8) (hfit : bytesFit c.bytes = true) (ht : cmdTarget c.bytes = 0xFFFF)
    (h1 : subCode c.bytes ≠ 1) (h2 : subCode c.bytes ≠ 2) :
    ∃ t x, exec (.ringEntryFetch hp r f) s = .next t ∧ (ringOf t hp r).cmd = some x ∧
      x.reply = some { status := stBadParam, tag := cmdTag c.bytes, opcode := 0xF0, result := [] } ∧
      t.boot = s.boot := by
  have hboot : (fetchEntry hp r f s).boot = s.boot :=
    boot_of_outside (fp := { switch := true, host := true }) (by simp) rfl
  have hring := congrArg Ring.cmd (ringOf_updRing (s := s) (hlen ▸ hr : r < (fnOf s hp).rings.length) fun x => { x with
    crHead := BitVec.ofNat 12 ((x.crHead.toNat + 1) % ringSize x), cmd := some c })
  refine ⟨_, { c with reply := some { status := stBadParam, tag := cmdTag c.bytes, opcode := 0xF0, result := [] } },
    exec_ringEntryFetch hr f, ?_, rfl, hboot⟩
  have hrow := rowless_chipReset (s := updRing hp r (fun x => { x with
    crHead := BitVec.ofNat 12 ((x.crHead.toNat + 1) % ringSize x), cmd := some c }) s) (src := .ring hp r)
    (earlyRefusal_ring_chipReset hop ht) hop hplen hfit h1 h2
  have hfetch : fetchEntry hp r f s = finish (.ring hp r) stBadParam [] (updRing hp r (fun x => { x with
      crHead := BitVec.ofNat 12 ((x.crHead.toNat + 1) % ringSize x), cmd := some c }) s) := by
    simp only [fetchEntry, hmay, hc]
    exact settleRing_rowless hring hrep hrow
  rw [hfetch, (finish_ring_answers _ _ hring hrep (fetchedCmd_kept hc)).1, hop]
  rfl

end

/-! ### The end of the 1 ms -/

section
variable {s : State} {u : Nat}

theorem delayEnds_chip (h : s.boot.pendingReset = some (true, u)) (hdue : u ≤ s.now) : delayEnds s = chipReset s := by
  simp [delayEnds, h, Nat.not_lt.2 hdue]

theorem delayEnds_easel (h : s.boot.pendingReset = some (false, u)) (hdue : u ≤ s.now)
    (hready : s.boot.easelReady = true) : delayEnds s = easelDown s := by
  simp [delayEnds, h, Nat.not_lt.2 hdue, commandedRestart, hready]

theorem easelDown_keeps (s : State) :
    (easelDown s).boot.easelReady = false ∧ (easelDown s).boot.restarting = true ∧
      (easelDown s).boot.fatal = s.boot.fatal ∧ (easelDown s).boot.lastRestart = s.boot.lastRestart ∧
      (easelDown s).tick = s.tick ∧ (easelDown s).canvas = s.canvas := by
  let fp : Footprint := { ports := true, streams := true, sketch := true, tray := true, boot := true, flash := true
                          host := true, health := true }
  have hout : outside fp (easelDown s) = outside fp s := by simp [fp]
  have htray : ∀ v : State, (releaseTray v).boot = v.boot := fun v =>
    boot_of_outside (fp := { tray := true }) (by simp) rfl
  have hboot : (easelDown s).boot = { s.boot with
      pendingReset := none, upload := {}, writing := none, easelReady := false, restarting := true, restarted := true } :=
    congrArg (fun b : Boot => { b with
      pendingReset := none, upload := {}, writing := none, easelReady := false, restarting := true, restarted := true })
      (htray s)
  rw [hboot]
  exact ⟨rfl, rfl, rfl, rfl, tick_of_outside hout rfl, canvas_of_outside hout rfl⟩

end

/-- Settles O19, outcome by outcome. -/
theorem commandedResets : Obligations.CommandedResets := by
  refine ⟨fun s src b hacc hop hlen hconfirm hnone => ?_,
    fun s hp r f c hr hlen hmay hc hrep hop hplen hfit ht h1 h2 =>
      ringEntryFetch_unknownKind hr hlen hmay hc hrep hop hplen hfit ht h1 h2,
    fun s src b hacc hop hlen hconfirm => ?_, fun s src b hacc hop hlen hconfirm hsome => ?_,
    fun s n hlive _ hn => ⟨_, exec_resetNAssert hlive.1 hn, wasReset_chipReset rfl rfl, rfl⟩,
    fun s t h hdue => ⟨_, rfl, ?_⟩, fun s t h hdue hready => ⟨_, rfl, ?_⟩,
    fun s c rest n h hearly hop hlen hfit h1 h2 => ?_⟩
  · have hgiven : Given s src b 0xF0 8 := ⟨hacc, hop, hlen⟩
    exact ⟨fun hk => (command_chipReset hgiven hk).trans (congrArg _ (resetCmd_begins hconfirm hnone)),
      fun hk => (command_chipReset hgiven hk).trans (congrArg _ (resetCmd_begins hconfirm hnone))⟩
  · have hgiven : Given s src b 0xF0 8 := ⟨hacc, hop, hlen⟩
    exact ⟨fun hk => (command_chipReset hgiven hk).trans (congrArg _ (resetCmd_badParam hconfirm)),
      fun hk => (command_chipReset hgiven hk).trans (congrArg _ (resetCmd_badParam hconfirm))⟩
  · have hgiven : Given s src b 0xF0 8 := ⟨hacc, hop, hlen⟩
    exact ⟨fun hk => (command_chipReset hgiven hk).trans (congrArg _ (resetCmd_busy hconfirm hsome)),
      fun hk => (command_chipReset hgiven hk).trans (congrArg _ (resetCmd_busy hconfirm hsome))⟩
  · rw [delayEnds_chip h hdue]
    exact wasReset_chipReset rfl rfl
  · rw [delayEnds_easel h hdue hready]
    exact easelDown_keeps s
  · rw [settleInband_rowless n h (rowless_chipReset hearly hop hlen hfit h1 h2), hop]
    rfl

end Sys2Proof.Machine
end

section
/-! PROOFS. The firmware (R424, R327, R434 to R436): the fetch from a host, the image that is judged, and its start. -/

namespace Sys2Proof.Machine

variable {s : State}

theorem boot_of_quiet {t : State} (h : quiet t = quiet s) : t.boot = s.boot := (congrArg State.boot h :)
theorem ports_of_quiet {t : State} (h : quiet t = quiet s) : t.ports = s.ports := (congrArg State.ports h :)
theorem flash_of_quiet {t : State} (h : quiet t = quiet s) : t.flash = s.flash := (congrArg State.flash h :)
theorem tray_of_quiet {t : State} (h : quiet t = quiet s) : t.tray = s.tray := (congrArg State.tray h :)

/-! ### BOOT_STATUS (R327) -/

theorem quiet_setBootStatus (v : BitVec 2) (s : State) :
    quiet (setBootStatus v s) = quiet (updBoot (fun b => { b with bootStatus := v }) s) := by
  unfold setBootStatus
  split
  next h => rw [← h]; rfl
  next =>
    dsimp only
    split
    · rfl
    · exact quiet_setCause ..

theorem boot_setBootStatus (v : BitVec 2) (s : State) :
    (setBootStatus v s).boot = { s.boot with bootStatus := v } := boot_of_quiet (quiet_setBootStatus v s)

theorem ports_setBootStatus (v : BitVec 2) (s : State) : (setBootStatus v s).ports = s.ports :=
  (ports_of_quiet (quiet_setBootStatus v s)).trans rfl

theorem flash_setBootStatus (v : BitVec 2) (s : State) : (setBootStatus v s).flash = s.flash :=
  (flash_of_quiet (quiet_setBootStatus v s)).trans rfl

theorem setBootStatus_same {v : BitVec 2} (h : s.boot.bootStatus = v) : setBootStatus v s = s := if_pos h

theorem cause_setBootStatus {v : BitVec 2} {hp : HostPort} (hport : bootPort s = some hp) (h : s.boot.bootStatus ≠ v) :
    (fnOf (setBootStatus v s) hp).intCause.getLsbD 7 = true := by
  have hport' : bootPort (updBoot (fun b => { b with bootStatus := v }) s) = some hp := hport
  simp only [setBootStatus, if_neg h, hport', intCause_setCause]
  simp

theorem startFetch_good {hp : HostPort} (hwait : waitsForFetch s hp = true) (hlo : 4096 ≤ s.boot.bootLen.toNat)
    (hhi : s.boot.bootLen.toNat ≤ 67108864) : startFetch hp s = setBootStatus 1 s := by
  simp [startFetch, hwait, hlo, hhi]

theorem startFetch_bad {hp : HostPort} (hwait : waitsForFetch s hp = true)
    (hlen : s.boot.bootLen.toNat < 4096 ∨ 67108864 < s.boot.bootLen.toNat) : startFetch hp s = setBootStatus 3 s := by
  have hno : ¬(4096 ≤ s.boot.bootLen.toNat ∧ s.boot.bootLen.toNat ≤ 67108864) := by omega
  simp [startFetch, hwait, hno]

/-- A device that waits for a fetch has its boot port, and fetches nothing yet. -/
theorem waitsForFetch_port {hp : HostPort} (h : waitsForFetch s hp = true) :
    bootPort s = some hp ∧ s.boot.bootStatus ≠ 1 := by
  simp only [waitsForFetch, Bool.and_eq_true, bne_iff_ne, decide_eq_true_eq] at h
  obtain ⟨⟨⟨⟨⟨⟨⟨⟨-, hport⟩, -⟩, -⟩, -⟩, -⟩, hstatus⟩, -⟩, -⟩ := h
  exact ⟨hport, hstatus⟩

/-! ### The image that is judged (R424) -/

theorem firmwareDue_facts (h : firmwareDue s = true) :
    s.boot.fwAccepted = false ∧ s.boot.hbmTrained = true ∧ s.boot.secret.isSome = true ∧ s.boot.easelStopped = false := by
  simp only [firmwareDue, Bool.and_eq_true, Bool.not_eq_true'] at h
  obtain ⟨⟨⟨⟨⟨-, hhbm⟩, hsecret⟩, hfw⟩, hstop⟩, -⟩ := h
  exact ⟨hfw, hhbm, hsecret, hstop⟩

theorem bootStatus_of_due (h : firmwareDue s = true) (hbank : firmwareBank s = none) : s.boot.bootStatus = 1 := by
  simp only [firmwareDue, hbank, Bool.and_eq_true] at h
  exact of_decide_eq_true h.2

theorem firmwareBank_host {hp : HostPort} (hport : bootPort s = some hp) (hrun : s.boot.restarting = false) :
    firmwareBank s = none := by
  simp [firmwareBank, readsFlash, hport, hrun]

theorem firmwareBank_flash (h : readsFlash s = true) : firmwareBank s = some (s.flash.activeFw != s.boot.triedOther) :=
  if_pos h

theorem exec_firmwareVerified (f : Bytes) (hdue : firmwareDue s = true) :
    exec (.firmwareVerified f) s = .next (if imageAccepted s false (firmwareImage s f)
      then startFirmware (firmwareImage s f) s else refuseFirmware s) :=
  congrArg Host.Outcome.next (if_neg (by simp [hdue]))

theorem refuseFirmware_host (h : firmwareBank s = none) : refuseFirmware s = setBootStatus 3 s :=
  if_neg (by simp [h])

theorem refuseFirmware_first {b : Bool} (h : firmwareBank s = some b) (htried : s.boot.triedOther = false) :
    refuseFirmware s = { s with boot := { s.boot with triedOther := true } } :=
  if_pos (by simp [h, htried])

theorem refuseFirmware_second (htried : s.boot.triedOther = true) : refuseFirmware s = setBootStatus 3 s :=
  if_neg (by simp [htried])

/-! ### The start of the firmware (R436) -/

/-- A heartbeat to the rack manager takes its number. -/
theorem sendDevHeartbeat_eq (s : State) : ∃ n o, sendDevHeartbeat s = { s with
    tray := { s.tray with devSeq := n }, out := o } := by
  unfold sendDevHeartbeat sendRack
  split
  · split
    · exact ⟨_, _, rfl⟩
    · exact ⟨_, _, rfl⟩
  · exact ⟨_, _, rfl⟩

theorem quiet_setCauseBoth (i : Nat) (s : State) : quiet (setCauseBoth i s) = quiet s := by
  simp [setCauseBoth]

/-- A change of the owner is told, and changes nothing but the number of the next message. -/
theorem noteOwner_keeps (own : Nat) (s : State) :
    ∃ n, quiet (noteOwner own s) = quiet { s with tray := { s.tray with devSeq := n } } := by
  unfold noteOwner
  split
  · exact ⟨s.tray.devSeq, rfl⟩
  · obtain ⟨n, o, h⟩ := sendDevHeartbeat_eq (setCauseBoth 9 s)
    refine ⟨n, ?_⟩
    rw [h]
    exact congrArg (fun t : State => { t with tray := { t.tray with devSeq := n } }) (quiet_setCauseBoth 9 s)

theorem boot_noteOwner (own : Nat) (s : State) : (noteOwner own s).boot = s.boot := by
  obtain ⟨n, h⟩ := noteOwner_keeps own s
  exact (boot_of_quiet h).trans rfl

/-- What the start of an image leaves, but for the number of the next message to the rack manager. -/
def firmwareStarted (b : Bytes) (s : State) : State :=
  updBoot (fun x => { x with
    fwAccepted := true, fwVersion := imVersion b, fwDigest := statedDigest b, fwSec := w32 (imSec b)
    bootBank := bankCode s, bootAt := if x.restarting then x.bootAt else s.now, bootStatus := 2 }) (firmwareBegins s)

theorem quiet_startFirmware (b : Bytes) (s : State) :
    ∃ n, quiet (startFirmware b s) =
      quiet { firmwareStarted b s with tray := { (firmwareStarted b s).tray with devSeq := n } } := by
  obtain ⟨n, h⟩ := noteOwner_keeps (ownership s) (updBoot (fun x => { x with
    fwAccepted := true, fwVersion := imVersion b, fwDigest := statedDigest b, fwSec := w32 (imSec b)
    bootBank := bankCode s, bootAt := if x.restarting then x.bootAt else s.now }) (firmwareBegins s))
  refine ⟨n, (quiet_setBootStatus ..).trans ?_⟩
  exact congrArg (fun t : State => { t with boot := { t.boot with bootStatus := 2 } }) h

theorem boot_firmwareBegins (s : State) : (firmwareBegins s).boot = s.boot :=
  boot_of_outside (fp := { ports := true, switch := true, canvas := true, streams := true, sketch := true, tray := true
                           power := true, health := true }) (by simp) rfl

theorem boot_startFirmware (b : Bytes) (s : State) :
    (startFirmware b s).boot = { s.boot with
      fwAccepted := true, fwVersion := imVersion b, fwDigest := statedDigest b, fwSec := w32 (imSec b)
      bootBank := bankCode s, bootAt := if s.boot.restarting then s.boot.bootAt else s.now, bootStatus := 2 } := by
  obtain ⟨n, h⟩ := quiet_startFirmware b s
  refine (boot_of_quiet h).trans ?_
  exact congrArg (fun x : Boot => { x with
      fwAccepted := true, fwVersion := imVersion b, fwDigest := statedDigest b, fwSec := w32 (imSec b)
      bootBank := bankCode s, bootAt := if x.restarting then x.bootAt else s.now, bootStatus := 2 })
    (boot_firmwareBegins s)

theorem flash_startFirmware (b : Bytes) (s : State) : (startFirmware b s).flash = s.flash :=
  flash_of_outside (fp := { ports := true, switch := true, canvas := true, streams := true, sketch := true, tray := true
                            power := true, boot := true, health := true }) (by simp) rfl

/-! ### What a judgement leaves -/

theorem firmwareVerified_host {hp : HostPort} (f : Bytes) (hport : bootPort s = some hp)
    (hrun : s.boot.restarting = false) (hdue : firmwareDue s = true) :
    let ok := imageAccepted s false (padTo s.boot.bootLen.toNat f)
    ∃ t, exec (.firmwareVerified f) s = .next t ∧ t.boot.fwAccepted = ok ∧ t.boot.bootStatus = (if ok then 2 else 3) ∧
      (fnOf t hp).intCause.getLsbD 7 = true ∧ (ok = true → t.boot.bootBank = if hp = .a then 2 else 3) := by
  intro ok
  have hbank := firmwareBank_host hport hrun
  have hstatus := bootStatus_of_due hdue hbank
  have himage : firmwareImage s f = padTo s.boot.bootLen.toNat f := by simp [firmwareImage, hbank]
  refine ⟨_, exec_firmwareVerified f hdue, ?_⟩
  rw [himage]
  cases hok : ok
  · rw [if_neg (by simpa [ok] using hok), refuseFirmware_host hbank, boot_setBootStatus]
    refine ⟨(firmwareDue_facts hdue).1, rfl, cause_setBootStatus hport ?_, fun h => by cases h⟩
    rw [hstatus]
    decide
  · rw [if_pos hok, boot_startFirmware]
    refine ⟨rfl, rfl, ?_, fun _ => ?_⟩
    · refine cause_setBootStatus ?_ ?_
      · rw [bootPort, boot_noteOwner, updBoot_boot, boot_firmwareBegins]
        exact hport
      · rw [boot_noteOwner, updBoot_boot, boot_firmwareBegins, hstatus]
        decide
    · simp only [bankCode, hbank, hport]
      cases hp <;> rfl

theorem bootPort_restart_readsFlash (hrestart : s.boot.restarting = true) (hstatus : s.boot.bootStatus = 2) :
    readsFlash s = true := by
  simp [readsFlash, hrestart, hstatus]

theorem barOk_of_quiet {u : State} {hp : HostPort} (h : quiet u = quiet s) : barOk u hp = barOk s hp := by
  have hfn := quietFn_of_quiet h hp
  have hboot := boot_of_quiet h
  have hlink : (fnOf u hp).linkUp = (fnOf s hp).linkUp := (congrArg HostFn.linkUp hfn :)
  have hperst : (fnOf u hp).perst = (fnOf s hp).perst := (congrArg HostFn.perst hfn :)
  have hd3 : (fnOf u hp).d3hot = (fnOf s hp).d3hot := (congrArg HostFn.d3hot hfn :)
  have hbar : (fnOf u hp).barSet = (fnOf s hp).barSet := (congrArg HostFn.barSet hfn :)
  have hmse : (fnOf u hp).mse = (fnOf s hp).mse := (congrArg HostFn.mse hfn :)
  replace hboot : u.boot = s.boot := hboot
  simp only [barOk, linkOk, hlink, hperst, hd3, hbar, hmse, hboot]

theorem firmwareVerified_restart (f : Bytes) (hrestart : s.boot.restarting = true) (hstatus : s.boot.bootStatus = 2)
    (hdue : firmwareDue s = true)
    (hbad : imageAccepted s false (bankImage s false (s.flash.activeFw != s.boot.triedOther)) = false) :
    ∃ t, exec (.firmwareVerified f) s = .next t ∧ t.boot.fwAccepted = false ∧ t.boot.restarting = true ∧
      t.boot.bootStatus = (if s.boot.triedOther then 3 else 2) ∧ t.boot.triedOther = true ∧ t.ports = s.ports ∧
      (∀ hp, s.boot.triedOther = true → s.boot.rootDone = true → bootPort s = some hp → barOk s hp = true →
        waitsForFetch t hp = true) := by
  have hbank := firmwareBank_flash (bootPort_restart_readsFlash hrestart hstatus)
  obtain ⟨hfw, hhbm, hsecret, hstop⟩ := firmwareDue_facts hdue
  have himage : firmwareImage s f = bankImage s false (s.flash.activeFw != s.boot.triedOther) := by
    simp only [firmwareImage, hbank]
  refine ⟨_, exec_firmwareVerified f hdue, ?_⟩
  rw [himage, if_neg (by simp [hbad])]
  cases htried : s.boot.triedOther
  · rw [refuseFirmware_first hbank htried]
    exact ⟨hfw, hrestart, hstatus, rfl, rfl, fun _ h => by cases h⟩
  · rw [refuseFirmware_second htried, boot_setBootStatus]
    refine ⟨hfw, hrestart, rfl, htried, ports_setBootStatus 3 s, fun hp _ hroot hport hbar => ?_⟩
    have hbar' : barOk (setBootStatus 3 s) hp = true := (barOk_of_quiet (quiet_setBootStatus 3 s)).trans hbar
    have hport' : bootPort (setBootStatus 3 s) = some hp := by
      unfold bootPort
      rw [boot_setBootStatus]
      exact hport
    have hboot := boot_setBootStatus 3 s
    generalize setBootStatus 3 s = u at hbar' hport' hboot ⊢
    simp [waitsForFetch, readsFlash, hbar', hport', hboot, hhbm, hroot, hsecret, hfw, hstop]

theorem firmwareStarted_counters (b : Bytes) (h : s.boot.restarting = false) :
    let t := firmwareStarted b s
    t.power.commanded = 0 ∧ t.power.ref = (s.power.power : Rat) / 1000 ∧
      t.ports = s.ports.map (fun q => { q with ctr := List.replicate q.ctr.length 0 }) ∧
      ∀ x ∈ t.switch.ctr ++ t.switch.pkt ++ t.canvas.ctr ++ t.streams.ctr ++ t.sketch.ctr ++ t.host.ctr ++ t.tray.ctr ++
        t.power.ctr ++ t.health.ctr, x = 0 := by
  have hbegin : firmwareBegins s =
      updPower (fun p => { p with commanded := 0, ref := (p.power : Rat) / 1000 }) (clearCounters s) := by
    simp [firmwareBegins, h]
  intro t
  simp only [t, firmwareStarted, hbegin]
  refine ⟨rfl, rfl, rfl, fun x hx => ?_⟩
  simp only [List.mem_append, or_assoc] at hx
  rcases hx with hx | hx | hx | hx | hx | hx | hx | hx | hx <;> exact List.eq_of_mem_replicate hx

/-- Settles O17: the fetch, the judgement of each image, and the state that the firmware starts in. -/
theorem firmwareBoots : Obligations.FirmwareBoots := by
  refine ⟨fun s hp hwait hlo hhi => ?_, fun s hp hwait hstatus hlen => ?_, fun s hp hwait hstatus hlen => ?_,
    fun s hp f hport hrun hdue => firmwareVerified_host f hport hrun hdue, fun s f hport hrun hdue htried => ?_,
    fun s f hport hrun hdue htried => ?_,
    fun s f hrestart hstatus hdue hbad => firmwareVerified_restart f hrestart hstatus hdue hbad, fun s b hrun => ?_⟩
  · obtain ⟨hport, hstatus⟩ := waitsForFetch_port hwait
    refine ⟨_, congrArg Host.Outcome.next (startFetch_good hwait hlo hhi), ?_, cause_setBootStatus hport hstatus,
      flash_setBootStatus 1 s⟩
    rw [boot_setBootStatus]
  · obtain ⟨hport, -⟩ := waitsForFetch_port hwait
    refine ⟨_, congrArg Host.Outcome.next (startFetch_bad hwait hlen), ?_, cause_setBootStatus hport ?_⟩
    · rw [boot_setBootStatus]
    · rw [hstatus]
      decide
  · exact congrArg Host.Outcome.next ((startFetch_bad hwait hlen).trans (setBootStatus_same hstatus))
  · have hbank : firmwareBank s = some s.flash.activeFw := by
      rw [firmwareBank_flash (by simp [readsFlash, hport]), htried, Bool.bne_false]
    have himage : firmwareImage s f = bankImage s false s.flash.activeFw := by simp only [firmwareImage, hbank]
    refine ⟨_, exec_firmwareVerified f hdue, ?_⟩
    rw [himage]
    split
    · rw [boot_startFirmware]
      exact ⟨rfl, rfl, rfl⟩
    · exact refuseFirmware_first hbank htried
  · have hbank : firmwareBank s = some (!s.flash.activeFw) := by
      rw [firmwareBank_flash (by simp [readsFlash, hport]), htried, Bool.bne_true]
    have himage : firmwareImage s f = bankImage s false (!s.flash.activeFw) := by simp only [firmwareImage, hbank]
    refine ⟨_, exec_firmwareVerified f hdue, ?_⟩
    rw [himage]
    cases hok : imageAccepted s false (bankImage s false (!s.flash.activeFw))
    · rw [if_neg (by decide), refuseFirmware_second htried, boot_setBootStatus]
      exact ⟨(firmwareDue_facts hdue).1, rfl, fun _ => ports_setBootStatus 3 s,
        flash_setBootStatus 3 s⟩
    · rw [if_pos rfl, boot_startFirmware, flash_startFirmware]
      exact ⟨rfl, rfl, fun h => (by cases h), rfl⟩
  · obtain ⟨n, hq⟩ := quiet_startFirmware b s
    obtain ⟨hcommanded, href, hports, hzero⟩ := firmwareStarted_counters b hrun
    intro t
    refine ⟨?_, (congrArg (fun u => u.power.commanded) hq).trans hcommanded,
      (congrArg (fun u => u.power.ref) hq).trans href, (congrArg State.ports hq).trans hports, ?_, flash_startFirmware b s⟩
    · rw [boot_startFirmware]
    · have hctr := congrArg (fun u : State => u.switch.ctr ++ u.switch.pkt ++ u.canvas.ctr ++ u.streams.ctr ++
        u.sketch.ctr ++ u.host.ctr ++ u.tray.ctr ++ u.power.ctr ++ u.health.ctr) hq
      intro x hx
      exact hzero x (hctr ▸ hx)

end Sys2Proof.Machine
end

section
/-! PROOFS. What the reports leave as they are, and the owner of the tray (R380). -/

namespace Sys2Proof.Machine

/-! ### Events, records and causes -/

section
variable (code source resource address rtype i : Nat) (data : Bytes) (s : State)

@[simp] theorem raise_boot : (raise code source data s).boot = s.boot := boot_of_outside (fp := {}) (by simp) rfl
@[simp] theorem raise_flash : (raise code source data s).flash = s.flash := flash_of_outside (fp := {}) (by simp) rfl
@[simp] theorem raise_ports : (raise code source data s).ports = s.ports := ports_of_outside (fp := {}) (by simp) rfl
@[simp] theorem raise_tray : (raise code source data s).tray = s.tray := tray_of_outside (fp := {}) (by simp) rfl
@[simp] theorem raise_power : (raise code source data s).power = s.power := power_of_outside (fp := {}) (by simp) rfl
@[simp] theorem raise_policy : (raise code source data s).policy = s.policy :=
  policy_of_outside (fp := {}) (by simp) rfl
@[simp] theorem raise_tick : (raise code source data s).tick = s.tick := tick_of_outside (fp := {}) (by simp) rfl
@[simp] theorem raise_healthCore : healthCore (raise code source data s).health = healthCore s.health :=
  health_of_outside (fp := {}) (by simp) rfl

@[simp] theorem record_boot : (record rtype code resource address data s).boot = s.boot :=
  boot_of_outside (fp := {}) (by simp) rfl
@[simp] theorem record_flash : (record rtype code resource address data s).flash = s.flash :=
  flash_of_outside (fp := {}) (by simp) rfl
@[simp] theorem record_ports : (record rtype code resource address data s).ports = s.ports :=
  ports_of_outside (fp := {}) (by simp) rfl
@[simp] theorem record_tray : (record rtype code resource address data s).tray = s.tray :=
  tray_of_outside (fp := {}) (by simp) rfl
@[simp] theorem record_power : (record rtype code resource address data s).power = s.power :=
  power_of_outside (fp := {}) (by simp) rfl
@[simp] theorem record_healthCore : healthCore (record rtype code resource address data s).health = healthCore s.health :=
  health_of_outside (fp := {}) (by simp) rfl

theorem now_of_skel {s t : State} (h : skel t = skel s) : t.now = s.now := congrArg Skel.now h

@[simp] theorem raise_now : (raise code source data s).now = s.now := now_of_skel (raise_skel ..)
@[simp] theorem record_now : (record rtype code resource address data s).now = s.now := now_of_skel (record_skel ..)

@[simp] theorem setCauseBoth_boot : (setCauseBoth i s).boot = s.boot := boot_of_outside (fp := {}) (by simp) rfl
@[simp] theorem setCauseBoth_tray : (setCauseBoth i s).tray = s.tray := tray_of_outside (fp := {}) (by simp) rfl
@[simp] theorem setCauseBoth_power : (setCauseBoth i s).power = s.power := power_of_outside (fp := {}) (by simp) rfl

end

/-! ### The owner (R380) -/

section
variable (s : State)

@[simp] theorem sendDevHeartbeat_boot : (sendDevHeartbeat s).boot = s.boot :=
  boot_of_outside (fp := { tray := true }) (by simp) rfl
@[simp] theorem sendDevHeartbeat_power : (sendDevHeartbeat s).power = s.power :=
  power_of_outside (fp := { tray := true }) (by simp) rfl

/-- A heartbeat takes its number, and leaves the rest of the tray. -/
theorem sendDevHeartbeat_tray : ∃ n, (sendDevHeartbeat s).tray = { s.tray with devSeq := n } := by
  obtain ⟨n, o, h⟩ := sendDevHeartbeat_eq s
  exact ⟨n, congrArg State.tray h⟩

theorem noteOwner_tray (own : Nat) : ∃ n, (noteOwner own s).tray = { s.tray with devSeq := n } := by
  obtain ⟨n, h⟩ := noteOwner_keeps own s
  exact ⟨n, (tray_of_quiet h).trans rfl⟩

/-- The new owner, and nothing else of the tray but the number of the next message and the note of a fresh commit. -/
theorem setOwn_tray (new : OwnState) (cause : Nat) :
    ∃ n f, (setOwn new cause s).tray = { s.tray with own := new, freshCommit := f, devSeq := n } := by
  unfold setOwn
  dsimp only
  split
  next h => exact ⟨s.tray.devSeq, s.tray.freshCommit, by rw [← h]⟩
  next =>
    obtain ⟨n, hn⟩ := noteOwner_tray (raise 0x0100 0xFFFF
      ([BitVec.ofNat 8 (ownCode s.tray.own), BitVec.ofNat 8 (ownCode new)] ++ leBytes 2 cause)
      (updTray (fun t => { t with own := new, freshCommit := t.freshCommit && !(new = .standby) }) s)) (ownership s)
    exact ⟨n, _, by rw [hn, raise_tray]; rfl⟩

theorem setOwn_own (new : OwnState) (cause : Nat) : (setOwn new cause s).tray.own = new := by
  obtain ⟨n, f, h⟩ := setOwn_tray s new cause
  rw [h]

end

end Sys2Proof.Machine
end

section
/-! PROOFS. The late stages of start-up and the Easel's restarts (R409, R422, R424, R430). -/

namespace Sys2Proof.Machine

variable {s : State}

/-! ### The configuration image (R422) -/

@[simp] theorem settleMode_boot (cause : Nat) (s : State) : (settleMode cause s).boot = s.boot :=
  boot_of_outside (fp := { tray := true, power := true }) (by simp) rfl
@[simp] theorem settleMode_policy (cause : Nat) (s : State) : (settleMode cause s).policy = s.policy :=
  policy_of_outside (fp := { tray := true, power := true }) (by simp) rfl
@[simp] theorem settleMode_ports (cause : Nat) (s : State) : (settleMode cause s).ports = s.ports :=
  ports_of_outside (fp := { tray := true, power := true }) (by simp) rfl

/-- The mode in force is the highest that is asked for; a change is counted, and noted where it protects. -/
theorem settleMode_power (cause : Nat) (s : State) : ∃ p k c, (settleMode cause s).power =
    { s.power with mode := modeAsked s, protect := p, protectCause := k, ctr := c } := by
  unfold settleMode
  dsimp only
  split
  next h => exact ⟨s.power.protect, s.power.protectCause, s.power.ctr, by rw [← h]⟩
  next => exact ⟨_, _, _, ((sendDevHeartbeat_power _).trans (raise_power ..)).trans rfl⟩

theorem configVerified_judged (hin : s.boot.inReset = false) (hfw : s.boot.fwAccepted = true)
    (hdone : s.boot.cfgDone = false) (hstop : s.boot.easelStopped = false) :
    let b := openBank s s.flash.activeCfg
    let c := Config.configContents b
    ∃ t, exec .configVerified s = .next t ∧
      (if imageAccepted s true b then t.boot.cfgDone = true ∧ t.boot.config = some c ∧ t.boot.configVersion = imVersion b ∧
          t.power.budgetTarget = c.budget ∧ t.policy = applyEntries (imageEntries s.policy c.policy) s.policy ∧
          ∀ p, p < s.ports.length → (portOf t p).rw = startWeight t.policy
       else t = { s with boot := { s.boot with cfgDone := true } }) := by
  refine ⟨_, congrArg Host.Outcome.next (if_neg (by simp [hin, hfw, hdone, hstop])), ?_⟩
  dsimp only
  split
  · unfold takeConfig
    extract_lets c u v w
    obtain ⟨p, k, n, hpower⟩ := settleMode_power 3
      (updPower (fun p => { p with budgetTarget := c.budget, budget := (c.budget : Rat) }) w)
    rw [settleMode_boot, settleMode_policy, hpower]
    refine ⟨rfl, rfl, rfl, rfl, rfl, fun p hp => ?_⟩
    rw [portOf, settleMode_ports]
    simp [w, v, u, List.getD_eq_getElem?_getD, hp]
  · rfl

/-! ### easel_ready (R430) -/

theorem ports_enterTray (cause : Nat) (s : State) : (enterTray cause s).ports = s.ports :=
  ports_of_outside (fp := { tray := true }) (by simp) rfl

theorem boot_enterTray (cause : Nat) (s : State) : (enterTray cause s).boot = s.boot :=
  boot_of_outside (fp := { tray := true }) (by simp) rfl

theorem trainTwin_tray (s : State) : ∃ w, (trainTwin s).tray = { s.tray with twin := w } :=
  ⟨_, (forEach_keeps State.tray (f := fun l => emit (.twinLaneSet l (laneSet l).1)) (fun _ _ => rfl) ..).trans rfl⟩

theorem when_trainTwin_tray (b : Bool) (s : State) : ∃ w, (when b trainTwin s).tray = { s.tray with twin := w } := by
  cases b
  · exact ⟨s.tray.twin, rfl⟩
  · exact trainTwin_tray s

/-- The tray at the start, and the tray of a device that may take control. -/
def trayEntered (s : State) : State := updTray (fun t => { t with readyAt := s.now, rmAt := s.now }) s

def trayTrained (s : State) : State :=
  when (!s.tray.twin.up) trainTwin (updTray (fun t => { t with
    snapshot := latestSnapshot s.flash.snapshots, coresDown := false, failedCheck := 0 }) s)

theorem enterTray_eq (cause : Nat) (s : State) :
    enterTray cause s =
      if s.boot.role.toNat > 1 then setOwn .passive cause (trayEntered s)
      else if (trayTrained (trayEntered s)).tray.lineFault then trayTrained (trayEntered s)
      else setOwn .claiming cause (trayTrained (trayEntered s)) := rfl

theorem trayTrained_tray (s : State) : ∃ w, (trayTrained s).tray = { s.tray with
    snapshot := latestSnapshot s.flash.snapshots, coresDown := false, failedCheck := 0, twin := w } :=
  when_trainTwin_tray _ _

/-- The start of the tray: *Passive*, or *Claiming* where the own line is good. -/
theorem enterTray_starts (cause : Nat) (s : State) (hline : s.tray.lineFault = false) :
    (enterTray cause s).tray.own = (if s.boot.role.toNat ≤ 1 then .claiming else .passive) ∧
      (enterTray cause s).tray.readyAt = s.now := by
  rw [enterTray_eq]
  by_cases hrole : s.boot.role.toNat ≤ 1
  · obtain ⟨w, hw⟩ := trayTrained_tray (trayEntered s)
    have hgood : (trayTrained (trayEntered s)).tray.lineFault = false := by rw [hw]; exact hline
    obtain ⟨n, f, hown⟩ := setOwn_tray (trayTrained (trayEntered s)) .claiming cause
    rw [if_neg (Nat.not_lt.2 hrole), if_pos hrole, if_neg (by simp [hgood]), hown, hw]
    exact ⟨rfl, rfl⟩
  · obtain ⟨n, f, hown⟩ := setOwn_tray (trayEntered s) .passive cause
    rw [if_pos (Nat.not_le.1 hrole), if_neg hrole, hown]
    exact ⟨rfl, rfl⟩

theorem becomeReady_plain (pass : BitVec 32) (hret : s.flash.retired = []) (hfw : bootsNewFw s = false)
    (hcfg : s.flash.newCfg = false) (hrestart : s.boot.restarting = false) (hline : s.tray.lineFault = false) :
    let t := becomeReady pass s
    t.boot.easelReady = true ∧ t.tray.own = (if s.boot.role.toNat ≤ 1 then .claiming else .passive) ∧
      t.tray.readyAt = s.now ∧ t.ports = s.ports := by
  have hplain : becomeReady pass s = updFlash (fun f => { f with newFw := f.newFw, newCfg := f.newCfg, attempts := 0 })
      (enterTray 0 (updBoot (fun b => { b with easelReady := true, reached := true, fatal := false })
        (record 5 0 s.boot.bootBank.toNat 0 [] s))) := by
    simp [becomeReady, hret, hfw, hcfg, hrestart, when]
  obtain ⟨hown, hready⟩ := enterTray_starts 0 (updBoot (fun b => { b with
    easelReady := true, reached := true, fatal := false }) (record 5 0 s.boot.bootBank.toNat 0 [] s))
    (by simpa using hline)
  intro t
  simp only [t, hplain, updFlash_boot, updFlash_tray, updFlash_ports, boot_enterTray, ports_enterTray, hown, hready,
    updBoot_boot, updBoot_ports, updBoot_now, record_boot, record_ports, record_now, and_self]

/-! ### Boot attempts (R424) -/

/-- What a missed *easel_ready* clears of start-up, and the attempt it counts. -/
def attemptMissed (s : State) : State :=
  noteOwner (ownership s) (updBoot (fun b => { b with
    fwAccepted := false, restarting := false, restartCause := 0, triedOther := false, cfgDone := false, config := none
    configVersion := 0, configDigest := zeros 48, configSec := 0 })
    (updFlash (fun f => { f with attempts := f.attempts + 1 }) s))

theorem bootTimesOut_due (hin : s.boot.inReset = false)
    (hfw : s.boot.fwAccepted = true ∨ s.boot.restarting = true) (hready : s.boot.easelReady = false)
    (hbank : bankBooted s = some s.flash.activeFw) (hnew : s.flash.newFw = true)
    (hdue : s.boot.bootAt + 5000000000 ≤ s.now) :
    bootTimesOut s = when (decide ((attemptMissed s).flash.attempts ≥ 3)) fallBack (attemptMissed s) :=
  if_neg (by rcases hfw with h | h <;> simp [hin, h, hready, hbank, hnew, Nat.not_lt.2 hdue])

theorem flash_noteOwner (own : Nat) (s : State) : (noteOwner own s).flash = s.flash :=
  flash_of_outside (fp := { tray := true }) (by simp) rfl

theorem flash_attemptMissed (s : State) :
    (attemptMissed s).flash = { s.flash with attempts := s.flash.attempts + 1 } := flash_noteOwner ..

theorem boot_attemptMissed (s : State) :
    (attemptMissed s).boot.fwAccepted = false ∧ (attemptMissed s).boot.restarting = false := by
  rw [attemptMissed, boot_noteOwner]
  exact ⟨rfl, rfl⟩

theorem bootAttemptTimeout_again (hin : s.boot.inReset = false)
    (hfw : s.boot.fwAccepted = true ∨ s.boot.restarting = true) (hready : s.boot.easelReady = false)
    (hbank : bankBooted s = some s.flash.activeFw) (hnew : s.flash.newFw = true)
    (hdue : s.boot.bootAt + 5000000000 ≤ s.now) (hfew : s.flash.attempts < 2) :
    ∃ t, exec .bootAttemptTimeout s = .next t ∧ t.boot.fwAccepted = false ∧ t.boot.restarting = false ∧
      t.flash.attempts = s.flash.attempts + 1 ∧ t.flash.activeFw = s.flash.activeFw := by
  have hno : ¬(attemptMissed s).flash.attempts ≥ 3 := by
    rw [flash_attemptMissed]
    exact Nat.not_le.2 (Nat.succ_lt_succ hfew)
  refine ⟨_, congrArg Host.Outcome.next (bootTimesOut_due hin hfw hready hbank hnew hdue), ?_⟩
  rw [decide_eq_false hno, when, if_neg (by decide), flash_attemptMissed]
  exact ⟨(boot_attemptMissed s).1, (boot_attemptMissed s).2, rfl, rfl⟩

theorem fallBack_falls (hfloor : floorOf s false ≤ imSec (bankImage s false (!s.flash.activeFw))) :
    (fallBack s).flash.activeFw = (!s.flash.activeFw) ∧ (fallBack s).flash.newFw = false := by
  have hfall : (fallBack s).flash =
      { s.flash with activeFw := !s.flash.activeFw, newFw := false, attempts := 0, raiseFw := none } := by
    simp [fallBack, hfloor, updateStep]
  rw [hfall]
  exact ⟨rfl, rfl⟩

theorem bootAttemptTimeout_third (hin : s.boot.inReset = false)
    (hfw : s.boot.fwAccepted = true ∨ s.boot.restarting = true) (hready : s.boot.easelReady = false)
    (hbank : bankBooted s = some s.flash.activeFw) (hnew : s.flash.newFw = true)
    (hdue : s.boot.bootAt + 5000000000 ≤ s.now) (htwo : s.flash.attempts = 2)
    (hfloor : floorOf s false ≤ imSec (bankImage s false (!s.flash.activeFw))) :
    ∃ t, exec .bootAttemptTimeout s = .next t ∧ t.flash.activeFw = (!s.flash.activeFw) ∧ t.flash.newFw = false := by
  have hflash := flash_attemptMissed s
  have hthree : (attemptMissed s).flash.attempts ≥ 3 := by rw [hflash, htwo]
  have hmet : floorOf (attemptMissed s) false ≤
      imSec (bankImage (attemptMissed s) false (!(attemptMissed s).flash.activeFw)) := by
    simpa only [floorOf, bankImage, hflash] using hfloor
  obtain ⟨hactive, hfalse⟩ := fallBack_falls hmet
  refine ⟨_, congrArg Host.Outcome.next (bootTimesOut_due hin hfw hready hbank hnew hdue), ?_⟩
  rw [decide_eq_true hthree, when, if_pos rfl, hactive, hflash]
  exact ⟨rfl, hfalse⟩

/-! ### Uncommanded restarts (R409) -/

/-- An uncommanded restart: the Easel goes down, its fatal error is told and recorded. -/
theorem easelFails_eq {cause : Nat} {bad : Bool} (hlive : Live s) (hfw : s.boot.fwAccepted = true)
    (hstop : s.boot.easelStopped = false) :
    easelFails cause bad s = updBoot (fun b => { b with
        easelStopped := restartsAgain s, restartCause := BitVec.ofNat 8 cause, lastRestart := some s.now
        fwAccepted := b.fwAccepted && !bad, triedOther := b.triedOther && !bad })
      (record 2 10 cause 0 [] (setFatal (easelDown s))) :=
  if_neg (by simp [hlive.1, hlive.2, hfw, hstop])

theorem releaseControl_own (cause : Nat) (next : OwnState) (h : next ≠ .standby) (s : State) :
    (releaseControl cause next s).tray.own = next := by
  simp [releaseControl, when, h, setOwn_own]

theorem releaseTray_own (s : State) : (releaseTray s).tray.own ≠ .active := by
  unfold releaseTray
  split
  · rw [releaseControl_own _ _ (by decide)]
    decide
  next hno =>
    split
    · exact hno
    · rw [setOwn_own]
      decide

theorem easelDown_own (s : State) : (easelDown s).tray.own ≠ .active := releaseTray_own s

theorem boot_easelDown (s : State) : (easelDown s).boot = { s.boot with
    pendingReset := none, upload := {}, writing := none, easelReady := false, restarting := true, restarted := true } :=
  congrArg (fun b : Boot => { b with
    pendingReset := none, upload := {}, writing := none, easelReady := false, restarting := true, restarted := true })
    (boot_of_outside (fp := { tray := true }) (outside_releaseTray rfl s) rfl)

theorem easelDown_healthCtr (s : State) : (easelDown s).health.ctr = s.health.ctr :=
  (congrArg Health.ctr (health_of_outside (fp := { tray := true }) (outside_releaseTray rfl s) rfl) :)

theorem boot_easelFails {cause : Nat} {bad : Bool} (hlive : Live s) (hfw : s.boot.fwAccepted = true)
    (hstop : s.boot.easelStopped = false) :
    let b := (easelFails cause bad s).boot
    b.fatal = true ∧ b.easelReady = false ∧ b.restarting = true ∧ b.fwAccepted = !bad ∧
      b.easelStopped = restartsAgain s := by
  rw [easelFails_eq hlive hfw hstop, updBoot_boot, record_boot, (setFatal_fatal _).1, boot_easelDown]
  exact ⟨rfl, rfl, rfl, by rw [hfw, Bool.true_and], rfl⟩

theorem easelFails_rest {cause : Nat} {bad : Bool} (hlive : Live s) (hfw : s.boot.fwAccepted = true)
    (hstop : s.boot.easelStopped = false) :
    let t := easelFails cause bad s
    t.tray.own ≠ .active ∧ t.host.inband = [] ∧ t.tick = s.tick ∧ t.canvas = s.canvas ∧
      t.health.ctr = s.health.ctr := by
  have hout : outside { boot := true } (easelFails cause bad s) = outside { boot := true } (easelDown s) := by
    rw [easelFails_eq hlive hfw hstop]
    simp [bootMarks]
  obtain ⟨-, -, -, -, htick, hcanvas⟩ := easelDown_keeps s
  have htray := tray_of_outside hout rfl
  have hhost := host_of_outside hout rfl
  have hhealth := health_of_outside hout rfl
  refine ⟨?_, (congrArg HostState.inband hhost :), (tick_of_outside hout rfl).trans htick,
    (canvas_of_outside hout rfl).trans hcanvas, (congrArg Health.ctr hhealth :).trans (easelDown_healthCtr s)⟩
  rw [htray]
  exact easelDown_own s

theorem restartsAgain_first (h : s.boot.lastRestart = none) : restartsAgain s = false := by
  simp only [restartsAgain, h]

theorem restartsAgain_soon {u : Nat} (h : s.boot.lastRestart = some u) (hsoon : s.now < u + 60000000000) :
    restartsAgain s = true := by
  simp only [restartsAgain, h]
  exact decide_eq_true hsoon

theorem exec_easelMemoryUncorrectable {stack row word : Nat} (e : WordError) (bad : Bool) (hs : stack < 4)
    (hr : row < 1048576) (hw : word < 32) :
    exec (.easelMemoryUncorrectable stack row word e bad) s = .next (easelRead stack row word e bad s) :=
  onUnit_of (p := stack < 4 ∧ row < 1048576 ∧ word < 32) ⟨hs, hr, hw⟩ _ s

theorem boot_hbmRead (mem stack row word : Nat) (e : WordError) (s : State) :
    (hbmRead mem stack row word e s).boot = s.boot :=
  boot_of_outside (fp := { health := true }) (by simp) rfl

theorem easelMemoryUncorrectable_restarts {stack row word : Nat} {e : WordError} (bad : Bool) (hs : stack < 4)
    (hr : row < 1048576) (hw : word < 32) (he : eccOf e = .uncorrectable) (hlive : Live s)
    (hfw : s.boot.fwAccepted = true) (hstop : s.boot.easelStopped = false) :
    ∃ t, exec (.easelMemoryUncorrectable stack row word e bad) s = .next t ∧ t.boot.fatal = true ∧
      t.boot.easelReady = false ∧ t.boot.restarting = true ∧ t.boot.fwAccepted = !bad ∧ t.tray.own ≠ .active ∧
      t.health.ctr = (hbmRead 6 stack (easelRow row) word e s).health.ctr := by
  have hboot := boot_hbmRead 6 stack (easelRow row) word e s
  refine ⟨_, exec_easelMemoryUncorrectable e bad hs hr hw, ?_⟩
  rw [easelRead, if_pos he]
  have hlive' : Live (hbmRead 6 stack (easelRow row) word e s) := by rw [Live, hboot]; exact hlive
  rw [← hboot] at hfw hstop
  obtain ⟨hfatal, hready, hrestart, hfw', -⟩ := boot_easelFails (cause := 1) (bad := bad) hlive' hfw hstop
  obtain ⟨hown, -, -, -, hctr⟩ := easelFails_rest (cause := 1) (bad := bad) hlive' hfw hstop
  exact ⟨hfatal, hready, hrestart, hfw', hown, hctr⟩

/-! ### The end of a restart (R409, log 184) -/

theorem restartOver_due (hlive : Live s) (hrestart : s.boot.restarting = true) (hreached : s.boot.reached = true)
    (hfw : s.boot.fwAccepted = true) (hstop : s.boot.easelStopped = false) :
    restartOver s = enterTray 9 (endRestart (updBoot (fun b => { b with easelReady := true }) s)) :=
  if_neg (by simp [hrestart, hreached, hfw, hstop, hlive.2])

/-- What the end of a counted restart leaves: the words that stay marked lie outside the Easel's memory. -/
theorem endRestart_facts (hcause : s.boot.restartCause ≠ 0) :
    (endRestart s).boot = { s.boot with restarting := false, fatal := false, restartCause := 0 } ∧
      (endRestart s).tray = s.tray ∧ (endRestart s).health.ctr = bump 15 1 s.health.ctr ∧
      (endRestart s).health.badWords = s.health.badWords.filter (fun w =>
        !decide (266287972352 ≤ 32 * w ∧ 32 * w + 32 ≤ 266287972352 + 4294967296)) := by
  have hcounted : endRestart s = raise 0x0145 0xFFFF [s.boot.restartCause] (healthCount 15 1
      (easelWritten (updBoot (fun b => { b with restarting := false, fatal := false, restartCause := 0 }) s))) :=
    if_pos (bne_iff_ne.2 hcause)
  have hbad : (endRestart s).health.badWords = (healthCount 15 1
      (easelWritten (updBoot (fun b => { b with restarting := false, fatal := false, restartCause := 0 }) s))).health.badWords := by
    rw [hcounted]
    exact (congrArg Health.badWords (raise_healthCore ..) :)
  refine ⟨?_, ?_, ?_, hbad.trans ?_⟩
  · rw [hcounted, raise_boot]
    rfl
  · rw [hcounted, raise_tray]
    rfl
  · rw [hcounted, raise_healthCtr]
    rfl
  · rfl

theorem healthCore_enterTray (cause : Nat) (s : State) : healthCore (enterTray cause s).health = healthCore s.health :=
  health_of_outside (fp := { tray := true }) (by simp) rfl

theorem easelRestartComplete_over (hlive : Live s) (hrestart : s.boot.restarting = true)
    (hreached : s.boot.reached = true) (hfw : s.boot.fwAccepted = true) (hstop : s.boot.easelStopped = false)
    (hcause : s.boot.restartCause ≠ 0) (hline : s.tray.lineFault = false) (hrole : s.boot.role.toNat ≤ 1) :
    ∃ t, exec .easelRestartComplete s = .next t ∧ t.boot.fatal = false ∧ t.boot.easelReady = true ∧
      t.boot.restarting = false ∧ t.tray.own = .claiming ∧ t.health.ctr = bump 15 1 s.health.ctr ∧
      (∀ w ∈ t.health.badWords, 32 * w < 266287972352 ∨ 270582939648 ≤ 32 * w) ∧
      (∀ w ∈ s.health.badWords, 32 * w < 266287972352 → w ∈ t.health.badWords) := by
  obtain ⟨hboot, htray, hctr, hbad⟩ := endRestart_facts (s := updBoot (fun b => { b with easelReady := true }) s) hcause
  set u := endRestart (updBoot (fun b => { b with easelReady := true }) s) with hu
  have hhealth := healthCore_enterTray 9 u
  have hwords : (enterTray 9 u).health.badWords = u.health.badWords := (congrArg Health.badWords hhealth :)
  have hown := (enterTray_starts 9 u (by rw [htray]; exact hline)).1
  refine ⟨_, congrArg Host.Outcome.next (restartOver_due hlive hrestart hreached hfw hstop), ?_⟩
  rw [← hu, boot_enterTray, hboot, hown, hwords, hbad, hboot]
  refine ⟨rfl, rfl, rfl, if_pos hrole, (congrArg Health.ctr hhealth :).trans hctr, fun w hw => ?_, fun w hw hlow => ?_⟩
  · have hout := (List.mem_filter.1 hw).2
    simp only [Bool.not_eq_true', decide_eq_false_iff_not] at hout
    omega
  · refine List.mem_filter.2 ⟨hw, ?_⟩
    simp only [Bool.not_eq_true', decide_eq_false_iff_not]
    omega

/-- The words of the Easel's memory lie between the two addresses. -/
theorem easelRow_address {k r w : Nat} (hk : k < 4) (hr : r < 1048576) (hw : w < 32) :
    266287972352 ≤ rowAddress k (easelRow r) w ∧ rowAddress k (easelRow r) w + 32 ≤ 270582939648 := by
  unfold rowAddress easelRow
  omega

/-- Settles O18, stage by stage and restart by restart. -/
theorem lateStagesAndEaselRestarts : Obligations.LateStagesAndEaselRestarts := by
  refine ⟨fun s hin hfw hdone hstop => configVerified_judged hin hfw hdone hstop,
    fun s pass hin hfw hdone hreach hstop hrestart hret hnew hcfg _ hline => ?_,
    fun s hin hfw hready hbank hnew hdue hfew => bootAttemptTimeout_again hin hfw hready hbank hnew hdue hfew,
    fun s hin hfw hready hbank hnew hdue htwo hfloor =>
      bootAttemptTimeout_third hin hfw hready hbank hnew hdue htwo hfloor,
    fun s bad hlive hfw hstop hfirst => ?_,
    fun s stack row word e bad hs hr hw he hlive hfw hstop _ =>
      easelMemoryUncorrectable_restarts bad hs hr hw he hlive hfw hstop,
    fun s stack row word e bad hs hr hw he => ?_, fun s bad u hlive hfw hstop hlast hsoon => ?_,
    fun s hlive hrestart hreached hfw hstop hcause hline _ hrole =>
      easelRestartComplete_over hlive hrestart hreached hfw hstop hcause hline hrole,
    fun k r w hk hr hw => easelRow_address hk hr hw⟩
  · exact ⟨_, congrArg Host.Outcome.next (if_neg (by simp [hin, hfw, hdone, hreach, hstop])),
      becomeReady_plain pass hret hnew hcfg hrestart hline⟩
  · obtain ⟨hfatal, hready, hrestart, hfw', hstop'⟩ := boot_easelFails (cause := 2) (bad := bad) hlive hfw hstop
    obtain ⟨hown, hinband, htick, hcanvas, -⟩ := easelFails_rest (cause := 2) (bad := bad) hlive hfw hstop
    exact ⟨_, rfl, hfatal, hready, hrestart, hfw', hstop'.trans (restartsAgain_first hfirst), hown, hinband, htick, hcanvas⟩
  · rw [exec_easelMemoryUncorrectable e bad hs hr hw, easelRead, if_neg he]
  · obtain ⟨hfatal, -, -, -, hstop'⟩ := boot_easelFails (cause := 2) (bad := bad) hlive hfw hstop
    exact ⟨_, rfl, hstop'.trans (restartsAgain_soon hlast hsoon), hfatal⟩

end Sys2Proof.Machine
end

section
/-! PROOFS. The tray's part in commands: what frames and epochs leave of it, TWIN_CONFIG (R381), POLICY_SET (R352),
POWER_MODE_SET and SLOPE_LIMIT_SET (R353), CONTROL_HANDOVER (R378). -/

namespace Sys2Proof.Machine

variable {s : State}

/-! ### Frames, epochs and the release of control -/

theorem sendTwin_tray (typ : Nat) (p : Bytes) (s : State) :
    ∃ w, (sendTwin typ p s).tray = { s.tray with twin := w } := by
  unfold sendTwin
  split
  · exact ⟨s.tray.twin, rfl⟩
  · exact ⟨_, rfl⟩

theorem sendImageData_tray (e : W32) (n off : Nat) (b : Bytes) (s : State) :
    ∃ w, (sendImageData e n off b s).tray = { s.tray with twin := w } := by
  induction n generalizing off b s with
  | zero => exact ⟨s.tray.twin, rfl⟩
  | succ n ih =>
    unfold sendImageData
    split
    · exact ⟨s.tray.twin, rfl⟩
    · obtain ⟨w, hw⟩ := ih (off + 65536) (b.drop 65536)
        (sendTwin 0x02 (leBytes 4 e.toNat ++ leBytes 4 off ++ b.take 65536) s)
      obtain ⟨v, hv⟩ := sendTwin_tray 0x02 (leBytes 4 e.toNat ++ leBytes 4 off ++ b.take 65536) s
      exact ⟨w, by rw [hw, hv]⟩

/-- An epoch that is sent takes the next number, and waits for its acknowledge. -/
theorem sendEpoch_tray (s : State) : ∃ w, (sendEpoch s).tray = { s.tray with
    epoch := s.tray.epoch + 1, newest := some (imageOf s (s.tray.epoch + 1)), sendDue := false, awaits := true
    twin := w } := by
  unfold sendEpoch
  extract_lets e b u
  obtain ⟨w, hw⟩ := sendTwin_tray 0x03 (leBytes 4 e.toNat ++ leBytes 4 b.length ++ leBytes 4 (crc32 b).toNat ++ zeros 4)
    (sendImageData e 65 0 b u)
  obtain ⟨v, hv⟩ := sendImageData_tray e 65 0 b u
  exact ⟨w, by rw [hw, hv]; rfl⟩

/-- Control that is released: every output is dropped, and the settings that wait lapse. -/
theorem releaseControl_tray (cause : Nat) (next : OwnState) (s : State) :
    ∃ f n c w, (releaseControl cause next s).tray = { dropTray s.tray with
      own := next, freshCommit := f, devSeq := n, ctr := c, twin := w } := by
  unfold releaseControl
  extract_lets u v
  obtain ⟨x, hx⟩ := sendTwin_tray 0x06 (leBytes 2 cause ++ zeros 6) (trayCount 1 1 (updTray dropTray s))
  obtain ⟨n, f, hv⟩ := setOwn_tray u next cause
  have hbase : v.tray = { dropTray s.tray with
      own := next, freshCommit := f, devSeq := n, ctr := bump 1 1 s.tray.ctr, twin := x } := by
    rw [hv, hx]
    rfl
  unfold when
  split
  · obtain ⟨w, hw⟩ := sendTwin_tray 0x05 (zeros 8) v
    exact ⟨f, n, _, w, by rw [sendStateRequest, hw, hbase]⟩
  · exact ⟨f, n, _, x, hbase⟩

/-! ### TWIN_CONFIG (R381) -/

theorem twinConfigCmd_eq (src : CmdSrc) (p : Bytes) :
    twinConfigCmd src p s =
      (let m := leAt p 0 1
       let ns := leAt p 4 4 * (if s.tick.running then periodOf s else 4000)
       if m ≤ 1 ∧ 500000 ≤ ns ∧ ns ≤ 100000000
       then finish src stOk [] { s with tray := { s.tray with
        nextCopyMode := some (BitVec.ofNat 8 m), nextCycle := some (w32 (leAt p 4 4)), sendDue := true } }
       else finish src stBadParam [] s) := by
  simp only [twinConfigCmd, refuseIf_one, cycleOk]
  generalize (if s.tick.running then periodOf s else 4000) = per
  by_cases h : leAt p 0 1 ≤ 1 ∧ 500000 ≤ leAt p 4 4 * per ∧ leAt p 4 4 * per ≤ 100000000
  · rw [if_pos h, if_neg]
    · rfl
    · simp [h, Nat.not_lt.2 h.1]
  · rw [if_neg h, if_pos]
    simp only [Bool.or_eq_true, decide_eq_true_eq, Bool.not_eq_true', decide_eq_false_iff_not]
    omega

theorem judgeUnsync_tray (s : State) : ∃ n r, (judgeUnsync s).tray = { s.tray with
    unacked := n, ackSeen := false, unsyncRaised := r } := by
  unfold judgeUnsync
  extract_lets t n u
  split
  · exact ⟨n, true, by rw [raise_tray]; rfl⟩
  · exact ⟨n, s.tray.unsyncRaised, rfl⟩

theorem cycleEnds_takes {m : Byte} {n : W32} (haw : awake s = true) (hown : s.tray.own = .active)
    (hdue : s.tray.cycleAt + cycleNs s ≤ s.now) (hm : s.tray.nextCopyMode = some m) (hn : s.tray.nextCycle = some n) :
    (cycleEnds s).tray.copyMode = m ∧ (cycleEnds s).tray.cycleTicks = n ∧ (cycleEnds s).tray.nextCopyMode = none ∧
      (cycleEnds s).tray.nextCycle = none := by
  have hends : cycleEnds s = (let u := takeTwinConfig (updTray (fun t => { t with cycleAt := s.now }) (judgeUnsync s))
      when (u.tray.copyMode = 0 || u.tray.sendDue) sendEpoch u) := if_neg (by simp [haw, hown, hdue])
  obtain ⟨k, r, hj⟩ := judgeUnsync_tray s
  have htaken : (takeTwinConfig (updTray (fun t => { t with cycleAt := s.now }) (judgeUnsync s))).tray =
      { s.tray with unacked := k, ackSeen := false, unsyncRaised := r, cycleAt := s.now, copyMode := m, cycleTicks := n
                    nextCopyMode := none, nextCycle := none } := by
    simp only [takeTwinConfig, updTray_tray, hj, hm, hn, Option.getD_some]
  rw [hends]
  generalize takeTwinConfig (updTray (fun t => { t with cycleAt := s.now }) (judgeUnsync s)) = u at htaken
  dsimp only
  unfold when
  split
  · obtain ⟨w, hw⟩ := sendEpoch_tray u
    rw [hw, htaken]
    exact ⟨rfl, rfl, rfl, rfl⟩
  · rw [htaken]
    exact ⟨rfl, rfl, rfl, rfl⟩

theorem leAt_imageOf (s : State) (e : W32) : leAt (imageOf s e) 28 1 = s.tray.copyMode.toNat ∧
    (cycleInForce s < 4294967296 → leAt (imageOf s e) 24 4 = cycleInForce s) := by
  simp only [imageOf, List.append_assoc]
  constructor
  · simp (disch := simp) only [leAt_append_of_length_le, length_leBytes]
    simp [leAt, leVal]
  · intro h
    simp (disch := simp) only [leAt_append_of_length_le, length_leBytes]
    rw [leAt_leBytes_append]
    exact Nat.mod_eq_of_lt h

theorem imageContents_twinConfig {b p : Bytes} (hf : imageFormatOf b = Config.imageFormat)
    (hp : bodyOf (imageSections (leAt b 29 1) (b.drop 64)) 7 = p) :
    (imageContents b).copyMode.toNat = leAt p 0 1 ∧ (imageContents b).cycleTicks = w32 (leAt p 1 4) := by
  have hread : imageContents b = readSections b := if_pos hf
  have hlt : leAt p 0 1 < 2 ^ 8 := leAt_lt p 0 1
  rw [hread]
  simp only [readSections, hp, BitVec.toNat_ofNat, Nat.mod_eq_of_lt hlt, and_self]

theorem commitEpoch_takes (e : W32) (b : Bytes) (s : State) :
    (commitEpoch e b s).tray.copyMode = (imageContents b).copyMode ∧
      (commitEpoch e b s).tray.cycleTicks = (imageContents b).cycleTicks ∧
      (commitEpoch e b s).tray.committed = some b := by
  unfold commitEpoch
  extract_lets now u
  obtain ⟨w, hw⟩ := sendTwin_tray 0x04 (leBytes 4 e.toNat ++ zeros 4) (trayCount 4 1 u)
  rw [hw]
  exact ⟨rfl, rfl, rfl⟩

theorem selfCheckFails_lapses {check : Nat} (haw : awake s = true) (hown : s.tray.own = .active) :
    let t := selfCheckFails check s
    t.tray.nextCopyMode = none ∧ t.tray.nextCycle = none ∧ t.tray.copyMode = s.tray.copyMode ∧
      t.tray.cycleTicks = s.tray.cycleTicks := by
  obtain ⟨f, n, c, w, h⟩ := releaseControl_tray 3 .released
    (updTray (fun t => { t with coresDown := true, failedCheck := check, plausBad := 0 }) s)
  have hfails : selfCheckFails check s = raise 0x0104 check [] (releaseControl 3 .released
      (updTray (fun t => { t with coresDown := true, failedCheck := check, plausBad := 0 }) s)) :=
    if_neg (by simp [haw, hown])
  rw [hfails]
  dsimp only
  rw [raise_tray, h]
  exact ⟨rfl, rfl, rfl, rfl⟩

/-- Settles O39: the command, the next cycle, the image both ways, and the lapse with the release of control. -/
theorem twinConfigSetsTheCopy : Obligations.TwinConfigSetsTheCopy := by
  refine ⟨⟨rfl, rfl⟩, fun s src b h => ?_, fun s m n haw hown hdue hm hn => ?_, leAt_imageOf,
    fun s => ⟨_, rfl⟩, fun b p hf hp => imageContents_twinConfig hf hp, fun s e b => commitEpoch_takes e b s,
    fun s c hc haw hown => ?_⟩
  · refine (onUnit_ok h.ok ..).trans ?_
    rw [command_givenTray h h.len (.inl (by decide)), twinConfigCmd_eq]
  · exact ⟨_, rfl, cycleEnds_takes haw hown hdue hm hn⟩
  · rcases hc with rfl | rfl | rfl <;> exact ⟨_, rfl, selfCheckFails_lapses haw hown⟩

end Sys2Proof.Machine
end

section
/-! PROOFS. POLICY_SET (R352), POWER_MODE_SET and SLOPE_LIMIT_SET (R353), CONTROL_HANDOVER (R378). -/

namespace Sys2Proof.Machine

variable {s : State} {src : CmdSrc} {b : Bytes}

/-! ### Tray entries of a command -/

theorem leAt_cmdParams (b : Bytes) (off n : Nat) : leAt (cmdParams b) off n = leAt b (32 + off) n := by
  rw [leAt, leAt, cmdParams, List.drop_drop]

/-- A POLICY_SET is a tray command when an entry of it is a tray field. -/
theorem isTray_policySet (hop : cmdOpcode b = 0x70) (hfit : bytesFit b = true) :
    isTray b = (parseEntries (cmdParams b)).any isTrayEntry := by
  have hlen : (cmdParams b).length = cmdParamLen b := by
    rw [cmdParams, List.length_drop, of_decide_eq_true hfit]
    omega
  have hid : ∀ i, (w16 (leAt (cmdParams b) (8 * i) 2)).toNat = leAt b (32 + 8 * i) 2 := fun i => by
    rw [leAt_cmdParams]
    exact Nat.mod_eq_of_lt (leAt_lt b _ 2)
  simp only [isTray, hop, parseEntries, hlen, List.any_map, Function.comp_def, isTrayEntry, hid]
  rfl

theorem applyPolicy_noTray {l : List PolicyEntry} (h : l.any isTrayEntry = false) :
    applyPolicy l s = { s with policy := applyEntries l s.policy } := by
  have hall : l.filter (fun e => !isTrayEntry e) = l := by
    refine List.filter_eq_self.2 fun e he => ?_
    simpa using List.any_eq_false.1 h e he
  simp only [applyPolicy, hall, ite_self, h, Bool.false_eq_true, if_false]

theorem forEach_emit {α : Type} (g : α → State → Output) (l : List α) (s : State) :
    ∃ o, forEach l (fun a t => emit (g a t) t) s = { s with out := o } := by
  induction l generalizing s with
  | nil => exact ⟨s.out, rfl⟩
  | cons a l ih =>
    obtain ⟨o, h⟩ := ih (emit (g a s) s)
    exact ⟨o, h⟩

/-- Settings that are driven: the lasers and rail modules of the policy. -/
theorem driveSettings_eq (l r : List Nat) (s : State) : ∃ o, driveSettings l r s = { s with
    tray := { s.tray with lasers := s.policy.laserSet, modules := s.policy.railLimit }, out := o } := by
  unfold driveSettings
  obtain ⟨o, h⟩ := forEach_emit (fun i t => .laserSource i (nth t.policy.laserSet i)) l s
  obtain ⟨o', h'⟩ := forEach_emit (fun i t => .railModule i (nth t.policy.railLimit i)) r { s with out := o }
  exact ⟨o', by dsimp only; rw [h, h']; rfl⟩

theorem applyPolicy_tray {l : List PolicyEntry} (hown : s.tray.own = .active) (h : l.any isTrayEntry = true) :
    ∃ o, applyPolicy l s = { s with
      policy := applyEntries l s.policy, out := o
      tray := { s.tray with lasers := (applyEntries l s.policy).laserSet, modules := (applyEntries l s.policy).railLimit
                            policyAt := s.now, sendDue := true } } := by
  have happ : applyPolicy l s = updTray (fun t => { t with policyAt := s.now, sendDue := true })
      (driveSettings (indicesSet 0x109 l) (indicesSet 0x120 l) { s with policy := applyEntries l s.policy }) := by
    simp only [applyPolicy, hown, if_true, h]
  obtain ⟨o, ho⟩ := driveSettings_eq (indicesSet 0x109 l) (indicesSet 0x120 l)
    { s with policy := applyEntries l s.policy }
  exact ⟨o, by rw [happ, ho]; rfl⟩

theorem policyLength_of {n : Nat} (hlen : cmdParamLen b = n) (hlo : 8 ≤ n) (hhi : n ≤ 4064) (h8 : n % 8 = 0) :
    policyLength b = true := by
  simp [policyLength, hlen, hlo, hhi, h8]

theorem policyCmd_fault {p : Bytes} {i : Nat} (h : policyFault s.policy (parseEntries p) = some i) :
    policyCmd src p s = finish src stBadParam (leBytes 4 i) s := by
  simp only [policyCmd, h]

theorem policyCmd_applies {p : Bytes} (h : policyFault s.policy (parseEntries p) = none) :
    policyCmd src p s = finish src stOk [] (applyPolicy (parseEntries p) s) := by
  simp only [policyCmd, h, done]

/-- A tray command at a controller that is not active. -/
theorem command_notOwner {mine lenOk : Bytes → Bool} {f : Bytes → State → State} (hcmd : commandOf s src = some b)
    (hready : s.boot.easelReady = true) (hprog : inProgress s src = false) (hearly : earlyRefusal s src b = none)
    (hfit : bytesFit b = true) (hm : mine b = true) (hl : lenOk b = true) (ht : isTray b = true)
    (hown : s.tray.own ≠ .active) : command src mine lenOk f s = finish src stNotOwner [] s := by
  simp [command, hcmd, hready, hprog, hm, hearly, hl, hfit, ht, hown]

/-! ### POWER_MODE_SET and SLOPE_LIMIT_SET (R353, log 66) -/

theorem le_modeAsked_commanded (s : State) : s.power.commanded ≤ modeAsked s := Nat.le_max_left ..

theorem powerModeCmd_sets {p : Bytes} (h : leAt p 0 1 ≤ 3) :
    ∃ u : State, powerModeCmd src p s = finish src stOk ([BitVec.ofNat 8 u.power.mode] ++ zeros 3) u ∧
      u.power.commanded = leAt p 0 1 ∧ leAt p 0 1 ≤ u.power.mode ∧ u.ports = s.ports ∧ u.canvas = s.canvas ∧
      u.switch = s.switch := by
  have hout : outside { tray := true, power := true } (settleMode 1 (updPower (fun x => { x with commanded := leAt p 0 1 }) s)) =
      outside { tray := true, power := true } s := by simp
  obtain ⟨k, m, c, hpower⟩ := settleMode_power 1 (updPower (fun x => { x with commanded := leAt p 0 1 }) s)
  refine ⟨settleMode 1 (updPower (fun x => { x with commanded := leAt p 0 1 }) s), ?_, ?_, ?_,
    ports_of_outside hout rfl, canvas_of_outside hout rfl, switch_of_outside hout rfl⟩
  · rw [powerModeCmd, refuseIf_one, if_neg (by simpa using h)]
  · rw [hpower]
    rfl
  · rw [hpower]
    exact le_modeAsked_commanded (updPower (fun x => { x with commanded := leAt p 0 1 }) s)

theorem powerModeCmd_bad {p : Bytes} (h : 3 < leAt p 0 1) : powerModeCmd src p s = finish src stBadParam [] s := by
  rw [powerModeCmd, refuseIf_one, if_pos (decide_eq_true h)]

theorem slopeLimitCmd_eq (p : Bytes) :
    slopeLimitCmd src p s = if 10 ≤ leAt p 0 4 ∧ leAt p 0 4 ≤ 2000
      then finish src stOk [] { s with power := { s.power with slope := leAt p 0 4 } }
      else finish src stBadParam [] s := by
  rw [slopeLimitCmd, refuseIf_one, slopeOk]
  by_cases h : 10 ≤ leAt p 0 4 ∧ leAt p 0 4 ≤ 2000
  · rw [if_pos h, if_neg (by simp [h])]
    rfl
  · rw [if_neg h, if_pos (by rw [decide_eq_false h]; rfl)]

/-! ### CONTROL_HANDOVER (R378) -/

theorem handoverCmd_begins {p : Bytes} (hready : twinReady s = true) (hnone : s.tray.handover = none)
    (hown : s.tray.own = .active) :
    let t := handoverCmd src p s
    t.tray.epoch = s.tray.epoch + 1 ∧ t.tray.handover = some (src, s.tray.epoch + 1, s.now + 2000000) ∧
      t.tray.own = .active ∧ t.ports = s.ports := by
  have hbegin : handoverCmd src p s = updTray (fun t => { t with
      handover := some (src, t.epoch, (sendEpoch s).now + 2000000) }) (sendEpoch s) := by
    rw [handoverCmd, hready, hnone]
    rfl
  have hnow : (sendEpoch s).now = s.now := now_of_skel (by simp)
  obtain ⟨w, hw⟩ := sendEpoch_tray s
  rw [hbegin]
  simp only [updTray_tray, updTray_ports, hw, hnow]
  exact ⟨trivial, trivial, hown, ports_of_outside (fp := { tray := true }) (by simp) rfl⟩

theorem handoverCmd_notReady {p : Bytes} (h : twinReady s = false) : handoverCmd src p s = finish src stNotReady [] s := by
  rw [handoverCmd, h]
  rfl

theorem handoverCmd_busy {p : Bytes} (h : twinReady s = true) (hsome : s.tray.handover.isSome = true) :
    handoverCmd src p s = finish src stBusy [] s := by
  rw [handoverCmd, h, hsome]
  rfl

/-- Settles O37, command by command. -/
theorem policyPowerAndHandoverCommands : Obligations.PolicyPowerAndHandoverCommands := by
  refine ⟨fun s src b n i h hlo hhi h8 hf => ?_, fun s src b n h hlo hhi h8 hf => ?_,
    fun s src b n h hlo hhi h8 hf => ?_,
    fun s src b n hok hcmd hready hprog hearly hfit hop hlen hlo hhi h8 ht hown => ?_,
    fun s src b h hm => ?_, fun s src b h hm => ?_, fun s src b h => ?_, fun s src b h hready hnone => ?_,
    fun s src b h hno => ?_, fun s src b h hready hsome => ?_, fun s src e d h hdue => ?_,
    fun s src b hok hcmd hready hprog hearly hfit hop hlen hown => ?_⟩
  · refine (onUnit_ok h.ok ..).trans ?_
    rw [command_given h (policyLength_of h.2.2 hlo hhi h8) (.inl (by decide)), policyCmd_fault hf]
  · obtain ⟨⟨-, -, -, -, -, hfit, hno⟩, hop, hlen⟩ := id h
    refine (onUnit_ok h.ok ..).trans ?_
    rw [command_given h (policyLength_of hlen hlo hhi h8) (.inl (by decide)), policyCmd_applies hf,
      applyPolicy_noTray ((isTray_policySet hop hfit).symm.trans hno)]
  · obtain ⟨⟨-, -, -, -, -, hfit, ht, hown⟩, hop, hlen⟩ := id h
    obtain ⟨o, ho⟩ := applyPolicy_tray (l := parseEntries (cmdParams b)) hown ((isTray_policySet hop hfit).symm.trans ht)
    refine ⟨applyPolicy (parseEntries (cmdParams b)) s, (onUnit_ok h.ok ..).trans ?_, ?_⟩
    · rw [command_givenTray h (policyLength_of hlen hlo hhi h8) (.inl (by decide)), policyCmd_applies hf]
    · rw [ho]
      exact ⟨rfl, rfl, hown, rfl, rfl, rfl, rfl, rfl⟩
  · refine (onUnit_ok hok ..).trans ?_
    rw [command_notOwner hcmd hready hprog hearly hfit (decide_eq_true hop) (policyLength_of hlen hlo hhi h8) ht hown]
  · obtain ⟨u, hu, hrest⟩ := powerModeCmd_sets (s := s) (src := src) hm
    refine ⟨u, (onUnit_ok h.ok ..).trans ?_, hrest⟩
    rw [command_given h h.len (.inl (by decide)), hu]
  · refine (onUnit_ok h.ok ..).trans ?_
    rw [command_given h h.len (.inl (by decide)), powerModeCmd_bad hm]
  · refine (onUnit_ok h.ok ..).trans ?_
    rw [command_given h h.len (.inl (by decide)), slopeLimitCmd_eq]
  · obtain ⟨⟨-, -, -, -, -, -, -, hown⟩, -, -⟩ := id h
    refine ⟨_, (onUnit_ok h.ok ..).trans ?_, handoverCmd_begins (src := src) (p := cmdParams b) hready hnone hown⟩
    rw [command_givenTray h h.len (.inl (by decide))]
  · refine (onUnit_ok h.ok ..).trans ?_
    rw [command_givenTray h h.len (.inl (by decide)), handoverCmd_notReady hno]
  · refine (onUnit_ok h.ok ..).trans ?_
    rw [command_givenTray h h.len (.inl (by decide)), handoverCmd_busy hready hsome]
  · refine congrArg Host.Outcome.next ?_
    simp only [handoverTimesOut, h, if_pos hdue]
    rfl
  · refine (onUnit_ok hok ..).trans ?_
    rw [command_notOwner hcmd hready hprog hearly hfit (decide_eq_true hop) (decide_eq_true hlen) (by simp [isTray, hop]) hown]

end Sys2Proof.Machine
end

section
/-! PROOFS. The six actions of STREAM_DEFINE (R351, R268 to R275). -/

namespace Sys2Proof.Machine

variable {s : State} {src : CmdSrc} {b : Bytes}

/-- The checks of an action that writes an entry, in their order. -/
theorem writeTables_eq (bad busy : Bool) (t : StreamTables) (f : State → State) (s : State) :
    writeTables src bad busy t f s =
      if bad then finish src stBadParam [] s
      else if busy then finish src stBusy [] s
      else if (capacityShort t s.sketch.plans (periodOf s)).none_ = false then finish src stStoreOvercommit [] s
      else finish src stOk [] (f s) := by
  cases bad <;> cases busy <;> cases h : (capacityShort t s.sketch.plans (periodOf s)).none_ <;>
    simp [writeTables, refuseIf, done, h]

theorem exec_action {k n : Nat} {lenOk : Bytes → Bool} (f : Bytes → State → State) (h : Given s src b 0x50 n)
    (hk : subCode b = k) (hcommit : s.sketch.commit = none) (hl : lenOk b = true) :
    onUnit src.ok (command src (isSub 0x50 k) lenOk f) s = .next (f (cmdParams b) s) := by
  rw [onUnit_ok h.ok, command_givenSub h hk hl (.inr hcommit)]

/-! ### Entries that are written -/

theorem writeSegment_judged (h : Given s src b 0x50 24) (hk : subCode b = 1) (hcommit : s.sketch.commit = none) :
    let n := leAt (cmdParams b) 4 4
    let e := freshSegment (leAt (cmdParams b) 8 16)
    let t := withSegment s n e
    exec (.writeSegment src) s = .next (
      if decide (n ≥ 262144) || !segOk t (routeOk s) (ownId s) n e then finish src stBadParam [] s
      else if segmentNamed s n then finish src stBusy [] s
      else if (capacityShort t s.sketch.plans (periodOf s)).none_ = false then finish src stStoreOvercommit [] s
      else finish src stOk [] (entryWritten 7 n
        { s with streams := { s.streams with segments := putEntry s.streams.segments n e } })) :=
  (exec_action (writeSegmentCmd src) h hk hcommit h.len).trans (congrArg _ (writeTables_eq ..))

theorem writeStream_judged (h : Given s src b 0x50 32) (hk : subCode b = 2) (hcommit : s.sketch.commit = none) :
    let n := leAt (cmdParams b) 4 4
    let e := leAt (cmdParams b) 8 16
    let t := withStream s n e
    exec (.writeStream src) s = .next (
      if decide (n ≥ 65536) || !streamOk t e then finish src stBadParam [] s
      else if streamNamed s n then finish src stBusy [] s
      else if (capacityShort t s.sketch.plans (periodOf s)).none_ = false then finish src stStoreOvercommit [] s
      else finish src stOk [] (entryWritten 8 n { s with streams := { s.streams with
        streams := putEntry s.streams.streams n e, rewinds := s.streams.rewinds.filter (fun r => r.1 != n) } })) :=
  (exec_action (writeStreamCmd src) h hk hcommit h.len).trans (congrArg _ (writeTables_eq ..))

theorem writeList_judged {k : Nat} (h : Given s src b 0x50 (12 + 4 * k)) (hk : subCode b = 6)
    (hcommit : s.sketch.commit = none) (hn : leAt (cmdParams b) 8 4 = k) (hlo : 1 ≤ k) (hhi : k ≤ 1011) :
    let n := leAt (cmdParams b) 4 4
    let t := withList s n k ((cmdParams b).drop 12)
    exec (.writeList src) s = .next (
      if 262144 < n + k then finish src stBadParam [] s
      else if listNamed s n k then finish src stBusy [] s
      else if (capacityShort t s.sketch.plans (periodOf s)).none_ = false then finish src stStoreOvercommit [] s
      else finish src stOk [] (forEach (List.range k) (fun j => entryWritten 9 (n + j))
        { s with streams := { s.streams with segList := putList s.streams.segList n k ((cmdParams b).drop 12) } })) := by
  intro n t
  have hlen : listLength b = true := by
    rw [leAt_cmdParams] at hn
    rw [listLength, hn, h.2.2, decide_eq_true rfl]
  refine (exec_action (writeListCmd src) h hk hcommit hlen).trans (congrArg _ ?_)
  simp only [writeListCmd, hn]
  by_cases hout : 262144 < n + k
  · rw [if_pos hout, writeTables_eq, if_pos]
    simp only [Bool.not_eq_true', decide_eq_false_iff_not]
    omega
  · have hgood : (!decide (1 ≤ k ∧ k ≤ 1011 ∧ leAt (cmdParams b) 4 4 + k ≤ 262144)) = false := by
      simp only [Bool.not_eq_false', decide_eq_true_eq]
      omega
    rw [if_neg hout, hgood, writeTables_eq]
    rfl

theorem listNamed_iff (s : State) (n k : Nat) : listNamed s n k = true ↔ ∃ e ∈ s.streams.streams,
    badEntry s 8 e.1 = false ∧ streamNamed s e.1 = true ∧ stSegBase e.2.toNat < n + k ∧
      n < stSegBase e.2.toNat + stSegCount e.2.toNat := by
  simp only [listNamed, liveTables, live, List.any_eq_true, List.mem_filter, Bool.not_eq_true', Bool.and_eq_true,
    decide_eq_true_eq]
  grind

/-! ### Rewinding (R272) -/

theorem rewindStream_judged (h : Given s src b 0x50 12) (hk : subCode b = 5) (hcommit : s.sketch.commit = none) :
    let n := leAt (cmdParams b) 4 4
    let t := leAt (cmdParams b) 8 4
    exec (.rewindStream src) s = .next (
      if !stValid (streamAt s n) || decide (t ≥ (streamTables s).tiles (streamAt s n)) then finish src stBadParam [] s
      else finish src stOk [] (if s.tick.running then { s with streams := { s.streams with
          rewinds := s.streams.rewinds ++ [(n, s.tick.number + 16, w32 t)] } }
        else setCursor n t s)) :=
  (exec_action (rewindCmd src) h hk hcommit h.len).trans (congrArg _ (by rw [rewindCmd, refuseIf_one]; rfl))

/-! ### Sealing and reopening (R269, R270) -/

theorem refuseIf_two {st st' : W16} {x y : Bool} {f : State → State} :
    refuseIf src [(x, st), (y, st')] f s =
      if x then finish src st [] s else if y then finish src st' [] s else f s := by
  cases x <;> cases y <;> rfl

theorem sealSegment_judged (h : Given s src b 0x50 8) (hk : subCode b = 3) (hcommit : s.sketch.commit = none) :
    let n := leAt (cmdParams b) 4 4
    exec (.sealSegment src) s = .next (
      if !sgLocal (segAt s n) then finish src stBadParam [] s
      else if (tget s.streams.sealing n).isSome || putPending s n then finish src stBusy [] s
      else { s with streams := { s.streams with sealing := tset s.streams.sealing n src } }) :=
  (exec_action (sealCmd src) h hk hcommit h.len).trans (congrArg _ refuseIf_two)

theorem reopenSegment_judged (h : Given s src b 0x50 8) (hk : subCode b = 4) (hcommit : s.sketch.commit = none) :
    let n := leAt (cmdParams b) 4 4
    exec (.reopenSegment src) s = .next (
      if !(sgLocal (segAt s n) && sgReady (segAt s n)) then finish src stBadParam [] s
      else if segmentStaged s n then finish src stBusy [] s
      else finish src stOk [] (setReady n false s)) :=
  (exec_action (reopenCmd src) h hk hcommit h.len).trans (congrArg _ (by rw [reopenCmd, refuseIf_two]; rfl))

theorem besideReports_storeRead (a : Nat) (e : WordError) (s : State) :
    besideReports (storeRead a e s) = besideReports s := besideReports_hbmRead ..

/-- What the reading of a seal's words leaves as it is. -/
theorem besideReports_sealReads (g : Nat) (l : List (Nat × WordError)) (s : State) :
    besideReports (forEach l (fun x => storeRead (g + x.1) x.2) s) = besideReports s :=
  forEach_keeps besideReports (fun x t => besideReports_storeRead (g + x.1) x.2 t) l s

theorem tdel_single {α : Type} (g : Nat) (x : α) : tdel [(g, x)] g = [] := by
  simp [tdel]

theorem tget_single {α : Type} (g : Nat) (x : α) : tget [(g, x)] g = some x := if_pos rfl

/-- The state in which a seal is judged: its words are read, and it is no longer under way. -/
def sealRead (g : Nat) (l : List (Nat × WordError)) (s : State) : State :=
  updStreams (fun x => { x with sealing := tdel x.sealing g }) (forEach (storeErrors s (sgStore (segAt s g)) (sgBytes (segAt s g)) l)
    (fun x => storeRead (sgStore (segAt s g) + x.1) x.2) s)

theorem sealCompletes_eq {g : Nat} (l : List (Nat × WordError)) (hseal : s.streams.sealing = [(g, src)])
    (hlocal : sgLocal (segAt s g) = true) :
    sealCompletes g l s =
      if segmentCrc s (segAt s g) = sgCrc (segAt s g) ∧
          anyBad (storeErrors s (sgStore (segAt s g)) (sgBytes (segAt s g)) l) = false
      then finish src stOk [] (streamCount 2 1 (setReady g true (sealRead g l s)))
      else finish src stBadParam [] (streamCount 3 1 (sealRead g l s)) := by
  simp only [sealCompletes, hseal, tget_single, hlocal, if_true, Bool.true_and, Bool.and_eq_true, decide_eq_true_eq,
    Bool.not_eq_true']
  rfl

theorem sealRead_keeps {g : Nat} (l : List (Nat × WordError)) (hseal : s.streams.sealing = [(g, src)]) :
    (sealRead g l s).streams = { s.streams with sealing := [] } ∧
      (sealRead g l s).health.badTables = s.health.badTables ∧ (sealRead g l s).switch = s.switch ∧
      (sealRead g l s).ports = s.ports := by
  have hkept := besideReports_sealReads (sgStore (segAt s g))
    (storeErrors s (sgStore (segAt s g)) (sgBytes (segAt s g)) l) s
  have hstreams : (forEach _ _ s).streams = s.streams := (congrArg State.streams hkept :)
  refine ⟨?_, (congrArg (fun t => t.health.badTables) hkept :), (congrArg State.switch hkept :),
    (congrArg State.ports hkept :)⟩
  rw [sealRead, updStreams_streams, hstreams, hseal, tdel_single]

theorem sgReady_setReady {u : State} {g : Nat} (hgood : badEntry u 7 g = false) {e : BitVec 128}
    (hget : tget u.streams.segments g = some e) : sgReady (segAt (setReady g true u) g) = true := by
  have hbad : badEntry (setReady g true u) 7 g = false := hgood
  have hseg : (streamTables (setReady g true u)).seg g = (e ||| 8).toNat := by
    simp only [streamTables, StreamTables.seg, setReady, updSeg, updStreams_streams, tgetD, tget_tmod_self, hget,
      Option.map_some, Option.getD_some, if_true]
  have hbit : bitOf (e ||| 8).toNat 3 = (e ||| 8).getLsbD 3 := Nat.testBit_eq_decide_div_mod_eq.symm
  rw [segAt, hbad, if_neg (by decide), hseg, sgReady, hbit, BitVec.getLsbD_or]
  exact Bool.or_true _

/-- A segment that reads as local stands in its table. -/
theorem entry_of_sgLocal {g : Nat} (h : sgLocal (segAt s g) = true) :
    badEntry s 7 g = false ∧ ∃ e, tget s.streams.segments g = some e := by
  have hvalid : sgValid (segAt s g) = true := (Bool.and_eq_true_iff.1 h).1
  cases hbad : badEntry s 7 g with
  | true =>
    rw [segAt, hbad, if_pos rfl] at hvalid
    exact absurd hvalid (by decide)
  | false =>
    refine ⟨rfl, ?_⟩
    cases hget : tget s.streams.segments g with
    | some e => exact ⟨e, rfl⟩
    | none =>
      simp only [segAt, hbad, streamTables, StreamTables.seg, tgetD, hget] at hvalid
      exact absurd hvalid (by decide)

theorem sealCheckComplete_good {g : Nat} {l : List (Nat × WordError)} (hseal : s.streams.sealing = [(g, src)])
    (hlocal : sgLocal (segAt s g) = true) (hcrc : segmentCrc s (segAt s g) = sgCrc (segAt s g))
    (hgood : anyBad (storeErrors s (sgStore (segAt s g)) (sgBytes (segAt s g)) l) = false) :
    ∃ u : State, exec (.sealCheckComplete g l) s = .next (finish src stOk [] u) ∧ u.streams.sealing = [] ∧
      sgReady (segAt u g) = true ∧ u.streams.ctr = bump 2 1 s.streams.ctr ∧ u.streams.store = s.streams.store ∧
      u.switch = s.switch ∧ u.ports = s.ports := by
  obtain ⟨hstreams, htables, hswitch, hports⟩ := sealRead_keeps l hseal
  obtain ⟨hbad, e, hget⟩ := entry_of_sgLocal hlocal
  have hready : sgReady (segAt (setReady g true (sealRead g l s)) g) = true := by
    refine sgReady_setReady (e := e) ?_ ?_
    · rw [badEntry, htables]
      exact hbad
    · rw [hstreams]
      exact hget
  refine ⟨streamCount 2 1 (setReady g true (sealRead g l s)), ?_, ?_, hready, ?_, ?_, hswitch, hports⟩
  · refine congrArg Host.Outcome.next ?_
    rw [sealCompletes_eq l hseal hlocal, if_pos ⟨hcrc, hgood⟩]
  · exact (congrArg Streams.sealing hstreams :)
  · exact congrArg (bump 2 1) (congrArg Streams.ctr hstreams :)
  · exact (congrArg Streams.store hstreams :)

theorem sealCheckComplete_bad {g : Nat} {l : List (Nat × WordError)} (hseal : s.streams.sealing = [(g, src)])
    (hlocal : sgLocal (segAt s g) = true) (hfail : segmentCrc s (segAt s g) ≠ sgCrc (segAt s g) ∨
      anyBad (storeErrors s (sgStore (segAt s g)) (sgBytes (segAt s g)) l) = true) :
    ∃ u : State, exec (.sealCheckComplete g l) s = .next (finish src stBadParam [] u) ∧ u.streams.sealing = [] ∧
      u.streams.segments = s.streams.segments ∧ u.streams.ctr = bump 3 1 s.streams.ctr := by
  obtain ⟨hstreams, -, -, -⟩ := sealRead_keeps l hseal
  refine ⟨streamCount 3 1 (sealRead g l s), ?_, ?_, ?_, ?_⟩
  · refine congrArg Host.Outcome.next ?_
    rw [sealCompletes_eq l hseal hlocal, if_neg]
    rintro ⟨hcrc, hgood⟩
    rcases hfail with h | h
    · exact h hcrc
    · exact absurd (hgood.symm.trans h) (by decide)
  · exact (congrArg Streams.sealing hstreams :)
  · exact (congrArg Streams.segments hstreams :)
  · exact congrArg (bump 3 1) (congrArg Streams.ctr hstreams :)

/-- Settles O35, action by action: each judges in its order, and installs only what passed. -/
theorem streamDefineActions : Obligations.StreamDefineActions := by
  refine ⟨fun s src b h hk hc => ?_, fun s src b h hk hc => ?_, fun s src b k h hk hc hn hlo hhi => ?_,
    fun s src b h hk hc => ?_, fun s src b h hk hc => ?_, fun s src b k h hk hc hn hlo hhi => ?_, listNamed_iff,
    fun s src b h hk hc hv ht hrun => ?_, fun s src b h hk hc hv ht hrun => ?_, fun s src b h hk hc ht => ?_,
    fun s src b h hk hc hlocal hnone hput => ?_, fun s src b h hk hc hlocal hbusy => ?_,
    fun s g src l hseal hlocal hcrc hgood => sealCheckComplete_good hseal hlocal hcrc hgood,
    fun s g src l hseal hlocal hfail => sealCheckComplete_bad hseal hlocal hfail,
    fun s src b h hk hc hlocal hready hstaged => ?_, fun s src b h hk hc => ?_⟩
  · intro n e t hn hok hno hroom
    rw [writeSegment_judged h hk hc, if_neg (by simpa [n, e, t, hok] using hn), if_neg (by simpa using hno),
      if_neg (by simpa using hroom)]
  · intro n e t hn hok hno hroom
    rw [writeStream_judged h hk hc, if_neg (by simpa [n, e, t, hok] using hn), if_neg (by simpa using hno),
      if_neg (by simpa using hroom)]
  · intro n t hin hno hroom
    rw [writeList_judged h hk hc hn hlo hhi, if_neg (Nat.not_lt.2 hin), if_neg (by simpa using hno),
      if_neg (by simpa using hroom)]
  · intro n e t
    rw [writeSegment_judged h hk hc]
    refine ⟨fun hbad => by rw [if_pos (by simpa [n, e, t] using hbad)], fun hn hok hbusy => ?_,
      fun hn hok hno hshort => ?_⟩
    · rw [if_neg (by simpa [n, e, t, hok] using hn), if_pos hbusy]
    · rw [if_neg (by simpa [n, e, t, hok] using hn), if_neg (by simpa using hno), if_pos hshort]
  · intro n e t
    rw [writeStream_judged h hk hc]
    refine ⟨fun hbad => by rw [if_pos (by simpa [n, e, t] using hbad)], fun hn hok hbusy => ?_,
      fun hn hok hno hshort => ?_⟩
    · rw [if_neg (by simpa [n, e, t, hok] using hn), if_pos hbusy]
    · rw [if_neg (by simpa [n, e, t, hok] using hn), if_neg (by simpa using hno), if_pos hshort]
  · intro n t
    rw [writeList_judged h hk hc hn hlo hhi]
    refine ⟨fun hout => by rw [if_pos hout], fun hin hbusy => ?_, fun hin hno hshort => ?_⟩
    · rw [if_neg (Nat.not_lt.2 hin), if_pos hbusy]
    · rw [if_neg (Nat.not_lt.2 hin), if_neg (by simpa using hno), if_pos hshort]
  · rw [rewindStream_judged h hk hc, if_neg (by simp [hv, ht]), if_pos hrun]
  · rw [rewindStream_judged h hk hc, if_neg (by simp [hv, ht]), if_neg (by simp [hrun])]
  · rw [rewindStream_judged h hk hc, if_pos (by simp [ht])]
  · rw [sealSegment_judged h hk hc, if_neg (by simp [hlocal]), if_neg (by simp [hnone, hput])]
  · rw [sealSegment_judged h hk hc, if_neg (by simp [hlocal]), if_pos (by simpa using hbusy)]
  · rw [reopenSegment_judged h hk hc, if_neg (by simp [hlocal, hready]), if_neg (by simp [hstaged])]
  · rw [reopenSegment_judged h hk hc]
    simp only [Bool.not_eq_true']

end Sys2Proof.Machine
end

section
/-! PROOFS. The cooling loops and their alarms (R362, R364). -/

namespace Sys2Proof.Machine

variable {s : State}

/-! ### Duties -/

/-- A duty moves by at most 2.0 points, and stays from 1.0% to 99.0%. -/
theorem dutyMove_bounds (lo hi : Nat) {cur : Nat} (aim : Int) (hlo : 10 ≤ cur) (hhi : cur ≤ 990) :
    10 ≤ dutyMove lo hi cur aim ∧ dutyMove lo hi cur aim ≤ 990 ∧ dutyMove lo hi cur aim ≤ cur + 20 ∧
      cur ≤ dutyMove lo hi cur aim + 20 := by
  unfold dutyMove clampInt
  omega

/-- Within its own bounds a duty moves the way that it is steered. -/
theorem dutyMove_toward {lo hi cur : Nat} (aim : Int) (h10 : 10 ≤ lo) (hlo : lo ≤ cur) (hhi : cur ≤ hi)
    (h990 : hi ≤ 990) :
    lo ≤ dutyMove lo hi cur aim ∧ dutyMove lo hi cur aim ≤ hi ∧ ((cur : Int) ≤ aim → cur ≤ dutyMove lo hi cur aim) ∧
      (aim ≤ cur → dutyMove lo hi cur aim ≤ cur) := by
  unfold dutyMove clampInt
  omega

theorem le_steer {cur step : Nat} {is target : Int} (h : target < is) : (cur : Int) ≤ steer cur is target step := by
  rw [steer, if_pos h]
  omega

theorem steer_le {cur step : Nat} {is target : Int} (h : is < target) : steer cur is target step ≤ cur := by
  rw [steer, if_neg (by omega), if_pos h]
  omega

/-! ### One update of both loops -/

theorem raiseReached_tray (loop source : Nat) (was is : Pin) (s : State) :
    (raiseReached loop source was is s).tray = s.tray := tray_of_outside (fp := {}) (by simp) rfl

/-- The duties that an update sets, where the loops steer by the free steps `x` and `y`. -/
def pumpNext (s : State) (o : TempReading) (x : Nat) : Nat :=
  if o.plausible && !pumpLoopHeld s then
    dutyMove s.policy.pumpLo s.policy.pumpHi s.tray.pumpDuty (steer s.tray.pumpDuty o.value s.policy.coolTarget x)
  else s.tray.pumpDuty

def fanNext (s : State) (air : List TempReading) (y : Nat) : Nat :=
  match hottestAir air with
  | none => s.tray.fanDuty
  | some a =>
    if s.tray.coolantHot then s.tray.fanDuty
    else dutyMove s.policy.fanLo s.policy.fanHi s.tray.fanDuty (steer s.tray.fanDuty a s.policy.airTarget y)

/-- The stages of an update: the pumps' loop and the fans' loop. -/
def pumpStage (o : TempReading) (s : State) : State :=
  when o.plausible (fun s => withFree (fun x => pumpLoop o.value x) (updTray (fun t => { t with coolOut := o.value }) s)) s

def fanStage (air : List TempReading) (s : State) : State :=
  match hottestAir air with
  | none => s
  | some a => withFree (fun y => fanLoop a y) s

theorem coolingUpdate_runs (o i : TempReading) (air : List TempReading) (h : runsTray s = true) :
    coolingUpdate o i air s = drivePumps (fanStage air (pumpStage o (judgeSensors (o :: i :: air) s))) :=
  if_neg (by simp [h])

theorem judgeSensors_tray (l : List TempReading) (s : State) :
    ∃ b, (judgeSensors l s).tray = { s.tray with sensorBad := b } :=
  ⟨_, (forEach_keeps State.tray (f := fun i => raise 0x010C i []) (fun _ _ => raise_tray ..) ..).trans rfl⟩

theorem judgeSensors_policy (l : List TempReading) (s : State) : (judgeSensors l s).policy = s.policy :=
  policy_of_outside (fp := { tray := true }) (by simp) rfl

theorem pumpLoop_policy (v : Int) (x : Nat) (s : State) : (pumpLoop v x s).policy = s.policy :=
  policy_of_outside (fp := { tray := true }) (by simp) rfl

theorem pumpLoop_held (v : Int) (x : Nat) (h : pumpLoopHeld s = true) : pumpLoop v x s = s := if_pos h

theorem pumpLoop_tray (v : Int) (x : Nat) (h : pumpLoopHeld s = false) :
    ∃ p, (pumpLoop v x s).tray = { s.tray with
      pumpDuty := dutyMove s.policy.pumpLo s.policy.pumpHi s.tray.pumpDuty (steer s.tray.pumpDuty v s.policy.coolTarget x)
      pumpPinned := p } := by
  have he := congrArg State.tray (if_neg (by simp [h]) : pumpLoop v x s = _)
  exact ⟨_, he.trans (raiseReached_tray ..)⟩

theorem fanLoop_held (v : Int) (y : Nat) (h : s.tray.coolantHot = true) : fanLoop v y s = s := if_pos h

theorem fanLoop_tray (v : Int) (y : Nat) (h : s.tray.coolantHot = false) :
    ∃ p, (fanLoop v y s).tray = { s.tray with
      fanDuty := dutyMove s.policy.fanLo s.policy.fanHi s.tray.fanDuty (steer s.tray.fanDuty v s.policy.airTarget y)
      fanPinned := p } := by
  have he := congrArg State.tray (if_neg (by simp [h]) : fanLoop v y s = _)
  exact ⟨_, he.trans (raiseReached_tray ..)⟩

theorem pumpStage_policy (o : TempReading) (s : State) : (pumpStage o s).policy = s.policy := by
  unfold pumpStage
  cases o.plausible
  · rfl
  · exact pumpLoop_policy _ _ _

/-- Steps that the spec leaves free are drawn by a state that keeps the tray and the policy. -/
theorem withFree_runs (f : Nat → State → State) (s : State) :
    ∃ x t, withFree f s = f x t ∧ t.tray = s.tray ∧ t.policy = s.policy := ⟨_, _, rfl, rfl, rfl⟩

theorem pumpStage_tray (o : TempReading) (s : State) : ∃ x p, (pumpStage o s).tray = { s.tray with
    coolOut := if o.plausible then o.value else s.tray.coolOut, pumpDuty := pumpNext s o x
    pumpPinned := if pumpLoopHeld s then s.tray.pumpPinned else p } := by
  unfold pumpStage pumpNext
  cases hp : o.plausible
  · exact ⟨0, s.tray.pumpPinned, by simp [when]⟩
  · rw [when_of rfl]
    obtain ⟨x, t, hrun, htray, hpolicy⟩ := withFree_runs (fun x => pumpLoop o.value x)
      (updTray (fun t => { t with coolOut := o.value }) s)
    have hheld : pumpLoopHeld t = pumpLoopHeld s := by simp only [pumpLoopHeld, pumpsHeld, htray, updTray_tray]
    rw [hrun]
    cases hh : pumpLoopHeld s
    · obtain ⟨p, h⟩ := pumpLoop_tray o.value x (hheld.trans hh)
      rw [htray, hpolicy] at h
      exact ⟨x, p, h⟩
    · exact ⟨x, s.tray.pumpPinned, (congrArg State.tray (pumpLoop_held o.value x (hheld.trans hh))).trans htray⟩

theorem fanStage_tray (air : List TempReading) (s : State) :
    ∃ y p, (fanStage air s).tray = { s.tray with fanDuty := fanNext s air y, fanPinned := p } := by
  unfold fanStage fanNext
  cases hottestAir air with
  | none => exact ⟨0, s.tray.fanPinned, rfl⟩
  | some a =>
    obtain ⟨y, t, hrun, htray, hpolicy⟩ := withFree_runs (fun y => fanLoop a y) s
    have hheld : t.tray.coolantHot = s.tray.coolantHot := by rw [htray]
    simp only [hrun]
    cases hh : s.tray.coolantHot
    · obtain ⟨p, h⟩ := fanLoop_tray a y (hheld.trans hh)
      refine ⟨y, p, h.trans ?_⟩
      rw [htray, hpolicy, if_neg (by decide)]
      exact congrArg (fun c => ({ s.tray with fanDuty := _, fanPinned := p, coolantHot := c } : Tray)) hh
    · refine ⟨y, s.tray.fanPinned, (congrArg State.tray (fanLoop_held a y (hheld.trans hh))).trans (htray.trans ?_)⟩
      rw [if_pos rfl, ← hh]

theorem drivePumps_tray (s : State) : ∃ d, (drivePumps s).tray = { s.tray with pumpDrive := d } := ⟨_, rfl⟩

/-- What an update leaves of the tray. -/
theorem coolingUpdate_tray (o i : TempReading) (air : List TempReading) (h : runsTray s = true) :
    ∃ x y b p q d, (coolingUpdate o i air s).tray = { s.tray with
      sensorBad := b, coolOut := if o.plausible then o.value else s.tray.coolOut, pumpDuty := pumpNext s o x
      pumpPinned := if pumpLoopHeld s then s.tray.pumpPinned else p, fanDuty := fanNext s air y, fanPinned := q
      pumpDrive := d } := by
  rw [coolingUpdate_runs o i air h]
  obtain ⟨b, hb⟩ := judgeSensors_tray (o :: i :: air) s
  obtain ⟨x, p, hp⟩ := pumpStage_tray o (judgeSensors (o :: i :: air) s)
  obtain ⟨y, q, hq⟩ := fanStage_tray air (pumpStage o (judgeSensors (o :: i :: air) s))
  have hpol := judgeSensors_policy (o :: i :: air) s
  have hpol' := pumpStage_policy o (judgeSensors (o :: i :: air) s)
  have hheld : pumpLoopHeld (judgeSensors (o :: i :: air) s) = pumpLoopHeld s := by
    simp only [pumpLoopHeld, pumpsHeld, hb]
  have hpump : pumpNext (judgeSensors (o :: i :: air) s) o x = pumpNext s o x := by
    simp only [pumpNext, hheld, hpol, hb]
  have hfan : fanNext (pumpStage o (judgeSensors (o :: i :: air) s)) air y = fanNext s air y := by
    simp only [fanNext, hpol', hpol, hp, hb]
  rw [hheld, hpump] at hp
  rw [hfan, hp, hb] at hq
  obtain ⟨d, hd⟩ := drivePumps_tray (fanStage air (pumpStage o (judgeSensors (o :: i :: air) s)))
  rw [hq] at hd
  exact ⟨x, y, b, p, q, d, hd⟩

theorem coolingUpdate_ports (o i : TempReading) (air : List TempReading) (s : State) :
    (coolingUpdate o i air s).ports = s.ports := ports_of_outside (fp := { tray := true }) (by simp) rfl

theorem pumpNext_bounds (o : TempReading) (x : Nat) (hlo : 10 ≤ s.tray.pumpDuty) (hhi : s.tray.pumpDuty ≤ 990) :
    10 ≤ pumpNext s o x ∧ pumpNext s o x ≤ 990 ∧ pumpNext s o x ≤ s.tray.pumpDuty + 20 ∧
      s.tray.pumpDuty ≤ pumpNext s o x + 20 := by
  unfold pumpNext
  split
  · exact dutyMove_bounds _ _ _ hlo hhi
  · omega

/-- Where an outlet reading steers the pumps their duty moves toward the target, or stays where an alarm holds it. -/
theorem pumpNext_toward (o : TempReading) (x : Nat) (ho : o.plausible = true) (h10 : 10 ≤ s.policy.pumpLo)
    (hlo : s.policy.pumpLo ≤ s.tray.pumpDuty) (hhi : s.tray.pumpDuty ≤ s.policy.pumpHi) (h990 : s.policy.pumpHi ≤ 990) :
    s.policy.pumpLo ≤ pumpNext s o x ∧ pumpNext s o x ≤ s.policy.pumpHi ∧
      ((s.policy.coolTarget : Int) < o.value → s.tray.pumpDuty ≤ pumpNext s o x) ∧
      (o.value < (s.policy.coolTarget : Int) → pumpNext s o x ≤ s.tray.pumpDuty) := by
  obtain ⟨a1, a2, a3, a4⟩ := dutyMove_toward (steer s.tray.pumpDuty o.value s.policy.coolTarget x) h10 hlo hhi h990
  cases hheld : pumpLoopHeld s
  · rw [pumpNext, if_pos (by simp [ho, hheld])]
    exact ⟨a1, a2, fun h => a3 (le_steer h), fun h => a4 (steer_le h)⟩
  · rw [pumpNext, if_neg (by simp [hheld])]
    exact ⟨hlo, hhi, fun _ => Nat.le_refl _, fun _ => Nat.le_refl _⟩

theorem fanNext_bounds (air : List TempReading) (y : Nat) (hlo : 10 ≤ s.tray.fanDuty) (hhi : s.tray.fanDuty ≤ 990) :
    10 ≤ fanNext s air y ∧ fanNext s air y ≤ 990 ∧ fanNext s air y ≤ s.tray.fanDuty + 20 ∧
      s.tray.fanDuty ≤ fanNext s air y + 20 := by
  unfold fanNext
  split
  · omega
  · split
    · omega
    · exact dutyMove_bounds _ _ _ hlo hhi

/-! ### Alarms -/

theorem bitOf_toNat {w : Nat} (x : BitVec w) (i : Nat) : bitOf x.toNat i = x.getLsbD i :=
  (Nat.testBit_eq_decide_div_mod_eq ..).symm

/-- An alarm that is set stands, and one that is cleared does not. -/
theorem alarmOn_setAlarm {a : Alarm} (ha : a.ok = true) (on : Bool) {t : State} {u : Tray}
    (h : t.tray = setAlarm a on u) : alarmOn t a = on := by
  cases a with
  | flow => simp only [alarmOn, h, setAlarm]
  | coolant => simp only [alarmOn, h, setAlarm]
  | pump n =>
    have hn : n < 2 := of_decide_eq_true ha
    simp only [alarmOn, h, setAlarm, bitOf_toNat]
    cases on <;> simp [hn]
  | fan n =>
    have hn : n < 8 := of_decide_eq_true ha
    simp only [alarmOn, h, setAlarm, bitOf_toNat]
    cases on <;> simp [hn]

/-- An alarm touches its own bit alone. -/
theorem setAlarm_keeps (a : Alarm) (on : Bool) (t : Tray) :
    (setAlarm a on t).own = t.own ∧ (setAlarm a on t).ctr = t.ctr ∧ (setAlarm a on t).pumpDuty = t.pumpDuty ∧
      (setAlarm a on t).fanDuty = t.fanDuty ∧ (setAlarm a on t).pumpDrive = t.pumpDrive ∧
      (setAlarm a on t).flowNow = t.flowNow := by
  cases a <;> exact ⟨rfl, rfl, rfl, rfl, rfl, rfl⟩

theorem applyAlarms_tray (s : State) : (applyAlarms s).tray = { s.tray with
    pumpDuty := if pumpsHeld s then 990 else s.tray.pumpDuty
    fanDuty := if s.tray.coolantHot then 990 else s.tray.fanDuty
    pumpDrive := [if pumpHeld s 0 then 990 else nth s.tray.pumpDrive 0, if pumpHeld s 1 then 990 else nth s.tray.pumpDrive 1] } :=
  rfl

/-- A condition that was not there raises its alarm, counted, and the duties follow. -/
theorem alarmSeen_new {a : Alarm} (data : Bytes) (h : alarmOn s a = false) :
    ∃ r l, alarmSeen a data s = applyAlarms r ∧
      r.tray = { setAlarm a true s.tray with alarmSeen := l, ctr := bump 11 1 s.tray.ctr } := by
  have hctr := (setAlarm_keeps a true s.tray).2.1
  refine ⟨_, tset s.tray.alarmSeen (alarmNumber a) s.now, if_neg (by simp [h]), ?_⟩
  rw [raise_tray, ← hctr]
  rfl

/-- A condition that still stands only starts its 10 s of absence anew. -/
theorem alarmSeen_again {a : Alarm} (data : Bytes) (h : alarmOn s a = true) :
    ∃ l, (alarmSeen a data s).tray = { setAlarm a true s.tray with alarmSeen := l } :=
  ⟨_, congrArg State.tray (if_pos h)⟩

theorem raiseWith_tray (code source : Nat) (data : Bytes) (ended : Bool) (s : State) :
    (raiseWith code source data ended s).tray = s.tray := tray_of_outside (fp := {}) (by simp) rfl

theorem runsTray_own (h : runsTray s = true) : awake s = true ∧ s.tray.own = .active ∧ s.tray.outputs = true := by
  simpa [runsTray, and_assoc] using h

theorem alarmEnds_noEffect {a : Alarm} (tach : PulseTrain) (h : s.tray.own ≠ .active ∨ alarmOn s a = false ∨
    s.now < tgetD s.tray.alarmSeen (alarmNumber a) 0 + 10000000000) : alarmEnds a tach s = s := by
  refine if_neg ?_
  simp only [Bool.and_eq_true, decide_eq_true_eq]
  rintro ⟨⟨⟨-, hown⟩, hon⟩, hseen⟩
  rcases h with h | h | h
  · exact h hown
  · exact absurd (hon.symm.trans h) (by decide)
  · omega

/-- A pump's alarm sets the other pump to 99.0%. -/
theorem nth_pumpDrive_other {n : Nat} (hn : n < 2) (h : alarmOn s (.pump n) = true) :
    nth (applyAlarms s).tray.pumpDrive (1 - n) = 990 := by
  have hheld : pumpHeld s (1 - n) = true := by
    rw [pumpHeld, show 1 - (1 - n) = n by omega]
    exact Bool.or_eq_true_iff.2 (.inr h)
  rw [applyAlarms_tray]
  interval_cases n
  · exact if_pos hheld
  · exact if_pos hheld

/-- While the pumps are held they run at 99.0%. -/
theorem applyAlarms_pumps (h : pumpsHeld s = true) :
    (applyAlarms s).tray.pumpDuty = 990 ∧ (applyAlarms s).tray.pumpDrive = [990, 990] := by
  have hheld : ∀ n, pumpHeld s n = true := fun n => by simp [pumpHeld, h]
  rw [applyAlarms_tray]
  simp [h, hheld]

theorem exec_fanFault_low {n : Nat} (tach : PulseTrain) (hn : n < 8) (hruns : runsTray s = true)
    (hlow : tachRpm tach < nth s.policy.fanTachMin n) :
    exec (.fanFault n tach) s = .next (alarmSeen (.fan n) (leBytes 2 (tachRpm tach)) s) := by
  refine (onUnit_ok (decide_eq_true hn) _ _).trans (congrArg Host.Outcome.next (if_pos ?_))
  simp [hruns, hlow]

theorem exec_pumpAlarm_low {n : Nat} (tach : PulseTrain) (hn : n < 2) (hruns : runsTray s = true)
    (hlow : tachRpm tach < nth s.policy.pumpTachMin n) (hdrive : 200 ≤ nth s.tray.pumpDrive n) :
    exec (.pumpAlarm n tach) s = .next (alarmSeen (.pump n) (leBytes 2 (tachRpm tach)) s) := by
  refine (onUnit_ok (decide_eq_true hn) _ _).trans (congrArg Host.Outcome.next (if_pos ?_))
  simp [hruns, hlow, hdrive]

theorem exec_coolantHot_hot {o : Int} (hruns : runsTray s = true) (hhot : (s.policy.coolTarget : Int) + 100 < o) :
    exec (.coolantHot o) s = .next (alarmSeen .coolant (leBytes 2 (wrapInt 16 o))
      (updTray (fun t => { t with coolOut := o }) s)) :=
  congrArg Host.Outcome.next (if_pos (by simp [hruns, hhot]))

/-- A sample of the flow at the active device: it is kept, and the fifth low one in a row raises the alarm. -/
theorem flowSampled_eq {a b : Reading} {x : Nat} (hawake : awake s = true) (hrole : s.boot.role.toNat ≤ 1)
    (hx : lowerPlausible a b = some x) : flowSampled a b s =
      let low := if flowRate s x < s.policy.flowMin then s.tray.flowLow + 1 else 0
      let t := updTray (fun t => { t with flowNow := flowRate s x, flowLow := min low 5 }) s
      if runsTray t && decide (low ≥ 5) then alarmSeen .flow (leBytes 2 (flowRate s x)) t else t := by
  refine (if_neg ?_).trans ?_
  · simp only [hawake, Bool.not_true, Bool.false_or, decide_eq_true_eq]
    omega
  · rw [hx]

/-- Settles O55: an update of the loops, field by field, with the bounds of `dutyMove`; then an alarm at each of its
conditions, and its end. -/
theorem coolingLoopsAndAlarms : Obligations.CoolingLoopsAndAlarms := by
  unfold Obligations.CoolingLoopsAndAlarms
  refine ⟨fun s o i air hruns hheld hp1 hp2 hf1 hf2 => ?_, fun s o i air hruns hheld ho h1 h2 h3 h4 => ?_,
    fun s o i air a hruns hcool ha h1 h2 h3 h4 => ?_, fun s o i air hruns => ?_, fun s o i air hruns halarm => ?_,
    fun t => rfl, fun s n tach hn hruns hlow hdrive hoff => ?_, fun s n tach hn hruns h => ?_,
    fun s a b x hawake hrole hx hflow => ?_, fun s a b x hruns hrole hx hflow hlow hoff => ?_, fun a b => ⟨?_, ?_⟩,
    fun s o hruns hhot hoff => ?_, fun s o h => ?_, fun s n tach hn hruns hcool hlow => ?_, fun s n tach hn h => ?_,
    fun s a tach ha hawake hown hon hseen => ?_, fun s a tach ha h => ?_⟩
  · obtain ⟨x, y, b, p, q, d, ht⟩ := coolingUpdate_tray o i air hruns
    refine ⟨_, rfl, ?_⟩
    obtain ⟨a1, a2, a3, a4⟩ := pumpNext_bounds o x hp1 hp2
    obtain ⟨b1, b2, b3, b4⟩ := fanNext_bounds air y hf1 hf2
    rw [ht]
    refine ⟨a1, a2, a3, a4, b1, b2, b3, b4, rfl, fun ho => ?_, fun ha => ?_, rfl, coolingUpdate_ports ..⟩
    · exact if_neg (by simp [ho])
    · simp only [fanNext, ha]
  · obtain ⟨x, y, b, p, q, d, ht⟩ := coolingUpdate_tray o i air hruns
    refine ⟨_, rfl, ?_⟩
    rw [ht]
    exact pumpNext_toward o x ho h1 h2 h3 h4
  · obtain ⟨x, y, b, p, q, d, ht⟩ := coolingUpdate_tray o i air hruns
    obtain ⟨b1, b2, b3, b4⟩ := dutyMove_toward (steer s.tray.fanDuty a s.policy.airTarget y) h1 h2 h3 h4
    have hnext : fanNext s air y = dutyMove s.policy.fanLo s.policy.fanHi s.tray.fanDuty
        (steer s.tray.fanDuty a s.policy.airTarget y) := by simp only [fanNext, ha, hcool, Bool.false_eq_true, if_false]
    refine ⟨_, rfl, ?_⟩
    rw [ht]
    simp only [hnext]
    exact ⟨b1, b2, fun h => b3 (le_steer h), fun h => b4 (steer_le h)⟩
  · exact congrArg Host.Outcome.next (if_pos (by simp [hruns]))
  · obtain ⟨x, y, b, p, q, d, ht⟩ := coolingUpdate_tray o i air hruns
    have hheld : pumpLoopHeld s = true := Bool.or_eq_true_iff.2 (.inr (bne_iff_ne.2 halarm))
    refine ⟨_, rfl, ?_⟩
    rw [ht]
    exact ⟨if_neg (by simp [hheld]), if_pos hheld⟩
  · obtain ⟨r, l, hr, htray⟩ := alarmSeen_new (a := .pump n) (leBytes 2 (tachRpm tach)) hoff
    have hon : alarmOn r (.pump n) = true := alarmOn_setAlarm (a := .pump n) (by simp [Alarm.ok, hn]) true
      (u := { s.tray with alarmSeen := l, ctr := bump 11 1 s.tray.ctr }) htray
    refine ⟨_, exec_pumpAlarm_low tach hn hruns hlow hdrive, ?_⟩
    rw [hr]
    refine ⟨hon, ?_, nth_pumpDrive_other hn hon, ?_⟩
    · rw [applyAlarms_tray, htray]
    · rw [applyAlarms_tray, htray]
      exact (setAlarm_keeps ..).1
  · refine (onUnit_ok (decide_eq_true hn) _ _).trans (congrArg Host.Outcome.next (if_neg ?_))
    simp only [Bool.and_eq_true, decide_eq_true_eq]
    omega
  · refine congrArg Host.Outcome.next ((flowSampled_eq hawake hrole hx).trans ?_)
    rw [if_neg (Nat.not_lt.2 hflow)]
    exact if_neg (by simp)
  · obtain ⟨hawake, hown, hout⟩ := runsTray_own hruns
    have hlow' := (flowSampled_eq hawake hrole hx).trans (if_pos (by simp [hflow, hlow]; exact hruns))
    obtain ⟨r, l, hr, htray⟩ := alarmSeen_new (a := .flow) (s := updTray (fun t =>
      { t with flowNow := flowRate s x, flowLow := min (if flowRate s x < s.policy.flowMin then s.tray.flowLow + 1 else 0) 5 }) s)
      (leBytes 2 (flowRate s x)) hoff
    have hheld : pumpsHeld r = true := by simp only [pumpsHeld, htray, setAlarm, Bool.true_or]
    obtain ⟨hduty, hdrive⟩ := applyAlarms_pumps hheld
    refine ⟨_, congrArg Host.Outcome.next hlow', ?_⟩
    rw [hr]
    refine ⟨?_, hduty, hdrive, ?_, ?_⟩ <;> rw [applyAlarms_tray, htray] <;> rfl
  · intro ha hb
    simp [lowerPlausible, ha, hb]
  · intro ha hb
    simp [lowerPlausible, ha, hb]
  · obtain ⟨r, l, hr, htray⟩ := alarmSeen_new (a := .coolant) (s := updTray (fun t => { t with coolOut := o }) s)
      (leBytes 2 (wrapInt 16 o)) hoff
    have hhot' : r.tray.coolantHot = true := by rw [htray]; rfl
    have hheld : pumpsHeld r = true := Bool.or_eq_true_iff.2 (.inr hhot')
    refine ⟨_, exec_coolantHot_hot hruns hhot, ?_⟩
    rw [hr]
    exact ⟨hhot', (applyAlarms_pumps hheld).1, if_pos hhot'⟩
  · exact congrArg Host.Outcome.next (if_neg (by simp; omega))
  · refine ⟨_, exec_fanFault_low tach hn hruns hlow, ?_⟩
    cases hon : alarmOn s (.fan n)
    · obtain ⟨r, l, hr, htray⟩ := alarmSeen_new (leBytes 2 (tachRpm tach)) hon
      have hon' : alarmOn r (.fan n) = true := alarmOn_setAlarm (a := .fan n) (decide_eq_true hn) true
        (u := { s.tray with alarmSeen := l, ctr := bump 11 1 s.tray.ctr }) htray
      have hcool' : r.tray.coolantHot = false := by rw [htray]; exact hcool
      rw [hr]
      refine ⟨hon', (if_neg (by simp [hcool'])).trans ?_, ?_⟩
      · rw [htray]
        rfl
      · rw [applyAlarms_tray, htray]
        rfl
    · obtain ⟨l, htray⟩ := alarmSeen_again (leBytes 2 (tachRpm tach)) hon
      have hon' := alarmOn_setAlarm (a := .fan n) (decide_eq_true hn) true (u := { s.tray with alarmSeen := l }) htray
      refine ⟨hon', ?_, ?_⟩ <;> rw [htray] <;> rfl
  · exact (onUnit_ok (decide_eq_true hn) _ _).trans (congrArg Host.Outcome.next (if_neg (by simp; omega)))
  · refine ⟨_, updTray (fun t => { setAlarm a false t with alarmSeen := tdel t.alarmSeen (alarmNumber a) }) s,
      (onUnit_ok ha _ _).trans (congrArg Host.Outcome.next (if_pos ?_)), ?_, ?_, ?_, rfl, ?_⟩
    · simp [hawake, hown, hon, hseen]
    · exact alarmOn_setAlarm ha false (u := { s.tray with alarmSeen := tdel s.tray.alarmSeen (alarmNumber a) })
        ((raiseWith_tray ..).trans (by cases a <;> rfl))
    · rw [raiseWith_tray]
      exact (setAlarm_keeps a false s.tray).2.2.1
    · rw [raiseWith_tray]
      exact (setAlarm_keeps a false s.tray).1
    · cases a <;> rfl
  · exact (onUnit_ok ha _ _).trans (congrArg Host.Outcome.next (alarmEnds_noEffect tach h))

end Sys2Proof.Machine
end

section
/-! PROOFS. The twin link, its heartbeats, the epochs and the snapshots (R365 to R371, R374, R378). -/

namespace Sys2Proof.Machine

variable {s : State}

/-! ### Lanes and frames (R365, R366) -/

/-- A lane set that reads is taken over for its lane, and all four decide whether the link is up. -/
theorem laneTrained_takes {l n : Nat} {g : List CodeGroup} {k : Int} {inv : Bool} (htwin : hasTwin s = true)
    (hset : readLaneSet g = some (n, inv)) :
    (laneTrained l g k s).tray = { s.tray with twin := { s.tray.twin with
      lanes := tset s.tray.twin.lanes l n, skews := tset s.tray.twin.skews l k
      inverted := if inv then s.tray.twin.inverted ||| (1 : BitVec 4) <<< l else s.tray.twin.inverted &&& ~~~((1 : BitVec 4) <<< l)
      up := if (tset s.tray.twin.lanes l n).length < 4 then s.tray.twin.up
        else lanesPermuted (tset s.tray.twin.lanes l n) && lanesDeskewed (tset s.tray.twin.skews l k) } } := by
  unfold laneTrained
  simp only [hset, htwin, Bool.not_true, Bool.false_eq_true, if_false, updTwin, updTray_tray]
  by_cases hlen : (tset s.tray.twin.lanes l n).length < 4
  · simp only [if_pos hlen, updTray_tray]
  · simp only [if_neg hlen]
    cases hperm : lanesPermuted (tset s.tray.twin.lanes l n)
    · rw [if_neg (by decide), raise_tray]
      rfl
    · rw [if_pos rfl, Bool.true_and]
      rfl

theorem trainTwin_down (s : State) : (trainTwin s).tray.twin.up = false ∧ (trainTwin s).tray.twin.lanes = [] := by
  have h : (trainTwin s).tray = _ :=
    forEach_keeps State.tray (f := fun l => emit (.twinLaneSet l (laneSet l).1)) (fun _ _ => rfl) ..
  rw [h]
  exact ⟨rfl, rfl⟩

/-- A frame that is sent touches its number and the lanes' disparities alone. -/
theorem sendTwin_twin (typ : Nat) (p : Bytes) (s : State) :
    ∃ n r, (sendTwin typ p s).tray = { s.tray with twin := { s.tray.twin with fseq := n, txRd := r } } := by
  unfold sendTwin
  split
  · exact ⟨s.tray.twin.fseq, s.tray.twin.txRd, rfl⟩
  · exact ⟨_, _, rfl⟩

theorem sendTwin_up (typ : Nat) (p : Bytes) (htwin : hasTwin s = true) (hup : s.tray.twin.up = true) :
    sendTwin typ p s = emit (.twin ((frameLanes s.tray.twin.txRd (twinFrame typ s.tray.twin.fseq p)).map (·.1)))
      (updTwin (fun t => { t with
        fseq := t.fseq + 1, txRd := (frameLanes s.tray.twin.txRd (twinFrame typ s.tray.twin.fseq p)).map (·.2) })
        (emit (.twinIdle (s.tray.twin.txRd.map idlePair)) s)) := if_neg (by simp [htwin, hup])

/-- A frame that reads right goes to the rule of its type. -/
theorem twinReceived_takes {typ : Nat} {frame : List (List CodeGroup)} {p : Bytes} (f : Bytes → State → State)
    (htwin : hasTwin s = true) (hup : s.tray.twin.up = true) (h : receivedFrame s.tray.twin frame = some (typ, p)) :
    twinReceived typ frame f s = f p s := by
  unfold twinReceived
  rw [if_neg (by simp [htwin, hup]), h]
  exact if_pos rfl

theorem twinReceived_fails {typ : Nat} {frame : List (List CodeGroup)} (f : Bytes → State → State)
    (htwin : hasTwin s = true) (hup : s.tray.twin.up = true) (h : receivedFrame s.tray.twin frame = none) :
    twinReceived typ frame f s = frameFails s := by
  unfold twinReceived
  rw [if_neg (by simp [htwin, hup]), h]

/-! ### Heartbeats (R367) -/

theorem resolveCollision_idle (h : s.tray.own ≠ .active) : resolveCollision s = s := if_neg (by simp [h])

theorem noteLine_tray (s : State) : ∃ b, (noteLine s).tray = { s.tray with lineLow := b } := by
  unfold noteLine
  split
  · exact ⟨true, rfl⟩
  · exact ⟨s.tray.lineLow, rfl⟩

/-- A heartbeat before the third in a row is kept, and no more. -/
theorem heartbeatTaken_early {b : Bytes} (hlen : b.length = 32) (hrun : s.tray.twin.run < 2) (hown : s.tray.own ≠ .active) :
    heartbeatTaken b s = noteLine (updTwin (takeHeartbeat b s.now (rankOf (rankByte s))) s) := by
  unfold heartbeatTaken
  have hthree : (updTwin (takeHeartbeat b s.now (rankOf (rankByte s))) s).tray.twin.run < 3 := by
    show min 3 (s.tray.twin.run + 1) < 3
    omega
  rw [if_neg (by simp [hlen])]
  dsimp only
  rw [if_pos (by simp only [hthree, decide_true, Bool.or_true]), resolveCollision_idle]
  exact hown

/-- The third heartbeat in a row is heard. -/
def heardNow (b : Bytes) (s : State) : State :=
  let t := updTwin (takeHeartbeat b s.now (rankOf (rankByte s))) s
  raise 0x0102 0xFFFF (leBytes 4 t.tray.twin.chipTag.toNat) (updTwin (fun t => { t with heard := true }) t)

theorem heardNow_tray (b : Bytes) (s : State) : (heardNow b s).tray = { s.tray with
    twin := { takeHeartbeat b s.now (rankOf (rankByte s)) s.tray.twin with heard := true } } := by
  unfold heardNow
  rw [raise_tray]
  rfl

/-- With it an isolated device becomes the standby. -/
theorem heartbeatTaken_third {b : Bytes} (hlen : b.length = 32) (hheard : s.tray.twin.heard = false)
    (hrun : s.tray.twin.run = 2) (hown : s.tray.own = .isolated) :
    heartbeatTaken b s = noteLine (setOwn .standby 8 (sendStateRequest (heardNow b s))) := by
  have hown' : (heardNow b s).tray.own = .isolated := by rw [heardNow_tray]; exact hown
  have hthree : (updTwin (takeHeartbeat b s.now (rankOf (rankByte s))) s).tray.twin.run = 3 := by
    show min 3 (s.tray.twin.run + 1) = 3
    omega
  have hstandby : (setOwn .standby 8 (sendStateRequest (heardNow b s))).tray.own ≠ .active := by
    rw [setOwn_own]
    decide
  unfold heartbeatTaken
  rw [if_neg (by simp [hlen])]
  dsimp only
  rw [if_neg (by simp only [hheard, hthree]; decide)]
  exact (congrArg (fun u => noteLine (resolveCollision u)) (if_pos hown')).trans
    (congrArg noteLine (resolveCollision_idle hstandby))

theorem noteLine_standby_tray (u : State) (cause : Nat) : ∃ l n r f d,
    (noteLine (setOwn .standby cause (sendStateRequest u))).tray = { u.tray with
      own := .standby, lineLow := l, freshCommit := f, devSeq := d, twin := { u.tray.twin with fseq := n, txRd := r } } := by
  obtain ⟨n, r, hsend⟩ := sendTwin_twin 0x05 (zeros 8) u
  obtain ⟨d, f, hset⟩ := setOwn_tray (s := sendStateRequest u) .standby cause
  obtain ⟨l, hline⟩ := noteLine_tray (setOwn .standby cause (sendStateRequest u))
  refine ⟨l, n, r, f, d, ?_⟩
  rw [hline, hset, sendStateRequest, hsend]

theorem discardRecv_none (h : s.tray.recvEpoch = none) : discardRecv s = s := if_pos (by simp [h])

theorem discardRecv_some {e : W32} (h : s.tray.recvEpoch = some e) :
    discardRecv s = trayCount 5 1 (updTray (fun t => { t with recvEpoch := none, recv := [], recvCovered := [] }) s) :=
  if_neg (by simp [h])

/-- A standby that loses its twin's heartbeats while the line is low is isolated. -/
theorem heartbeatLostNow_isolates (htwin : hasTwin s = true) (hheard : s.tray.twin.heard = true)
    (hlost : s.tray.twin.lastHeard + 500000 ≤ s.now) (hown : s.tray.own = .standby) (hline : s.tray.lineLow = true)
    (hrecv : s.tray.recvEpoch = none) : ∃ n f, (heartbeatLostNow s).tray = { s.tray with
      own := .isolated, freshCommit := f, devSeq := n, twin := { s.tray.twin with heard := false, run := 0 }
      ctr := bump 7 1 s.tray.ctr } := by
  let u := raise 0x0101 0xFFFF [] (trayCount 7 1 (updTwin (fun t => { t with heard := false, run := 0 }) s))
  have hu : u.tray = { s.tray with
      twin := { s.tray.twin with heard := false, run := 0 }, ctr := bump 7 1 s.tray.ctr } := raise_tray ..
  have heq : heartbeatLostNow s = setOwn .isolated 7 u := by
    unfold heartbeatLostNow
    rw [if_neg (by simp [htwin, hheard, hlost])]
    dsimp only
    rw [discardRecv_none (by rw [hu]; exact hrecv), if_pos (by rw [hu]; simp [hown, hline])]
  obtain ⟨n, f, h⟩ := setOwn_tray (s := u) .isolated 7
  exact ⟨n, f, by rw [heq, h, hu]⟩

/-! ### Epochs at the standby (R370) -/

theorem laterTick_self (e : W32) : laterTick e e = false := by simp [laterTick]

theorem laterEpoch_keeps {e : W32} (h : s.tray.recvEpoch = none ∨ s.tray.recvEpoch = some e) : laterEpoch e s = s := by
  unfold laterEpoch
  rcases h with h | h
  · rw [h]
  · rw [h]
    exact if_neg (by simp [laterTick_self])

theorem stateData_takes {p : Bytes} (hown : s.tray.own = .standby) (hlo : 8 ≤ p.length) (hhi : p.length ≤ 65544)
    (hroom : leAt p 4 4 + (p.length - 8) ≤ 4194304)
    (hepoch : s.tray.recvEpoch = none ∨ s.tray.recvEpoch = some (w32 (leAt p 0 4))) :
    stateData p s = updTray (fun t => { t with
      recvEpoch := some (w32 (leAt p 0 4)), recv := mwrite t.recv (leAt p 4 4) (p.drop 8)
      recvCovered := addRange (leAt p 4 4) (leAt p 4 4 + (p.drop 8).length) t.recvCovered }) s := by
  unfold stateData
  dsimp only
  rw [if_neg, laterEpoch_keeps hepoch, if_neg]
  · rcases hepoch with h | h <;> simp [h]
  · simp [hown]
    omega

theorem imageCovered_iff (n : Nat) : imageCovered s n = true ↔ n = 0 ∨ ∃ r ∈ s.tray.recvCovered, r.1 = 0 ∧ n ≤ r.2 := by
  simp [imageCovered]

theorem commitEpoch_tray (e : W32) (b : Bytes) (s : State) : ∃ w, (commitEpoch e b s).tray = { s.tray with
    committed := some b, committedEpoch := e, committedAt := s.now, freshCommit := true, newest := some b
    copyMode := (imageContents b).copyMode, cycleTicks := (imageContents b).cycleTicks, recvEpoch := none, recv := []
    recvCovered := [], ctr := bump 4 1 s.tray.ctr, twin := w } := by
  obtain ⟨w, h⟩ := sendTwin_tray 0x04 (leBytes 4 e.toNat ++ zeros 4) (trayCount 4 1 (updTray (fun t => { t with
    committed := some b, committedEpoch := e, committedAt := s.now, freshCommit := true, newest := some b
    copyMode := (imageContents b).copyMode, cycleTicks := (imageContents b).cycleTicks, recvEpoch := none, recv := []
    recvCovered := [] }) s))
  exact ⟨w, h⟩

/-- An epoch whose number, CRC or bytes are not right does not stand, nor does one that nothing was received of. -/
theorem epochGood_fails {e crc : W32} {n : Nat} {b : Bytes} (h : s.tray.recvEpoch = none ∨ (s.tray.recvEpoch = some e ∧
      (imageEpoch b ≠ e ∨ crc32 b ≠ crc ∨ (n ≠ 0 ∧ ∀ r ∈ s.tray.recvCovered, r.1 = 0 → r.2 < n)))) :
    (s.tray.recvEpoch = none ∨ s.tray.recvEpoch = some e) ∧ epochGood s e n crc b = false := by
  rcases h with h | ⟨h, hbad⟩
  · exact ⟨.inl h, by simp [epochGood, h]⟩
  · refine ⟨.inr h, ?_⟩
    rcases hbad with hbad | hbad | ⟨hn, hcov⟩
    · simp [epochGood, hbad]
    · simp [epochGood, hbad]
    · have hcov' : imageCovered s n = false := by
        rw [← Bool.not_eq_true, imageCovered_iff]
        rintro (h0 | ⟨r, hr, hr0, hrn⟩)
        · exact hn h0
        · exact absurd (hcov r hr hr0) (by omega)
      simp [epochGood, hcov']

/-- The end of an image that does not stand: what was received is given up, counted. -/
theorem stateEnd_fails {p : Bytes} (hown : s.tray.own = .standby) (hlen : p.length = 16)
    (hepoch : s.tray.recvEpoch = none ∨ s.tray.recvEpoch = some (w32 (leAt p 0 4)))
    (hbad : epochGood s (w32 (leAt p 0 4)) (leAt p 4 4) (w32 (leAt p 8 4))
      (mreadN s.tray.recv 0 (min (leAt p 4 4) 4194304)) = false) :
    ∃ m c, (stateEnd p s).tray = { s.tray with recvEpoch := none, recv := m, recvCovered := c, ctr := bump 5 1 s.tray.ctr } := by
  unfold stateEnd
  dsimp only
  rw [if_neg (by simp [hown, hlen]), laterEpoch_keeps hepoch, if_neg (by simp [hbad])]
  generalize (_ && _ && _ && _ : Bool) = unreadable
  have htray : (when unreadable (raise 0x0107 0xFFFF (leBytes 2 (imageFormatOf
      (mreadN s.tray.recv 0 (min (leAt p 4 4) 4194304))).toNat)) s).tray = s.tray := by
    cases unreadable
    · rfl
    · exact raise_tray ..
  generalize when unreadable _ s = u at htray
  rcases hepoch with h | h
  · refine ⟨s.tray.recv, s.tray.recvCovered, ?_⟩
    rw [if_pos (by rw [htray, h]; rfl), trayCount, updTray_tray, htray, ← h]
  · refine ⟨[], [], ?_⟩
    rw [if_neg (by simp [htray, h]), discardRecv_some (e := w32 (leAt p 0 4)) (by rw [htray, h])]
    simp only [trayCount, updTray_tray, htray]

/-- The end of an image that stands commits it. -/
theorem stateEnd_commits {p : Bytes} (hown : s.tray.own = .standby) (hlen : p.length = 16)
    (hepoch : s.tray.recvEpoch = some (w32 (leAt p 0 4)))
    (hgood : epochGood s (w32 (leAt p 0 4)) (leAt p 4 4) (w32 (leAt p 8 4))
      (mreadN s.tray.recv 0 (min (leAt p 4 4) 4194304)) = true) :
    stateEnd p s = commitEpoch (w32 (leAt p 0 4)) (mreadN s.tray.recv 0 (min (leAt p 4 4) 4194304)) s := by
  unfold stateEnd
  dsimp only
  rw [if_neg (by simp [hown, hlen]), laterEpoch_keeps (.inr hepoch), if_pos hgood]

/-! ### Epochs at the active device (R370, R371, R378) -/

theorem stateAck_keeps {p : Bytes} (hown : s.tray.own = .active) (hlen : p.length = 8) (hnone : s.tray.handover = none) :
    stateAck p s = updTray (fun t => { t with
      acked := some (w32 (leAt p 0 4)), unacked := 0, ackSeen := true
      awaits := t.awaits && !decide (w32 (leAt p 0 4) = t.epoch), unsyncRaised := false }) s := by
  unfold stateAck
  dsimp only
  rw [if_neg (by simp [hown, hlen])]
  simp only [updTray_tray, hnone]

theorem stateAck_handsOver {p : Bytes} {src : CmdSrc} {d : Nat} (hown : s.tray.own = .active) (hlen : p.length = 8)
    (hwaits : s.tray.handover = some (src, w32 (leAt p 0 4), d)) :
    ∃ u, stateAck p s = handoverDone src u ∧ u.now = s.now := by
  refine ⟨updTray (fun t => { t with
      acked := some (w32 (leAt p 0 4)), unacked := 0, ackSeen := true
      awaits := t.awaits && !decide (w32 (leAt p 0 4) = t.epoch), unsyncRaised := false }) s, ?_, rfl⟩
  unfold stateAck
  dsimp only
  rw [if_neg (by simp [hown, hlen])]
  simp only [updTray_tray, hwaits, if_true]

theorem done_tray (src : CmdSrc) (s : State) : (done src s).tray = s.tray :=
  tray_of_outside (fp := { switch := true, host := true }) (by simp) rfl

/-- A handover that is acknowledged releases control, and does not take it again for 20 ms. -/
theorem handoverDone_releases (src : CmdSrc) (s : State) : (handoverDone src s).tray.own = .standby ∧
    (handoverDone src s).tray.handover = none ∧ (handoverDone src s).tray.drives = false ∧
    (handoverDone src s).tray.outputs = false ∧ (handoverDone src s).tray.noTakeUntil = s.now + 20000000 := by
  unfold handoverDone
  extract_lets due u
  obtain ⟨f, n, c, w, h⟩ := releaseControl_tray 4 .standby (trayCount 2 1 (done src u))
  rw [h, trayCount, updTray_tray, done_tray]
  exact ⟨rfl, rfl, rfl, rfl, rfl⟩

/-- How many cycles in a row went without an acknowledge, once this one has ended (R370, assumption log 129). -/
def unackedNext (t : Tray) : Nat :=
  if t.ackSeen || !t.twin.heard then 0 else if t.copyMode = 0 || t.awaits then t.unacked + 1 else t.unacked

theorem judgeUnsync_judges (s : State) : (judgeUnsync s).tray = { s.tray with
    unacked := unackedNext s.tray, ackSeen := false, unsyncRaised := s.tray.unsyncRaised || decide (3 ≤ unackedNext s.tray) } := by
  unfold judgeUnsync
  extract_lets t n u
  have hn : n = unackedNext s.tray := rfl
  have hu : u.tray = { s.tray with unacked := unackedNext s.tray, ackSeen := false } := rfl
  by_cases h : 3 ≤ n ∧ s.tray.unsyncRaised = false
  · rw [if_pos (by rw [hu]; simp [h]), raise_tray, updTray_tray, hu, decide_eq_true (hn ▸ h.1), Bool.or_true]
  · rw [if_neg (by rw [hu]; simpa using h), hu]
    have hkeeps : (s.tray.unsyncRaised || decide (3 ≤ unackedNext s.tray)) = s.tray.unsyncRaised := by
      rw [← hn]
      cases hr : s.tray.unsyncRaised <;> simp_all
    rw [hkeeps]

/-- A cycle that ends in time begins the next; where an epoch is due it goes out. -/
theorem cycleEnds_tray (haw : awake s = true) (hown : s.tray.own = .active)
    (hdue : s.tray.cycleAt + cycleNs s ≤ s.now) (hmode : s.tray.nextCopyMode = none) :
    ∃ e b d a w k, (cycleEnds s).tray = { s.tray with
      cycleAt := s.now, unacked := unackedNext s.tray, ackSeen := false
      unsyncRaised := s.tray.unsyncRaised || decide (3 ≤ unackedNext s.tray), nextCopyMode := none, nextCycle := none
      cycleTicks := k, epoch := e, newest := b, sendDue := d, awaits := a, twin := w } ∧
      e = (if s.tray.copyMode = 0 ∨ s.tray.sendDue = true then s.tray.epoch + 1 else s.tray.epoch) := by
  have hends : cycleEnds s = (let u := takeTwinConfig (updTray (fun t => { t with cycleAt := s.now }) (judgeUnsync s))
      when (u.tray.copyMode = 0 || u.tray.sendDue) sendEpoch u) := if_neg (by simp [haw, hown, hdue])
  have htaken : (takeTwinConfig (updTray (fun t => { t with cycleAt := s.now }) (judgeUnsync s))).tray =
      { s.tray with unacked := unackedNext s.tray, ackSeen := false
                    unsyncRaised := s.tray.unsyncRaised || decide (3 ≤ unackedNext s.tray), cycleAt := s.now
                    cycleTicks := s.tray.nextCycle.getD s.tray.cycleTicks, nextCopyMode := none, nextCycle := none } := by
    simp only [takeTwinConfig, updTray_tray, judgeUnsync_judges, hmode, Option.getD_none]
  rw [hends]
  generalize takeTwinConfig (updTray (fun t => { t with cycleAt := s.now }) (judgeUnsync s)) = u at htaken
  dsimp only
  rw [htaken]
  by_cases hsend : s.tray.copyMode = 0 ∨ s.tray.sendDue = true
  · obtain ⟨w, hw⟩ := sendEpoch_tray u
    rw [when_of (by simpa using hsend), hw, htaken, if_pos hsend]
    exact ⟨_, _, _, _, _, _, rfl, rfl⟩
  · rw [show when _ sendEpoch u = u from if_neg (by simpa using hsend), htaken, if_neg hsend]
    exact ⟨_, s.tray.newest, s.tray.sendDue, s.tray.awaits, s.tray.twin, _, rfl, rfl⟩

/-! ### Snapshots (R371) -/

theorem writeSnapshot_newest {b : Bytes} (h : s.tray.newest = some b) : writeSnapshot s =
    updTray (fun t => { t with snapshot := some b })
      (updFlash (fun f => { f with snapshots := (b :: f.snapshots).take 8 }) s) := by
  unfold writeSnapshot
  rw [h]

theorem snapshots_ring {b : Bytes} (htwin : hasTwin s = true) (hdue : snapshotDue s = true) (hown : s.tray.own ≠ .active)
    (hnew : s.tray.newest = some b) : snapshots s = { s with
      flash := { s.flash with snapshots := (b :: s.flash.snapshots).take 8 }
      tray := { s.tray with snapAt := s.now, snapshot := some b } } := by
  have hruns : snapshots s = writeSnapshot (when (s.tray.own = .active && s.tray.copyMode != 0) sendEpoch
      (updTray (fun t => { t with snapAt := s.now }) s)) := if_neg (by simp [htwin, hdue])
  have hkeeps : when (s.tray.own = .active && s.tray.copyMode != 0) sendEpoch
      (updTray (fun t => { t with snapAt := s.now }) s) = updTray (fun t => { t with snapAt := s.now }) s :=
    if_neg (by simp [hown])
  rw [hruns, hkeeps]
  exact (writeSnapshot_newest (s := updTray (fun t => { t with snapAt := s.now }) s) hnew).trans rfl

/-- Settles O56: each frame by what its rule takes from it, the ends of an epoch by the judgement of its image, and a cycle
by what it counts and sends. -/
theorem twinLinkAndEpochs : Obligations.TwinLinkAndEpochs := by
  unfold Obligations.TwinLinkAndEpochs
  refine ⟨fun s l n g k inv hl htwin hset => ?_, fun s l g k hl hset => ?_, fun s l n hl htwin hlane => ?_,
    fun s a b c d htwin hup => ?_, fun s f b htwin hup hf hlen hheard hrun hown => ?_,
    fun s f b htwin hup hf hlen hheard hrun hown => ?_, fun s f htwin hup hf => ?_,
    fun s htwin hheard hlost hown hline hrecv => ?_, fun s h => ?_, fun s f p htwin hup hf => ?_,
    fun s f p htwin hup hf hown hlo hhi hroom hepoch => ?_, fun s f p htwin hup hf hown hlen => ?_,
    fun s f p htwin hup hf hown hlen hbad => ?_, fun s f p htwin hup hf hown hlen hnone => ?_,
    fun s f p src d htwin hup hf hown hlen hwaits => ?_, fun s f p htwin hup hf hown => ?_,
    fun s haw hown hdue hmode => ?_, fun s h => ?_, fun s b htwin hdue hown hnew => ?_⟩
  · have ht := laneTrained_takes (s := s) (l := l) (k := k) htwin hset
    refine ⟨_, onUnit_ok (decide_eq_true hl) _ _, ?_⟩
    rw [ht]
    refine ⟨rfl, ?_, rfl, rfl⟩
    cases inv <;> simp [hl]
  · refine (onUnit_ok (decide_eq_true hl) _ _).trans (congrArg Host.Outcome.next ?_)
    unfold laneTrained
    rw [hset]
  · refine ⟨(onUnit_ok (decide_eq_true hl) _ _).trans (congrArg Host.Outcome.next (if_pos ?_)), trainTwin_down s⟩
    simp [htwin, hlane]
  · refine ⟨_, rfl, ?_⟩
    rw [sendTwin_up _ _ htwin hup]
    exact ⟨rfl, rfl, rfl⟩
  · obtain ⟨l, n, r, fr, d, ht⟩ := noteLine_standby_tray (heardNow b s) 8
    refine ⟨_, congrArg Host.Outcome.next (twinReceived_takes heartbeatTaken htwin hup hf), ?_⟩
    rw [heartbeatTaken_third hlen hheard hrun hown, ht, heardNow_tray]
    exact ⟨rfl, rfl, rfl⟩
  · rw [← heartbeatTaken_early hlen hrun hown]
    exact congrArg Host.Outcome.next (twinReceived_takes heartbeatTaken htwin hup hf)
  · exact ⟨frameFails s, congrArg Host.Outcome.next (twinReceived_fails _ htwin hup hf), rfl, rfl,
      congrArg Host.Outcome.next (twinReceived_fails _ htwin hup hf)⟩
  · obtain ⟨n, fr, ht⟩ := heartbeatLostNow_isolates htwin hheard hlost hown hline hrecv
    refine ⟨_, rfl, ?_⟩
    rw [ht]
    exact ⟨rfl, rfl, rfl⟩
  · exact congrArg Host.Outcome.next (if_pos (by simp; omega))
  · exact congrArg Host.Outcome.next (twinReceived_takes releaseTaken htwin hup hf)
  · exact congrArg Host.Outcome.next ((twinReceived_takes stateData htwin hup hf).trans
      (stateData_takes hown hlo hhi hroom hepoch))
  · intro e n b hepoch hn hcov himage hcrc hlater
    refine ⟨_, congrArg Host.Outcome.next (twinReceived_takes stateEnd htwin hup hf), ?_⟩
    have hb : mreadN s.tray.recv 0 (min (leAt p 4 4) 4194304) = b := congrArg (mreadN s.tray.recv 0) (Nat.min_eq_left hn)
    have hgood : epochGood s e n (w32 (leAt p 8 4)) b = readsFormat (imageFormatOf b) := by
      have hcov' := (imageCovered_iff n).2 hcov
      rcases hlater with h | h <;> simp [epochGood, hepoch, hcov', hcrc, himage, h]
    cases hread : readsFormat (imageFormatOf b)
    · obtain ⟨m, c, ht⟩ := stateEnd_fails hown hlen (.inr hepoch) (hb ▸ hgood.trans hread)
      rw [ht]
      exact ⟨rfl, hown, rfl, rfl, rfl⟩
    · obtain ⟨w, ht⟩ := commitEpoch_tray e b s
      rw [stateEnd_commits hown hlen hepoch (hb ▸ hgood.trans hread), hb, ht]
      exact ⟨rfl, hown, rfl, rfl, rfl, rfl, rfl⟩
  · obtain ⟨hepoch, hfails⟩ := epochGood_fails hbad
    obtain ⟨m, c, ht⟩ := stateEnd_fails hown hlen hepoch hfails
    refine ⟨_, congrArg Host.Outcome.next (twinReceived_takes stateEnd htwin hup hf), ?_⟩
    rw [ht]
    exact ⟨rfl, rfl, rfl⟩
  · exact congrArg Host.Outcome.next ((twinReceived_takes stateAck htwin hup hf).trans (stateAck_keeps hown hlen hnone))
  · obtain ⟨u, hu, hnow⟩ := stateAck_handsOver hown hlen hwaits
    refine ⟨_, congrArg Host.Outcome.next (twinReceived_takes stateAck htwin hup hf), ?_⟩
    rw [hu, ← hnow]
    exact handoverDone_releases src u
  · refine congrArg Host.Outcome.next ((twinReceived_takes (fun _ => stateRequested) htwin hup hf).trans ?_)
    exact when_of (decide_eq_true hown) _ s
  · obtain ⟨e, b, d, a, w, k, ht, he⟩ := cycleEnds_tray haw hown hdue hmode
    refine ⟨_, rfl, ?_⟩
    rw [ht]
    refine ⟨rfl, hown, rfl, he, fun hwarm => ⟨?_, fun hack hheard htwo => ?_⟩⟩
    · show unackedNext s.tray = _
      rw [unackedNext, if_pos (by simp [hwarm] : (decide (s.tray.copyMode = 0) || s.tray.awaits) = true)]
      simp
    · have hthree : 3 ≤ unackedNext s.tray := by
        simp only [unackedNext, hack, hheard, hwarm, Bool.not_true, Bool.or_false, Bool.false_eq_true, if_false, decide_true,
          Bool.true_or, if_true]
        omega
      exact Bool.or_eq_true_iff.2 (.inr (decide_eq_true hthree))
  · refine congrArg Host.Outcome.next (if_pos ?_)
    rcases h with h | h
    · simp [h]
    · simp [Nat.not_le.2 h]
  · exact congrArg Host.Outcome.next (snapshots_ring htwin hdue hown hnew)

end Sys2Proof.Machine
end

section
/-! PROOFS. Ownership of the tray: claim, takeover, the I3C buses, self-checks and line faults (R361, R372 to R382). -/

namespace Sys2Proof.Machine

variable {s : State}

/-! ### Claim (R373) -/

theorem setOwn_boot (new : OwnState) (cause : Nat) (s : State) : (setOwn new cause s).boot = s.boot := by
  unfold setOwn
  dsimp only
  split
  · rfl
  · rw [boot_noteOwner, raise_boot]
    rfl

theorem noBetterTwin_iff (s : State) :
    noBetterTwin s = true ↔ ∀ b, s.tray.twin.lastBetter = some b → b + 500000 < s.now := by
  unfold noBetterTwin
  cases s.tray.twin.lastBetter <;> simp

theorem mayClaim_iff (s : State) : mayClaim s = true ↔ hasTwin s = true ∧ s.tray.own = .claiming ∧ s.tray.lineLow = false ∧
    s.tray.lineFault = false ∧ (∀ b, s.tray.twin.lastBetter = some b → b + 500000 < s.now) ∧
    s.tray.readyAt + 1000000 * rankOf (rankByte s) ≤ s.now := by
  rw [← noBetterTwin_iff]
  simp [mayClaim, and_assoc]

/-- A claim takes the line and listens for 1 ms; it numbers on from the latest epoch held. -/
theorem claims_tray (h : mayClaim s = true) : ∃ n f, (claims s).tray = { freshCycles s.now s.tray with
    own := .active, freshCommit := f, devSeq := n, claimUntil := some (s.now + 1000000), restore := s.tray.snapshot
    epoch := epochHeld s.tray, assigns := !s.boot.claimed } ∧ (claims s).boot.claimed = true := by
  have hclaims : claims s = setOwn .active 1 (updTray (fun t => { freshCycles s.now t with
      claimUntil := some (s.now + 1000000), restore := t.snapshot, epoch := epochHeld t, assigns := !s.boot.claimed })
      (updBoot (fun b => { b with claimed := true }) s)) := if_neg (by simp [h])
  obtain ⟨n, f, ht⟩ := setOwn_tray (s := updTray (fun t => { freshCycles s.now t with
      claimUntil := some (s.now + 1000000), restore := t.snapshot, epoch := epochHeld t, assigns := !s.boot.claimed })
      (updBoot (fun b => { b with claimed := true }) s)) .active 1
  exact ⟨n, f, by rw [hclaims, ht]; rfl, by rw [hclaims, setOwn_boot]; rfl⟩

/-! ### The start of the outputs (R373, R382) -/

theorem startFromConfig_tray {c : ConfigContents} (h : s.boot.config = some c) : ∃ l m, (startFromConfig s).tray =
    { noAlarms s.tray with
      outputs := true, activated := true, restore := none, pumpDuty := legalDuty c.pumpDuty, fanDuty := legalDuty c.fanDuty
      pumpDrive := [legalDuty c.pumpDuty, legalDuty c.pumpDuty], pumpPinned := {}, fanPinned := {}, lasers := l
      modules := m } := by
  unfold startFromConfig
  rw [h]
  obtain ⟨o, ho⟩ := driveSettings_eq (List.range 64) allRails (startOutputs c.pumpDuty c.fanDuty s)
  exact ⟨_, _, congrArg State.tray ho⟩

theorem takeImagePolicy_tray (l : List PolicyEntry) (s : State) : (takeImagePolicy l s).tray = s.tray := by
  unfold takeImagePolicy
  dsimp only
  split <;> rfl

/-- What alarms do not touch of the tray: duties, settings, line and outputs. -/
def besideAlarms (t : Tray) : Tray :=
  { t with pumpAlarm := 0, flowAlarm := false, coolantHot := false, fanFault := 0, alarmSeen := [] }

theorem takeImageAlarms_keeps (l : List (Nat × Nat)) (s : State) :
    besideAlarms (takeImageAlarms l s).tray = besideAlarms s.tray := by
  refine forEach_keeps (fun t => besideAlarms t.tray) (fun a t => ?_) ..
  dsimp only
  split
  · rfl
  · cases a <;> rfl

theorem takeImageAlarms_nil (s : State) : takeImageAlarms [] s = s :=
  forEach_keeps id (fun _ _ => rfl) ..

/-- The device that starts from an image, before it writes to sources and modules. -/
def imageStarted (b : Bytes) (s : State) : State :=
  let c := imageContents b
  let s := startOutputs c.pumpDuty c.fanDuty s
  let s := updTray (fun t => { t with
    pumpDrive := [legalDuty (nth c.pumpDrive 0), legalDuty (nth c.pumpDrive 1)], pumpPinned := c.pumpPinned, fanPinned := c.fanPinned
    flowLow := min 5 c.flowLow
    addresses := (List.range 4).filterMap (fun i => (c.addresses.find? (fun e => e.1 = i)).map (fun e => (i, e.2)))
    lasers := (List.range 64).map (fun i => nth c.lasers i), modules := (List.range 32).map (fun i => nth c.modules i)
    copyMode := c.copyMode, cycleTicks := c.cycleTicks, nextCopyMode := none, nextCycle := none, rackPolicy := c.rackPolicy }) s
  applyAlarms (takeImageAlarms c.alarms (takeImagePolicy c.policy s))

theorem startFromImage_eq (b : Bytes) (s : State) :
    startFromImage b s = driveSettings (List.range 64) allRails (imageStarted b s) := rfl

theorem applyAlarms_keeps (s : State) : (applyAlarms s).tray.outputs = s.tray.outputs ∧
    (applyAlarms s).tray.activated = s.tray.activated ∧ (applyAlarms s).tray.restore = s.tray.restore ∧
    (applyAlarms s).tray.claimUntil = s.tray.claimUntil ∧ (applyAlarms s).tray.copyMode = s.tray.copyMode ∧
    (applyAlarms s).tray.cycleTicks = s.tray.cycleTicks ∧ (applyAlarms s).tray.rackPolicy = s.tray.rackPolicy :=
  ⟨rfl, rfl, rfl, rfl, rfl, rfl, rfl⟩

/-- The settings of an image stand once the device has started from it. -/
theorem imageStarted_takes (b : Bytes) (s : State) : (imageStarted b s).tray.outputs = true ∧
    (imageStarted b s).tray.activated = true ∧ (imageStarted b s).tray.restore = none ∧
    (imageStarted b s).tray.claimUntil = s.tray.claimUntil ∧ (imageStarted b s).tray.copyMode = (imageContents b).copyMode ∧
    (imageStarted b s).tray.cycleTicks = (imageContents b).cycleTicks ∧
    (imageStarted b s).tray.rackPolicy = (imageContents b).rackPolicy := by
  unfold imageStarted
  extract_lets c u v
  have hkeeps := takeImageAlarms_keeps c.alarms (takeImagePolicy c.policy v)
  rw [takeImagePolicy_tray] at hkeeps
  obtain ⟨e1, e2, e3, e4, e5, e6, e7⟩ := applyAlarms_keeps (takeImageAlarms c.alarms (takeImagePolicy c.policy v))
  rw [e1, e2, e3, e4, e5, e6, e7]
  exact ⟨(congrArg Tray.outputs hkeeps :), (congrArg Tray.activated hkeeps :), (congrArg Tray.restore hkeeps :),
    (congrArg Tray.claimUntil hkeeps :), (congrArg Tray.copyMode hkeeps :), (congrArg Tray.cycleTicks hkeeps :),
    (congrArg Tray.rackPolicy hkeeps :)⟩

/-- Without an alarm in the image the outputs start at its duties. -/
theorem imageStarted_duties {b : Bytes} (h : (imageContents b).alarms = []) :
    (imageStarted b s).tray.pumpDuty = legalDuty (imageContents b).pumpDuty ∧
      (imageStarted b s).tray.fanDuty = legalDuty (imageContents b).fanDuty := by
  unfold imageStarted
  extract_lets c u v
  rw [show c.alarms = [] from h, takeImageAlarms_nil, applyAlarms_tray]
  simp only [pumpsHeld, takeImagePolicy_tray]
  exact ⟨rfl, rfl⟩

theorem forEach_emit_keeps {α : Type} (g : α → State → Output) {o : Output} (l : List α) (h : o ∈ s.out) :
    o ∈ (forEach l (fun a t => emit (g a t) t) s).out := by
  induction l generalizing s with
  | nil => exact h
  | cons a l ih => exact ih (List.mem_cons_of_mem _ h)

/-- Every rail that is named is written to its module. -/
theorem driveSettings_writes {i : Nat} (l : List Nat) {r : List Nat} (h : i ∈ r) (s : State) :
    .railModule i (nth s.policy.railLimit i) ∈ (driveSettings l r s).out := by
  obtain ⟨o, ho⟩ := forEach_emit (fun i t => .laserSource i (nth t.policy.laserSet i)) l s
  unfold driveSettings
  dsimp only
  rw [ho]
  show _ ∈ (forEach r (fun i t => emit (.railModule i (nth t.policy.railLimit i)) t) { s with out := o }).out
  clear ho
  induction r generalizing o with
  | nil => cases h
  | cons j r ih =>
    rcases List.mem_cons.1 h with rfl | h
    · exact forEach_emit_keeps (fun i t => .railModule i (nth t.policy.railLimit i)) r (List.mem_cons_self ..)
    · exact ih h _

theorem mem_allRails {i : Nat} (h : i < 32) (h5 : i % 8 ≤ 5) : i ∈ allRails := by simp [allRails, h, h5]

theorem listenEnds_starts {u : Nat} (hclaim : s.tray.claimUntil = some u) (hu : u ≤ s.now) (haw : awake s = true)
    (hown : s.tray.own = .active) : listenEnds s = startTray (updTray (fun t => { t with claimUntil := none }) s) := by
  unfold listenEnds
  rw [hclaim]
  exact if_pos (by simp [haw, hown, hu])

theorem startTray_image {b : Bytes} (h : s.tray.restore = some b) : startTray s = startFromImage b s := by
  unfold startTray
  rw [h]

theorem startTray_config (h : s.tray.restore = none) : startTray s = startFromConfig s := by
  unfold startTray
  rw [h]

/-- The line is low: the claiming device becomes the standby. -/
theorem lineIsLow_standby (htwin : hasTwin s = true) (hown : s.tray.own = .claiming) :
    (lineIsLow s).tray.own = .standby ∧ (lineIsLow s).tray.lineLow = true := by
  have hlow : lineIsLow s = setOwn .standby 0 (sendStateRequest (updTray (fun t => { t with lineLow := true }) s)) :=
    if_pos (by simp [htwin, hown])
  obtain ⟨w, hw⟩ := sendTwin_tray 0x05 (zeros 8) (updTray (fun t => { t with lineLow := true }) s)
  obtain ⟨n, f, ht⟩ := setOwn_tray (s := sendStateRequest (updTray (fun t => { t with lineLow := true }) s)) .standby 0
  rw [hlow, ht, sendStateRequest, hw]
  exact ⟨rfl, rfl⟩

/-! ### Takeover (R377, R382) -/

theorem raiseTakeover_tray (source : Nat) (epoch : W32) (s : State) : (raiseTakeover source epoch s).tray = s.tray :=
  tray_of_outside (fp := {}) (by simp) rfl

theorem takesOver_tray (h : mayTakeOver s = true) (hrecv : s.tray.recvEpoch = none) :
    ∃ n f, (takesOver s).tray = { freshCycles s.now s.tray with
      own := .active, freshCommit := f, devSeq := n, restore := (bestState s).2.1, epoch := (bestState s).2.2
      assigns := false, ctr := bump 0 1 s.tray.ctr } := by
  let u := trayCount 0 1 (updTray (fun t => { freshCycles s.now t with
    restore := (bestState s).2.1, epoch := (bestState s).2.2, assigns := false }) s)
  have htakes : takesOver s = raiseTakeover (bestState s).1 (bestState s).2.2 (setOwn .active 2 u) := by
    unfold takesOver
    rw [if_neg (by simp [h])]
    dsimp only
    rw [discardRecv_none hrecv]
  obtain ⟨n, f, ht⟩ := setOwn_tray (s := u) .active 2
  exact ⟨n, f, by rw [htakes, raiseTakeover_tray, ht]; rfl⟩

/-! ### The I3C buses (R361) -/

theorem driveLamps_tray (s : State) : ∃ l m, (driveLamps s).tray = { s.tray with leds := l, lamps := m } := by
  unfold driveLamps withFree
  split
  · exact ⟨_, _, rfl⟩
  · exact ⟨s.tray.leds, s.tray.lamps, rfl⟩

theorem busTaken_tray (n : Nat) (l : List (BitVec 7)) (hruns : runsTray s = true) :
    ∃ d m, (busTaken n l s).tray = { s.tray with
      busesHeld := s.tray.busesHeld ||| (1 : BitVec 4) <<< n, leds := d, lamps := m
      addresses := if s.tray.assigns && !s.tray.busesHeld.getLsbD n then tset s.tray.addresses n l else s.tray.addresses } := by
  unfold busTaken
  rw [if_neg (by simp [hruns])]
  extract_lets assign known u v
  obtain ⟨d, m, hv⟩ := driveLamps_tray u
  refine ⟨d, m, ?_⟩
  have hall : (if assign then v else forEach (known.filter (fun a => !l.contains a))
      (fun a => raise 0x010D n [a.setWidth 8]) v).tray = v.tray := by
    cases assign
    · exact forEach_keeps State.tray (fun _ _ => raise_tray ..) ..
    · rfl
  exact hall.trans hv

/-! ### Self-checks and the line (R375, R376, R379, R380) -/

/-- The control that is released is counted. -/
theorem releaseControl_counts (cause : Nat) (next : OwnState) (s : State) :
    (releaseControl cause next s).tray.ctr = bump 1 1 s.tray.ctr := by
  unfold releaseControl
  extract_lets u v
  obtain ⟨x, hx⟩ := sendTwin_tray 0x06 (leBytes 2 cause ++ zeros 6) (trayCount 1 1 (updTray dropTray s))
  obtain ⟨n, f, hv⟩ := setOwn_tray u next cause
  have hctr : v.tray.ctr = bump 1 1 s.tray.ctr := by
    rw [hv, hx]
    rfl
  unfold when
  split
  · obtain ⟨w, hw⟩ := sendTwin_tray 0x05 (zeros 8) v
    rw [sendStateRequest, hw]
    exact hctr
  · exact hctr

/-- A self-check that fails at the active device: it lets go of every output and of the line. -/
theorem selfCheckFails_releases {check : Nat} (haw : awake s = true) (hown : s.tray.own = .active) :
    (selfCheckFails check s).tray.own = .released ∧ (selfCheckFails check s).tray.drives = false ∧
      (selfCheckFails check s).tray.outputs = false ∧ (selfCheckFails check s).tray.busesHeld = 0 ∧
      (selfCheckFails check s).tray.coresDown = true ∧ (selfCheckFails check s).tray.ctr = bump 1 1 s.tray.ctr ∧
      (selfCheckFails check s).tray.failedCheck = check := by
  let u := updTray (fun t => { t with coresDown := true, failedCheck := check, plausBad := 0 }) s
  have hfails : selfCheckFails check s = raise 0x0104 check [] (releaseControl 3 .released u) :=
    if_neg (by simp [haw, hown])
  obtain ⟨f, n, c, w, h⟩ := releaseControl_tray 3 .released u
  have hctr := releaseControl_counts 3 .released u
  rw [hfails, raise_tray, hctr, h]
  exact ⟨rfl, rfl, rfl, rfl, rfl, rfl, rfl⟩

theorem selfCheckFails_idle (check : Nat) (h : s.tray.own ≠ .active) : selfCheckFails check s = s := if_pos (by simp [h])

theorem ownLineFaults_releases (haw : awake s = true) (hown : s.tray.own = .active) (hdrives : s.tray.drives = true) :
    ∃ f n c w, (ownLineFaults s).tray = { dropTray s.tray with
      own := .released, freshCommit := f, devSeq := n, ctr := c, twin := w, lineFault := true } := by
  have hfaults : ownLineFaults s = releaseControl 5 .released
      (raise 0x0105 0xFFFF [] (updTray (fun t => { t with lineFault := true }) s)) := if_neg (by simp [haw, hown, hdrives])
  obtain ⟨f, n, c, w, h⟩ := releaseControl_tray 5 .released
    (raise 0x0105 0xFFFF [] (updTray (fun t => { t with lineFault := true }) s))
  exact ⟨f, n, c, w, by rw [hfaults, h, raise_tray]; rfl⟩

theorem coresRestarted_claims (haw : awake s = true) (hown : s.tray.own = .released) (hfault : s.tray.lineFault = false) :
    (coresRestarted s).tray.own = .claiming ∧ (coresRestarted s).tray.coresDown = false := by
  have hclaims : coresRestarted s = setOwn .claiming 9 (updTray (fun t => { t with coresDown := false, failedCheck := 0 }) s) :=
    (if_neg (by simp [haw, hown])).trans (if_neg (by simp [hfault]))
  obtain ⟨n, f, h⟩ := setOwn_tray (s := updTray (fun t => { t with coresDown := false, failedCheck := 0 }) s) .claiming 9
  rw [hclaims, h]
  exact ⟨rfl, rfl⟩

theorem coresRestarted_stays (haw : awake s = true) (hown : s.tray.own = .released) (hfault : s.tray.lineFault = true) :
    coresRestarted s = updTray (fun t => { t with coresDown := false, failedCheck := 0 }) s :=
  (if_neg (by simp [haw, hown])).trans (if_pos hfault)

/-! ### Plausibility (R375) -/

/-- The input that counts against the active device: with a twin that is heard, only while the twin's own inputs pass. -/
def badInput (s : State) (r : List Reading) : Option Nat :=
  if s.tray.twin.heard && !bitOf s.tray.twin.diag.toNat 3 then none else failingInput s r

theorem plausibilityChecked_passes {r : List Reading} (haw : awake s = true) (hown : s.tray.own = .active)
    (h : badInput s r = none) : plausibilityChecked r s = updTray (fun x => { x with plausBad := 0 }) s := by
  unfold plausibilityChecked
  rw [if_neg (by simp [haw, hown])]
  dsimp only
  unfold badInput at h
  rw [h]

theorem plausibilityChecked_counts {r : List Reading} {i : Nat} (haw : awake s = true) (hown : s.tray.own = .active)
    (h : badInput s r = some i) : plausibilityChecked r s =
      let n := s.tray.plausBad + 1
      let u := updTray (fun x => { x with plausBad := min n 10 }) s
      if n < 10 then u
      else if s.tray.twin.heard then selfCheckFails 4 u
      else when (n = 10) (raise 0x010C i []) u := by
  unfold plausibilityChecked
  rw [if_neg (by simp [haw, hown])]
  dsimp only
  unfold badInput at h
  rw [h]

theorem badInput_none (a b : TachReading) (c d : Reading)
    (h : (s.tray.twin.heard = false ∧ a.plausible = true ∧ b.plausible = true ∧ c.plausible = true ∧ d.plausible = true) ∨
      (s.tray.twin.heard = true ∧ bitOf s.tray.twin.diag.toNat 3 = false)) : badInput s (trayInputs s a b c d) = none := by
  rcases h with ⟨hheard, ha, hb, hc, hd⟩ | ⟨hheard, hdiag⟩
  · rw [badInput, if_neg (by simp [hheard]), failingInput]
    simp [List.range_succ, trayInputs, nth, hheard, ha, hb, hc, hd]
  · exact if_pos (by simp [hheard, hdiag])

theorem badInput_first (a b : TachReading) (c d : Reading)
    (h : s.tray.twin.heard = false ∨ bitOf s.tray.twin.diag.toNat 3 = true) (ha : a.plausible = false) :
    badInput s (trayInputs s a b c d) = some 0 := by
  rw [badInput, if_neg (by rcases h with h | h <;> simp [h])]
  unfold failingInput
  exact List.find?_cons_of_pos (l := [1, 2, 3]) (Bool.or_eq_true_iff.2 (.inl (congrArg not ha)))

/-- Settles O57: the claim and the takeover by the tray they leave, the start by the settings of the image, and every
self-check by the release that it leads to. -/
theorem controlIsTakenAndReleased : Obligations.ControlIsTakenAndReleased := by
  unfold Obligations.ControlIsTakenAndReleased
  refine ⟨fun s h => ?_, fun s h => ?_, mayClaim_iff, fun b now me w => ?_,
    fun s u c hclaim hu haw hown hrestore hconfig => ?_, fun s u b hclaim hu haw hown hrestore => ?_,
    fun s htwin hown => ⟨_, rfl, lineIsLow_standby htwin hown⟩, fun s h hrecv => ?_, fun s h => ?_,
    fun s c haw hown hclaim hact hrestore hconfig => ?_, fun s n l hn hruns => ?_, fun s c hc haw hown => ?_,
    fun s c hc hown => ?_, fun s haw hown hdrives => ?_, fun s haw hown hfault => ⟨_, rfl, coresRestarted_claims haw hown hfault⟩,
    fun s haw hown hfault => ?_, fun s a b c d haw hown h => ?_, fun s a b c d haw hown h ha => ⟨fun hlt => ?_,
    fun hge hheard => ?_, fun hge hheard => ?_⟩⟩
  · obtain ⟨n, f, ht, hboot⟩ := claims_tray h
    refine ⟨_, rfl, ?_⟩
    rw [ht, hboot]
    exact ⟨rfl, rfl, rfl, rfl, rfl, rfl, rfl⟩
  · exact congrArg Host.Outcome.next (if_pos (by simp [h]))
  · simp [takeHeartbeat]
  · obtain ⟨l, m, ht⟩ := startFromConfig_tray (s := updTray (fun t => { t with claimUntil := none }) s) hconfig
    refine ⟨_, congrArg Host.Outcome.next ((listenEnds_starts hclaim hu haw hown).trans (startTray_config hrestore)), ?_⟩
    rw [pumpsHeld, ht]
    exact ⟨rfl, rfl, rfl, rfl, rfl⟩
  · let v := updTray (fun t => { t with claimUntil := none }) s
    obtain ⟨o, ho⟩ := driveSettings_eq (List.range 64) allRails (imageStarted b v)
    have hrestore' : v.tray.restore = some b := hrestore
    have hstart : listenEnds s = driveSettings (List.range 64) allRails (imageStarted b v) := by
      rw [listenEnds_starts hclaim hu haw hown, startTray_image hrestore', startFromImage_eq]
    obtain ⟨e1, e2, e3, e4, e5, e6, e7⟩ := imageStarted_takes b v
    have hwrites := fun i (hi : i < 32) h5 => driveSettings_writes (List.range 64) (mem_allRails hi h5) (imageStarted b v)
    refine ⟨_, congrArg Host.Outcome.next hstart, ?_⟩
    rw [ho] at hwrites ⊢
    refine ⟨e1, e2, e3, e4, e5, e6, e7, rfl, hwrites, ?_⟩
    split
    next halarms => exact imageStarted_duties halarms
    next => trivial
  · obtain ⟨n, f, ht⟩ := takesOver_tray h hrecv
    refine ⟨_, rfl, ?_⟩
    rw [ht]
    exact ⟨rfl, rfl, rfl, rfl, rfl, rfl⟩
  · exact congrArg Host.Outcome.next (if_pos (by simp [h]))
  · obtain ⟨l, m, ht⟩ := startFromConfig_tray hconfig
    have hruns : exec .imageActivated s = .next (startTray s) :=
      congrArg Host.Outcome.next (if_pos (by simp [haw, hown, hclaim, hact]))
    refine ⟨_, hruns, ?_⟩
    rw [startTray_config hrestore, ht]
    exact ⟨rfl, rfl, rfl⟩
  · obtain ⟨d, m, ht⟩ := busTaken_tray n l hruns
    refine ⟨_, onUnit_ok (decide_eq_true hn) _ _, ?_⟩
    rw [ht]
    refine ⟨rfl, fun hassign hheld => ?_, fun hassign => if_neg (by simp [hassign])⟩
    simp only [hassign, hheld, Bool.not_false, Bool.and_self, if_true, tget_tset_self]
  · rcases hc with rfl | rfl | rfl <;>
      (refine ⟨_, rfl, ?_⟩
       obtain ⟨e1, e2, e3, e4, e5, e6, -⟩ := selfCheckFails_releases haw hown
       exact ⟨e1, e2, e3, e4, e5, e6⟩)
  · rcases hc with rfl | rfl | rfl <;> exact congrArg Host.Outcome.next (selfCheckFails_idle _ hown)
  · obtain ⟨f, n, c, w, ht⟩ := ownLineFaults_releases haw hown hdrives
    refine ⟨_, rfl, ?_⟩
    rw [ht]
    exact ⟨rfl, rfl, rfl, rfl⟩
  · exact ⟨_, congrArg Host.Outcome.next (coresRestarted_stays haw hown hfault), hown, rfl⟩
  · exact congrArg Host.Outcome.next (plausibilityChecked_passes haw hown (badInput_none a b c d h))
  · have hcount := plausibilityChecked_counts haw hown (badInput_first a b c d h ha)
    refine congrArg Host.Outcome.next (hcount.trans ((if_pos (by omega)).trans ?_))
    rw [Nat.min_eq_left (by omega)]
    rfl
  · have hcount := plausibilityChecked_counts haw hown (badInput_first a b c d h ha)
    refine ⟨_, congrArg Host.Outcome.next (hcount.trans ((if_neg (by omega)).trans (if_pos hheard))), ?_⟩
    obtain ⟨e1, -, e3, -, -, -, e7⟩ := selfCheckFails_releases (check := 4)
      (s := updTray (fun x => { x with plausBad := min (s.tray.plausBad + 1) 10 }) s) haw hown
    exact ⟨e1, e3, e7⟩
  · have hcount := plausibilityChecked_counts haw hown (badInput_first a b c d h ha)
    refine ⟨_, congrArg Host.Outcome.next (hcount.trans ((if_neg (by omega)).trans (if_neg (by simp [hheard])))), ?_⟩
    unfold when
    split
    · rw [raise_tray]
      exact ⟨hown, rfl⟩
    · exact ⟨hown, rfl⟩

end Sys2Proof.Machine
end

section
/-! PROOFS. Messages from and to the rack manager (R384 to R386, R392). -/

namespace Sys2Proof.Machine

variable {s : State}

/-! ### Judging a message (R384) -/

theorem rackMessage_bad {f : State → State} {m : Bytes} {c : ConfigContents} (typ : Nat) (haw : awake s = true)
    (hconfig : s.boot.config = some c) (hbad : rackMsgOk s c.rmKey m = false) :
    rackMessage typ m f s = trayCount 9 1 s := by
  unfold rackMessage
  rw [if_neg (by simp [haw]), hconfig]
  exact if_pos (by simp [hbad])

theorem rackMessage_good {f : State → State} {m : Bytes} {c : ConfigContents} {typ : Nat} (haw : awake s = true)
    (hconfig : s.boot.config = some c) (hok : rackMsgOk s c.rmKey m = true) (htyp : msgType m = typ) :
    rackMessage typ m f s = f (acceptMsg m s) := by
  unfold rackMessage
  rw [if_neg (by simp [haw]), hconfig]
  exact (if_neg (by simp [hok])).trans (if_pos htyp)

theorem rackMsgOk_checks {key m : Bytes} (h : rackMsgOk s key m = true) :
    32 ≤ m.length ∧ m.length ≤ 1024 ∧ leAt m 8 4 = s.boot.chipTag.toNat ∧
      m.drop (m.length - 16) = rackTag key (m.take (m.length - 16)) ∧
      ∀ q, s.tray.rmSeq = some q → laterTick (msgSeq m) q = true := by
  simp only [rackMsgOk, Bool.and_eq_true, decide_eq_true_eq, beq_iff_eq] at h
  obtain ⟨⟨⟨⟨⟨hlo, hhi⟩, -⟩, htag⟩, hchip⟩, hseq⟩ := h
  refine ⟨hlo, hhi, hchip, htag, fun q hq => ?_⟩
  simpa only [hq] using hseq

/-- A message that is accepted: its number is kept, and contact stands. -/
theorem acceptMsg_quiet (m : Bytes) (h : s.tray.rmSilent = false) : acceptMsg m s = trayCount 8 1 { s with
    tray := { s.tray with rmSeq := some (msgSeq m), rmAt := s.now, rmSilent := false } } := by
  unfold acceptMsg
  dsimp only
  rw [h]
  rfl

theorem acceptMsg_tray (m : Bytes) (s : State) : (acceptMsg m s).tray = { s.tray with
    rmSeq := some (msgSeq m), rmAt := s.now, rmSilent := false, ctr := bump 8 1 s.tray.ctr } := by
  unfold acceptMsg when
  dsimp only
  split
  · rw [raise_tray]
    rfl
  · rfl

theorem acceptMsg_keeps (m : Bytes) (s : State) : outside { tray := true } (acceptMsg m s) = outside { tray := true } s := by
  unfold acceptMsg
  simp

theorem acceptMsg_now (m : Bytes) (s : State) : (acceptMsg m s).now = s.now := by
  unfold acceptMsg when
  dsimp only
  split
  · rw [raise_now]
    rfl
  · rfl

/-! ### A policy (R385, R392) -/

theorem rackEntries_of_own {t : State} (b : Bytes) (h : t.tray.own = s.tray.own) : rackEntries t b = rackEntries s b := by
  simp only [rackEntries, h]

/-- The entries that a policy names are those that this device applies. -/
theorem applyPolicy_rackEntries (b : Bytes) (s : State) :
    ∃ o l m p d, applyPolicy (rackEntries s b) s = { s with
      policy := applyEntries (rackEntries s b) s.policy, out := o
      tray := { s.tray with lasers := l, modules := m, policyAt := p, sendDue := d } } ∧
      (s.tray.own = .active → (rackEntries s b).any isTrayEntry = true → p = s.now ∧ d = true) := by
  by_cases hown : s.tray.own = .active
  · cases hany : (rackEntries s b).any isTrayEntry
    · refine ⟨s.out, s.tray.lasers, s.tray.modules, s.tray.policyAt, s.tray.sendDue, applyPolicy_noTray hany, ?_⟩
      exact fun _ h => absurd h (by simp)
    · obtain ⟨o, ho⟩ := applyPolicy_tray hown hany
      exact ⟨o, _, _, _, _, ho, fun _ _ => ⟨rfl, rfl⟩⟩
  · have hany : (rackEntries s b).any isTrayEntry = false := by
      simp [rackEntries, hown]
    exact ⟨s.out, s.tray.lasers, s.tray.modules, s.tray.policyAt, s.tray.sendDue, applyPolicy_noTray hany,
      fun h => absurd h hown⟩

theorem settleMode_tray (cause : Nat) (s : State) : ∃ n, (settleMode cause s).tray = { s.tray with devSeq := n } := by
  unfold settleMode
  extract_lets old new protective u v
  split
  · exact ⟨s.tray.devSeq, rfl⟩
  · obtain ⟨n, h⟩ := sendDevHeartbeat_tray (s := v)
    exact ⟨n, h.trans (congrArg (fun t : Tray => { t with devSeq := n }) ((raise_tray ..).trans rfl))⟩

theorem le_modeAsked_ceiling (s : State) : s.power.ceiling ≤ modeAsked s := by
  exact (Nat.le_max_left ..).trans (Nat.le_max_right ..)

/-- A policy that passes, before its entries are applied. -/
def policyTaken (m : Bytes) (s : State) : State :=
  updPower (fun p => { p with
      budgetTarget := leAt (msgBody m) 0 2, slope := leAt (msgBody m) 4 4, ceiling := leAt (msgBody m) 8 1 })
    (updTray (fun t => { t with
      policySeq := msgSeq m, policyStatus := rackPolicyStatus s (msgBody m), rackPolicy := msgBody m }) s)

theorem rackPolicyActs_ok {m : Bytes} (h : rackPolicyStatus s (msgBody m) = stOk) :
    rackPolicyActs m s = settleMode 2 (applyPolicy (rackEntries (policyTaken m s) (msgBody m)) (policyTaken m s)) :=
  if_neg (by simp [h])

theorem policyTaken_eq (m : Bytes) (s : State) : policyTaken m s = { s with
    tray := { s.tray with
      policySeq := msgSeq m, policyStatus := rackPolicyStatus s (msgBody m), rackPolicy := msgBody m }
    power := { s.power with
      budgetTarget := leAt (msgBody m) 0 2, slope := leAt (msgBody m) 4 4, ceiling := leAt (msgBody m) 8 1 } } := rfl

/-- It is in force whole: its entries, its limits and the mode that they ask for. -/
theorem rackPolicyActs_applies {m : Bytes} (h : rackPolicyStatus s (msgBody m) = stOk) :
    ∃ n l k p d, (rackPolicyActs m s).tray = { s.tray with
      policySeq := msgSeq m, policyStatus := rackPolicyStatus s (msgBody m), rackPolicy := msgBody m, devSeq := n, lasers := l
      modules := k, policyAt := p, sendDue := d } ∧
      (s.tray.own = .active → (rackEntries s (msgBody m)).any isTrayEntry = true → p = s.now ∧ d = true) ∧
      (rackPolicyActs m s).policy = applyEntries (rackEntries s (msgBody m)) s.policy ∧
      ∃ x y z c, (rackPolicyActs m s).power = { s.power with
        budgetTarget := leAt (msgBody m) 0 2, slope := leAt (msgBody m) 4 4, ceiling := leAt (msgBody m) 8 1
        mode := x, protect := y, protectCause := z, ctr := c } ∧ leAt (msgBody m) 8 1 ≤ x := by
  obtain ⟨o, l, k, p, d, happ, htimes⟩ := applyPolicy_rackEntries (msgBody m) (policyTaken m s)
  have hown : (policyTaken m s).tray.own = s.tray.own := rfl
  rw [rackEntries_of_own _ hown] at happ htimes
  rw [rackPolicyActs_ok h, rackEntries_of_own _ hown, happ, policyTaken_eq]
  generalize hv : State.mk _ _ _ _ _ _ _ _ _ _ _ _ _ _ _ _ _ _ = v
  obtain ⟨n, htray⟩ := settleMode_tray 2 v
  obtain ⟨y, z, c, hpower⟩ := settleMode_power 2 v
  have hle := le_modeAsked_ceiling v
  rw [htray, hpower, settleMode_policy]
  subst hv
  exact ⟨n, l, k, p, d, rfl, htimes, rfl, _, y, z, c, rfl, hle⟩

/-- A policy that fails is refused whole. -/
theorem rackPolicyActs_refuses {m : Bytes} (h : rackPolicyStatus s (msgBody m) ≠ stOk) :
    (rackPolicyActs m s).tray = { s.tray with
      policySeq := msgSeq m, policyStatus := rackPolicyStatus s (msgBody m) } ∧
      (rackPolicyActs m s).policy = s.policy ∧ ∃ c, (rackPolicyActs m s).power = { s.power with ctr := c } := by
  let u := updTray (fun t => { t with policySeq := msgSeq m, policyStatus := rackPolicyStatus s (msgBody m) }) s
  have hacts : rackPolicyActs m s = when (rackPolicyStatus s (msgBody m) = stBadParam && !policyHeadOk (msgBody m))
      (powerCount 11 1) u := if_pos (by simpa using h)
  rw [hacts]
  unfold when
  split
  · exact ⟨rfl, rfl, _, rfl⟩
  · exact ⟨rfl, rfl, _, rfl⟩

/-! ### Polarity, silence and the device's own messages (R458, R386, R385) -/

theorem frameMessage_inverted (m : Bytes) : frameMessage { inverted := true, bytes := m.map (fun b => ~~~b) } = m := by
  show (m.map (fun b => ~~~b)).map (fun b => ~~~b) = m
  simp [Function.comp_def]

theorem length_heartbeatBody (s : State) : (heartbeatBody s).length = 24 := by simp [heartbeatBody]

theorem length_trayRecord (s : State) : (trayRecord s).length = 32 := by simp [trayRecord]

theorem sendRack_sends {c : ConfigContents} (typ : Nat) (body : Bytes) (h : s.boot.config = some c) :
    let m := leBytes 2 typ ++ leBytes 2 (32 + body.length) ++ leBytes 4 (s.tray.devSeq + 1).toNat ++
      leBytes 4 s.boot.chipTag.toNat ++ zeros 4 ++ body
    (sendRack typ body s).tray.devSeq = s.tray.devSeq + 1 ∧
      (sendRack typ body s).out =
        .rack (c.netAddress, c.netPort) c.rmAddress c.rmPort (m ++ rackTag c.rmKey m) :: s.out := by
  unfold sendRack
  rw [h]
  exact ⟨rfl, rfl⟩

/-- Settles O58: a message by its checks and its number, a policy by the judgement of its body, and the device's own messages
by what `sendRack` builds. -/
theorem rackMessages : Obligations.RackMessages := by
  unfold Obligations.RackMessages
  refine ⟨fun s f m c hm haw hc hbad => ?_, fun s key m h => rackMsgOk_checks h, fun s f m c hm haw hc hok htyp hsilent => ?_,
    fun s f m c hm haw hc hok htyp hsilent => ?_, fun s f m c hm haw hc hok htyp hst => ?_,
    fun s f m c hm haw hc hok htyp hst => ?_, fun m => ⟨rfl, frameMessage_inverted m⟩, fun s haw hsilent hlost => ?_,
    fun s h => ?_, fun s c haw hc => ?_⟩
  · subst hm
    exact ⟨congrArg Host.Outcome.next (rackMessage_bad 0x0001 haw hc hbad),
      congrArg Host.Outcome.next (rackMessage_bad 0x0002 haw hc hbad)⟩
  · subst hm
    exact congrArg Host.Outcome.next ((rackMessage_good haw hc hok htyp).trans (acceptMsg_quiet _ hsilent))
  · subst hm
    refine ⟨_, congrArg Host.Outcome.next (rackMessage_good haw hc hok htyp), ?_⟩
    rw [acceptMsg_tray]
    exact ⟨rfl, rfl⟩
  · subst hm
    obtain ⟨n, l, k, p, d, htray, htimes, hpolicy, x, y, z, ctr, hpower, hle⟩ := rackPolicyActs_applies hst
    have hout := acceptMsg_keeps (frameMessage f) s
    have hown : (acceptMsg (frameMessage f) s).tray.own = s.tray.own := by rw [acceptMsg_tray]
    have hnow : (acceptMsg (frameMessage f) s).now = s.now := acceptMsg_now ..
    rw [rackEntries_of_own _ hown, policy_of_outside hout rfl] at hpolicy
    rw [rackEntries_of_own _ hown, hown] at htimes
    refine ⟨_, congrArg Host.Outcome.next (rackMessage_good haw hc hok htyp), ?_⟩
    rw [htray, hpower, hpolicy]
    exact ⟨rfl, rfl, rfl, hst, rfl, hle, rfl, rfl, fun h h' => hnow ▸ htimes h h'⟩
  · subst hm
    obtain ⟨htray, hpolicy, ctr, hpower⟩ := rackPolicyActs_refuses hst
    have hout := acceptMsg_keeps (frameMessage f) s
    refine ⟨_, congrArg Host.Outcome.next (rackMessage_good haw hc hok htyp), ?_⟩
    rw [htray, hpower, hpolicy, policy_of_outside hout rfl, power_of_outside hout rfl]
    exact ⟨rfl, rfl, rfl, rfl, rfl⟩
  · have hlost' : contactLost s = raise 0x010E 0xFFFF [] (trayCount 10 1 (updTray (fun t => { t with rmSilent := true }) s)) :=
      if_pos (by simp [haw, hsilent, hlost])
    refine ⟨_, congrArg Host.Outcome.next hlost', ?_⟩
    rw [raise_tray, raise_power, raise_policy]
    exact ⟨rfl, rfl, rfl, rfl⟩
  · exact congrArg Host.Outcome.next (if_neg (by simp; omega))
  · have hbeat := sendRack_sends 0x0101 (heartbeatBody s) hc
    have htele := sendRack_sends 0x0102 (statusRecord s ++ trayRecord s) hc
    rw [length_heartbeatBody] at hbeat
    rw [List.length_append, length_statusRecord, length_trayRecord] at htele
    exact ⟨_, _, _, _, congrArg Host.Outcome.next (if_pos haw), congrArg Host.Outcome.next (if_pos haw), hbeat.1, htele.1,
      hbeat.2, rfl, htele.2, rfl⟩

end Sys2Proof.Machine
end

section
/-! PROOFS. Power alerts, the governors, junction temperature and rails (R390 to R398). -/

namespace Sys2Proof.Machine

variable {s : State}

theorem live_gate (h : Live s) : (s.boot.inReset || !s.boot.powered) = false := by simp [h.1, h.2]

/-! ### The mode that is asked for (R390, R391) -/

theorem modeAsked_alert (halert : s.power.alert = true) (hcom : s.power.commanded ≤ 3) (hceil : s.power.ceiling ≤ 3)
    (htherm : s.power.thermal ≤ 3) : modeAsked s = 3 := by
  have hbudget : budgetMode s ≤ 3 := by
    unfold budgetMode
    split
    · omega
    · split <;> omega
  simp only [modeAsked, halert, Bool.true_or, if_true]
  split <;> split <;> omega

theorem le_modeAsked_thermal (s : State) : s.power.thermal ≤ modeAsked s := by
  simp only [modeAsked]
  omega

theorem three_le_modeAsked_overcurrent (h : s.power.overcurrent = true) : 3 ≤ modeAsked s := by
  simp only [modeAsked, h, if_true]
  omega

theorem three_le_modeAsked_tripped (h : s.power.tripped = true) : 3 ≤ modeAsked s := by
  simp only [modeAsked, h, if_true]
  omega

theorem raiseWith_power (code source : Nat) (data : Bytes) (ended : Bool) (s : State) :
    (raiseWith code source data ended s).power = s.power := power_of_outside (fp := {}) (by simp) rfl

/-- Where PWR_ALERT_N falls the alert stands, counted, and its request acts. -/
def alerted (s : State) : State :=
  raise 0x0121 0xFFFF [] (powerCount 1 1 (updPower (fun p => { p with alert := true, alertHold := none }) s))

theorem alerted_power (s : State) : (alerted s).power = { s.power with
    alert := true, alertHold := none, ctr := bump 1 1 s.power.ctr } := by
  unfold alerted
  rw [raise_power]
  rfl

theorem alertAsserts_acts (hlive : Live s) (h : s.power.alert = false) : alertAsserts s = settleMode 4 (alerted s) :=
  (if_neg (by simp [h])).trans (if_neg (by simp [updPower, hlive.1, hlive.2]))

theorem alertAsserts_keeps (s : State) :
    outside { tray := true, power := true } (alertAsserts s) = outside { tray := true, power := true } s := by
  unfold alertAsserts
  simp

theorem alertReleases_acts (hlive : Live s) (h : s.power.alert = true) : alertReleases s =
    raiseWith 0x0121 0xFFFF [] true (updPower (fun p => { p with alert := false, alertHold := some (s.now + 1000000) }) s) :=
  (if_neg (by simp [h])).trans (if_neg (by simp [hlive.1, hlive.2]))

theorem alertHoldEnds_due {u : Nat} (h : s.power.alertHold = some u) (hu : u ≤ s.now) :
    alertHoldEnds s = settleMode 7 (updPower (fun p => { p with alertHold := none }) s) := by
  unfold alertHoldEnds
  rw [h]
  exact if_pos hu

theorem alertHoldEnds_early {u : Nat} (h : s.power.alertHold = some u) (hu : s.now < u) : alertHoldEnds s = s := by
  unfold alertHoldEnds
  rw [h]
  exact if_neg (by omega)

/-! ### The governors (R393, R394) -/

theorem when_powerCount (b : Bool) (i n : Nat) (s : State) :
    ∃ c, (when b (powerCount i n) s).power = { s.power with ctr := c } := by
  cases b
  · exact ⟨s.power.ctr, rfl⟩
  · exact ⟨_, rfl⟩

theorem when_keeps_power {f : State → State} (h : (f s).power = s.power) (b : Bool) : (when b f s).power = s.power := by
  cases b
  · rfl
  · exact h

theorem raisePinned_power (loop source : Nat) (upper : Bool) (s : State) :
    (raisePinned loop source upper s).power = s.power := raise_power ..

theorem raiseReached_power (loop source : Nat) (old new : Pin) (s : State) :
    (raiseReached loop source old new s).power = s.power := power_of_outside (fp := {}) (by simp) rfl

/-- The bound that the power governor sets. -/
def govLimit (w : Nat) (d : List Nat) (s : State) : Nat :=
  if (w : Rat) / 1000 > powerCap s then max (govFloor s) (largestFit d (powerCap s) s.power.theta) else 64

/-- What the power governor settles: θ, its own bound, and the reference where there is none yet. -/
theorem governPower_power (w : Nat) (d : List Nat) (s : State) : ∃ p r c, (governPower w d s).power = { s.power with
    power := w, govPinned := p, ref := r, refSet := true, ctr := c, govTheta := govLimit w d s
    theta := min s.power.theta (govLimit w d s) } ∧ (p = true → (w : Rat) / 1000 > powerCap s) := by
  unfold governPower
  extract_lets w' isOver floor old pinned limit was u v
  have hlimit : limit = govLimit w d s := by
    simp only [limit, isOver, decide_eq_true_eq]
    rfl
  obtain ⟨c, hc⟩ := when_powerCount pinned 4 1 u
  refine ⟨pinned, if s.power.refSet then s.power.ref else w', c, ?_, fun hp => ?_⟩
  · rw [when_keeps_power (raisePinned_power 0x12 0xFFFF false v), hc, ← hlimit]
    rfl
  · have hover : isOver = true := by
      simp only [pinned, Bool.and_eq_true] at hp
      exact hp.1.1
    exact of_decide_eq_true hover

theorem slopeExceeded_power (cause : Nat) (s : State) :
    ∃ e c, (slopeExceeded cause s).power = { s.power with exceededAt := e, ctr := c } := by
  unfold slopeExceeded
  extract_lets due now first step
  split
  · exact ⟨s.power.exceededAt, s.power.ctr, rfl⟩
  · exact ⟨_, _, (raise_power ..).trans rfl⟩

theorem when_slopeExceeded (b : Bool) (cause : Nat) (s : State) :
    ∃ e c, (when b (slopeExceeded cause) s).power = { s.power with exceededAt := e, ctr := c } := by
  cases b
  · exact ⟨s.power.exceededAt, s.power.ctr, rfl⟩
  · exact slopeExceeded_power cause s

theorem moveBudget_power (s : State) : ∃ b m p k c, (moveBudget s).power = { s.power with
    budget := b, mode := m, protect := p, protectCause := k, ctr := c } := by
  unfold moveBudget
  extract_lets x t b b2
  obtain ⟨p, k, c, h⟩ := settleMode_power 3 (updPower (fun p => { p with budget := b2 }) s)
  exact ⟨b2, _, p, k, c, h⟩

theorem countBallast_power (s : State) :
    ∃ a c, (countBallast s).power = { s.power with ballastAcc := a, ctr := c } := ⟨_, _, rfl⟩

/-- The slope governor's step, by the pseudocode of R394, at the state's own figures. -/
def slopeSettles (d : List Nat) (s : State) : SlopeStep :=
  slopeStep d s.power.ref (powerCap s) s.power.slope (min (thetaCap s.power.mode) s.power.govTheta) (govFloor s)
    (ballastMax s) s.power.protect

theorem governSlope_settles (d : List Nat) (s : State) :
    (governSlope d s).power.theta = (slopeSettles d s).theta ∧ (governSlope d s).power.slope = s.power.slope := by
  unfold governSlope
  extract_lets p r pin u v x y
  obtain ⟨c1, h1⟩ := when_powerCount (r.theta < thetaCap p.mode) 6 1 u
  obtain ⟨c2, h2⟩ := when_powerCount (pinHeld pin) 5 1 v
  obtain ⟨e, c3, h3⟩ := when_slopeExceeded r.unheld (if p.protect then p.protectCause else 0) x
  obtain ⟨a, c4, h4⟩ := countBallast_power y
  obtain ⟨b, m, q, k, c5, h5⟩ := moveBudget_power (countBallast y)
  rw [h5, h4, h3, raiseReached_power, h2, h1]
  exact ⟨rfl, rfl⟩

theorem governSlope_ports (d : List Nat) (s : State) : (governSlope d s).ports = s.ports :=
  ports_of_outside (fp := { tray := true, power := true }) (by simp) rfl

/-! ### Junction temperature (R396, R397) -/

/-- Since when the hottest sensor has stayed below the level that the request returns at. -/
def coolNext (tj : Int) (s : State) : Option Nat :=
  if s.power.thermal > 0 && decide (tj < if s.power.thermal = 2 then 970 else 920) then some (s.power.coolSince.getD s.now)
  else none

/-- A sample is taken, before it is judged. -/
def sensed (l : List Int) (s : State) : State :=
  updPower (fun p => { p with tjMax := (hottest l).2, coolSince := coolNext (hottest l).2 s }) s

/-- 100 ms below the return level have passed. -/
def cooledLong (s : State) : Bool :=
  match s.power.coolSince with
  | none => false
  | some t => decide (t + 100000000 ≤ s.now)

theorem cooledLong_none (h : s.power.coolSince = none) : cooledLong s = false := by
  unfold cooledLong
  rw [h]

theorem cooledLong_some {u : Nat} (h : s.power.coolSince = some u) : cooledLong s = decide (u + 100000000 ≤ s.now) := by
  unfold cooledLong
  rw [h]

def thermalJudged (tj : Nat × Int) (s : State) : State :=
  if tj.2 ≥ 1000 && s.power.thermal < 2 then thermalStep tj.1 2 s
  else if tj.2 ≥ 950 && s.power.thermal < 1 then thermalStep tj.1 1 s
  else if cooledLong s then thermalStep tj.1 (s.power.thermal - 1) s
  else s

theorem thermalSampled_eq (l : List Int) (s : State) : thermalSampled l s =
    when (decide ((hottest l).2 > 1050)) (overMaximum (hottest l).1) (thermalJudged (hottest l) (sensed l s)) := rfl

theorem thermalSampled_within {l : List Int} (h : (hottest l).2 ≤ 1050) :
    thermalSampled l s = thermalJudged (hottest l) (sensed l s) := by
  rw [thermalSampled_eq]
  exact if_neg (by simpa using h)

theorem thermalStep_power (i new : Nat) (s : State) : ∃ m p k c, (thermalStep i new s).power = { s.power with
    thermal := new, coolSince := none, mode := m, protect := p, protectCause := k, ctr := c } ∧ new ≤ m := by
  unfold thermalStep
  extract_lets up u v
  obtain ⟨p, k, c, h⟩ := settleMode_power (if up then 5 else 7) v
  have hv : v.power = { s.power with thermal := new, coolSince := none, ctr := bump 2 1 s.power.ctr } := raise_power ..
  have hle := le_modeAsked_thermal v
  rw [hv] at h hle
  exact ⟨_, p, k, c, h, hle⟩

theorem exec_thermalSample (l : List Int) (hlive : Live s) : exec (.thermalSample l) s = .next (thermalSampled l s) :=
  congrArg Host.Outcome.next (if_neg (by simp [live_gate hlive]))

/-- A reading that asks for more than stands steps the request up, and the mode with it. -/
theorem thermalSampled_raises {l : List Int} {new : Nat} (h1050 : (hottest l).2 ≤ 1050)
    (hstep : thermalJudged (hottest l) (sensed l s) = thermalStep (hottest l).1 new (sensed l s)) :
    (thermalSampled l s).power.thermal = new ∧ (thermalSampled l s).power.tjMax = (hottest l).2 ∧
      new ≤ (thermalSampled l s).power.mode ∧ (thermalSampled l s).power.coolSince = none := by
  obtain ⟨m, p, k, c, h, hle⟩ := thermalStep_power (hottest l).1 new (sensed l s)
  rw [thermalSampled_within h1050, hstep, h]
  exact ⟨rfl, rfl, hle, rfl⟩

theorem thermalJudged_two {tj : Nat × Int} (h : 1000 ≤ tj.2) (ht : s.power.thermal < 2) :
    thermalJudged tj s = thermalStep tj.1 2 s := if_pos (by simp [h, ht])

theorem thermalJudged_one {tj : Nat × Int} (h : 950 ≤ tj.2) (hlt : tj.2 < 1000) (ht : s.power.thermal = 0) :
    thermalJudged tj s = thermalStep tj.1 1 s := by
  unfold thermalJudged
  rw [if_neg (by simp [hlt]), if_pos (by simp [h, ht])]

/-- A reading that asks for nothing more: the request steps back once it has been cool for long enough. -/
theorem thermalJudged_cools {tj : Nat × Int} (h1 : 1000 ≤ tj.2 → 2 ≤ s.power.thermal) (h2 : 950 ≤ tj.2 → 1 ≤ s.power.thermal) :
    thermalJudged tj s = if cooledLong s then thermalStep tj.1 (s.power.thermal - 1) s else s := by
  unfold thermalJudged
  rw [if_neg, if_neg]
  · simp only [Bool.and_eq_true, decide_eq_true_eq]
    omega
  · simp only [Bool.and_eq_true, decide_eq_true_eq]
    omega

theorem coolNext_below {tj : Int} (h : 0 < s.power.thermal) (hlow : tj < if s.power.thermal = 2 then 970 else 920) :
    coolNext tj s = some (s.power.coolSince.getD s.now) := if_pos (by simp [h, hlow])

theorem coolNext_above {tj : Int} (h : s.power.thermal = 0 ∨ (if s.power.thermal = 2 then 970 else 920) ≤ tj) :
    coolNext tj s = none := by
  refine if_neg ?_
  simp only [Bool.and_eq_true, decide_eq_true_eq]
  omega

/-- Long enough below the return level: the request steps back by one. -/
theorem thermalSampled_back {l : List Int} {u : Nat} (h1000 : (hottest l).2 < 1000) (ht : 0 < s.power.thermal)
    (hcool : coolNext (hottest l).2 s = some u) (hdue : u + 100000000 ≤ s.now) :
    (thermalSampled l s).power.thermal = s.power.thermal - 1 ∧ (thermalSampled l s).power.tjMax = (hottest l).2 ∧
      (thermalSampled l s).power.coolSince = none := by
  have hlong : cooledLong (sensed l s) = true := (cooledLong_some hcool).trans (decide_eq_true hdue)
  have hjudged := thermalJudged_cools (s := sensed l s) (tj := hottest l) (fun h => absurd h (by omega)) (fun _ => ht)
  obtain ⟨e1, e2, -, e4⟩ := thermalSampled_raises (by omega) (hjudged.trans (if_pos hlong))
  exact ⟨e1, e2, e4⟩

/-- Not long enough: the sample is taken, and the request stands. -/
theorem thermalJudged_stays {l : List Int} (h1 : 1000 ≤ (hottest l).2 → 2 ≤ s.power.thermal)
    (h2 : 950 ≤ (hottest l).2 → 1 ≤ s.power.thermal) (hcool : cooledLong (sensed l s) = false) :
    thermalJudged (hottest l) (sensed l s) = sensed l s :=
  (thermalJudged_cools (s := sensed l s) h1 h2).trans (if_neg (by simp [hcool]))

/-- A sample above the operating maximum. -/
def overCounted (s : State) : State :=
  powerCount 10 ((s.power.overMaxRun + 1) / 10) (updPower (fun p => { p with overMaxRun := (s.power.overMaxRun + 1) % 10 }) s)

theorem overMaximum_quiet {i u : Nat} (h : s.power.overMaxAt = some u) (hsoon : s.now < u + 1000000000) :
    overMaximum i s = overCounted s := by
  unfold overMaximum
  extract_lets n v due now
  have hdue : due = false := by
    simp only [due, v, powerCount, updPower, h, decide_eq_false_iff_not]
    omega
  rw [hdue]
  rfl

theorem overMaximum_told {i : Nat} (h : ∀ u, s.power.overMaxAt = some u → u + 1000000000 ≤ s.now) :
    (overMaximum i s).power = { (overCounted s).power with overMaxAt := some s.now } := by
  unfold overMaximum
  extract_lets n v due now
  have hdue : due = true := by
    simp only [due, v, powerCount, updPower]
    cases hat : s.power.overMaxAt with
    | none => rfl
    | some u => exact decide_eq_true (h u hat)
  rw [hdue, if_neg (by decide), raise_power]
  rfl

/-! ### The trip (R397) -/

/-- The trip, before the mode follows. -/
def tripNoted (tj : Int) (s : State) : State :=
  updPower (fun p => { p with tripped := true, protect := true, protectCause := 5, tjMax := max p.tjMax tj })
    (updBoot (fun b => { b with thermTrip := true }) s)

theorem trips_eq {n : Nat} {tj : Int} (hlive : Live s) (hno : s.boot.thermTrip = false) (htj : 1150 ≤ tj) :
    ∃ i d, trips n tj s = when s.boot.easelReady (raise 0x0124 i d) (settleMode 5 (tripNoted tj s)) := by
  refine ⟨n, leBytes 2 (wrapInt 16 (settleMode 5 (tripNoted tj s)).power.tjMax), ?_⟩
  have hready : (settleMode 5 (tripNoted tj s)).boot.easelReady = s.boot.easelReady := by rw [settleMode_boot]; rfl
  rw [← hready]
  exact (if_neg (by simp [hlive.1, hno]; omega)).trans (if_neg (by simp [updBoot, hlive.2]))

theorem settleMode_protective {cause : Nat} (s : State) (h : s.power.protect = true) (hcause : s.power.protectCause = cause) :
    (settleMode cause s).power.protect = true ∧ (settleMode cause s).power.protectCause = cause := by
  unfold settleMode
  extract_lets old new protective u v
  split
  · exact ⟨h, hcause⟩
  · rw [sendDevHeartbeat_power, raise_power]
    refine ⟨Bool.or_eq_true_iff.2 (.inl h), ?_⟩
    show (if protective then cause else s.power.protectCause) = cause
    rw [hcause, ite_self]

theorem trips_power {n : Nat} {tj : Int} (hlive : Live s) (hno : s.boot.thermTrip = false) (htj : 1150 ≤ tj) :
    (trips n tj s).boot.thermTrip = true ∧ (trips n tj s).power.tripped = true ∧ 3 ≤ (trips n tj s).power.mode ∧
      (trips n tj s).power.protect = true ∧ (trips n tj s).power.protectCause = 5 ∧
      (trips n tj s).power.tjMax = max s.power.tjMax tj := by
  obtain ⟨i, d, heq⟩ := trips_eq (n := n) hlive hno htj
  have hboot : (trips n tj s).boot = (settleMode 5 (tripNoted tj s)).boot := by
    rw [heq]
    unfold when
    split
    · rw [raise_boot]
    · rfl
  have hpower : (trips n tj s).power = (settleMode 5 (tripNoted tj s)).power := by
    rw [heq]
    exact when_keeps_power (raise_power ..) _
  obtain ⟨hprotect, hcause⟩ := settleMode_protective (cause := 5) (tripNoted tj s) rfl rfl
  have hle := three_le_modeAsked_tripped (s := tripNoted tj s) rfl
  rw [hboot, hpower, hprotect, hcause, settleMode_boot]
  obtain ⟨p, k, c, h⟩ := settleMode_power 5 (tripNoted tj s)
  rw [h]
  exact ⟨rfl, rfl, hle, rfl, rfl, rfl⟩

/-! ### Rails (R398) -/

theorem settleMode_counts (cause : Nat) (s : State) : (settleMode cause s).power.ctr =
    if s.power.mode = modeAsked s then s.power.ctr else bump 0 1 s.power.ctr := by
  unfold settleMode
  dsimp only
  split
  · rfl
  · rw [sendDevHeartbeat_power, raise_power]
    rfl

theorem railExceeds_power (n : Nat) (s : State) : ∃ m p k c, (railExceeds n s).power = { s.power with
    overcurrent := true, ocRails := s.power.ocRails ++ [n], mode := m, protect := p, protectCause := k, ctr := c } ∧ 3 ≤ m := by
  unfold railExceeds
  extract_lets amps
  let u := raise 0x0125 n (leBytes 2 (amps / 10))
    (powerCount 3 1 (updPower (fun p => { p with overcurrent := true, ocRails := p.ocRails ++ [n] }) s))
  have hu : u.power = { s.power with
      overcurrent := true, ocRails := s.power.ocRails ++ [n], ctr := bump 3 1 s.power.ctr } := raise_power ..
  obtain ⟨p, k, c, h⟩ := settleMode_power 6 u
  have hle := three_le_modeAsked_overcurrent (s := u) (by rw [hu])
  exact ⟨_, p, k, c, by rw [h, hu], hle⟩

theorem modeAsked_of_power {t u : State} (hpower : t.power = u.power) (hboot : t.boot = u.boot) : modeAsked t = modeAsked u := by
  unfold modeAsked budgetMode govFloor
  rw [hpower, hboot]

/-- A rail that exceeds is counted, and so is the change of mode that it makes. -/
theorem railExceeds_counts (n : Nat) (s : State) : (railExceeds n s).power.ctr =
    if s.power.mode = modeAsked { s with power := { s.power with overcurrent := true } }
    then bump 3 1 s.power.ctr else bump 0 1 (bump 3 1 s.power.ctr) := by
  let u := powerCount 3 1 (updPower (fun p => { p with overcurrent := true, ocRails := p.ocRails ++ [n] }) s)
  let v := raise 0x0125 n (leBytes 2 (nth s.power.railAmps n / 10)) u
  have hv : v.power = u.power := raise_power ..
  have hasked : modeAsked v = modeAsked { s with power := { s.power with overcurrent := true } } :=
    (modeAsked_of_power hv (raise_boot ..)).trans rfl
  have hcounts := settleMode_counts 6 v
  rw [hasked, hv] at hcounts
  exact hcounts

/-- Every rail in the list asks for P3. -/
theorem railsExceed_power (l : List Nat) (s : State) : (forEach l railExceeds s).power.ocRails = s.power.ocRails ++ l ∧
    (l ≠ [] ∨ (s.power.overcurrent = true ∧ 3 ≤ s.power.mode) →
      (forEach l railExceeds s).power.overcurrent = true ∧ 3 ≤ (forEach l railExceeds s).power.mode) := by
  induction l generalizing s with
  | nil => exact ⟨(List.append_nil _).symm, fun h => h.resolve_left (· rfl)⟩
  | cons n l ih =>
    obtain ⟨m, p, k, c, h, hle⟩ := railExceeds_power n s
    obtain ⟨hrails, hmode⟩ := ih (railExceeds n s)
    rw [h] at hrails hmode
    exact ⟨hrails.trans (by simp), fun _ => hmode (.inr ⟨rfl, hle⟩)⟩

/-- How many samples in a row each rail has been above its limit. -/
def railRuns (l : List Nat) (s : State) : List Nat :=
  (List.range 6).map (fun n => if overRated n (nth l n) then nth s.power.railHigh n + 1 else 0)

/-- The rails that begin to ask for P3 with a sample. -/
def newRails (l : List Nat) (s : State) : List Nat :=
  (List.range 6).filter (fun n => decide (nth (railRuns l s) n ≥ 2) && !s.power.ocRails.contains n)

theorem railsSampled_eq (l : List Nat) (s : State) : ∃ a k, railsSampled l s =
    forEach (newRails l s) railExceeds
      (updPower (fun p => { p with railHigh := railRuns l s, railAmps := a, calmSince := k }) s) := ⟨_, _, rfl⟩

theorem nth_railRuns {l : List Nat} {n : Nat} (hn : n < 6) :
    nth (railRuns l s) n = if overRated n (nth l n) then nth s.power.railHigh n + 1 else 0 := by
  simp [railRuns, nth, List.getD_eq_getElem?_getD, hn]

theorem railRuns_calm {l : List Nat} (h : ∀ n, n < 6 → overRated n (nth l n) = false) :
    railRuns l s = [0, 0, 0, 0, 0, 0] := by
  have hzero : railRuns l s = (List.range 6).map (fun _ => 0) :=
    List.map_congr_left fun n hn => by rw [h n (List.mem_range.1 hn)]; rfl
  exact hzero

theorem mem_newRails {l : List Nat} {n : Nat} : n ∈ newRails l s ↔
    n < 6 ∧ overRated n (nth l n) = true ∧ 1 ≤ nth s.power.railHigh n ∧ s.power.ocRails.contains n = false := by
  unfold newRails
  rw [List.mem_filter, List.mem_range, Bool.and_eq_true, decide_eq_true_eq, Bool.not_eq_true']
  constructor
  · rintro ⟨hn, hrun, hnot⟩
    rw [nth_railRuns hn] at hrun
    split at hrun
    next hover => exact ⟨hn, hover, by omega, hnot⟩
    next => omega
  · rintro ⟨hn, hover, hrun, hnot⟩
    refine ⟨hn, ?_, hnot⟩
    rw [nth_railRuns hn, if_pos hover]
    omega

theorem newRails_calm {l : List Nat} (h : ∀ n, n < 6 → overRated n (nth l n) = false) : newRails l s = [] := by
  refine List.eq_nil_iff_forall_not_mem.2 fun n hn => ?_
  obtain ⟨hlt, hover, -⟩ := mem_newRails.1 hn
  exact absurd (hover.symm.trans (h n hlt)) (by decide)

theorem newRails_single {l : List Nat} {n : Nat} (hmem : n ∈ newRails l s)
    (honly : ∀ m, m < 6 → m ≠ n → overRated m (nth l m) = false) : newRails l s = [n] := by
  have hnodup : (newRails l s).Nodup := List.nodup_range.filter _
  have hall : ∀ m ∈ newRails l s, m = n := fun m hm => by
    obtain ⟨hlt, hover, -⟩ := mem_newRails.1 hm
    by_contra hne
    exact absurd (hover.symm.trans (honly m hlt hne)) (by decide)
  refine List.perm_singleton.1 ((List.perm_ext_iff_of_nodup hnodup (List.nodup_singleton n)).2 fun m => ?_)
  rw [List.mem_singleton]
  exact ⟨hall m, fun h => h ▸ hmem⟩

theorem overcurrentLifts_due {u : Nat} (hover : s.power.overcurrent = true) (hcalm : s.power.calmSince = some u)
    (hdue : u + 10000000 ≤ s.now) :
    (overcurrentLifts s).power.overcurrent = false ∧ (overcurrentLifts s).power.ocRails = [] := by
  let u := updPower (fun p => { p with overcurrent := false, ocRails := [] }) s
  let v := forEach s.power.ocRails (fun n s => raiseWith 0x0125 n (leBytes 2 (nth s.power.railAmps n / 10)) true s) u
  have hlifts : overcurrentLifts s = settleMode 7 v := by
    unfold overcurrentLifts
    rw [hcalm]
    exact if_pos (by simp [hover, hdue])
  have hv : v.power = u.power := forEach_keeps State.power (fun _ _ => raiseWith_power ..) ..
  obtain ⟨p, k, c, h⟩ := settleMode_power 7 v
  rw [hlifts, h, hv]
  exact ⟨rfl, rfl⟩

theorem exec_railCurrentSample (l : List Nat) (hlive : Live s) :
    exec (.railCurrentSample l) s = .next (railsSampled l s) :=
  congrArg Host.Outcome.next (if_neg (by simp [live_gate hlive]))

theorem exec_powerGovernorUpdate (w : Nat) (d : List Nat) (hlive : Live s) :
    exec (.powerGovernorUpdate w d) s = .next (governPower w d s) :=
  congrArg Host.Outcome.next (if_neg (by simp [live_gate hlive]))

/-- Settles O59: the mode by what is asked for, the governors by what they settle, each sample by its judgement. -/
theorem powerIsGoverned : Obligations.PowerIsGoverned := by
  unfold Obligations.PowerIsGoverned
  refine ⟨fun s hlive halert hmode hcom hceil htherm => ?_, fun s hlive halert => ?_, fun s u hhold hu => ?_,
    fun s u hhold hu => congrArg Host.Outcome.next (alertHoldEnds_early hhold hu), fun s w d hlive hcap => ?_,
    fun s w d hlive hcap hfloor => ?_, fun s d hlive href => ?_, fun s d href => ?_, fun s l hlive h1 h2 ht => ?_,
    fun s l hlive h1 h2 ht => ?_, fun s l u hlive h1 ht hcool hdue => ?_, fun s l hlive ht h1 => ?_,
    fun s l hlive ht h1 => ?_, fun s l hlive h1 ht => ?_, fun s l hlive hcalm => ?_,
    fun s l n hlive hn hover hhigh hnot => ?_, fun s u hover hcalm hdue => ⟨_, rfl, overcurrentLifts_due hover hcalm hdue⟩,
    fun s n tj hlive hno htj => ⟨_, rfl, trips_power hlive hno htj⟩, fun s n tj htj => ?_⟩
  · have hout := alertAsserts_keeps s
    obtain ⟨p, k, c, h⟩ := settleMode_power 4 (alerted s)
    have hmode : modeAsked (alerted s) = 3 := modeAsked_alert (by rw [alerted_power]) (by rw [alerted_power]; exact hcom)
      (by rw [alerted_power]; exact hceil) (by rw [alerted_power]; exact htherm)
    refine ⟨_, rfl, ?_, ?_, ?_, ports_of_outside hout rfl, canvas_of_outside hout rfl, switch_of_outside hout rfl⟩ <;>
      rw [alertAsserts_acts hlive halert, h]
    · exact hmode
    · rw [alerted_power]
    · rw [alerted_power]
  · refine ⟨_, congrArg Host.Outcome.next (alertReleases_acts hlive halert), ?_⟩
    rw [raiseWith_power]
    exact ⟨rfl, rfl, rfl⟩
  · obtain ⟨p, k, c, h⟩ := settleMode_power 7 (updPower (fun p => { p with alertHold := none }) s)
    refine ⟨_, congrArg Host.Outcome.next (alertHoldEnds_due hhold hu), ?_⟩
    rw [h]
    exact ⟨rfl, rfl⟩
  · obtain ⟨p, r, c, h, hpin⟩ := governPower_power w d s
    have hlimit : govLimit w d s = 64 := if_neg (not_lt.2 hcap)
    refine ⟨_, exec_powerGovernorUpdate w d hlive, ?_⟩
    rw [h, hlimit]
    exact ⟨rfl, rfl, Bool.eq_false_iff.2 fun hp => absurd (hpin hp) (not_lt.2 hcap), rfl, rfl⟩
  · obtain ⟨p, r, c, h, -⟩ := governPower_power w d s
    have hlimit : govLimit w d s = max (govFloor s) (largestFit d (powerCap s) s.power.theta) := if_pos hcap
    refine ⟨_, exec_powerGovernorUpdate w d hlive, ?_⟩
    rw [h, hlimit]
    exact ⟨rfl, Nat.min_le_left .., Nat.le_max_left ..⟩
  · obtain ⟨htheta, hslope⟩ := governSlope_settles d s
    exact ⟨_, congrArg Host.Outcome.next (if_neg (by simp [live_gate hlive, href])), htheta, hslope, governSlope_ports d s⟩
  · exact congrArg Host.Outcome.next (if_pos (by simp [href]))
  · obtain ⟨e1, e2, e3, -⟩ := thermalSampled_raises h2 (thermalJudged_two (s := sensed l s) h1 ht)
    exact ⟨_, exec_thermalSample l hlive, e1, e2, e3⟩
  · obtain ⟨e1, e2, e3, -⟩ := thermalSampled_raises (by omega) (thermalJudged_one (s := sensed l s) h1 h2 ht)
    exact ⟨_, exec_thermalSample l hlive, e1, e2, e3⟩
  · have hcool' : coolNext (hottest l).2 s = some u := (coolNext_below (by omega) (by simpa [ht] using h1)).trans (by rw [hcool]; rfl)
    obtain ⟨e1, -, e3⟩ := thermalSampled_back (by omega) (by omega) hcool' hdue
    refine ⟨_, exec_thermalSample l hlive, e1.trans (by rw [ht]), e3⟩
  · refine ⟨_, exec_thermalSample l hlive, ?_⟩
    have hstays := fun h => (thermalSampled_within (s := s) (l := l) (by omega)).trans
      (thermalJudged_stays (fun h => absurd h (by omega)) (fun _ => ht.ge) h)
    by_cases hlow : (hottest l).2 < 920
    · have hcool : coolNext (hottest l).2 s = some (s.power.coolSince.getD s.now) := coolNext_below (by omega) (by simpa [ht] using hlow)
      by_cases hdue : s.power.coolSince.getD s.now + 100000000 ≤ s.now
      · obtain ⟨e1, e2, e3⟩ := thermalSampled_back h1 (by omega) hcool hdue
        refine ⟨e2, fun h => absurd h (by omega), fun _ u hu => ⟨fun _ => ⟨e1.trans (by rw [ht]), e3⟩, fun h => ?_⟩⟩
        omega
      · rw [hstays ((cooledLong_some (s := sensed l s) hcool).trans (decide_eq_false hdue))]
        refine ⟨rfl, fun h => absurd h (by omega), fun _ u hu => ⟨fun h => ?_, fun _ => ⟨ht, hcool.trans (by rw [hu])⟩⟩⟩
        omega
    · have hcool : coolNext (hottest l).2 s = none := coolNext_above (.inr (by simp [ht]; omega))
      rw [hstays (cooledLong_none (s := sensed l s) hcool)]
      exact ⟨rfl, fun _ => ⟨ht, hcool⟩, fun h => absurd h hlow⟩
  · have hcool : coolNext (hottest l).2 s = none := coolNext_above (.inr (by simp [ht]; omega))
    have hover : thermalSampled l s = overMaximum (hottest l).1 (sensed l s) := by
      rw [thermalSampled_eq, when_of (by simp [h1]), thermalJudged_stays (fun _ => ht.ge) (fun _ => by omega)
        (cooledLong_none (s := sensed l s) hcool)]
    refine ⟨_, exec_thermalSample l hlive, ?_⟩
    rw [hover]
    by_cases hsoon : ∃ u, s.power.overMaxAt = some u ∧ s.now < u + 1000000000
    · obtain ⟨u, hu, hlt⟩ := hsoon
      rw [overMaximum_quiet (s := sensed l s) hu hlt]
      refine ⟨ht, rfl, rfl, rfl, fun v hv _ => ⟨hv, rfl⟩, fun h => ?_⟩
      exact absurd (h u hu) (by omega)
    · have hdue : ∀ u, s.power.overMaxAt = some u → u + 1000000000 ≤ s.now := fun u hu =>
        Nat.le_of_not_lt fun hlt => hsoon ⟨u, hu, hlt⟩
      rw [overMaximum_told (s := sensed l s) hdue]
      exact ⟨ht, rfl, rfl, rfl, fun u hu hlt => absurd ⟨u, hu, hlt⟩ hsoon, fun _ => rfl⟩
  · have hcool : coolNext (hottest l).2 s = none := coolNext_above (.inl ht)
    refine (exec_thermalSample l hlive).trans (congrArg Host.Outcome.next ?_)
    rw [thermalSampled_within (by omega), thermalJudged_stays (fun h => absurd h (by omega)) (fun h => absurd h (by omega))
      (cooledLong_none (s := sensed l s) hcool), sensed, hcool]
    rfl
  · obtain ⟨a, k, h⟩ := railsSampled_eq l s
    refine ⟨_, exec_railCurrentSample l hlive, ?_⟩
    rw [h, newRails_calm hcalm, railRuns_calm hcalm]
    exact ⟨rfl, rfl, rfl, rfl⟩
  · have hmem : n ∈ newRails l s := mem_newRails.2 ⟨hn, hover, hhigh, hnot⟩
    obtain ⟨a, k, h⟩ := railsSampled_eq l s
    obtain ⟨hrails, hmode⟩ := railsExceed_power (newRails l s)
      (updPower (fun p => { p with railHigh := railRuns l s, railAmps := a, calmSince := k }) s)
    obtain ⟨hoc, hle⟩ := hmode (.inl (List.ne_nil_of_mem hmem))
    refine ⟨_, exec_railCurrentSample l hlive, ?_⟩
    rw [h]
    refine ⟨hoc, ?_, hle, fun honly => ?_⟩
    · rw [hrails]
      simp [hmem]
    · rw [newRails_single hmem honly] at hrails ⊢
      exact ⟨hrails, railExceeds_counts ..⟩
  · exact congrArg Host.Outcome.next (if_pos (by simp [htj]))

end Sys2Proof.Machine
end

section
/-! PROOFS. The code RS(35,32) of the memories: one symbol in error is corrected, two are detected (R406). -/

namespace Sys2Proof.Machine

/-! ### Multiplication in GF(2^8) -/

/-- A term of a sum, taken or not. -/
def pick (b : Bool) (x : Byte) : Byte := if b then x else 0

theorem pick_xor (b : Bool) (x y : Byte) : pick b (x ^^^ y) = pick b x ^^^ pick b y := by cases b <;> simp [pick]

theorem pick_bxor (b c : Bool) (x : Byte) : pick (b ^^ c) x = pick b x ^^^ pick c x := by
  cases b <;> cases c <;> simp [pick]

theorem gf8Times2_xor (a b : Byte) : gf8Times2 (a ^^^ b) = gf8Times2 a ^^^ gf8Times2 b := by
  unfold gf8Times2
  rw [BitVec.msb_xor, BitVec.shiftLeft_xor_distrib]
  cases a.msb <;> cases b.msb
  · rfl
  · simp [BitVec.xor_assoc]
  · simp only [Bool.xor_false, if_true, Bool.false_eq_true, if_false]
    ac_rfl
  · simp only [Bool.xor_self, Bool.false_eq_true, if_false, if_true]
    calc a <<< 1 ^^^ b <<< 1 = a <<< 1 ^^^ b <<< 1 ^^^ (29#8 ^^^ 29#8) := by simp
      _ = _ := by ac_rfl

theorem gf8Times2_pick (b : Bool) (x : Byte) : gf8Times2 (pick b x) = pick b (gf8Times2 x) := by
  cases b
  · show gf8Times2 0 = 0
    decide
  · rfl

/-- A product is a sum of multiples by powers of α. -/
theorem gf8Mul_eq (a b : Byte) : gf8Mul a b =
    pick (b.getLsbD 0) a ^^^ pick (b.getLsbD 1) (gf8Times2^[1] a) ^^^ pick (b.getLsbD 2) (gf8Times2^[2] a) ^^^
      pick (b.getLsbD 3) (gf8Times2^[3] a) ^^^ pick (b.getLsbD 4) (gf8Times2^[4] a) ^^^
      pick (b.getLsbD 5) (gf8Times2^[5] a) ^^^ pick (b.getLsbD 6) (gf8Times2^[6] a) ^^^
      pick (b.getLsbD 7) (gf8Times2^[7] a) := by
  have hstep : ∀ (c : Bool) (x y : Byte), (if c then x ^^^ y else x) = x ^^^ pick c y := fun c x y => by
    cases c <;> simp [pick]
  simp only [gf8Mul, List.range_succ, List.range_zero, List.nil_append, List.cons_append, List.foldl_cons, List.foldl_nil,
    hstep, BitVec.ofNat_eq_ofNat, BitVec.zero_xor, Function.iterate_succ, Function.iterate_zero, Function.comp_apply, id_eq]

/-- α^8 = α^4 + α^3 + α^2 + 1. -/
theorem gf8Times2_eight : ∀ c : Byte, gf8Times2^[8] c =
    gf8Times2^[4] c ^^^ gf8Times2^[3] c ^^^ gf8Times2^[2] c ^^^ c := by
  decide +kernel

theorem gf8Mul_one_left : ∀ c : Byte, gf8Mul 1 c = c := by
  decide +kernel

theorem gf8Mul_one_right (a : Byte) : gf8Mul a 1 = a := by
  rw [gf8Mul_eq]
  simp [pick]

theorem gf8Mul_times2_left (a b : Byte) : gf8Mul (gf8Times2 a) b = gf8Times2 (gf8Mul a b) := by
  simp only [gf8Mul_eq, gf8Times2_xor, gf8Times2_pick, ← Function.iterate_succ_apply, ← Function.iterate_succ_apply']

/-- The bits of α·b: those of b one place up, and the field polynomial's where the highest was set. -/
theorem getLsbD_gf8Times2 : ∀ b : Byte, (gf8Times2 b).getLsbD 0 = b.getLsbD 7 ∧ (gf8Times2 b).getLsbD 1 = b.getLsbD 0 ∧
    (gf8Times2 b).getLsbD 2 = (b.getLsbD 1 ^^ b.getLsbD 7) ∧ (gf8Times2 b).getLsbD 3 = (b.getLsbD 2 ^^ b.getLsbD 7) ∧
    (gf8Times2 b).getLsbD 4 = (b.getLsbD 3 ^^ b.getLsbD 7) ∧ (gf8Times2 b).getLsbD 5 = b.getLsbD 4 ∧
    (gf8Times2 b).getLsbD 6 = b.getLsbD 5 ∧ (gf8Times2 b).getLsbD 7 = b.getLsbD 6 := by
  decide +kernel

theorem gf8Mul_times2_right (a b : Byte) : gf8Mul a (gf8Times2 b) = gf8Times2 (gf8Mul a b) := by
  obtain ⟨h0, h1, h2, h3, h4, h5, h6, h7⟩ := getLsbD_gf8Times2 b
  rw [← gf8Mul_times2_left, gf8Mul_eq, gf8Mul_eq, h0, h1, h2, h3, h4, h5, h6, h7]
  simp only [← Function.iterate_succ_apply, gf8Times2_eight, pick_xor, pick_bxor]
  ac_rfl

theorem iter_eq_iterate {α : Type} (f : α → α) (n : Nat) (x : α) : iter n f x = f^[n] x := by
  induction n generalizing x with
  | zero => rfl
  | succ n ih => exact ih (f x)

/-- To multiply by α^n is to multiply by α n times. -/
theorem gf8Mul_pow (a : Byte) (n : Nat) : gf8Mul a (gf8Pow n) = gf8Times2^[n] a := by
  rw [gf8Pow, iter_eq_iterate]
  induction n with
  | zero => exact gf8Mul_one_right a
  | succ n ih => rw [Function.iterate_succ_apply', gf8Mul_times2_right, ih, Function.iterate_succ_apply']

theorem gf8Mul_iterate_left (a b : Byte) (n : Nat) : gf8Mul (gf8Times2^[n] a) b = gf8Times2^[n] (gf8Mul a b) := by
  induction n with
  | zero => rfl
  | succ n ih => rw [Function.iterate_succ_apply', gf8Mul_times2_left, ih, Function.iterate_succ_apply']

/-- α^255 = 1. -/
theorem gf8Times2_period (c : Byte) : gf8Times2^[255] c = c := by
  have hone : gf8Times2^[255] 1 = (1 : Byte) := by decide +kernel
  calc gf8Times2^[255] c = gf8Times2^[255] (gf8Mul 1 c) := by rw [gf8Mul_one_left]
    _ = gf8Mul (gf8Times2^[255] 1) c := (gf8Mul_iterate_left 1 c 255).symm
    _ = c := by rw [hone, gf8Mul_one_left]

/-- No byte but 0 returns to itself after 15 or 17 steps. -/
theorem gf8Times2_moves : ∀ c : Byte, (gf8Times2^[15] c = c ∨ gf8Times2^[17] c = c) → c = 0 := by
  decide +kernel

/-- α^k ≠ 1 for 0 < k < 35: a byte that returns to itself is 0. -/
theorem eq_zero_of_iterate {c : Byte} {k : Nat} (hpos : 0 < k) (hk : k < 35) (h : gf8Times2^[k] c = c) : c = 0 := by
  have hgcd : Function.IsPeriodicPt gf8Times2 (k.gcd 255) c := Function.IsPeriodicPt.gcd h (gf8Times2_period c)
  have hdvd : k.gcd 255 ∣ 15 ∨ k.gcd 255 ∣ 17 := by
    interval_cases k <;> decide
  refine gf8Times2_moves c (hdvd.imp (fun hd => ?_) fun hd => ?_)
  · exact hgcd.trans_dvd hd
  · exact hgcd.trans_dvd hd

theorem gf8Times2_injective : Function.Injective gf8Times2 := fun x y h => by
  rw [← gf8Times2_period x, ← gf8Times2_period y, Function.iterate_succ_apply, h, ← Function.iterate_succ_apply]

theorem iterate_xor (n : Nat) (a b : Byte) : gf8Times2^[n] (a ^^^ b) = gf8Times2^[n] a ^^^ gf8Times2^[n] b := by
  induction n with
  | zero => rfl
  | succ n ih => simp only [Function.iterate_succ_apply', ih, gf8Times2_xor]

/-- The powers of α that place the 35 symbols are distinct. -/
theorem eq_of_iterate_eq {c : Byte} {m n : Nat} (hc : c ≠ 0) (hm : m < 35) (hn : n < 35)
    (h : gf8Times2^[m] c = gf8Times2^[n] c) : m = n := by
  by_contra hne
  rcases Nat.lt_or_gt_of_ne hne with hlt | hlt
  · rw [show n = m + (n - m) by omega, Function.iterate_add_apply] at h
    exact hc (eq_zero_of_iterate (by omega) (by omega) (gf8Times2_injective.iterate m h).symm)
  · rw [show m = n + (m - n) by omega, Function.iterate_add_apply] at h
    exact hc (eq_zero_of_iterate (by omega) (by omega) (gf8Times2_injective.iterate n h))

/-! ### Syndromes -/

theorem syndromes_single (p : Nat) (c : Byte) :
    syndromes [(p, c)] = [c, gf8Times2^[34 - p] c, gf8Times2^[34 - p] (gf8Times2^[34 - p] c)] := by
  simp only [syndromes, List.range_succ, List.range_zero, List.nil_append, List.cons_append, List.map_cons, List.map_nil,
    List.foldl_cons, List.foldl_nil, gf8Mul_pow, BitVec.ofNat_eq_ofNat, BitVec.zero_xor, Nat.zero_mul, Nat.one_mul,
    Function.iterate_zero, id_eq, Nat.two_mul, Function.iterate_add_apply]

theorem syndromes_pair (p q : Nat) (c d : Byte) : syndromes [(p, c), (q, d)] =
    [c ^^^ d, gf8Times2^[34 - p] c ^^^ gf8Times2^[34 - q] d,
      gf8Times2^[34 - p] (gf8Times2^[34 - p] c) ^^^ gf8Times2^[34 - q] (gf8Times2^[34 - q] d)] := by
  simp only [syndromes, List.range_succ, List.range_zero, List.nil_append, List.cons_append, List.map_cons, List.map_nil,
    List.foldl_cons, List.foldl_nil, gf8Mul_pow, BitVec.ofNat_eq_ofNat, BitVec.zero_xor, Nat.zero_mul, Nat.one_mul,
    Function.iterate_zero, id_eq, Nat.two_mul, Function.iterate_add_apply]

theorem xor_eq_zero {a b : Byte} (h : a ^^^ b = 0) : a = b := by
  have hb : a ^^^ b ^^^ b = 0 ^^^ b := by rw [h]
  simpa [BitVec.xor_assoc] using hb

theorem xor_swap {u v x y : Byte} (h : u ^^^ v = x ^^^ y) : x ^^^ u = y ^^^ v := by
  refine xor_eq_zero ?_
  calc x ^^^ u ^^^ (y ^^^ v) = u ^^^ v ^^^ (x ^^^ y) := by ac_rfl
    _ = 0 := by rw [h, BitVec.xor_self]; rfl

theorem iterate_square (m k : Nat) (c : Byte) :
    gf8Times2^[m] (gf8Times2^[m] c ^^^ gf8Times2^[k] c) ^^^ gf8Times2^[k] (gf8Times2^[m] c ^^^ gf8Times2^[k] c) =
      gf8Times2^[m] (gf8Times2^[m] c) ^^^ gf8Times2^[k] (gf8Times2^[k] c) := by
  have hcomm : gf8Times2^[k] (gf8Times2^[m] c) = gf8Times2^[m] (gf8Times2^[k] c) :=
    (Function.Commute.iterate_iterate_self gf8Times2 k m).eq c
  rw [iterate_xor, iterate_xor, hcomm, BitVec.xor_assoc, ← BitVec.xor_assoc (gf8Times2^[m] (gf8Times2^[k] c)),
    BitVec.xor_self, BitVec.zero_xor]

/-- Two symbols in error do not look like one: let `x` be what remains of the first error at a third place. The syndromes
say that it is what remains of the second, and that both places take it to the same byte; so nothing remains. -/
theorem pair_ne_single {a b k : Nat} {c d : Byte} (hba : b < a) (ha : a < 35) (hk : k < 35) (hc : c ≠ 0) (hd : d ≠ 0)
    (h1 : gf8Times2^[k] (c ^^^ d) = gf8Times2^[a] c ^^^ gf8Times2^[b] d)
    (h2 : gf8Times2^[k] (gf8Times2^[k] (c ^^^ d)) =
      gf8Times2^[a] (gf8Times2^[a] c) ^^^ gf8Times2^[b] (gf8Times2^[b] d)) : False := by
  rw [iterate_xor] at h1
  rw [iterate_xor, iterate_xor] at h2
  have hx : gf8Times2^[a] c ^^^ gf8Times2^[k] c = gf8Times2^[b] d ^^^ gf8Times2^[k] d := xor_swap h1
  have hsame := (iterate_square a k c).trans ((xor_swap h2).trans (iterate_square b k d).symm)
  rw [← hx] at hsame
  have hzero : gf8Times2^[a] c ^^^ gf8Times2^[k] c = 0 := by
    by_contra hne
    have hab := eq_of_iterate_eq hne ha (by omega) ((BitVec.xor_left_inj _).1 hsame)
    omega
  have hak := eq_of_iterate_eq hc ha hk (xor_eq_zero hzero)
  have hbk := eq_of_iterate_eq hd (by omega) hk (xor_eq_zero (hx.symm.trans hzero))
  omega

/-! ### The judgement of a word -/

theorem eccOf_single {p : Nat} {d : Byte} (hp : p < 35) (hd : d ≠ 0#8) : eccOf { errors := [(p, d)] } = .corrected := by
  have hwrong : wrongSymbols { errors := [(p, d)] } = [(p, d)] := by simp [wrongSymbols, hp, hd]
  have hplace : (errorPlace (syndromes [(p, d)])).isSome = true := by
    rw [errorPlace, List.find?_isSome]
    refine ⟨p, List.mem_range.2 hp, ?_⟩
    simp [syndromes_single, hd]
  unfold eccOf
  rw [hwrong]
  dsimp only
  rw [if_neg (by simp), if_neg (by simp [syndromes_single, hd]), if_pos hplace]

theorem eccOf_pair {p q : Nat} {c d : Byte} (hpq : p < q) (hq : q < 35) (hc : c ≠ 0#8) (hd : d ≠ 0#8) :
    eccOf { errors := [(p, c), (q, d)] } = .uncorrectable := by
  have hwrong : wrongSymbols { errors := [(p, c), (q, d)] } = [(p, c), (q, d)] := by
    simp [wrongSymbols, hq, hpq.trans hq, hc, hd]
  have hclean : ¬ (syndromes [(p, c), (q, d)]).all (fun b => b == 0) = true := by
    rw [syndromes_pair]
    simp only [List.all_cons, Bool.and_eq_true, beq_iff_eq, not_and]
    intro h0 h1
    rw [← xor_eq_zero h0] at h1
    have := eq_of_iterate_eq hc (by omega) (by omega) (xor_eq_zero h1)
    omega
  have hplace : errorPlace (syndromes [(p, c), (q, d)]) = none := by
    rw [errorPlace, List.find?_eq_none]
    intro r hr hfound
    rw [syndromes_pair] at hfound
    simp only [List.getD_cons_zero, Bool.and_eq_true, beq_iff_eq, syndromes_single, List.cons.injEq] at hfound
    obtain ⟨-, -, h1, h2, -⟩ := hfound
    exact pair_ne_single (by omega) (by omega) (by omega) hc hd h1 h2
  unfold eccOf
  rw [hwrong]
  dsimp only
  rw [if_neg (by simp), if_neg hclean, hplace, if_neg (by decide)]

end Sys2Proof.Machine
end

section
/-! PROOFS. Which lanes are retired: only a verdict retires one; a port that leaves *Running* keeps them (R92, R416). -/

namespace Sys2Proof.Machine

/-- Of every port's lanes, which are retired. -/
def retiredLanes (s : State) : List (List Bool) := s.ports.map (fun q => q.lanes.map Lane.retired)

theorem retired_laneOf (s : State) (p l : Nat) : (laneOf s p l).retired = ((retiredLanes s).getD p []).getD l false := by
  simp only [laneOf, portOf, retiredLanes, List.getD_eq_getElem?_getD, List.getElem?_map]
  cases s.ports[p]? with
  | none =>
    show (((List.replicate 8 {})[l]?.getD {} : Lane)).retired = ([] : List Bool)[l]?.getD false
    rw [List.getElem?_replicate]
    split <;> rfl
  | some q =>
    simp only [Option.map_some, Option.getD_some, List.getElem?_map]
    cases q.lanes[l]? <;> rfl

section
variable (s : State)

theorem map_modify_of_eq {α β : Type} {f : α → α} {g : α → β} (h : ∀ a, g (f a) = g a) (l : List α) (n : Nat) :
    (l.modify n f).map g = l.map g := by
  refine List.ext_getElem? fun i => ?_
  simp only [List.getElem?_map, List.getElem?_modify]
  split
  · simp [Function.comp_def, h]
  · simp

@[simp] theorem retiredLanes_updPort (p : Nat) (f : Port → Port)
    (h : ∀ q, (f q).lanes.map Lane.retired = q.lanes.map Lane.retired) : retiredLanes (updPort p f s) = retiredLanes s :=
  map_modify_of_eq h s.ports p

@[simp] theorem retiredLanes_updLane (p l : Nat) (f : Lane → Lane) (h : ∀ a, (f a).retired = a.retired) :
    retiredLanes (updLane p l f s) = retiredLanes s :=
  retiredLanes_updPort s p _ fun q => map_modify_of_eq h q.lanes l

theorem retiredLanes_of_ports {t : State} (h : t.ports = s.ports) : retiredLanes t = retiredLanes s := by
  rw [retiredLanes, h, retiredLanes]

@[simp] theorem retiredLanes_updSwitch (f : Switch → Switch) : retiredLanes (updSwitch f s) = retiredLanes s := (rfl)
@[simp] theorem retiredLanes_emit (o : Output) : retiredLanes (emit o s) = retiredLanes s := (rfl)
@[simp] theorem retiredLanes_raise (code source : Nat) (data : Bytes) :
    retiredLanes (raise code source data s) = retiredLanes s := retiredLanes_of_ports s (raise_ports ..)

@[simp] theorem retiredLanes_forEach {α : Type} (l : List α) (f : α → State → State)
    (h : ∀ a t, retiredLanes (f a t) = retiredLanes t) : retiredLanes (forEach l f s) = retiredLanes s :=
  forEach_keeps retiredLanes h ..

@[simp] theorem retiredLanes_when (b : Bool) (f : State → State) (h : retiredLanes (f s) = retiredLanes s) :
    retiredLanes (when b f s) = retiredLanes s := by
  cases b
  · rfl
  · exact h

/-! ### The buffer -/

@[simp] theorem retiredLanes_releaseAll (id : Nat) : retiredLanes (releaseAll id s) = retiredLanes s := by
  unfold releaseAll releaseCredit
  (repeat' split) <;> simp [updPacket, updLink]

@[simp] theorem retiredLanes_dropFromQueue (p v id : Nat) : retiredLanes (dropFromQueue p v id s) = retiredLanes s := (rfl)

@[simp] theorem retiredLanes_dropPacket (id : Nat) (tail : Bool) : retiredLanes (dropPacket id tail s) = retiredLanes s := by
  unfold dropPacket
  (repeat' split) <;> simp [discardRest]

@[simp] theorem retiredLanes_dropCopy (id p v : Nat) : retiredLanes (dropCopy id p v s) = retiredLanes s := by
  unfold dropCopy
  dsimp only
  split
  · rfl
  · split <;> simp [updPacket]

@[simp] theorem retiredLanes_flushPort (p : Nat) (uni multi : Nat → State → State)
    (hu : ∀ n t, retiredLanes (uni n t) = retiredLanes t) (hm : ∀ n t, retiredLanes (multi n t) = retiredLanes t) :
    retiredLanes (flushPort p uni multi s).1 = retiredLanes s := by
  unfold flushPort
  simp only [hu, hm]
  rw [retiredLanes_forEach _ _ _ fun e t => by simp [freeHold]]
  refine retiredLanes_forEach _ _ _ fun e t => ?_
  split <;> simp

/-! ### The port -/

@[simp] theorem retiredLanes_linkCount (p i n : Nat) : retiredLanes (linkCount p i n s) = retiredLanes s :=
  retiredLanes_updPort s p _ fun _ => rfl
@[simp] theorem retiredLanes_swCount (i n : Nat) : retiredLanes (swCount i n s) = retiredLanes s := (rfl)

@[simp] theorem retiredLanes_setPortState (p : Nat) (st : PState) (cause : W16) :
    retiredLanes (setPortState p st cause s) = retiredLanes s := by
  unfold setPortState
  dsimp only
  split <;> simp

@[simp] theorem retiredLanes_goCold (p : Nat) : retiredLanes (goCold p s) = retiredLanes s := by
  simp [goCold, endVoid, updPacket]

@[simp] theorem retiredLanes_sendSet (p l : Nat) (typ : Byte) (content : Bytes) :
    retiredLanes (sendSet p l typ content s) = retiredLanes s := by
  simp [sendSet]

@[simp] theorem retiredLanes_sendPrimers (p : Nat) (starts : Bool) : retiredLanes (sendPrimers p starts s) = retiredLanes s := by
  unfold sendPrimers
  rw [retiredLanes_forEach]
  · simp
  · intro l t
    unfold sendPrimer
    dsimp only
    (repeat' split) <;> simp

theorem lanes_forgetFar (q : Port) : (forgetFar q).lanes = q.lanes := by
  unfold forgetFar
  split <;> rfl

@[simp] theorem retiredLanes_toListen (p : Nat) (cause : W16) : retiredLanes (toListen p cause s) = retiredLanes s := by
  simp [toListen, lanes_forgetFar, offFullRate]

@[simp] theorem retiredLanes_failAttempt (p : Nat) (cause : W16) : retiredLanes (failAttempt p cause s) = retiredLanes s := by
  unfold failAttempt
  dsimp only
  split <;> simp [lanes_forgetFar, offFullRate]

@[simp] theorem retiredLanes_expireGrace (p : Nat) : retiredLanes (expireGrace p s) = retiredLanes s := by
  unfold expireGrace warmLost
  dsimp only
  (repeat' split) <;> simp

@[simp] theorem retiredLanes_disablePort (p : Nat) : retiredLanes (disablePort p s).1 = retiredLanes s := by
  simp [disablePort, offFullRate, unalign, Function.comp_def]

@[simp] theorem retiredLanes_leaveRunning (p : Nat) : retiredLanes (leaveRunning p s) = retiredLanes s := by
  simp [leaveRunning, startGrace]

@[simp] theorem retiredLanes_sendFrame (p : Nat) (lanes : BitVec 8) (b : Bytes) :
    retiredLanes (sendFrame p lanes b s) = retiredLanes s := by
  simp [sendFrame]

@[simp] theorem retiredLanes_sendAnnounce (p count : Nat) : retiredLanes (sendAnnounce p count s) = retiredLanes s := by
  simp [sendAnnounce]

@[simp] theorem retiredLanes_settleGrace (p : Nat) : retiredLanes (settleGrace p s) = retiredLanes s := by
  unfold settleGrace
  split <;> simp

theorem retiredLanes_abandonWash (p : Nat) : retiredLanes (abandonWash p s) = retiredLanes s :=
  (retiredLanes_of_ports (disablePort p s).1
    (ports_of_outside (fp := { switch := true, host := true }) (by simp [abandonWash]) rfl)).trans (retiredLanes_disablePort s p)

@[simp] theorem retiredLanes_enterRetest (p : Nat) (cause : W16) (initiator : Bool) (start : Nat) :
    retiredLanes (enterRetest p cause initiator start s) = retiredLanes s := by
  unfold enterRetest
  dsimp only
  split
  · rfl
  · split
    · exact retiredLanes_abandonWash s p
    · simp [Function.comp_def]

end

/-- A port that is sent to *Retest* keeps its retired lanes. -/
theorem retired_laneOf_retest (s : State) (p : Nat) (cause : W16) (q l : Nat) :
    (laneOf (retest p cause s) q l).retired = (laneOf s q l).retired := by
  rw [retired_laneOf, retired_laneOf, retest, retiredLanes_enterRetest]

end Sys2Proof.Machine
end

section
/-! PROOFS. The patrol scrubber and the entries of tables (R406 to R408, R412). -/

namespace Sys2Proof.Machine

variable {s : State}

/-! ### What a report leaves -/

@[simp] theorem raise_canvas (code source : Nat) (data : Bytes) (s : State) :
    (raise code source data s).canvas = s.canvas := canvas_of_outside (fp := {}) (by simp) rfl
@[simp] theorem record_canvas (rtype code resource address : Nat) (data : Bytes) (s : State) :
    (record rtype code resource address data s).canvas = s.canvas := canvas_of_outside (fp := {}) (by simp) rfl
@[simp] theorem record_streams (rtype code resource address : Nat) (data : Bytes) (s : State) :
    (record rtype code resource address data s).streams = s.streams := streams_of_outside (fp := {}) (by simp) rfl

/-- An event of a memory touches nothing of the health state but its own limits. -/
theorem memEvent_health (mem kind : Nat) (s : State) : ∃ n a, healthCore (memEvent mem kind s).health =
    healthCore { s.health with memSince := n, memEventAt := a } := by
  unfold memEvent
  extract_lets n unc due now
  split
  · exact ⟨_, s.health.memEventAt, rfl⟩
  · exact ⟨_, _, raise_healthCore ..⟩

theorem memEvent_streams (mem kind : Nat) (s : State) : (memEvent mem kind s).streams = s.streams := by
  unfold memEvent
  extract_lets n unc due now
  split
  · rfl
  · exact raise_streams ..

/-- An error of a memory, before the test of its row is queued. -/
def memNoted (mem kind resource address : Nat) (detail : Bytes) (s : State) : State :=
  memEvent mem kind (record 2 kind resource address detail (match errorCounter kind with
    | some i => healthCount i 1 s
    | none => s))

theorem memError_eq (mem kind : Nat) (row : TestRes) (resource address : Nat) (detail : Bytes) (s : State) :
    memError mem kind row resource address detail s = queueTest row (memNoted mem kind resource address detail s) := rfl

theorem memNoted_health {mem kind i : Nat} (resource address : Nat) (detail : Bytes) (s : State)
    (h : errorCounter kind = some i) : ∃ n a, healthCore (memNoted mem kind resource address detail s).health =
      healthCore { s.health with ctr := bump i 1 s.health.ctr, memSince := n, memEventAt := a } := by
  unfold memNoted
  rw [h]
  obtain ⟨n, a, hn⟩ := memEvent_health mem kind (record 2 kind resource address detail (healthCount i 1 s))
  refine ⟨n, a, hn.trans ?_⟩
  exact congrArg (fun h : Health => { h with memSince := n, memEventAt := a }) (record_healthCore ..)

theorem queueTest_empty (r : TestRes) (h : s.health.tests = []) :
    queueTest r s = updHealth (fun x => { x with tests := [{ res := r }] }) s := by
  unfold queueTest
  rw [if_neg (by simp [testOn, h]), if_neg (by simp [h])]
  simp [updHealth, h]

/-- While the queue has room nothing is counted. -/
theorem queueTest_ctr (r : TestRes) (h : s.health.tests.length < 64) : (queueTest r s).health.ctr = s.health.ctr := by
  unfold queueTest
  split
  · rfl
  · rw [if_neg (by omega)]
    rfl

theorem memNoted_streams (mem kind resource address : Nat) (detail : Bytes) (s : State) :
    (memNoted mem kind resource address detail s).streams = s.streams := by
  unfold memNoted
  rw [memEvent_streams, record_streams]
  split <;> rfl

/-- The first error of a word whose row is not under test: counted, and the row queued for its test. -/
theorem memError_first {mem kind i : Nat} (row : TestRes) (resource address : Nat) (detail : Bytes)
    (hk : errorCounter kind = some i) (h : s.health.tests = []) :
    ∃ n a, healthCore (memError mem kind row resource address detail s).health = healthCore { s.health with
      ctr := bump i 1 s.health.ctr, memSince := n, memEventAt := a, tests := [{ res := row }] } := by
  obtain ⟨n, a, hn⟩ := memNoted_health (mem := mem) resource address detail s hk
  have htests : (memNoted mem kind resource address detail s).health.tests = [] := (congrArg Health.tests hn :).trans h
  refine ⟨n, a, ?_⟩
  rw [memError_eq, queueTest_empty row htests]
  exact congrArg (fun h : Health => { h with tests := [{ res := row }] }) hn

/-! ### The scrubber -/

/-- What the scrubber reads at a site: the word given, unless the site is marked. -/
def scrubWord (s : State) (x : ScrubSite) (e : WordError) : WordError := if siteMarked s x then { marked := true } else e

theorem scrub_eq (x : ScrubSite) (e : WordError) (s : State) : scrub x e s =
    if eccOf (scrubWord s x e) = .uncorrectable
    then scrubEffect x (inMemory (scrubWord s x e)) (siteRead x (scrubWord s x e) s)
    else siteRead x (scrubWord s x e) s := rfl

theorem exec_patrolScrub {x : ScrubSite} (e : WordError) (hx : x.ok = true) : exec (.patrolScrub x e) s = .next (scrub x e s) :=
  onUnit_ok hx ..

/-- An uncorrectable word that did not arise on a data path reads so from its memory. -/
theorem scrubWord_uncorrectable {e : WordError} (x : ScrubSite) (he : eccOf e = .uncorrectable) (hpath : e.path = false) :
    eccOf (scrubWord s x e) = .uncorrectable ∧ inMemory (scrubWord s x e) = true := by
  unfold scrubWord
  split
  · exact ⟨rfl, rfl⟩
  · exact ⟨he, by simp [inMemory, hpath]⟩

theorem siteRead_clean {e : WordError} (x : ScrubSite) (h : eccOf e = .clean) : siteRead x e s = s := by
  cases x <;> simp only [siteRead, sramRead, hbmRead, h, if_true]

theorem hbmRead_memory {e : WordError} (mem k r w : Nat) (hbad : eccOf e ≠ .clean) (hmem : inMemory e = true) :
    hbmRead mem k r w e s = when (decide (eccOf e = .uncorrectable)) (markWord (rowAddress k r w / 32))
      (memError mem (if eccOf e = .uncorrectable then 4 else 3) (.hbmRow k r) k r (eccDetail e) s) := by
  unfold hbmRead
  dsimp only
  rw [if_neg hbad, if_neg (by simp [hmem])]

theorem hbmRead_path {e : WordError} (mem k r w : Nat) (hbad : eccOf e ≠ .clean) (hmem : inMemory e = false) :
    hbmRead mem k r w e s = pathError mem (decide (eccOf e = .uncorrectable)) k r (eccDetail e) s := by
  unfold hbmRead
  dsimp only
  rw [if_neg hbad, if_pos (by simp [hmem])]

theorem pathError_health (mem : Nat) (unc : Bool) (resource address : Nat) (detail : Bytes) (s : State) :
    ∃ n a, healthCore (pathError mem unc resource address detail s).health =
      healthCore { s.health with memSince := n, memEventAt := a } := by
  obtain ⟨n, a, h⟩ := memEvent_health mem (if unc then 6 else 5) (record 2 (if unc then 6 else 5) resource address detail s)
  refine ⟨n, a, h.trans ?_⟩
  exact congrArg (fun h : Health => { h with memSince := n, memEventAt := a }) (record_healthCore ..)

theorem badEntry_badTable (tbl i : Nat) (s : State) : badEntry (badTable tbl i s) tbl i = true := by
  unfold badTable
  split
  next h => exact h
  next => simp [badEntry, updHealth]

theorem badTable_ctr (tbl i : Nat) (s : State) : (badTable tbl i s).health.ctr = s.health.ctr := by
  unfold badTable
  split <;> rfl

/-- An uncorrectable word of a table is counted while the queue of tests has room. -/
theorem sramRead_counts {e : WordError} (mem : Nat) (he : eccOf e = .uncorrectable) (hmem : inMemory e = true)
    (hroom : s.health.tests.length < 64) : (sramRead mem e s).health.ctr = bump 1 1 s.health.ctr := by
  unfold sramRead withFree
  dsimp only
  rw [if_neg (by simp [he]), if_pos hmem]
  simp only [he, if_true, memError_eq]
  generalize Config.freeNat s.free = x
  let u : State := { s with free := s.free + 1 }
  obtain ⟨n, a, hn⟩ := memNoted_health (mem := mem) (kind := 2) (i := 1) (x % 2048) (x / 2048 % 256) (eccDetail e) u rfl
  have htests : (memNoted mem 2 (x % 2048) (x / 2048 % 256) (eccDetail e) u).health.tests = s.health.tests :=
    (congrArg Health.tests hn :)
  have hctr : (memNoted mem 2 (x % 2048) (x / 2048 % 256) (eccDetail e) u).health.ctr = bump 1 1 s.health.ctr :=
    (congrArg Health.ctr hn :)
  exact (queueTest_ctr _ (by rw [htests]; exact hroom)).trans hctr

theorem scrubWord_plain {x : ScrubSite} (e : WordError) (h : siteMarked s x = false) : scrubWord s x e = e :=
  if_neg (by simp [h])

theorem scrub_clean {x : ScrubSite} {e : WordError} (hx : siteMarked s x = false) (he : eccOf e = .clean) : scrub x e s = s := by
  rw [scrub_eq, scrubWord_plain e hx, if_neg (by rw [he]; decide)]
  exact siteRead_clean x he

theorem memError_streams (mem kind : Nat) (row : TestRes) (resource address : Nat) (detail : Bytes)
    (h : s.health.tests = []) (hk : ∃ i, errorCounter kind = some i) :
    (memError mem kind row resource address detail s).streams = s.streams := by
  obtain ⟨i, hi⟩ := hk
  obtain ⟨n, a, hn⟩ := memNoted_health (mem := mem) resource address detail s hi
  rw [memError_eq, queueTest_empty row ((congrArg Health.tests hn :).trans h)]
  exact memNoted_streams ..

/-- A corrected word of a row: counted, and the row queued for its test. -/
theorem scrub_corrected {k r w : Nat} {e : WordError} (hx : siteMarked s (.hbm k r w) = false) (he : eccOf e = .corrected)
    (hpath : e.path = false) (htests : s.health.tests = []) :
    (scrub (.hbm k r w) e s).health.ctr = bump 2 1 s.health.ctr ∧
      (scrub (.hbm k r w) e s).health.tests = [{ res := .hbmRow k r }] ∧
      (scrub (.hbm k r w) e s).health.badWords = s.health.badWords ∧
      (scrub (.hbm k r w) e s).streams.store = s.streams.store := by
  have hread : scrub (.hbm k r w) e s = memError 5 3 (.hbmRow k r) k r (eccDetail e) s := by
    rw [scrub_eq, scrubWord_plain e hx, if_neg (by rw [he]; decide)]
    show hbmRead 5 k r w e s = _
    rw [hbmRead_memory 5 k r w (by rw [he]; decide) (by simp [inMemory, hpath]), he]
    rfl
  obtain ⟨n, a, h⟩ := memError_first (mem := 5) (kind := 3) (.hbmRow k r) k r (eccDetail e) rfl htests
  rw [hread, memError_streams 5 3 (.hbmRow k r) k r (eccDetail e) htests ⟨2, rfl⟩]
  exact ⟨(congrArg Health.ctr h :), (congrArg Health.tests h :), (congrArg Health.badWords h :), rfl⟩

/-- An uncorrectable word of a row: counted, the row queued for its test, and the word marked. -/
theorem scrub_uncorrectable {k r w : Nat} {e : WordError} (he : eccOf e = .uncorrectable) (hpath : e.path = false)
    (htests : s.health.tests = []) :
    (scrub (.hbm k r w) e s).health.ctr = bump 3 1 s.health.ctr ∧
      (scrub (.hbm k r w) e s).health.tests = [{ res := .hbmRow k r }] ∧
      rowAddress k r w / 32 ∈ (scrub (.hbm k r w) e s).health.badWords := by
  obtain ⟨hbad, hmem⟩ := scrubWord_uncorrectable (s := s) (.hbm k r w) he hpath
  have hread : scrub (.hbm k r w) e s = markWord (rowAddress k r w / 32)
      (memError 5 4 (.hbmRow k r) k r (eccDetail (scrubWord s (.hbm k r w) e)) s) := by
    rw [scrub_eq, if_pos hbad]
    show hbmRead 5 k r w (scrubWord s (.hbm k r w) e) s = _
    rw [hbmRead_memory 5 k r w (by rw [hbad]; decide) hmem, hbad]
    rfl
  obtain ⟨n, a, h⟩ := memError_first (mem := 5) (kind := 4) (.hbmRow k r) k r
    (eccDetail (scrubWord s (.hbm k r w) e)) rfl htests
  rw [hread]
  exact ⟨(congrArg Health.ctr h :), (congrArg Health.tests h :), mem_badWords_markWord ..⟩

/-- A corrected word that arose on a data path queues no test. -/
theorem scrub_onPath {k r w : Nat} {e : WordError} (hx : siteMarked s (.hbm k r w) = false) (he : eccOf e = .corrected)
    (hpath : e.path = true) (hmark : e.marked = false) :
    (scrub (.hbm k r w) e s).health.ctr = s.health.ctr ∧ (scrub (.hbm k r w) e s).health.tests = s.health.tests := by
  have hread : scrub (.hbm k r w) e s = pathError 5 (decide (eccOf e = .uncorrectable)) k r (eccDetail e) s := by
    rw [scrub_eq, scrubWord_plain e hx, if_neg (by rw [he]; decide)]
    exact hbmRead_path 5 k r w (by rw [he]; decide) (by simp [inMemory, hpath, hmark])
  obtain ⟨n, a, h⟩ := pathError_health 5 (decide (eccOf e = .uncorrectable)) k r (eccDetail e) s
  rw [hread]
  exact ⟨(congrArg Health.ctr h :), (congrArg Health.tests h :)⟩

/-- An uncorrectable word of a table: its entry is lost until it is restored. -/
theorem scrub_table {tbl i : Nat} {e : WordError} (he : eccOf e = .uncorrectable) (hpath : e.path = false) :
    badEntry (scrub (.table tbl i) e s) tbl i = true ∧
      (s.health.tests.length < 64 → (scrub (.table tbl i) e s).health.ctr = bump 1 1 s.health.ctr) := by
  obtain ⟨hbad, hmem⟩ := scrubWord_uncorrectable (s := s) (.table tbl i) he hpath
  have hread : scrub (.table tbl i) e s = badTable tbl i (sramRead 4 (scrubWord s (.table tbl i) e) s) := by
    rw [scrub_eq, if_pos hbad]
    rfl
  rw [hread]
  exact ⟨badEntry_badTable .., fun hroom => (badTable_ctr ..).trans (sramRead_counts 4 hbad hmem hroom)⟩

/-! ### Table entries -/

theorem badEntry_of_badTables {t : State} (h : t.health.badTables = s.health.badTables) (tbl i : Nat) :
    badEntry t tbl i = badEntry s tbl i := by
  rw [badEntry, h, badEntry]

theorem badEntry_entryWritten (tbl i : Nat) (s : State) : badEntry (entryWritten tbl i s) tbl i = false := by
  simp only [badEntry, entryWritten, updHealth, List.any_filter, List.any_eq_false, Bool.and_eq_true, Bool.not_eq_true']
  rintro e - ⟨hout, hin⟩
  exact Bool.false_ne_true (hout.symm.trans (Bool.and_eq_true_iff.2 hin))

theorem restoreEntry_good {tbl i : Nat} (hbad : badEntry s tbl i = true) (hlost : (tbl, i) ∉ s.health.lostTables) :
    badEntry (restoreEntry tbl i false s) tbl i = false ∧ (restoreEntry tbl i false s).health.ctr = bump 14 1 s.health.ctr := by
  have hrestored : restoreEntry tbl i false s = record 2 9 tbl i [] (healthCount 14 1 (entryWritten tbl i s)) :=
    (if_neg (by simp [hbad, hlost])).trans (if_neg (by decide))
  have hcore := record_healthCore 9 tbl i 2 [] (healthCount 14 1 (entryWritten tbl i s))
  rw [hrestored]
  exact ⟨(badEntry_of_badTables (congrArg Health.badTables hcore :) tbl i).trans (badEntry_entryWritten ..),
    (congrArg Health.ctr hcore :)⟩

theorem restoreEntry_lost {tbl i : Nat} (hbad : badEntry s tbl i = true) (hlost : (tbl, i) ∉ s.health.lostTables) :
    badEntry (restoreEntry tbl i true s) tbl i = true ∧ (tbl, i) ∈ (restoreEntry tbl i true s).health.lostTables := by
  have hlose : restoreEntry tbl i true s = raise 0x0146 tbl (leBytes 4 i)
      (updHealth (fun h => { h with lostTables := h.lostTables ++ [(tbl, i)] }) s) :=
    (if_neg (by simp [hbad, hlost])).trans (if_pos rfl)
  have hcore := raise_healthCore 0x0146 tbl (leBytes 4 i) (updHealth (fun h => { h with lostTables := h.lostTables ++ [(tbl, i)] }) s)
  have hin : (tbl, i) ∈ s.health.lostTables ++ [(tbl, i)] := by simp
  rw [hlose]
  exact ⟨(badEntry_of_badTables (congrArg Health.badTables hcore :) tbl i).trans hbad, (congrArg Health.lostTables hcore :).symm ▸ hin⟩

theorem restoreEntry_fine {tbl i : Nat} (b : Bool) (h : badEntry s tbl i = false) : restoreEntry tbl i b s = s :=
  if_pos (by simp [h])

end Sys2Proof.Machine
end

section
/-! PROOFS. The targeted self-tests: their start, their verdicts and what follows from them (R410 to R417). -/

namespace Sys2Proof.Machine

variable {s : State}

/-! ### The queue of tests -/

theorem findTest_of_tests {t : State} (h : t.health.tests = s.health.tests) (r : TestRes) : findTest t r = findTest s r := by
  rw [findTest, h, findTest]

theorem res_of_findTest {r : TestRes} {t : Test} (h : findTest s r = some t) : t.res = r := by
  have hres := List.find?_some h
  exact of_decide_eq_true hres

theorem findTest_dropTest (r : TestRes) (s : State) : findTest (dropTest r s) r = none := by
  refine List.find?_eq_none.2 fun t ht hr => ?_
  have hkept := (List.mem_filter.1 ht).2
  simp_all

/-- A test that changes keeps its place. -/
theorem findTest_updTest {r : TestRes} {t : Test} {f : Test → Test} (hf : ∀ x, (f x).res = x.res) (h : findTest s r = some t) :
    findTest (updTest r f s) r = some (f t) := by
  have hres : ∀ x : Test, (if x.res = r then f x else x).res = x.res := fun x => by
    split
    · exact hf x
    · rfl
  have hfind : findTest (updTest r f s) r = (findTest s r).map (fun x => if x.res = r then f x else x) := by
    simp only [findTest, updTest, updHealth, List.find?_map, Function.comp_def, hres]
  rw [hfind, h]
  exact congrArg some (if_pos (res_of_findTest h))

/-! ### Starting a test (R412, R415) -/

theorem startTest_none {r : TestRes} (h : findTest s r = none) : startTest r s = s := by
  unfold startTest
  rw [h]

/-- A palette leaves service as its test begins. -/
theorem startTest_palette {n : Nat} {t : Test} (h : findTest s (.palette n) = some t) (hstage : t.stage = .queued)
    (hroom : roomToTest s (.palette n) = true) (haw : awake s = true) :
    startTest (.palette n) s = updTest (.palette n) (fun t => { t with stage := .running, began := s.now })
      (updCanvas (fun c => { c with palettes := c.palettes.modify n (fun p => { p with inService := false }) }) s) := by
  unfold startTest
  rw [h]
  exact if_neg (by simp [hstage, hroom, haw])

/-- A row without a free spare is not tested. -/
theorem startTest_skips {r : TestRes} {t : Test} (h : findTest s r = some t) (hstage : t.stage = .queued)
    (hroom : roomToTest s r = true) (haw : awake s = true) (hrow : isRow r = true) (hfull : sparesFree s r = 0) :
    startTest r s = skipTest t s := by
  unfold startTest
  rw [h]
  refine (if_neg (by simp [hstage, hroom, haw])).trans ?_
  cases r with
  | lane p l => cases hrow
  | palette n => cases hrow
  | sramRow b k => exact if_pos hfull
  | hbmRow b k => exact if_pos hfull

theorem startTest_lane {p l : Nat} {t : Test} {src : CmdSrc} (h : findTest s (.lane p l) = some t) (hstage : t.stage = .queued)
    (hroom : roomToTest s (.lane p l) = true) (haw : awake s = true) (hsrc : t.src = some src)
    (hno : laneTestable s p l = false) : startTest (.lane p l) s = finish src stNotReady [] (dropTest (.lane p l) s) := by
  unfold startTest
  rw [h]
  refine (if_neg (by simp [hstage, hroom, haw])).trans ((if_neg (by simp [hno])).trans ?_)
  rw [hsrc]

/-! ### The answer of a test (R417) -/

theorem answerTest_none {t : Test} (v e d : Nat) (h : t.src = none) : answerTest t v e d s = s := by
  unfold answerTest
  rw [h]

theorem answerTest_some {t : Test} {src : CmdSrc} (v e d : Nat) (h : t.src = some src) :
    answerTest t v e d s = finish src stOk (testResult v e d) s := by
  unfold answerTest
  rw [h]

theorem finish_health (src : CmdSrc) (st : W16) (b : Bytes) (s : State) :
    healthCore (finish src st b s).health = healthCore s.health :=
  health_of_outside (fp := { switch := true, host := true }) (by simp) rfl

theorem answerTest_health (t : Test) (v e d : Nat) (s : State) : healthCore (answerTest t v e d s).health = healthCore s.health := by
  unfold answerTest
  split
  · rfl
  · exact finish_health ..

/-- The result of a test: verdict, failures and duration. -/
theorem testResult_fields (v e d : Nat) : (testResult v e d).length = 8 ∧ leAt (testResult v e d) 0 1 = v % 256 ∧
    leAt (testResult v e d) 1 1 = 0 ∧ leAt (testResult v e d) 2 2 = min e 65535 ∧ leAt (testResult v e d) 4 4 = d % 2 ^ 32 := by
  refine ⟨by simp [testResult], by simp [testResult, leAt, leVal], by simp [testResult, leAt, leVal], ?_, ?_⟩
  · rw [testResult, List.append_assoc]
    exact (leAt_append_leBytes_append (pre := [BitVec.ofNat 8 v, 0]) rfl 2 _ _).trans (Nat.mod_eq_of_lt (by omega))
  · rw [testResult, leAt_append_leBytes (by simp)]
    norm_num

/-! ### Retirement (R416) -/

/-- A resource enters the list of those retired, noted and told. -/
def retireNoted (r : TestRes) (s : State) : State :=
  raise 0x0142 (testKind r) (testData r) (record 4 0x0142 (testResource r) (testSub r) []
    (updHealth (fun h => { h with retiredNow := if h.retiredNow.contains r then h.retiredNow else h.retiredNow ++ [r] }) s))

theorem retireNoted_health (r : TestRes) (s : State) : healthCore (retireNoted r s).health = healthCore { s.health with
    retiredNow := if s.health.retiredNow.contains r then s.health.retiredNow else s.health.retiredNow ++ [r] } :=
  (raise_healthCore ..).trans (record_healthCore ..)

/-- The lane leaves the usable set. -/
def laneRetired (p l : Nat) (s : State) : State :=
  updLane p l (fun a => { a with retired := true }) (healthCount 10 1 (retireNoted (.lane p l) s))

theorem retire_lane (p l : Nat) (s : State) : retire (.lane p l) s =
    when (inSet (portOf (laneRetired p l s) p).laneSet l) (retest p caSelftest) (laneRetired p l s) := rfl

/-- A row or a palette enters the list in flash. -/
def listInFlash (r : TestRes) (s : State) : State :=
  if s.flash.retired.any (fun e => e.res = r) then s
  else if s.flash.retired.length ≥ 4096 then raise 0x0143 0xFFFF (leBytes 4 0) s
  else updFlash (fun f => { f with retired := f.retired ++ [{ res := r }] }) s

theorem retire_palette (n : Nat) (s : State) : retire (.palette n) s = listInFlash (.palette n)
    (updCanvas (fun c => { c with palettes := c.palettes.modify n (fun p => { p with inService := false }) })
      (retireNoted (.palette n) s)) := rfl

theorem retire_row {r : TestRes} (s : State) (h : isRow r = true) : retire r s =
    listInFlash r (healthCount (if testKind r = 2 then 11 else 12) 1 (retireNoted r s)) := by
  cases r with
  | lane p l => cases h
  | palette n => cases h
  | sramRow b k => rfl
  | hbmRow b k => rfl

theorem listInFlash_health (r : TestRes) (s : State) : healthCore (listInFlash r s).health = healthCore s.health := by
  unfold listInFlash
  split
  · rfl
  · split
    · exact raise_healthCore ..
    · rfl

theorem listInFlash_canvas (r : TestRes) (s : State) : (listInFlash r s).canvas = s.canvas := by
  unfold listInFlash
  split
  · rfl
  · split
    · exact raise_canvas ..
    · rfl

theorem retest_health (p : Nat) (cause : W16) (s : State) : healthCore (retest p cause s).health = healthCore s.health :=
  health_of_outside (fp := { ports := true, switch := true, host := true }) (by simp) rfl

/-- Whatever is retired is listed and counted, and no test changes. -/
theorem retire_health (r : TestRes) (s : State) : ∃ c, healthCore (retire r s).health = healthCore { s.health with
    retiredNow := if s.health.retiredNow.contains r then s.health.retiredNow else s.health.retiredNow ++ [r], ctr := c } := by
  have hcount : ∀ i, ∃ c, healthCore (healthCount i 1 (retireNoted r s)).health = healthCore { s.health with
      retiredNow := if s.health.retiredNow.contains r then s.health.retiredNow else s.health.retiredNow ++ [r], ctr := c } :=
    fun i => ⟨_, congrArg (fun h : Health => { h with ctr := bump i 1 (retireNoted r s).health.ctr }) (retireNoted_health r s)⟩
  have hrow : isRow r = true → ∃ c, healthCore (retire r s).health = healthCore { s.health with
      retiredNow := if s.health.retiredNow.contains r then s.health.retiredNow else s.health.retiredNow ++ [r], ctr := c } :=
    fun h => by
      obtain ⟨c, hc⟩ := hcount (if testKind r = 2 then 11 else 12)
      exact ⟨c, by rw [retire_row s h, listInFlash_health, hc]⟩
  cases r with
  | lane p l =>
    obtain ⟨c, hc⟩ := hcount 10
    refine ⟨c, ?_⟩
    rw [retire_lane]
    unfold when
    split
    · rw [retest_health]
      exact hc
    · exact hc
  | palette n => exact ⟨s.health.ctr, by rw [retire_palette, listInFlash_health]; exact retireNoted_health (.palette n) s⟩
  | sramRow b k => exact hrow rfl
  | hbmRow b k => exact hrow rfl

theorem mem_retiredNow_retire (r : TestRes) (s : State) : r ∈ (retire r s).health.retiredNow := by
  obtain ⟨c, hc⟩ := retire_health r s
  have hnow : (retire r s).health.retiredNow =
    if s.health.retiredNow.contains r then s.health.retiredNow else s.health.retiredNow ++ [r] := congrArg Health.retiredNow hc
  rw [hnow]
  split
  next h => exact List.contains_iff_mem.1 h
  next => simp

theorem retire_tests (r : TestRes) (s : State) : (retire r s).health.tests = s.health.tests := by
  obtain ⟨c, hc⟩ := retire_health r s
  exact (congrArg Health.tests hc :)

theorem retire_retiresLane {p l : Nat} (hp : p < s.ports.length) (hl : l < (portOf s p).lanes.length) :
    (laneOf (retire (.lane p l) s) p l).retired = true := by
  have hports : (healthCount 10 1 (retireNoted (.lane p l) s)).ports = s.ports := (raise_ports ..).trans (record_ports ..)
  have hretired : (laneOf (laneRetired p l s) p l).retired = true := by
    have hl' : l < s.ports[p].lanes.length := by simpa [portOf, hp] using hl
    simp [laneOf, portOf, laneRetired, updLane, updPort, hports, hp, hl']
  rw [retire_lane]
  unfold when
  split
  · rw [retired_laneOf_retest, hretired]
  · exact hretired

theorem retire_palette_service {n : Nat} (hn : n < s.canvas.palettes.length) :
    (nth (retire (.palette n) s).canvas.palettes n).inService = false := by
  have hcanvas : (retireNoted (.palette n) s).canvas = s.canvas := (raise_canvas ..).trans (record_canvas ..)
  rw [retire_palette, listInFlash_canvas]
  simp [updCanvas, hcanvas, nth, hn]

theorem retire_row_flash {r : TestRes} (h : isRow r = true) (hflash : s.flash.retired = []) :
    (retire r s).flash.retired = [{ res := r }] := by
  have hkeeps : (healthCount (if testKind r = 2 then 11 else 12) 1 (retireNoted r s)).flash = s.flash :=
    (raise_flash ..).trans (record_flash ..)
  rw [retire_row s h, listInFlash, hkeeps, hflash, if_neg (by simp), if_neg (by simp)]
  show (healthCount _ 1 (retireNoted r s)).flash.retired ++ [_] = _
  rw [hkeeps, hflash]
  rfl

/-! ### Verdicts (R414) -/

/-- A verdict is noted: the test is over, counted, recorded and told. -/
def verdictNoted (t : Test) (pass : Bool) (s : State) : State :=
  raise 0x0141 (testKind t.res) (testData t.res ++ [BitVec.ofNat 8 (boolNat !pass)])
    (record 3 0x0141 (testResource t.res) (testSub t.res) [BitVec.ofNat 8 (boolNat !pass)] (dropTest t.res (healthCount 5 1 s)))

/-- What follows from a verdict. -/
def verdictActs (t : Test) (pass : Bool) (s : State) : State :=
  if pass then transientVerdict t.res t.commanded (verdictNoted t pass s)
  else retire t.res (healthCount 7 1 (verdictNoted t pass s))

theorem giveVerdict_eq (t : Test) (pass : Bool) (e d : Nat) (s : State) :
    giveVerdict t pass e d s = answerTest t (boolNat !pass) e d (verdictActs t pass s) := rfl

theorem verdictNoted_health (t : Test) (pass : Bool) (s : State) : healthCore (verdictNoted t pass s).health =
    healthCore { s.health with ctr := bump 5 1 s.health.ctr, tests := s.health.tests.filter (fun x => !(x.res = t.res)) } :=
  (raise_healthCore ..).trans (record_healthCore ..)

theorem verdictNoted_ports (t : Test) (pass : Bool) (s : State) : (verdictNoted t pass s).ports = s.ports :=
  (raise_ports ..).trans (record_ports ..)
theorem verdictNoted_canvas (t : Test) (pass : Bool) (s : State) : (verdictNoted t pass s).canvas = s.canvas :=
  (raise_canvas ..).trans (record_canvas ..)
theorem verdictNoted_flash (t : Test) (pass : Bool) (s : State) : (verdictNoted t pass s).flash = s.flash :=
  (raise_flash ..).trans (record_flash ..)
theorem verdictNoted_now (t : Test) (pass : Bool) (s : State) : (verdictNoted t pass s).now = s.now :=
  (raise_now ..).trans (record_now ..)

theorem findTest_of_filtered {u : State} {r : TestRes}
    (h : u.health.tests = s.health.tests.filter (fun x => !(x.res = r))) : findTest u r = none :=
  (findTest_of_tests (s := dropTest r s) h r).trans (findTest_dropTest r s)

theorem transientVerdict_commanded (r : TestRes) : transientVerdict r true s = s := if_pos rfl

/-- A first transient verdict is kept with its time. -/
theorem transientVerdict_first (r : TestRes) (h : s.health.transients = []) : transientVerdict r false s =
    healthCount 6 1 (updHealth (fun h => { h with transients := [(r, s.now)] }) s) := by
  have hnoted : updHealth (fun h => { h with
      transients := h.transients.filter (fun e => decide (s.now < e.2 + 86400000000000)) ++ [(r, s.now)] }) s =
      updHealth (fun h => { h with transients := [(r, s.now)] }) s := by
    simp only [updHealth, h, List.filter_nil, List.nil_append]
  unfold transientVerdict
  rw [if_neg (by decide)]
  dsimp only
  rw [hnoted]
  refine if_neg (Nat.not_le.2 (Nat.lt_of_le_of_lt (List.length_filter_le ..) ?_))
  show [(r, s.now)].length < 4
  simp

/-- A test that passes on command: its verdict is noted, and nothing else changes. -/
theorem verdictActs_commanded {t : Test} (h : t.commanded = true) : verdictActs t true s = verdictNoted t true s := by
  rw [verdictActs, if_pos rfl, h, transientVerdict_commanded]

/-- A test of the device's own that passes is the first transient verdict. -/
theorem verdictActs_first {t : Test} (h : t.commanded = false) (htrans : s.health.transients = []) :
    findTest (verdictActs t true s) t.res = none ∧ (verdictActs t true s).health.transients = [(t.res, s.now)] ∧
      (verdictActs t true s).ports = s.ports ∧ (verdictActs t true s).canvas = s.canvas := by
  have hnoted := verdictNoted_health t true s
  have hfirst := transientVerdict_first (s := verdictNoted t true s) t.res ((congrArg Health.transients hnoted :).trans htrans)
  rw [verdictActs, if_pos rfl, h, hfirst]
  refine ⟨findTest_of_filtered (s := s) (congrArg Health.tests hnoted :), ?_, verdictNoted_ports .., verdictNoted_canvas ..⟩
  show [(t.res, (verdictNoted t true s).now)] = _
  rw [verdictNoted_now]

/-- A test that passes on command is over, and adds no transient verdict. -/
theorem verdictActs_commanded_keeps {t : Test} (h : t.commanded = true) :
    findTest (verdictActs t true s) t.res = none ∧ (verdictActs t true s).health.transients = s.health.transients ∧
      (verdictActs t true s).health.retiredNow = s.health.retiredNow ∧ (verdictActs t true s).ports = s.ports ∧
      (verdictActs t true s).canvas = s.canvas := by
  have hnoted := verdictNoted_health t true s
  rw [verdictActs_commanded h]
  exact ⟨findTest_of_filtered (s := s) (congrArg Health.tests hnoted :), (congrArg Health.transients hnoted :),
    (congrArg Health.retiredNow hnoted :), verdictNoted_ports .., verdictNoted_canvas ..⟩

/-- A test that fails is over, and its resource is retired. -/
theorem verdictActs_fails (t : Test) (s : State) :
    verdictActs t false s = retire t.res (healthCount 7 1 (verdictNoted t false s)) ∧
      findTest (verdictActs t false s) t.res = none ∧ t.res ∈ (verdictActs t false s).health.retiredNow := by
  have hfails : verdictActs t false s = retire t.res (healthCount 7 1 (verdictNoted t false s)) := if_neg (by decide)
  refine ⟨hfails, ?_, ?_⟩ <;> rw [hfails]
  · refine findTest_of_filtered (s := s) ((retire_tests ..).trans ?_)
    exact (congrArg Health.tests (verdictNoted_health t false s) :)
  · exact mem_retiredNow_retire ..

/-! ### The ends of tests (R411 to R413) -/

theorem rowCopied_eq {r : TestRes} {t : Test} (hrow : isRow r = true) (h : findTest s r = some t) (hstage : t.stage = .running) :
    rowCopied r s = updHealth (fun h => { h with remapped := h.remapped ++ [r] })
      (updTest r (fun t => { t with stage := .copied }) s) := by
  unfold rowCopied
  rw [h]
  exact if_neg (by simp [hstage, hrow])

theorem rowTested_eq {r : TestRes} {t : Test} (k : Nat) (d : W32) (h : findTest s r = some t) (hstage : t.stage = .copied) :
    rowTested r k d s = when (decide (k = 0) && !((giveVerdict t (decide (k = 0)) k d.toNat s).health.retiredNow.contains r &&
      !s.health.retiredNow.contains r)) (freeSpare r) (giveVerdict t (decide (k = 0)) k d.toNat s) := by
  unfold rowTested
  rw [h]
  exact if_neg (by simp [hstage])

/-- A palette whose golden vectors pass is back in service. -/
def backInService (n : Nat) (s : State) : State :=
  updCanvas (fun c => { c with palettes := c.palettes.modify n (fun p => { p with inService := true }) }) s

theorem paletteTested_eq {n : Nat} {t : Test} (crc : W32) (k : Nat) (d : W32) (h : findTest s (.palette n) = some t)
    (hstage : t.stage = .running) : paletteTested n crc k d s =
      giveVerdict t (decide (crc = Config.goldenCrc)) k d.toNat (when (crc = Config.goldenCrc) (backInService n) s) := by
  unfold paletteTested
  rw [h]
  exact if_neg (by simp [hstage])

theorem backInService_service {n : Nat} (hn : n < s.canvas.palettes.length) :
    (nth (backInService n s).canvas.palettes n).inService = true := by
  simp [backInService, updCanvas, nth, hn]

theorem laneTested_none {p l : Nat} (h : findTest s (.lane p l) = none) : laneTested p l s = s := by
  unfold laneTested
  rw [h]

theorem laneTested_retrained {p l : Nat} {t : Test} (h : findTest s (.lane p l) = some t) (hstage : t.stage = .running)
    (hstate : (portOf s p).state = .running) (hleft : (portOf s p).leftRunning ≠ t.left) :
    laneTested p l s = giveVerdict t (laneOf s p l).rxPass (laneOf s p l).testErrors ((s.now - t.began) / 1000) s := by
  unfold laneTested
  rw [h]
  exact (if_neg (by simp [hstage])).trans ((if_pos (by simp [hleft])).trans (if_pos hstate))

theorem laneTested_observed {p l : Nat} {t : Test} (h : findTest s (.lane p l) = some t) (hstage : t.stage = .running)
    (hstate : (portOf s p).state = .running) (hleft : (portOf s p).leftRunning = t.left) : laneTested p l s =
      if t.bits ≥ 2097152 then giveVerdict t (spareTestPasses s p l t) t.flips ((s.now - t.began) / 1000) s
      else if t.began + 1000000 ≤ s.now then retest p caSelftest s else s := by
  unfold laneTested
  rw [h]
  exact (if_neg (by simp [hstage])).trans (if_neg (by simp [hstate, hleft]))

theorem spareTestPasses_iff (p l : Nat) (t : Test) : spareTestPasses s p l t = true ↔
    t.flips ≤ 20 ∧ s.policy.fomWarn ≤ (laneOf s p l).fom.toNat := by
  simp [spareTestPasses]

theorem exec_laneTestComplete {p l : Nat} (hp : p < 96) (hl : l < 8) :
    exec (.laneTestComplete p l) s = .next (laneTested p l s) :=
  onUnit_ok (by simp [portOk, laneOk, hp, hl]) ..

/-- A verdict that answers a command: finished with the verdict, the failures and the duration. -/
theorem giveVerdict_answers {t : Test} {src : CmdSrc} (pass : Bool) (e d : Nat) (h : t.src = some src) :
    giveVerdict t pass e d s = finish src stOk (testResult (if pass then 0 else 1) e d) (verdictActs t pass s) := by
  rw [giveVerdict_eq, answerTest_some _ _ _ h]
  cases pass <;> rfl

theorem giveVerdict_quiet {t : Test} (pass : Bool) (e d : Nat) (h : t.src = none) :
    giveVerdict t pass e d s = verdictActs t pass s := by
  rw [giveVerdict_eq, answerTest_none _ _ _ h]

/-- The commanded test of a lane: its answer, and what its verdict leaves. -/
theorem verdict_commanded {t : Test} (pass : Bool) (h : t.commanded = true) : findTest (verdictActs t pass s) t.res = none ∧
    (pass = true → (verdictActs t pass s).health.transients = s.health.transients ∧ (verdictActs t pass s).ports = s.ports) ∧
    (pass = false → t.res ∈ (verdictActs t pass s).health.retiredNow) := by
  cases pass
  · obtain ⟨-, hfind, hmem⟩ := verdictActs_fails t s
    exact ⟨hfind, fun h => absurd h (by decide), fun _ => hmem⟩
  · obtain ⟨hfind, htrans, -, hports, -⟩ := verdictActs_commanded_keeps (s := s) h
    exact ⟨hfind, fun _ => ⟨htrans, hports⟩, fun h => absurd h (by decide)⟩

end Sys2Proof.Machine
end

section
/-! PROOFS. The patrol scrubber and the targeted self-tests settle O60 (R406 to R417). -/

namespace Sys2Proof.Machine

variable {s : State}

/-- A palette under test is out of service, and its test runs. -/
theorem startTest_palette_runs {n : Nat} {t : Test} (hn : n < s.canvas.palettes.length) (h : findTest s (.palette n) = some t)
    (hstage : t.stage = .queued) (hroom : roomToTest s (.palette n) = true) (haw : awake s = true) :
    (nth (startTest (.palette n) s).canvas.palettes n).inService = false ∧
      findTest (startTest (.palette n) s) (.palette n) = some { t with stage := .running, began := s.now } := by
  rw [startTest_palette h hstage hroom haw]
  refine ⟨?_, findTest_updTest (f := fun t => { t with stage := .running, began := s.now }) (fun _ => rfl) h⟩
  simp [updTest, updHealth, updCanvas, nth, hn]

/-- A row whose test fails is retired, and enters the list in flash. -/
theorem rowTested_fails {r : TestRes} {t : Test} (d : W32) (hrow : isRow r = true) (h : findTest s r = some t)
    (hstage : t.stage = .copied) (hsrc : t.src = none) (hflash : s.flash.retired = []) :
    findTest (rowTested r 1 d s) r = none ∧ r ∈ (rowTested r 1 d s).health.retiredNow ∧
      (rowTested r 1 d s).flash.retired = [{ res := r }] := by
  obtain ⟨hfails, hfind, hmem⟩ := verdictActs_fails t s
  have hres := res_of_findTest h
  have htested : rowTested r 1 d s = verdictActs t false s :=
    (rowTested_eq 1 d h hstage).trans (giveVerdict_quiet false 1 d.toNat hsrc)
  rw [hres] at hfind hmem hfails
  rw [htested]
  refine ⟨hfind, hmem, ?_⟩
  rw [hfails]
  exact retire_row_flash hrow ((congrArg Flash.retired (verdictNoted_flash t false s)).trans hflash)

/-- A row test that a command asked for: where it passes its spare is free again. -/
theorem rowTested_answers {r : TestRes} {t : Test} {src : CmdSrc} (k : Nat) (d : W32) (h : findTest s r = some t)
    (hstage : t.stage = .copied) (hsrc : t.src = some src) (hcom : t.commanded = true) :
    ∃ w, rowTested r k d s = (if k = 0 then freeSpare r (finish src stOk (testResult 0 k d.toNat) w)
        else finish src stOk (testResult 1 k d.toNat) w) ∧ findTest w r = none ∧
      (k = 0 → w.health.transients = s.health.transients ∧ w.health.retiredNow = s.health.retiredNow) ∧
      (k ≠ 0 → r ∈ w.health.retiredNow) := by
  have hres := res_of_findTest h
  have htested := rowTested_eq k d h hstage
  by_cases hk : k = 0
  · obtain ⟨hfind, htrans, hretired, -, -⟩ := verdictActs_commanded_keeps (s := s) hcom
    refine ⟨verdictActs t true s, ?_, hres ▸ hfind, fun _ => ⟨htrans, hretired⟩, fun h => absurd hk h⟩
    rw [htested, decide_eq_true hk, if_pos hk, giveVerdict_answers true k d.toNat hsrc, if_pos rfl]
    refine when_of ?_ _ _
    have hkept : (finish src stOk (testResult 0 k d.toNat) (verdictActs t true s)).health.retiredNow = s.health.retiredNow :=
      (congrArg Health.retiredNow (finish_health ..) :).trans hretired
    rw [hkept]
    simp
  · obtain ⟨-, hfind, hmem⟩ := verdictActs_fails t s
    refine ⟨verdictActs t false s, ?_, hres ▸ hfind, fun h => absurd h hk, fun _ => hres ▸ hmem⟩
    rw [htested, decide_eq_false hk, if_neg hk, giveVerdict_answers false k d.toNat hsrc]
    rfl

/-- A palette test that a command asked for. -/
theorem paletteTested_answers {n k : Nat} {crc d : W32} {t : Test} {src : CmdSrc} (hn : n < s.canvas.palettes.length)
    (h : findTest s (.palette n) = some t) (hstage : t.stage = .running) (hsrc : t.src = some src)
    (hcom : t.commanded = true) :
    ∃ w, paletteTested n crc k d s =
        finish src stOk (testResult (if crc = Config.goldenCrc then 0 else 1) k d.toNat) w ∧
      findTest w (.palette n) = none ∧
      (crc = Config.goldenCrc → (nth w.canvas.palettes n).inService = true ∧ w.health.transients = s.health.transients) ∧
      (¬ crc = Config.goldenCrc → (nth w.canvas.palettes n).inService = false ∧ .palette n ∈ w.health.retiredNow) := by
  have hres := res_of_findTest h
  have htested := paletteTested_eq crc k d h hstage
  by_cases hgood : crc = Config.goldenCrc
  · obtain ⟨hfind, htrans, -, -, hcanvas⟩ := verdictActs_commanded_keeps (s := backInService n s) hcom
    refine ⟨verdictActs t true (backInService n s), ?_, hres ▸ hfind, fun _ => ⟨?_, htrans⟩, fun h => absurd hgood h⟩
    · rw [htested, giveVerdict_answers _ k d.toNat hsrc, when_of (decide_eq_true hgood), decide_eq_true hgood, if_pos hgood,
        if_pos rfl]
    · rw [hcanvas]
      exact backInService_service hn
  · obtain ⟨hfails, hfind, hmem⟩ := verdictActs_fails t s
    refine ⟨verdictActs t false s, ?_, hres ▸ hfind, fun h => absurd h hgood, fun _ => ⟨?_, hres ▸ hmem⟩⟩
    · rw [htested, giveVerdict_answers _ k d.toNat hsrc, if_neg hgood, decide_eq_false hgood]
      rfl
    · rw [hfails, hres]
      have hcanvas : (healthCount 7 1 (verdictNoted t false s)).canvas = s.canvas := verdictNoted_canvas ..
      exact retire_palette_service (by rw [hcanvas]; exact hn)

/-- A lane test that a command asked for, by the bits that it saw or by a retrain. -/
theorem laneTested_answers {p l : Nat} {t : Test} {src : CmdSrc} (h : findTest s (.lane p l) = some t)
    (hstage : t.stage = .running) (hsrc : t.src = some src) (hstate : (portOf s p).state = .running)
    (hover : (portOf s p).leftRunning ≠ t.left ∨ 2097152 ≤ t.bits) : ∃ pass : Bool,
    (pass = true ↔ if (portOf s p).leftRunning ≠ t.left then (laneOf s p l).rxPass = true
      else t.flips ≤ 20 ∧ s.policy.fomWarn ≤ (laneOf s p l).fom.toNat) ∧
    laneTested p l s = finish src stOk (testResult (if pass then 0 else 1)
      (if (portOf s p).leftRunning ≠ t.left then (laneOf s p l).testErrors else t.flips) ((s.now - t.began) / 1000))
      (verdictActs t pass s) := by
  by_cases hleft : (portOf s p).leftRunning ≠ t.left
  · refine ⟨(laneOf s p l).rxPass, by rw [if_pos hleft], ?_⟩
    rw [laneTested_retrained h hstage hstate hleft, giveVerdict_answers _ _ _ hsrc, if_pos hleft]
  · refine ⟨spareTestPasses s p l t, by rw [if_neg hleft]; exact spareTestPasses_iff p l t, ?_⟩
    rw [laneTested_observed h hstage hstate (not_not.1 hleft), if_pos (hover.resolve_left hleft), giveVerdict_answers _ _ _ hsrc,
      if_neg hleft]

/-- A test that is skipped for want of a spare answers its command that it did not run. -/
theorem skipTest_answers {t : Test} {src : CmdSrc} (hsrc : t.src = some src) :
    ∃ w, skipTest t s = finish src stOk (testResult 2 0 0) w ∧ findTest w t.res = none ∧
      w.health.retiredNow = s.health.retiredNow := by
  have hcore := raise_healthCore 0x0143 (testResource t.res) (leBytes 4 0) (healthCount 8 1 (dropTest t.res s))
  exact ⟨_, answerTest_some 2 0 0 hsrc, findTest_of_filtered (s := s) (congrArg Health.tests hcore :),
    (congrArg Health.retiredNow hcore :)⟩

/-- Settles O60: a scrub by what its word decodes to, a test by its start and by the verdict that ends it. -/
theorem scrubbingAndSelfTests : Obligations.ScrubbingAndSelfTests := by
  unfold Obligations.ScrubbingAndSelfTests
  refine ⟨fun s x e hx hmark he => ?_, fun s x e hx hmark => ?_, fun s k r w e hx hmark he hpath htests => ?_,
    fun s k r w e hx he hpath htests => ?_, fun s k r w e hx hmark he hpath hm => ?_, fun s tbl i e hx he hpath => ?_,
    fun p d hp hd => eccOf_single hp hd, fun p q c d hpq hq hc hd => eccOf_pair hpq hq hc hd,
    fun s tbl i hbad hlost => ⟨_, rfl, restoreEntry_good hbad hlost⟩,
    fun s tbl i hbad hlost => ⟨_, rfl, restoreEntry_lost hbad hlost⟩,
    fun s tbl i b h => congrArg Host.Outcome.next (restoreEntry_fine b h), fun s n t hn hlen h hstage hroom haw => ?_,
    fun s r hr h => ?_, fun s r t hr hrow h hstage => ?_, fun s r t d hr hrow h hstage hsrc hflash hnow => ?_,
    fun s n t d hn hlen h hstage hsrc hcom htrans => ?_, fun s p l t hp hl h hstage hsrc hstate hleft hbits => ⟨?_, ?_⟩,
    fun s p l t hp hl h hstage hstate hleft hbits => ⟨?_, ?_⟩,
    fun s p l t hp hl h hstage hsrc hstate hleft hpass hcom htrans => ?_, fun s p l hp hl h => ?_, testResult_fields,
    fun s n k crc d t src hn hlen h hstage hsrc hcom => ?_, fun s r k d t src hr hrow h hstage hsrc hcom => ?_,
    fun s p l t src hp hl h hstage hsrc hcom hstate hover => ?_, fun s r => rfl, fun s t e d hcom => ?_,
    fun s r t src hr h hstage hsrc hroom haw => ⟨fun hrow hfull => ?_, fun p l hlane hno => ?_⟩⟩
  · exact (exec_patrolScrub e hx).trans (congrArg Host.Outcome.next (scrub_clean hmark he))
  · rw [exec_patrolScrub e hx, exec_patrolScrub _ hx, scrub_eq, scrub_eq, scrubWord, scrubWord, if_pos hmark, if_pos hmark]
  · exact ⟨_, exec_patrolScrub e hx, scrub_corrected hmark he hpath htests⟩
  · exact ⟨_, exec_patrolScrub e hx, scrub_uncorrectable he hpath htests⟩
  · exact ⟨_, exec_patrolScrub e hx, scrub_onPath hmark he hpath hm⟩
  · exact ⟨_, exec_patrolScrub e hx, scrub_table he hpath⟩
  · exact ⟨_, onUnit_ok (decide_eq_true hn) .., startTest_palette_runs (by omega) h hstage hroom haw⟩
  · exact (onUnit_ok hr ..).trans (congrArg Host.Outcome.next (startTest_none h))
  · refine ⟨_, (onUnit_ok hr ..).trans (congrArg Host.Outcome.next (rowCopied_eq hrow h hstage)), ?_, ?_⟩
    · exact List.mem_append_right _ (List.mem_singleton_self r)
    · exact findTest_updTest (f := fun t => { t with stage := .copied }) (fun _ => rfl) h
  · exact ⟨_, onUnit_ok hr .., rowTested_fails d hrow h hstage hsrc hflash⟩
  · obtain ⟨hfind, htr, -, hcanvas⟩ := verdictActs_first (s := backInService n s) hcom htrans
    have hres := res_of_findTest h
    have htested : paletteTested n Config.goldenCrc 0 d s = verdictActs t true (backInService n s) := by
      rw [paletteTested_eq Config.goldenCrc 0 d h hstage, giveVerdict_quiet _ _ _ hsrc, when_of (by simp)]
      simp
    refine ⟨_, (onUnit_ok (decide_eq_true hn) ..).trans (congrArg Host.Outcome.next htested), hres ▸ hfind, ?_, hres ▸ htr⟩
    rw [hcanvas]
    exact backInService_service (by omega)
  · intro hflips hfom hcom htrans
    obtain ⟨hfind, htr, hports, -⟩ := verdictActs_first (s := s) hcom htrans
    have hres := res_of_findTest h
    have htested : laneTested p l s = verdictActs t true s := by
      rw [laneTested_observed h hstage hstate hleft, if_pos hbits, giveVerdict_quiet _ _ _ hsrc,
        (spareTestPasses_iff p l t).2 ⟨hflips, hfom⟩]
    exact ⟨_, (exec_laneTestComplete hp hl).trans (congrArg Host.Outcome.next htested), hres ▸ hfind, hres ▸ htr, hports⟩
  · intro hbad hplen hllen
    obtain ⟨hfails, hfind, -⟩ := verdictActs_fails t s
    have hres := res_of_findTest h
    have hpass : spareTestPasses s p l t = false := by
      rw [← Bool.not_eq_true, spareTestPasses_iff]
      omega
    have htested : laneTested p l s = verdictActs t false s := by
      rw [laneTested_observed h hstage hstate hleft, if_pos hbits, giveVerdict_quiet _ _ _ hsrc, hpass]
    have hports : (healthCount 7 1 (verdictNoted t false s)).ports = s.ports := verdictNoted_ports ..
    refine ⟨_, (exec_laneTestComplete hp hl).trans (congrArg Host.Outcome.next htested), hres ▸ hfind, ?_⟩
    rw [hfails, hres]
    exact retire_retiresLane (by rw [hports]; omega) (by rw [portOf, hports, ← portOf]; omega)
  · intro hlate
    refine (exec_laneTestComplete hp hl).trans (congrArg Host.Outcome.next ?_)
    rw [laneTested_observed h hstage hstate hleft, if_neg (by omega), if_pos hlate]
  · intro hearly
    refine (exec_laneTestComplete hp hl).trans (congrArg Host.Outcome.next ?_)
    rw [laneTested_observed h hstage hstate hleft, if_neg (by omega), if_neg (by omega)]
  · obtain ⟨hfind, htr, -, -⟩ := verdictActs_first (s := s) hcom htrans
    have hres := res_of_findTest h
    have htested : laneTested p l s = verdictActs t true s := by
      rw [laneTested_retrained h hstage hstate hleft, giveVerdict_quiet _ _ _ hsrc, hpass]
    exact ⟨_, (exec_laneTestComplete hp hl).trans (congrArg Host.Outcome.next htested), hres ▸ hfind, hres ▸ htr⟩
  · exact (exec_laneTestComplete hp hl).trans (congrArg Host.Outcome.next (laneTested_none h))
  · obtain ⟨w, hw, hrest⟩ := paletteTested_answers (crc := crc) (k := k) (d := d) (by omega) h hstage hsrc hcom
    exact ⟨w, (onUnit_ok (decide_eq_true hn) ..).trans (congrArg Host.Outcome.next hw), hrest⟩
  · obtain ⟨w, hw, hrest⟩ := rowTested_answers k d h hstage hsrc hcom
    exact ⟨w, (onUnit_ok hr ..).trans (congrArg Host.Outcome.next hw), hrest⟩
  · intro retrained good
    obtain ⟨pass, hpass, htested⟩ := laneTested_answers h hstage hsrc hstate hover
    obtain ⟨hfind, hkeeps, hmem⟩ := verdict_commanded (s := s) pass hcom
    have hres := res_of_findTest h
    have hgood : good ↔ pass = true := hpass.symm
    refine ⟨verdictActs t pass s, (exec_laneTestComplete hp hl).trans (congrArg Host.Outcome.next ?_), hres ▸ hfind,
      fun hg => hkeeps (hgood.1 hg), fun hg => hres ▸ hmem (Bool.eq_false_iff.2 fun hp => hg (hgood.2 hp))⟩
    rw [htested]
    simp only [hgood]
    rfl
  · obtain ⟨-, htrans, -⟩ := verdictActs_commanded_keeps (s := s) hcom
    exact (congrArg Health.transients (answerTest_health t _ e d (verdictActs t true s)) :).trans htrans
  · obtain ⟨w, hw, hrest⟩ := skipTest_answers (s := s) hsrc
    have hskips := (startTest_skips h hstage hroom haw hrow hfull).trans hw
    exact ⟨w, (onUnit_ok hr ..).trans (congrArg Host.Outcome.next hskips), res_of_findTest h ▸ hrest⟩
  · subst hlane
    exact (onUnit_ok hr ..).trans (congrArg Host.Outcome.next (startTest_lane h hstage hroom haw hsrc hno))

end Sys2Proof.Machine
end
